-- ==== Sys2Proof/Word.lean ====
section
/-! DEFINITION. The words of the register bus and the bytes of a frame. -/

namespace Sys2Proof

/-- A 32-bit register word (16 R431). -/
abbrev Word := BitVec 32

/-- A byte of a frame, an image or a message. -/
abbrev Byte := BitVec 8

end Sys2Proof
end

