-- ==== Sys2Proof/Config.lean ====
section
/-! DEFINITION. What one part or its factory fixes, and the values the spec leaves open. A constant here has no body:
nothing in Lean can evaluate it, and a claim holds whatever it is (log entries 3 and 5).

Choices (log entries): 3 DESIGN CHOICE, 5 DESIGN CHOICE, 30 DESIGN CHOICE, 32 DEDUCED, 42 DESIGN CHOICE, 58 DESIGN
CHOICE, 73 PRESUMED. -/

namespace Sys2Proof

/-- GLB_ID.STEP_LETTER, a factory value (03 R104, 00 R10). -/
opaque Config.stepLetter : BitVec 4
/-- GLB_ID.STEP_DIGIT, a factory value (03 R104). -/
opaque Config.stepDigit : BitVec 4
/-- CAL_FACTORY.FAC_VERSION, a factory value (12 R350). -/
opaque Config.facVersion : BitVec 16
/-- The device's unique address in the factory record (16 R432, 12 R341). -/
opaque Config.deviceMac : BitVec 48
/-- The factory calibration value of an instance of a group at one of the five temperatures, in 0.01 ps
(12 R341). -/
opaque Config.factoryValue : (group index point : Nat) → Int
/-- The measured capacitor code and gain of an entry of a factory band table: its DATA1 word (10 R299). -/
opaque Config.factoryBand : (synth index : Nat) → BitVec 32
/-- The nominal calibration value that the boot ROM holds for an instance of a group, in 0.01 ps (12 R341). -/
opaque Config.nominalValue : (group index : Nat) → Int
/-- A value the spec leaves open, numbered by the free counter of State (log entry 3). -/
opaque Config.freeWord : Nat → BitVec 64
/-- What an aborted write of a flash bank leaves (03 R89): 0 EMPTY, 1 FORMAT, 2 CRC_BAD, 3 the whole new image. -/
opaque Config.tornStatus : Nat → BitVec 2
/-- AES-GMAC under a 256-bit key: key, 96-bit IV, data (16 R420). -/
opaque Config.gmac : BitVec 256 → BitVec 96 → List Byte → BitVec 128
/-- The signature check of a firmware image (14 R378): its header and signature bytes under the device's keys. -/
opaque Config.signatureOk : List Byte → Bool
/-- The check of the AES-256-GCM tag of a firmware image (14 R378, R385). -/
opaque Config.tagOk : List Byte → Bool
/-- The firmware image that the factory wrote into the first bank of a part; the spec gives none (log entry 30). -/
opaque Config.factoryImage : (part : Nat) → List Byte
/-- FUSE_CNT as the factory left it, a factory value (14 R380, R398). -/
opaque Config.fuseCount : BitVec 7
/-- Decryption of a firmware image body (14 R378). -/
opaque Config.decrypt : List Byte → List Byte

/-- The phase by which the spine must move to meet the relation of 10 R298 to a reference entry, in units of 10^-8 ps,
as the device measures it in a spine cycle (10 R310). -/
opaque Config.refPhase : (entry now : Nat) → Int
/-- The outer loop after a comparison: the proportional part, the new integrator and the move of the aligner. The spec
gives the loop's bandwidth and limits and not its arithmetic (10 R296, R304). Arguments: bandwidth in nHz, comparison
period in ps, phase error in ps, integrator; the first two answers are in units of FREQ_WORD. -/
opaque Config.outerLoop : (bw period : Nat) → (phase integrator : Int) → Int × Int × Int
/-- The time servo's proportional part and new integrator, in units of RATE: the spec gives the loop's kind, bandwidth
and limits and not its arithmetic (09 R288). Arguments: bandwidth in 0.1 Hz, theta in 2^-16 ns, integrator. -/
opaque Config.timeLoop : (bw : Nat) → (theta : Int) → (integrator : Int) → Int × Int
/-- A coefficient of the ember model (10 R312, R313): k = 0 to 3 those of the cubic in the temperature, 4 the ageing term,
in units of 10^-18 of the frequency for 1/16 degree and for one second. Fit 0 is the factory's, and each second learned
gives the next fit. -/
opaque Config.emberCoef : (fit k : Nat) → Int

end Sys2Proof
end

