-- ==== Sys2Proof/Syntax.lean ====
section
/-! DEFINITION. The commands of the block: one constructor per row of spec/opcode_table.json, with the operands that the
step needs from outside. A value that the world gives (a reading, a stamp, the bytes of a frame) is an operand. -/

namespace Sys2Proof

/-- The two variants of the part (00 R3). -/
inductive Variant where
  | ulk6416 | ulk3208
  deriving DecidableEq, Repr

/-- The four requesters of the register interface (01 R24). -/
inductive Requester where
  | hearthA | hearthB | agent | uart
  deriving DecidableEq, Repr

/-- The two hearths. -/
inductive Hearth where
  | a | b
  deriving DecidableEq, Repr

/-- The watched clocks of 01 R30. -/
inductive WatchedClock where
  | laneRx (lane : Fin 64) | hearth (h : Hearth) | peat | nib | vbat
  deriving DecidableEq, Repr

/-- Where a frame comes from: a port, or the firmware of a hearth on its hearth port, with the ports it names
(08 R259, 13 R351). -/
inductive Ingress where
  | port (n : Fin 64)
  | hearth (h : Hearth) (dests : BitVec 64)
  deriving DecidableEq, Repr

/-- How a received frame ends: whole, so that its FCS decides; with an errored block or code group; cut off. -/
inductive FrameEnd where
  | whole | errored | truncated
  deriving DecidableEq, Repr

/-- What reading a buffer shows (07 R213): the corrected errors; an uncorrectable one in frame data, with the bytes before
it; an uncorrectable one in the header. -/
inductive InkRead where
  | good (corrected : Nat) | badData (offset : Nat) | badHeader
  deriving DecidableEq, Repr

/-- What the reads of a buffer show as its frame ends (07 R210, R213): reading a NEXT pointer fails; the errors corrected in
the reads of a move and of a capture. -/
structure InkReads where
  nextBad : Bool
  corrected : Nat
  deriving DecidableEq, Repr

/-- What a clock lane samples of a superframe (09 R272): the position of the first bit of block 0 from the spine cycle at
word boundary 0; the bit index and the measured phase, in 0.1 ps, of every received bit edge. -/
structure LaneSamples where
  bit : Nat
  edges : List (Nat × Int)
  deriving DecidableEq, Repr

/-- How a persist ends (03 R87): 0 success, 2 program or erase failure, 4 a wrong CRC at read-back, 8 an uncorrectable
error at read-back (RESULT 4); and the blocks of the target bank that failed (03 R81). -/
structure PersistEnd where
  result : Nat
  bad : Nat
  deriving DecidableEq, Repr

/-- How an erase or a program of a bank ends: done or not, and its blocks that failed (03 R81). -/
structure BankOp where
  ok : Bool
  bad : Nat
  deriving DecidableEq, Repr

/-- A data lane or a clock lane. -/
inductive AnyLane where
  | data (n : Fin 64) | clock (k : Fin 16)
  deriving DecidableEq, Repr

/-- The commands. -/
inductive Instr where

  /-- R6. A write to a register field that has no row of its own takes effect under its access code (RW, W1C, W1S, WO,
      reserved bits ignored). -/
  | registerWrite (q : Requester) (addr value : Word)
  /-- R25. A read of the low word of a wide register captures every word in one owning-domain cycle and loads the
      requester's high-word latches. -/
  | wideLowRead (q : Requester) (addr : Word)
  /-- R26. A write of the low word of a wide register carries the low word and the requester's shadowed high words
      into the owning domain as one value. -/
  | wideLowWrite (q : Requester) (addr value : Word)
  /-- R26. A write to a high word of a writable wide register goes to the requester's shadow and has no effect of its
      own. -/
  | wideHighWrite (q : Requester) (addr value : Word)
  /-- R27. At least every 1.024 us while the receive clock runs, the management-side copies of a lane's receive-domain
      registers are refreshed. `errBits`: bit errors the checker found; `fecCorr`, `fecUncorr`: FEC codewords
      corrected and uncorrected since the last refresh. -/
  | laneCopyRefresh (lane : Fin 64) (errBits fecCorr fecUncorr : Nat)
  /-- R22. Every 1.024 us the time core reloads the slice-core and lane-transmit copies of network time. -/
  | timeCopyReload
  /-- R30. A watched clock makes no transition for 128 ns (200 us for VBAT); its crossings are held in reset and
      CROSSING_INVALID is set. `crossed`: the bytes of a frame partly received that had crossed and were not parsed
      yet, or those after its window, or of a frame that passes a quill window those after its first 16 B. -/
  | clockAbsentDeclared (clock : WatchedClock) (crossed : List Byte)
  /-- R36. After the VBAT clock has run 2 ms without a break, both sides of every VBAT crossing are reset and
      released, the store check is run and VBAT_INVALID clears. `checkOk`: the check word of the store verifies (R56). -/
  | vbatCrossingRestart (checkOk : Bool)
  /-- R46. VIN reaches the rising undervoltage threshold with ENABLE high and the input switch begins its ramp with
      current limited to 3 A. `returned`: VIN had fallen below 7.5 V and returned; `temp8` is what GLB_TEMP8 reads, in
      1/16 degree (R60). -/
  | softStart (returned : Bool) (temp8 : BitVec 16)
  /-- R46. At 24 ms all rails are in regulation and the device enters RESET. -/
  | softStartComplete
  /-- R50. The ENABLE input goes low, which stops a soft start or starts a power-down. `early`: the power-down record
      has not entered its crossing (R59). -/
  | enableLow (early : Bool)
  /-- R50. VIN falls below the power-fail warning threshold, filtered over 1 us, starting a power-down. `early`: the
      power-down record has not entered its crossing (R59). -/
  | vinBelowWarning (early : Bool)
  /-- R48. Reverse current reaches 1 A and the input switch opens within 0.5 us, starting a power-down. `early`: the
      power-down record has not entered its crossing (R59). -/
  | reverseCurrentTrip (early : Bool)
  /-- R50. VIN has stayed at or above 15.0 V for 10 us, starting a power-down. `early`: the power-down record has not
      entered its crossing (R59). -/
  | overvoltageTimeout (early : Bool)
  /-- R50. Input current has stayed at the 8.0 A limit for 10 ms, starting a power-down. `early`: the power-down
      record has not entered its crossing (R59). -/
  | currentLimitTimeout (early : Bool)
  /-- R60. A valid temperature reading has stayed at 165 C for 1 ms and the device powers down with mask bit 4,
      restarting only under R60. `early`: the power-down record has not entered its crossing (R59). -/
  | thermalShutdown (early : Bool)
  /-- R50. VIN enters the 13.8 V to 15.0 V band and OV_WARN is set without a power-down. -/
  | ovWarn
  /-- R50. Input current reaches 8.0 A, ILIM_SEEN is set and the stage holds the current at the limit. -/
  | ilimReached
  /-- R51. The 0x01 power-down entry with its cause mask is stored in the VBAT event log and CB is discharged. -/
  | powerDownRecordStored
  /-- R51. The internal node reaches 7.5 V, the device resets and becomes DORMANT, and a restart may follow under R52. -/
  | dormantReached
  /-- R60. Every 1 ms the nine sensors update, sensor validity and TEMP_ALARM are judged and calibration values are
      recomputed. `readings` are the nine sensors in 1/16 degree; `vinMv` and `iinMa` what GLB_PWR_MON samples. -/
  | tempSensorUpdate (readings : List (BitVec 16)) (vinMv iinMa : BitVec 16)
  /-- R58. VBAT falls below 2.2 V with the rails up; a 0x03 log entry is written and LOW and LOW_SEEN are set. -/
  | vbatLow (mv : BitVec 12)
  /-- R58. VBAT rises above 2.3 V with the rails up; a 0x04 log entry is written and LOW clears. -/
  | vbatRecover (mv : BitVec 12)
  /-- R57. Each whole second of dormancy with the oscillator running increments the dormancy counter. -/
  | dormantSecond
  /-- R72. RST_N is held low for long enough to be taken and every block but the power stage and VBAT store is reset. -/
  | rstNAssert
  /-- R72. RST_N returns high and the device enters RESET. -/
  | rstNRelease
  /-- R104. A write of RESET with key 0xC3A5 to GLB_RESET_CTRL starts a device reset with cause 0x03 or 0x05. -/
  | resetCtrlWrite (q : Requester) (value : Word)
  /-- R74. Once the ember is stable, the VBAT store is checked, the reset cause is written, STATE becomes KINDLING and
      both hearths are released. `vbatMv`: the first VBAT measurement; `checkOk`: the store check word verifies;
      `clockRuns`: the VBAT clock runs; `bootId`: the random value drawn (16 R421). -/
  | kindlingBegin (vbatMv : BitVec 12) (checkOk clockRuns : Bool) (bootId : Word)
  /-- R385. A part finishes verifying the bank it is about to start, starting it or falling back to its GOOD bank.
      `err0`, `err1`: reading the bank meets an uncorrectable error. -/
  | firmwareVerified (part : Fin 4) (err0 err1 : Bool)
  /-- R353. At the end of kindling step 2 Hearth A, or else Hearth B, claims the lease token. -/
  | kindlingLeaseClaim
  /-- R82. Kindling reads the chosen configuration bank, verifies and checks it, and applies it at once or falls to
      the next bank. `heads`: reading the header of bank 0, of bank 1 meets an uncorrectable error; `ecc0`, `ecc1`:
      reading the image of the bank does; `trained`: the peat bank trains (07 R222). -/
  | configImageLoad (heads : Bool × Bool) (ecc0 ecc1 trained : Bool)
  /-- R74. The active hearth's spine synthesizer locks and the spine moves from the ember to it glitch-free. -/
  | spineFirstLock
  /-- R74. Power-up calibration or factory-set load ends, STATE becomes RUNNING or DEFAULTED and enabled lanes begin
      bring-up. `copy0`, `copy1`: the copies of the factory record check good (12 R341). -/
  | kindlingComplete (copy0 copy1 : Bool)
  /-- R77. STATE has not become RUNNING or DEFAULTED 2.0 s after KINDLING and a device reset with cause 0x06 follows. -/
  | kindlingWatchdog
  /-- R91. A write to a staged field goes to the owner's shadow copy, charges the shadow store and returns a CHECKED
      or FAILED session to OPEN. -/
  | stagedWrite (q : Requester) (addr value : Word)
  /-- R92. The OPEN command creates a staging session owned by the writer, or is refused. `flags` is the word written:
      READ_SHADOW, TIMED and FORCE_LOCAL are taken from it. -/
  | stageOpen (q : Requester) (flags : Word)
  /-- R96. The CHECK command starts the consistency check of the staged set and moves the session to CHECKING. -/
  | stageCheck (q : Requester) (flags : Word)
  /-- R96. The consistency check completes, writes the lowest failing code, fail count and address, and moves the
      session to CHECKED or FAILED. -/
  | checkDone
  /-- R98. The ARM command, with TIMED and FORCE_LOCAL, moves a CHECKED session to ARMING or is refused. -/
  | stageArm (q : Requester) (flags : Word)
  /-- R98. Distribution of the shadow set into pending copies completes and the session enters ARMED. -/
  | armDistributed
  /-- R93. The ABORT command ends the session and discards its shadow and pending copies, or is refused within 10 us
      of the instant. -/
  | stageAbort (q : Requester) (flags : Word)
  /-- R100. At the commit instant every pending copy becomes active, FWD_EPOCH advances and the session returns to
      IDLE. `crossed`: for lanes that the commit restarts, the bytes of the frame being received that had crossed. -/
  | commitApply (crossed : List (Nat × List Byte))
  /-- R94. The owner has not written for 10 s in OPEN, CHECKED or FAILED and the session is aborted with SESSION_LOST. -/
  | sessionTimeout
  /-- R87. CFG_PERSIST.START snapshots the active configuration and begins erasing the target bank, or refuses with a
      RESULT code. `value` is the word written, its START bit 1. -/
  | persistStart (q : Requester) (value : Word)
  /-- R87. Programming and read-back of the persisted image complete, setting DONE or a RESULT failure and bank
      status. -/
  | persistDone (outcome : PersistEnd)
  /-- R112. The random dwell at one rate ends without finding the rate and the search moves to the next rate. -/
  | rateSearchDwell (lane : Fin 64)
  /-- R112. Block lock or synchronization holds for 10 ms at the tried rate and the lane keeps it as RATE_FOUND. -/
  | rateFound (lane : Fin 64)
  /-- R112. LINK has been 0 for 1 s on a searching lane and the search starts again at 25.78125 Gbaud. -/
  | rateSearchRestart (lane : Fin 64)
  /-- R115. A signal appears at the receive pins and SIGNAL becomes 1 with the lane in ACQUIRE. -/
  | signalPresent (lane : AnyLane)
  /-- R115. Clock recovery locks, the receive clock runs and the lane's crossings are released. -/
  | cdrLockAcquired (lane : AnyLane)
  /-- R115. Block lock or synchronization is reached after adaptation and the lane becomes LOCKED. -/
  | blockLockAcquired (lane : Fin 64)
  /-- R117. Every lane is UP with no fault, HI_BER 0 and deskew locked, and PORT_STATUS.LINK becomes 1. -/
  | linkUp (port : Fin 64)
  /-- R118. The received signal falls below the detect threshold and SIGNAL 0 is declared within 0.5 us. -/
  | signalLoss (lane : AnyLane)
  /-- R118. Clock recovery or receive phase tracking unlocks and is declared within 1 us. -/
  | cdrUnlock (lane : AnyLane)
  /-- R118. Block lock or Clause 36 synchronization is lost. -/
  | blockLockLoss (lane : Fin 64)
  /-- R118. The clause's high bit-error-rate condition is declared on a lane. -/
  | hiBer (lane : Fin 64)
  /-- R118. Local Fault or Remote Fault is received on a port. `remote`: Remote Fault, otherwise Local Fault. -/
  | faultReceived (port : Fin 64) (remote : Bool)
  /-- R119. The lane controller starts a lane restart within 100 us of CROSSING_INVALID with SIGNAL 1. `crossed`: the
      bytes of a frame partly received that had crossed and were not parsed yet, or those after its window, or of a
      frame that passes a quill window those after its first 16 B. -/
  | laneRestart (lane : Fin 64) (crossed : List Byte)
  /-- R119. A write of LANE_CMD.RESTART starts the same lane restart, ignored while one runs. `crossed`: the bytes of
      a frame partly received that had crossed and were not parsed yet, or those after its window, or of a frame that
      passes a quill window those after its first 16 B. -/
  | laneCmdRestart (q : Requester) (lane : Fin 64) (crossed : List Byte)
  /-- R119. Both sides of the lane's crossings are reset, CROSSING_INVALID clears and bring-up continues. `arrival`:
      the arrival phase in ps of the lane's phase source, where it is known. -/
  | laneRestartDone (lane : Fin 64) (arrival : Option Nat)
  /-- R111. Every 1 ms a lane's received frequency offset is averaged and written to FREQ_OFS. `ofs` in 0.01 ppm. -/
  | freqOfsUpdate (lane : Fin 64) (ofs : Int)
  /-- R121. A write of SLIP moves the clock-lane word boundary by one bit unless ALIGNED or CONFIRM is 1. -/
  | clklSlip (q : Requester) (clkl : Fin 16)
  /-- R122. A write of CONFIRM arms judgement of the next full alignment window. -/
  | clklConfirm (q : Requester) (clkl : Fin 16)
  /-- R122. A 1,024-symbol window ends, COMMA_CNT and CODE_ERR are written, WIN_SEQ advances and a pending
      confirmation is judged. `commas`: K28.5 on the boundary; `codeErr`: code and disparity errors; `errBits`: bit
      errors the checker found. -/
  | clklWindowEnd (clkl : Fin 16) (commas : Fin 1025) (codeErr errBits : Nat)
  /-- R123. Signal, receive lock, code groups or commas fail and ALIGNED becomes 0 within 1 us with ALIGN_LOST_SEEN
      set. -/
  | alignLost (clkl : Fin 16)
  /-- R124. The active hearth's firmware starts the alignment search on an enabled clock lane with RX_LOCK 1 and
      ALIGNED 0. -/
  | clklAlignSearch (clkl : Fin 16)
  /-- R124. RETRY_MS after a failed search the firmware searches again. -/
  | clklSearchRetry (clkl : Fin 16)
  /-- R126. A port group declared REQUIRED has not been a trunk with RUNNING for 1 s and the trunk-down alarm is
      raised. -/
  | trunkDownAlarm (group : Fin 16)
  /-- R128. The PRBS checker sees 128 consecutive correct bits and reaches LOCK. -/
  | prbsCheckerLock (lane : AnyLane)
  /-- R128. At least 32 of 256 bits are in error; the checker loses lock, sets LOCK_LOST_SEEN and reseeds. -/
  | prbsLockLost (lane : AnyLane)
  /-- R128. A write of CLR sets the PRBS error counter to 0. -/
  | prbsClr (q : Requester) (lane : AnyLane)
  /-- R130. Setting or clearing TX_EN or RX_EN switches the lane between its PCS stream and the pattern, dropping LINK
      or clearing ALIGNED. -/
  | prbsTxEn (q : Requester) (lane : AnyLane) (on : Bool)
  /-- R129. A write of GO inverts LEN consecutive transmitted bits and counts the injection. -/
  | errInjectGo (q : Requester) (lane : AnyLane)
  /-- R134. A frame's parse window completes and it passes parse, VLAN, class map, stream, filter, sequence, MAC and
      destination stages to admission. `window`: the first 96 B, or the whole frame with `whole`; `stamp`: the time of
      the frame's first bit at the balls in 2^-16 ns; `old`: the frame takes the previous epoch while it drains; `nextBad`: reading a NEXT pointer
      fails (07 R213). -/
  | frameParse (src : Ingress) (window : List Byte) (whole : Bool) (stamp : Nat) (old nextBad : Bool)
  /-- R149. A queued learn request inserts or moves a DYNAMIC MAC entry through the update port. -/
  | learnInsert (slice : Fin 4)
  /-- R149. A DYNAMIC entry unmatched as a source for between AGE_S and 2 x AGE_S seconds is removed. -/
  | ageOut (index : Fin 262144)
  /-- R165. A received frame ends and its FCS, error, length and meter verdict is reached, finishing good copies or
      blotting and dropping bad ones. `src`: a port, 64 for H0, 65 for H1; `rest`: the bytes after the window, FCS
      included. -/
  | frameEnd (src : Fin 66) (rest : List Byte) (kind : FrameEnd) (reads : InkReads)
  /-- R153. The last frame of the previous epoch finishes stage 9, DRAINING clears and the old entries are released. -/
  | epochDrained
  /-- R161. A residue copy's port becomes ready and the copy is re-judged and queued store-and-forward. -/
  | residueQueue (port : Fin 64)
  /-- R161. A residue copy still waiting RESIDUE_US after stage 9 is dropped and counted as TIMEOUT. -/
  | residueTimeout (port : Fin 64)
  /-- R174. No frame of a recovery stream has passed for RESET_MS and the recovery state resets. -/
  | recoveryReset (stream : Fin 16384)
  /-- R142. READ loads DATA0-7 with the active or shadow entry at ADDR. `table` is the TABLE of the write to
      FWD_TBL_CMD. -/
  | fwdTblRead (q : Requester) (table : Fin 16)
  /-- R142. WRITE stages DATA0-7 for the table entry as one staging record. `table` is the TABLE of the write to
      FWD_TBL_CMD. -/
  | fwdTblWrite (q : Requester) (table : Fin 16)
  /-- R142. SEARCH looks up a MAC or STREAM key and returns the match or a free way. `table` is the TABLE of the write
      to FWD_TBL_CMD. -/
  | fwdTblSearch (q : Requester) (table : Fin 16)
  /-- R142. READ_STATE loads the state counters of a STREAM or FILTER entry. `table` is the TABLE of the write to
      FWD_TBL_CMD. -/
  | fwdTblReadState (q : Requester) (table : Fin 16)
  /-- R142. CLEAR_STATE clears an entry's counters and BLOCKED while a hearth holds the token. `table` is the TABLE of
      the write to FWD_TBL_CMD. -/
  | fwdTblClearState (q : Requester) (table : Fin 16)
  /-- R149. FWD_LEARN_CMD.FLUSH removes DYNAMIC entries, optionally for one port, within 2 ms while a hearth holds the
      token. PORT_ONLY and PORT of the write. -/
  | learnFlush (q : Requester) (portOnly : Bool) (port : Fin 64)
  /-- R228. The free transmitter's scheduler chooses the next eligible copy by strict priority, DWRR, CBS and gate
      state. `stamp`: the time of the copy's first bit at the balls in 2^-16 ns. -/
  | egressSelect (port : Fin 64) (stamp : Nat) (read : InkRead)
  /-- R214. A copy's last byte is read for transmission; its reference is released, counters advance and any two-step
      entry is placed. -/
  | copySent (port : Fin 64)
  /-- R183. At cycle start plus OPEN_NS the window opens if link, syntonization, suspension and phase conditions hold,
      or counts a miss. `arrivals`: the arrival phases in ps of the lanes of the window's ingress port (06 R186). -/
  | windowOpen (port : Fin 64) (index : Fin 1024) (arrivals : List Nat)
  /-- R178. At cycle start plus CLOSE_NS the window closes once its last frame has passed. -/
  | windowClose (port : Fin 64)
  /-- R192. The egress guard band begins and no ordinary frame may start that would overlap it. -/
  | guardBandStart (port : Fin 64)
  /-- R192. The egress guard band ends and ordinary traffic and held fallback frames resume. -/
  | guardBandEnd (port : Fin 64)
  /-- R179. A start block reaches the ingress balls in an open window and the frame passes the crossbar with its
      header checked in flight. `port`: the egress port; `header`: the first 16 B; `stamp`: the time of
      its first bit at the ingress balls in 2^-16 ns. -/
  | quillFrameStart (port : Fin 64) (header : List Byte) (stamp : Nat)
  /-- R196. A passed frame ends; a bad FCS or error block blots it and closes the window. `errored`: the frame carries
      an error control block. -/
  | quillFrameEnd (port : Fin 64) (rest : List Byte) (errored : Bool)
  /-- R193. A passed frame would outlast CLOSE_NS + POST_NS and is blotted with cause QUILL. `sent`: the bytes after
      the first 16 that still leave in time. -/
  | quillOverrun (port : Fin 64) (sent : List Byte)
  /-- R191. The elastic depth moves more than 16 ps and the window closes after the frame in flight with DRIFT_SEEN
      set. -/
  | elasticDrift (port : Fin 64)
  /-- R188. TXPH of a steered egress lane moves toward the target depth, updating STEER_LOCK. `arrivals`: the arrival
      phases in ps of the phase source's lanes. -/
  | txphSteer (port : Fin 64) (arrivals : List Nat)
  /-- R201. At swap time S the window table banks exchange roles and SWAP_CNT increments. -/
  | windowTableSwap (port : Fin 64)
  /-- R204. READ loads a window table entry from the active, inactive or shadow bank. `inactive` is the INACTIVE of
      the write to QW_TBL_CMD. -/
  | qwTblRead (q : Requester) (inactive : Bool)
  /-- R204. WRITE stages a window table entry as one staging record. `inactive` is the INACTIVE of the write to
      QW_TBL_CMD. -/
  | qwTblWrite (q : Requester) (inactive : Bool)
  /-- R204. READ_STATE loads an entry's openings, passes, mismatches, misses and last latency. `inactive` is the
      INACTIVE of the write to QW_TBL_CMD. -/
  | qwTblReadState (q : Requester) (inactive : Bool)
  /-- R204. CLEAR_STATE clears an entry's state while a hearth holds the token. `inactive` is the INACTIVE of the
      write to QW_TBL_CMD. -/
  | qwTblClearState (q : Requester) (inactive : Bool)
  /-- R213. The rebuild of a pool's free list completes and REBUILD clears. -/
  | poolRebuildDone (pool : Fin 4)
  /-- R223. A spilled copy's peat bank write completes or fails and its inkwell reference is released. The oldest copy
      of the pending list; `read`: what reading its buffer showed (R213). -/
  | spillWriteDone (read : InkRead)
  /-- R224. A spilled copy is whole in the read-back store and passes or fails its ECC check. -/
  | spillReadbackDone (port : Fin 64) (queue : Fin 10) (good : Bool)
  /-- R227. BUF_PEAT_CMD.RESTART restarts the peat bank controller, discarding spilled copies. -/
  | peatRestart (q : Requester)
  /-- R227. The peat bank restart completes with the DRAM retrained, READY 1 and CROSSING_INVALID cleared. -/
  | peatRestartDone
  /-- R235. LINK has been 0 for LINK_FLUSH_MS and every queue of the port is flushed with cause FLUSH. -/
  | linkFlush (port : Fin 64)
  /-- R232. A gate control list interval ends or a cycle starts and the gate state of the next entry takes effect. -/
  | gateEntryChange (port : Fin 64)
  /-- R233. At S the pending gate control list takes over and SWAPPED_SEEN is set. -/
  | gateListSwap (port : Fin 64)
  /-- R246. A gated write of TIME_RATE carries the 48-bit rate word into the time core, clamping it if needed. `low`
      is the word written to TIME_RATE. -/
  | timeRateWrite (q : Requester) (low : Word)
  /-- R247. TIME_STEP.GO adds, subtracts or sets the clock in one spine cycle, or refuses the step. `mode` is the MODE
      the write carries beside GO. -/
  | timeStep (q : Requester) (mode : Fin 4)
  /-- R248. A write of TIME_SLEW adds its amount to the slew remainder, saturating at the limits. -/
  | timeSlew (q : Requester) (amount : Word)
  /-- R250. An edge instance's Announce or Sync times out; the servo stops and the time core enters HOLDOVER. -/
  | masterLost (inst : Fin 8)
  /-- R250. The edge instance's BMCA selects a different parent; the servo history is discarded and HOLDOVER is
      entered. -/
  | masterChange (inst : Fin 8) (parentPort : Fin 64) (stepsRemoved : Nat)
  /-- R265. TSQ_POP removes the head two-step entry into the requester's entry words. -/
  | tsqPop (q : Requester) (queue : Fin 6)
  /-- R269. Every 16 us an enabled clock lane sends a superframe with the Lyide record. `tx`: the
      local time at which the first bit of the superframe leaves the balls, in 2^-16 ns. -/
  | superframeSend (clkl : Fin 16) (tx : Nat)
  /-- R273. A received superframe is stamped and checked and yields a delay and offset sample or counts as missing.
      `record`: the first 72 payload bytes, none where no superframe arrived in its 16 us; `rx`: the local time
      of the spine cycle in 2^-16 ns. -/
  | superframeReceive (clkl : Fin 16) (record : Option (List Byte)) (rx : Nat) (samples : LaneSamples)
  /-- R283. Every 1.024 ms the candidates' datasets are compared and the grandmaster and upstream chosen under the
      hold-off rules. -/
  | bmcaEvaluate
  /-- R286. No candidate remains or the offset limit trips; the time core enters HOLDOVER or FREE and LOST_CNT
      increments. -/
  | trunkSourceLost
  /-- R288. Each 1.024 ms average of theta advances the acquisition phases and updates LYD_OFFSET. -/
  | offsetAverage
  /-- R304. At each comparison period the outer loop measures the selected reference's phase and adjusts FREQ_WORD and
      the aligner. `phase` is the phase error measured, in ps. -/
  | outerLoopCompare (phase : Int)
  /-- R305. A reference monitor's frequency average ends and FREQ_OFS is updated and judged against the limits. `ofs`
      is the average offset in ppb. -/
  | refFreqUpdate (entry : Fin 32) (ofs : Int)
  /-- R305. A monitored reference stops being active and its entry becomes ABSENT. -/
  | refLoss (entry : Fin 32)
  /-- R306. A reference becomes active and its entry becomes DISQUALIFIED with the qualification time started. -/
  | refActive (entry : Fin 32)
  /-- R306. An entry has met the limits for QUAL_S seconds and becomes QUALIFIED. -/
  | refQualified (entry : Fin 32)
  /-- R307. Once a second the drift of each reference against its basis is computed and judged. -/
  | driftTest
  /-- R308. SYN_CMD.REEVAL selects the best QUALIFIED entry regardless of REVERTIVE. -/
  | synReeval
  /-- R310. The phase pull reaches the target and the mode becomes TRACKING. -/
  | pullDone
  /-- R313. Each qualifying second updates the ember model fit and LEARN_S, clearing UNLEARNED at 86,400. -/
  | emberLearnSecond
  /-- R302. A synthesizer's phase error stays inside the lock window for LOCK_CNT comparisons and lock is declared. -/
  | synthLock (synth : Fin 6)
  /-- R302. A synthesizer loses lock; bound POs are gated and an active spine inner unlock becomes a hearth cause. -/
  | synthLockLoss (synth : Fin 6)
  /-- R303. An OSYN's spine monitor finds a period outside 1,000 ppm and its POs are gated off. -/
  | osynRefLoss (osyn : Fin 4)
  /-- R320. SYN_PO_CTRL.ALIGN copies the time core into the OSYN output time base and gates its POs for re-phasing. -/
  | poAlign (po : Fin 8)
  /-- R320. An aligning PO restarts at its first target edge at least 1 ms after the ALIGN write. -/
  | poAlignRestart (po : Fin 8)
  /-- R301. SYN_BAND_CMD READ loads an active band table entry. -/
  | synBandRead (q : Requester) (synth : Fin 8) (index : Fin 64)
  /-- R301. SYN_BAND_CMD WRITE stages a band table entry. -/
  | synBandWrite (q : Requester) (synth : Fin 8) (index : Fin 64)
  /-- R301. SYN_BAND_CMD READ factory loads an entry of the factory band table. -/
  | synBandReadFactory (q : Requester) (synth : Fin 8) (index : Fin 64)
  /-- R324. An edge of a selected polarity at a nib ball is stamped and given to the buffer, interval and frequency
      engines. `stamp`: the time of the edge in bins of 0.5 ps of network time. -/
  | nibEdge (input : Fin 16) (falling : Bool) (stamp : Nat)
  /-- R329. NIB_POP removes the head stamp entry into the requester's entry words. -/
  | nibPop (q : Requester) (input : Fin 16)
  /-- R331. NIB_CMD.ARM discards the entries and moves an interval engine to WAIT_START. -/
  | nibArm (q : Requester) (input : Fin 16)
  /-- R333. NIB_CMD.ABORT moves the interval measurement to IDLE, keeping entries. -/
  | nibAbort (q : Requester) (input : Fin 16)
  /-- R329. NIB_CMD.FLUSH discards every entry of the input's buffer. -/
  | nibFlush (q : Requester) (input : Fin 16)
  /-- R336. A frequency gate ends and the fitted period and REASON are written as a new result. -/
  | freqGateEnd (input : Fin 16)
  /-- R338. NIB_CTRL.RESTART restarts the nib block, discarding buffers, measurements and gates and clearing
      CROSSING_INVALID. -/
  | nibRestart (q : Requester)
  /-- R343. CAL_CMD.START begins calibration of the selected groups, holding their values as STALE. `groups`: GROUPS
      of the write to CAL_CMD. -/
  | calStart (q : Requester) (groups : BitVec 6)
  /-- R345. The last group is measured and the offsets that pass plausibility take effect together. `measured`: group,
      instance and measured offset in 0.01 ps; an instance not listed measures its present offset. -/
  | calApply (measured : List (Nat × Nat × Int))
  /-- R355. HRT_LEASE.RENEW from the holder renews the lease, otherwise it is ignored with GATE_VIOL_SEEN. -/
  | leaseRenew (q : Requester)
  /-- R355. The lease runs out L after the last renewal and the holder becomes CINDER, freeing the token. -/
  | leaseExpired
  /-- R358. An uncorrectable ECC error in a hearth's memory makes it CINDER. -/
  | hearthMemUncorr (h : Hearth)
  /-- R358. A core's 100 us hardware watchdog is not serviced and the hearth becomes CINDER with FW_CHECK. -/
  | hearthWatchdog (h : Hearth)
  /-- R358. A hearth's island rail leaves its range for 1 us and the hearth becomes OFFLINE. -/
  | islandPowerFail (h : Hearth)
  /-- R360. An output is not matched within 2.0 us and both hearths start the checked diagnosis. -/
  | lockstepMismatch
  /-- R361. The 50 us diagnosis ends and the failing hearth is made CINDER or the standby resynchronized. -/
  | diagnosisDone (activePasses standbyPasses : Bool)
  /-- R361. Resynchronization of the standby completes and IN_STEP becomes 1. -/
  | resyncDone
  /-- R362. Every 125 us the snapshot store takes the active spine synthesizer's state. -/
  | snapshotTake
  /-- R357. An in-step STANDBY hearth claims the free token within 1 us and becomes ACTIVE. -/
  | tokenClaim
  /-- R364. The new holder's synthesizer reaches inner lock after loading the snapshot. -/
  | takeoverInnerLock
  /-- R364. The new synthesizer's fine aligner matches the ember path and the outer loop resumes. -/
  | takeoverAlignerMatch
  /-- R364. The spine mux selects the new synthesizer with a step of at most 2 ps. -/
  | takeoverMuxMove
  /-- R364. TAKEOVER becomes 0, COAST clears, the takeover is recorded and quill windows reopen. -/
  | takeoverEnd
  /-- R365. Inner lock is missed at 120 us, or 118 us into a retry, and a long takeover retries from the factory band
      table. -/
  | takeoverLockMiss
  /-- R365. The spine has not returned to a synthesizer by 5 ms and the new holder gives up the token with
      INNER_UNLOCK. -/
  | longTakeoverTimeout
  /-- R367. The token is free 150 us with no claim, or free with no in-step standby, and NO_HOLDER is set with the
      spine coasting. -/
  | noHolder
  /-- R369. HRT_CMD.HANDOVER with the key tests the standby and moves the token to it, or refuses. -/
  | hrtHandover (q : Requester)
  /-- R370. HRT_CMD.RESTART_A or RESTART_B restarts a hearth that does not hold the token. -/
  | hrtRestart (q : Requester) (h : Hearth)
  /-- R370. HRT_CMD.CINDER_A or CINDER_B puts the named hearth into CINDER with cause COMMAND. -/
  | hrtCinder (q : Requester) (h : Hearth)
  /-- R371. HRT_CMD.TEST starts the standby synthesizer self-test. -/
  | hrtTest (q : Requester)
  /-- R370. 1 s after CINDER, or after an island-power or clock cause clears, a hearth with automatic restarts left is
      restarted. -/
  | autoRestart (h : Hearth)
  /-- R370. A restarted hearth has loaded, verified, resynchronized and tested and becomes STANDBY. `lockUs`: the
      result of the test of R371. -/
  | hearthRestartDone (h : Hearth) (lockUs : Nat)
  /-- R371. Every 600 s the standby's cold synthesizer is tested. -/
  | selfTestPeriodic
  /-- R371. The synthesizer test ends, writing TEST_RESULT and LOCK_US, with a second failure making the standby
      CINDER. `lockUs`: the time to lock in us; a failed test has more than 133. -/
  | selfTestDone (lockUs : Nat)
  /-- R371. 1 s after a failed test the test is repeated. -/
  | selfTestRetry
  /-- R382. UPD_SESSION.BEGIN opens a download session, marks the target banks WRITING and starts erasing, or refuses.
      `target`: TARGET of the write. -/
  | updBegin (q : Requester) (target : BitVec 5)
  /-- R383. Erasing the target banks completes and the session becomes RECEIVING. -/
  | updEraseDone (flashFails : Bool)
  /-- R383. A write of UPD_DATA appends four bytes to the target banks, or fails the session on overrun. `full`: SPACE
      is 0; `flashFails`: programming fails. -/
  | updDataWrite (q : Requester) (data : Word) (full flashFails : Bool)
  /-- R384. UPD_SESSION.END checks the clear header and marks the banks WRITTEN or REJECTED, rewriting the
      configuration banks for kind 4. -/
  | updEnd (q : Requester)
  /-- R383. UPD_SESSION.ABORT ends the session, leaving its banks WRITING and STATE FAILED. -/
  | updAbort (q : Requester)
  /-- R383. The owner has not written for 10 s and the download session is lost with code 9. -/
  | updSessionTimeout
  /-- R388. UPD_CMD.ACTIVATE makes the WRITTEN bank TRIAL and restarts the part from it, or refuses. -/
  | updActivate (q : Requester) (part : Fin 4)
  /-- R393. UPD_CMD.REJECT makes the part in TRIAL fall back with reason COMMAND. -/
  | updReject (q : Requester) (part : Fin 4)
  /-- R391. UPD_CMD.ALLOW satisfies HOST_GATE for the part in TRIAL. -/
  | updAllow (q : Requester)
  /-- R391. The part's conditions have held for SOAK_S and its TRIAL bank becomes GOOD. -/
  | trialConfirm
  /-- R392. The confirmation window ends unconfirmed and the part falls back with reason WINDOW. -/
  | trialWindowExpired
  /-- R401. SNAPSHOT copies every counter and wrap bit into the snapshot bank, at once or as a pending timed action.
      `timed`: TIMED of the write to CNT_CMD. -/
  | cntSnapshot (q : Requester) (timed : Bool)
  /-- R401. FREEZE stops every counter, at once or as a pending timed action. `timed`: TIMED of the write to CNT_CMD. -/
  | cntFreeze (q : Requester) (timed : Bool)
  /-- R401. THAW resumes counting, at once or as a pending timed action. `timed`: TIMED of the write to CNT_CMD. -/
  | cntThaw (q : Requester) (timed : Bool)
  /-- R401. SNAPSHOT_CLEAR copies every counter into the bank and sets it to 0 in the same cycle. `timed`: TIMED of
      the write to CNT_CMD. -/
  | cntSnapshotClear (q : Requester) (timed : Bool)
  /-- R404. CNT_CMD.ABORT discards the pending timed action. -/
  | cntAbort (q : Requester)
  /-- R404. The instant of a pending timed counter action arrives and the action is performed. -/
  | cntTimedAction
  /-- R407. A bandwidth window period ends and its bytes, frames, start and flags are written as a new result. -/
  | bwPeriodEnd (window : Fin 64)
  /-- R412. CNT_CAP_POP moves the oldest unread capture record into the requester's buffer. -/
  | cntCapPop (q : Requester)
  /-- R412. A read of CNT_CAP_DATA returns the next record word and advances the word index. -/
  | cntCapDataRead (q : Requester)
  /-- R413. A mirror frame leaves when it holds 9 records or 10 us after its first record. -/
  | mirrorFrameSend
  /-- R418. A READ management request is judged and its register reads are performed and answered. -/
  | mgmtRead
  /-- R418. A WRITE management request performs its address and value pairs and answers the count. -/
  | mgmtWrite
  /-- R418. A WRITE_REPEAT request writes every value to one address and answers the count. -/
  | mgmtWriteRepeat
  /-- R418. A READ_REPEAT request reads one address count times and answers the values. -/
  | mgmtReadRepeat
  /-- R418. A RESET request with the key is answered and then performs a device reset with cause 0x04. -/
  | mgmtReset
  /-- R418. A HEALTH request is answered with the health report. -/
  | mgmtHealth
  /-- R430. An unmasked alarm raising, after its holdoff, sends a NOTIFY frame. -/
  | notifySend
  /-- R430. A failed test, mismatch or entry into CINDER or OFFLINE sends an unprompted HEALTH_REPORT frame. -/
  | healthReportSend
  /-- R428. A write of 1 to an MGT_ALARM bit clears the latched event bit and its count. -/
  | alarmClear (q : Requester) (bits : BitVec 14)
  /-- R424. The console command r performs one read and replies ADDR VALUE. -/
  | uartRead (addr : Word)
  /-- R424. The console command w performs one write, or replies err ro. -/
  | uartWrite (addr value : Word)
  /-- R424. The console command rr performs COUNT reads of one address. -/
  | uartReadRepeat (addr count : Word)
  /-- R424. The console command h replies with the health report. -/
  | uartHealth
  /-- R424. The console command a replies with MGT_ALARM and the alarm counts. -/
  | uartAlarm
  /-- R424. A faulty or unknown console line gets err syntax and makes no access. -/
  | uartBadLine
  /-- R425. MGT_I2C_CMD.GO queues a cage two-wire read or write transaction. `command`: the word written to
      MGT_I2C_CMD beside GO. -/
  | i2cTransaction (q : Requester) (command : Word)
  /-- R425. A cage bus transaction ends with its RESULT and GO clears. `result`: 0 OK, 1 NACK, 2 BUS_STUCK; `data`:
      the bytes that a read brought. -/
  | i2cDone (cage : Fin 16) (result : Fin 3) (data : Word)
  /-- R426. EXTEST drives the pins from the boundary register and holds the core as in RESET. `load`: what is shifted
      into the boundary register. -/
  | jtagExtest (load : BitVec 288)
  /-- R426. SAMPLE/PRELOAD captures and loads the boundary register with no effect on the device. `pins`: the levels
      at the cells; `load`: what is shifted in. -/
  | jtagSamplePreload (pins load : BitVec 288)
  /-- R426. IDCODE selects the identification register. -/
  | jtagIdcode
  /-- R426. CLAMP acts as EXTEST with the bypass register selected. -/
  | jtagClamp
  /-- R426. HIGHZ acts as EXTEST with every scanned output high-impedance. -/
  | jtagHighz
  /-- R426. BYPASS and every other code select the bypass register with no effect. -/
  | jtagBypass
  /-- R427. Leaving EXTEST, CLAMP or HIGHZ performs a device reset with cause 0x08. -/
  | jtagTestExit
  /-- R369. During a commanded handover the holder stops renewing and the token is freed at the next renewal point,
      starting a takeover with cause HANDOVER. -/
  | handoverTokenRelease
  /-- R394. The watchdog of the lane or peat-bank controller fires, the controller restarts under R389 and a TRIAL
      controller has used its attempt. `peat`: the peat-bank controller, otherwise the lane controller. -/
  | controllerWatchdog (peat : Bool)
  /-- R389. The restarted lane controller runs again, and rate search, bring-up and pending lane restarts resume. -/
  | laneControllerRestartDone
  /-- R370. A hearth's island rail has stayed in range, or its clock has run without a break, for 1 ms, which clears
      the ISLAND_POWER or CLOCK_ABSENT cause and starts the 1 s automatic-restart delay. -/
  | islandCauseCleared (h : Hearth)
  /-- R370. An automatic restart leaves the sliding 3,600 s window and AUTO_LEFT of that hearth rises again. -/
  | autoLeftReplenish (h : Hearth)
  /-- R50. VIN falls back below the overvoltage warning threshold, so OV_WARN clears and VIN_OK returns to 1. -/
  | ovWarnEnd
  /-- R176. The flush of DYNAMIC entries completes within 2 ms and FLUSH clears. -/
  | learnFlushDone
  /-- R338. The nib block restart completes within 10 us, RESTART clears and the nib TDC CROSSING_INVALID clears. -/
  | nibRestartDone
  /-- R397. Programming, read-back and erase of the configuration banks for a kind 4 image end, the marker clears and
      CFG_BANK_STATUS and CFG_BANK_SEQ0-1 are updated or RESULT reports a failure. `write`: the target bank is
      programmed and reads back; `erase`: the other bank is erased. -/
  | configRewriteDone (write erase : BankOp)
  deriving DecidableEq, Repr

end Sys2Proof
end

