-- ==== Sys2Proof/Machine/RegTypes.lean ====
section
/-! DEFINITION. What a register of the register map is made of: access codes, reset values, resources, domains. -/

namespace Sys2Proof.Machine

/-- The access codes of 00 R6. -/
inductive Acc where
  | rw | ro | rl | w1c | w1s | wo | sc
  deriving DecidableEq, Repr

/-- The Reset column of a field table (00 R10): a number; a number for each variant; the factory default of a field
loaded from the configuration image (such a field is a staged field, 03 R91); one for each variant. -/
inductive Rst where
  | val (n : Nat)
  | part (n6416 n3208 : Nat)
  | cfg (n : Nat)
  | cfgPart (n6416 n3208 : Nat)
  deriving DecidableEq, Repr

/-- The resource a register instance belongs to: the first instance number counts it (00 R3, R5). -/
inductive Res where
  | all | lane | clockLane | port | event
  /-- A temperature sensor: GLB_TEMP2 and GLB_TEMP3 stand in slices S2 and S3 (02 R60). -/
  | sensor
  /-- The ports or lanes 32 to 63 that a high word is for. -/
  | high
  deriving DecidableEq, Repr

/-- The clock domain a register lives in (01 R435). -/
inductive Dom where
  | management | vbat | flash | spine | slice | laneRx | nib
  deriving DecidableEq, Repr

/-- The place of a register in a wide register (01 R25, R26): alone; the low word, with the distances to its high
words; a high word, with the distance to its low word. -/
inductive Wide where
  | single
  | low (highs : List Int)
  | high (toLow : Int)
  deriving DecidableEq, Repr

/-- One field of a register. -/
structure FieldDef where
  name : String
  lo : Nat
  width : Nat
  acc : Acc
  rst : Rst
  deriving DecidableEq, Repr

/-- One register of a block, with its instances: `dims` gives for each instance number how many there are and how far
apart they stand. -/
structure RegDef where
  name : String
  addr : Nat
  dims : List (Nat × Nat)
  res : Res
  dom : Dom
  perReq : Bool
  wide : Wide
  fields : List FieldDef
  deriving DecidableEq, Repr

/-- A field of one register instance: the key of the register word and the place of the field in it. -/
structure Fld where
  key : Nat
  lo : Nat
  width : Nat
  deriving DecidableEq, Repr

end Sys2Proof.Machine
end

