-- ==== Sys2Proof/Machine/Fields.lean ====
section
/-! DEFINITION. The places of the register fields: one name per field of the register map, REGISTER_FIELD as the spec
names it, with the instance numbers of its register as arguments. -/

namespace Sys2Proof.Machine

def GLB_ID : Nat := 0x0
def GLB_ID_PART : Fld := ⟨GLB_ID, 16, 16⟩
def GLB_ID_STEP_LETTER : Fld := ⟨GLB_ID, 12, 4⟩
def GLB_ID_STEP_DIGIT : Fld := ⟨GLB_ID, 8, 4⟩
def GLB_ID_PACKAGE : Fld := ⟨GLB_ID, 4, 4⟩
def GLB_STATUS : Nat := 0x4
def GLB_STATUS_CFG_DEFAULTED : Fld := ⟨GLB_STATUS, 8, 1⟩
def GLB_STATUS_PHASE : Fld := ⟨GLB_STATUS, 4, 3⟩
def GLB_STATUS_STATE : Fld := ⟨GLB_STATUS, 0, 3⟩
def GLB_RESET_CAUSE : Nat := 0x8
def GLB_RESET_CAUSE_COUNT : Fld := ⟨GLB_RESET_CAUSE, 16, 16⟩
def GLB_RESET_CAUSE_PREV : Fld := ⟨GLB_RESET_CAUSE, 8, 8⟩
def GLB_RESET_CAUSE_CAUSE : Fld := ⟨GLB_RESET_CAUSE, 0, 8⟩
def GLB_RESET_CTRL : Nat := 0xc
def GLB_RESET_CTRL_KEY : Fld := ⟨GLB_RESET_CTRL, 16, 16⟩
def GLB_RESET_CTRL_RESET : Fld := ⟨GLB_RESET_CTRL, 0, 1⟩
def GLB_TEMP (i : Nat) : Nat := 0x100 + 0x4 * i
def GLB_TEMP_VALID (i : Nat) : Fld := ⟨(GLB_TEMP i), 31, 1⟩
def GLB_TEMP_TEMP (i : Nat) : Fld := ⟨(GLB_TEMP i), 0, 16⟩
def GLB_TEMP_CFG : Nat := 0x130
def GLB_TEMP_CFG_HYST : Fld := ⟨GLB_TEMP_CFG, 16, 8⟩
def GLB_TEMP_CFG_ALARM_THR : Fld := ⟨GLB_TEMP_CFG, 0, 16⟩
def GLB_PWR_STATUS : Nat := 0x140
def GLB_PWR_STATUS_ILIM_SEEN : Fld := ⟨GLB_PWR_STATUS, 11, 1⟩
def GLB_PWR_STATUS_SENSOR_FAULT_SEEN : Fld := ⟨GLB_PWR_STATUS, 10, 1⟩
def GLB_PWR_STATUS_TEMP_ALARM_SEEN : Fld := ⟨GLB_PWR_STATUS, 9, 1⟩
def GLB_PWR_STATUS_OV_WARN_SEEN : Fld := ⟨GLB_PWR_STATUS, 8, 1⟩
def GLB_PWR_STATUS_SENSOR_FAULT : Fld := ⟨GLB_PWR_STATUS, 3, 1⟩
def GLB_PWR_STATUS_TEMP_ALARM : Fld := ⟨GLB_PWR_STATUS, 2, 1⟩
def GLB_PWR_STATUS_OV_WARN : Fld := ⟨GLB_PWR_STATUS, 1, 1⟩
def GLB_PWR_STATUS_VIN_OK : Fld := ⟨GLB_PWR_STATUS, 0, 1⟩
def GLB_PWR_MON : Nat := 0x144
def GLB_PWR_MON_IIN_MA : Fld := ⟨GLB_PWR_MON, 16, 16⟩
def GLB_PWR_MON_VIN_MV : Fld := ⟨GLB_PWR_MON, 0, 16⟩
def GLB_VBAT_CTRL : Nat := 0x180
def GLB_VBAT_CTRL_CHARGE_EN : Fld := ⟨GLB_VBAT_CTRL, 1, 1⟩
def GLB_VBAT_CTRL_DORMANT_OSC : Fld := ⟨GLB_VBAT_CTRL, 0, 1⟩
def GLB_VBAT_STATUS : Nat := 0x184
def GLB_VBAT_STATUS_VBAT_MV : Fld := ⟨GLB_VBAT_STATUS, 16, 12⟩
def GLB_VBAT_STATUS_LOW_SEEN : Fld := ⟨GLB_VBAT_STATUS, 4, 1⟩
def GLB_VBAT_STATUS_STORE_LOST : Fld := ⟨GLB_VBAT_STATUS, 3, 1⟩
def GLB_VBAT_STATUS_LOW : Fld := ⟨GLB_VBAT_STATUS, 1, 1⟩
def GLB_VBAT_STATUS_PRESENT : Fld := ⟨GLB_VBAT_STATUS, 0, 1⟩
def GLB_VBAT_LOG_SEL : Nat := 0x188
def GLB_VBAT_LOG_SEL_COUNT : Fld := ⟨GLB_VBAT_LOG_SEL, 8, 5⟩
def GLB_VBAT_LOG_SEL_INDEX : Fld := ⟨GLB_VBAT_LOG_SEL, 0, 4⟩
def GLB_VBAT_LOG : Nat := 0x18c
def GLB_VBAT_LOG_DETAIL : Fld := ⟨GLB_VBAT_LOG, 16, 16⟩
def GLB_VBAT_LOG_SEQ : Fld := ⟨GLB_VBAT_LOG, 8, 8⟩
def GLB_VBAT_LOG_CODE : Fld := ⟨GLB_VBAT_LOG, 0, 8⟩
def GLB_VBAT_LOG_HI : Nat := 0x190
def GLB_VBAT_LOG_HI_HI : Fld := ⟨GLB_VBAT_LOG_HI, 0, 32⟩
def GLB_XING_LANE_LO : Nat := 0x200
def GLB_XING_LANE_LO_INVALID_L31_L0 : Fld := ⟨GLB_XING_LANE_LO, 0, 32⟩
def GLB_XING_LANE_HI : Nat := 0x204
def GLB_XING_LANE_HI_INVALID_L63_L32 : Fld := ⟨GLB_XING_LANE_HI, 0, 32⟩
def GLB_XING_EVENT_LO : Nat := 0x208
def GLB_XING_EVENT_LO_ENTERED_L31_L0 : Fld := ⟨GLB_XING_EVENT_LO, 0, 32⟩
def GLB_XING_EVENT_HI : Nat := 0x20c
def GLB_XING_EVENT_HI_ENTERED_L63_L32 : Fld := ⟨GLB_XING_EVENT_HI, 0, 32⟩
def GLB_XING_DOMAIN : Nat := 0x210
def GLB_XING_DOMAIN_ENTER_CNT : Fld := ⟨GLB_XING_DOMAIN, 16, 5⟩
def GLB_XING_DOMAIN_VBAT_ENTERED : Fld := ⟨GLB_XING_DOMAIN, 12, 1⟩
def GLB_XING_DOMAIN_NIB_ENTERED : Fld := ⟨GLB_XING_DOMAIN, 11, 1⟩
def GLB_XING_DOMAIN_PEAT_ENTERED : Fld := ⟨GLB_XING_DOMAIN, 10, 1⟩
def GLB_XING_DOMAIN_HEARTH_B_ENTERED : Fld := ⟨GLB_XING_DOMAIN, 9, 1⟩
def GLB_XING_DOMAIN_HEARTH_A_ENTERED : Fld := ⟨GLB_XING_DOMAIN, 8, 1⟩
def GLB_XING_DOMAIN_LANE_ANY : Fld := ⟨GLB_XING_DOMAIN, 5, 1⟩
def GLB_XING_DOMAIN_VBAT_INVALID : Fld := ⟨GLB_XING_DOMAIN, 4, 1⟩
def GLB_XING_DOMAIN_NIB_INVALID : Fld := ⟨GLB_XING_DOMAIN, 3, 1⟩
def GLB_XING_DOMAIN_PEAT_INVALID : Fld := ⟨GLB_XING_DOMAIN, 2, 1⟩
def GLB_XING_DOMAIN_HEARTH_B_INVALID : Fld := ⟨GLB_XING_DOMAIN, 1, 1⟩
def GLB_XING_DOMAIN_HEARTH_A_INVALID : Fld := ⟨GLB_XING_DOMAIN, 0, 1⟩
def CFG_STAGE_CTRL : Nat := 0x100000
def CFG_STAGE_CTRL_OWNER : Fld := ⟨CFG_STAGE_CTRL, 20, 4⟩
def CFG_STAGE_CTRL_STATE : Fld := ⟨CFG_STAGE_CTRL, 16, 3⟩
def CFG_STAGE_CTRL_READ_SHADOW : Fld := ⟨CFG_STAGE_CTRL, 8, 1⟩
def CFG_STAGE_CTRL_TIMED : Fld := ⟨CFG_STAGE_CTRL, 5, 1⟩
def CFG_STAGE_CTRL_FORCE_LOCAL : Fld := ⟨CFG_STAGE_CTRL, 4, 1⟩
def CFG_STAGE_CTRL_ABORT : Fld := ⟨CFG_STAGE_CTRL, 3, 1⟩
def CFG_STAGE_CTRL_ARM : Fld := ⟨CFG_STAGE_CTRL, 2, 1⟩
def CFG_STAGE_CTRL_CHECK : Fld := ⟨CFG_STAGE_CTRL, 1, 1⟩
def CFG_STAGE_CTRL_OPEN : Fld := ⟨CFG_STAGE_CTRL, 0, 1⟩
def CFG_CHECK_RESULT : Nat := 0x100004
def CFG_CHECK_RESULT_FAIL_CNT : Fld := ⟨CFG_CHECK_RESULT, 16, 8⟩
def CFG_CHECK_RESULT_CODE : Fld := ⟨CFG_CHECK_RESULT, 0, 8⟩
def CFG_CHECK_ADDR : Nat := 0x100008
def CFG_CHECK_ADDR_ADDR : Fld := ⟨CFG_CHECK_ADDR, 0, 32⟩
def CFG_COMMIT_TIME_SEC_HI : Nat := 0x100010
def CFG_COMMIT_TIME_SEC_HI_SEC_HI : Fld := ⟨CFG_COMMIT_TIME_SEC_HI, 0, 16⟩
def CFG_COMMIT_TIME_SEC_LO : Nat := 0x100014
def CFG_COMMIT_TIME_SEC_LO_SEC_LO : Fld := ⟨CFG_COMMIT_TIME_SEC_LO, 0, 32⟩
def CFG_COMMIT_TIME_NS : Nat := 0x100018
def CFG_COMMIT_TIME_NS_NS : Fld := ⟨CFG_COMMIT_TIME_NS, 0, 30⟩
def CFG_COMMIT_STATUS : Nat := 0x10001c
def CFG_COMMIT_STATUS_COMMIT_CNT : Fld := ⟨CFG_COMMIT_STATUS, 16, 16⟩
def CFG_COMMIT_STATUS_LATE : Fld := ⟨CFG_COMMIT_STATUS, 11, 1⟩
def CFG_COMMIT_STATUS_SESSION_LOST : Fld := ⟨CFG_COMMIT_STATUS, 10, 1⟩
def CFG_COMMIT_STATUS_APPLIED : Fld := ⟨CFG_COMMIT_STATUS, 9, 1⟩
def CFG_COMMIT_STATUS_REFUSED : Fld := ⟨CFG_COMMIT_STATUS, 8, 1⟩
def CFG_COMMIT_STATUS_REFUSE_CODE : Fld := ⟨CFG_COMMIT_STATUS, 0, 8⟩
def CFG_ACTIVE_SEQ : Nat := 0x100020
def CFG_ACTIVE_SEQ_SEQ : Fld := ⟨CFG_ACTIVE_SEQ, 0, 32⟩
def CFG_BANK_STATUS : Nat := 0x100024
def CFG_BANK_STATUS_DIRTY : Fld := ⟨CFG_BANK_STATUS, 24, 1⟩
def CFG_BANK_STATUS_LOADED_BANK : Fld := ⟨CFG_BANK_STATUS, 16, 1⟩
def CFG_BANK_STATUS_BANK1 : Fld := ⟨CFG_BANK_STATUS, 4, 4⟩
def CFG_BANK_STATUS_BANK0 : Fld := ⟨CFG_BANK_STATUS, 0, 4⟩
def CFG_BANK_SEQ (i : Nat) : Nat := 0x100028 + 0x4 * i
def CFG_BANK_SEQ_SEQ (i : Nat) : Fld := ⟨(CFG_BANK_SEQ i), 0, 32⟩
def CFG_PERSIST : Nat := 0x100030
def CFG_PERSIST_RESULT : Fld := ⟨CFG_PERSIST, 16, 8⟩
def CFG_PERSIST_SNAPSHOT_STALE : Fld := ⟨CFG_PERSIST, 2, 1⟩
def CFG_PERSIST_DONE : Fld := ⟨CFG_PERSIST, 1, 1⟩
def CFG_PERSIST_START : Fld := ⟨CFG_PERSIST, 0, 1⟩
def LANE_CTRL (i : Nat) : Nat := 0x200000 + 0x1000 * i
def LANE_CTRL_RX_INV (i : Nat) : Fld := ⟨(LANE_CTRL i), 9, 1⟩
def LANE_CTRL_TX_INV (i : Nat) : Fld := ⟨(LANE_CTRL i), 8, 1⟩
def LANE_CTRL_RATE (i : Nat) : Fld := ⟨(LANE_CTRL i), 4, 2⟩
def LANE_CTRL_ENABLE (i : Nat) : Fld := ⟨(LANE_CTRL i), 0, 1⟩
def LANE_STATUS (i : Nat) : Nat := 0x200004 + 0x1000 * i
def LANE_STATUS_FREQ_OFS (i : Nat) : Fld := ⟨(LANE_STATUS i), 16, 16⟩
def LANE_STATUS_LINK_DOWN_SEEN (i : Nat) : Fld := ⟨(LANE_STATUS i), 15, 1⟩
def LANE_STATUS_LOS_SEEN (i : Nat) : Fld := ⟨(LANE_STATUS i), 14, 1⟩
def LANE_STATUS_CROSSING_INVALID (i : Nat) : Fld := ⟨(LANE_STATUS i), 11, 1⟩
def LANE_STATUS_HI_BER (i : Nat) : Fld := ⟨(LANE_STATUS i), 10, 1⟩
def LANE_STATUS_BLOCK_LOCK (i : Nat) : Fld := ⟨(LANE_STATUS i), 9, 1⟩
def LANE_STATUS_CDR_LOCK (i : Nat) : Fld := ⟨(LANE_STATUS i), 8, 1⟩
def LANE_STATUS_SIGNAL (i : Nat) : Fld := ⟨(LANE_STATUS i), 7, 1⟩
def LANE_STATUS_RATE_FOUND (i : Nat) : Fld := ⟨(LANE_STATUS i), 4, 2⟩
def LANE_STATUS_LSTATE (i : Nat) : Fld := ⟨(LANE_STATUS i), 0, 3⟩
def LANE_EQ (i : Nat) : Nat := 0x200008 + 0x1000 * i
def LANE_EQ_TX_AMP (i : Nat) : Fld := ⟨(LANE_EQ i), 24, 4⟩
def LANE_EQ_TX_PRE (i : Nat) : Fld := ⟨(LANE_EQ i), 20, 4⟩
def LANE_EQ_TX_POST (i : Nat) : Fld := ⟨(LANE_EQ i), 16, 4⟩
def LANE_EQ_RX_ADAPT (i : Nat) : Fld := ⟨(LANE_EQ i), 8, 1⟩
def LANE_EQ_RX_CTLE (i : Nat) : Fld := ⟨(LANE_EQ i), 0, 4⟩
def LANE_PRBS_CTRL (i : Nat) : Nat := 0x20000c + 0x1000 * i
def LANE_PRBS_CTRL_LOCK_LOST_SEEN (i : Nat) : Fld := ⟨(LANE_PRBS_CTRL i), 15, 1⟩
def LANE_PRBS_CTRL_LOCK (i : Nat) : Fld := ⟨(LANE_PRBS_CTRL i), 14, 1⟩
def LANE_PRBS_CTRL_CLR (i : Nat) : Fld := ⟨(LANE_PRBS_CTRL i), 8, 1⟩
def LANE_PRBS_CTRL_INV (i : Nat) : Fld := ⟨(LANE_PRBS_CTRL i), 7, 1⟩
def LANE_PRBS_CTRL_PATTERN (i : Nat) : Fld := ⟨(LANE_PRBS_CTRL i), 4, 3⟩
def LANE_PRBS_CTRL_RX_EN (i : Nat) : Fld := ⟨(LANE_PRBS_CTRL i), 1, 1⟩
def LANE_PRBS_CTRL_TX_EN (i : Nat) : Fld := ⟨(LANE_PRBS_CTRL i), 0, 1⟩
def LANE_PRBS_ERRCNT (i : Nat) : Nat := 0x200010 + 0x1000 * i
def LANE_PRBS_ERRCNT_ERRCNT (i : Nat) : Fld := ⟨(LANE_PRBS_ERRCNT i), 0, 32⟩
def LANE_ERR_INJECT (i : Nat) : Nat := 0x200014 + 0x1000 * i
def LANE_ERR_INJECT_GO (i : Nat) : Fld := ⟨(LANE_ERR_INJECT i), 31, 1⟩
def LANE_ERR_INJECT_LEN (i : Nat) : Fld := ⟨(LANE_ERR_INJECT i), 16, 7⟩
def LANE_ERR_INJECT_INJ_CNT (i : Nat) : Fld := ⟨(LANE_ERR_INJECT i), 0, 16⟩
def LANE_PRBS_USER_LO (i : Nat) : Nat := 0x200018 + 0x1000 * i
def LANE_PRBS_USER_LO_PATTERN (i : Nat) : Fld := ⟨(LANE_PRBS_USER_LO i), 0, 32⟩
def LANE_PRBS_USER_HI (i : Nat) : Nat := 0x20001c + 0x1000 * i
def LANE_PRBS_USER_HI_PATTERN (i : Nat) : Fld := ⟨(LANE_PRBS_USER_HI i), 0, 32⟩
def LANE_CMD (i : Nat) : Nat := 0x200020 + 0x1000 * i
def LANE_CMD_RESTART (i : Nat) : Fld := ⟨(LANE_CMD i), 0, 1⟩
def CLKL_CTRL (i : Nat) : Nat := 0x280000 + 0x1000 * i
def CLKL_CTRL_TX_AMP (i : Nat) : Fld := ⟨(CLKL_CTRL i), 16, 4⟩
def CLKL_CTRL_RETRY_MS (i : Nat) : Fld := ⟨(CLKL_CTRL i), 8, 8⟩
def CLKL_CTRL_RX_INV (i : Nat) : Fld := ⟨(CLKL_CTRL i), 3, 1⟩
def CLKL_CTRL_TX_INV (i : Nat) : Fld := ⟨(CLKL_CTRL i), 2, 1⟩
def CLKL_CTRL_MANUAL (i : Nat) : Fld := ⟨(CLKL_CTRL i), 1, 1⟩
def CLKL_CTRL_ENABLE (i : Nat) : Fld := ⟨(CLKL_CTRL i), 0, 1⟩
def CLKL_SLIP (i : Nat) : Nat := 0x280004 + 0x1000 * i
def CLKL_SLIP_POS (i : Nat) : Fld := ⟨(CLKL_SLIP i), 8, 4⟩
def CLKL_SLIP_CONFIRM (i : Nat) : Fld := ⟨(CLKL_SLIP i), 1, 1⟩
def CLKL_SLIP_SLIP (i : Nat) : Fld := ⟨(CLKL_SLIP i), 0, 1⟩
def CLKL_ALIGN_STATUS (i : Nat) : Nat := 0x280008 + 0x1000 * i
def CLKL_ALIGN_STATUS_COMMA_CNT (i : Nat) : Fld := ⟨(CLKL_ALIGN_STATUS i), 21, 11⟩
def CLKL_ALIGN_STATUS_CODE_ERR (i : Nat) : Fld := ⟨(CLKL_ALIGN_STATUS i), 11, 10⟩
def CLKL_ALIGN_STATUS_WIN_SEQ (i : Nat) : Fld := ⟨(CLKL_ALIGN_STATUS i), 7, 4⟩
def CLKL_ALIGN_STATUS_SEARCH_FAIL_SEEN (i : Nat) : Fld := ⟨(CLKL_ALIGN_STATUS i), 6, 1⟩
def CLKL_ALIGN_STATUS_ALIGN_LOST_SEEN (i : Nat) : Fld := ⟨(CLKL_ALIGN_STATUS i), 5, 1⟩
def CLKL_ALIGN_STATUS_ALIGNED (i : Nat) : Fld := ⟨(CLKL_ALIGN_STATUS i), 3, 1⟩
def CLKL_ALIGN_STATUS_RX_LOCK (i : Nat) : Fld := ⟨(CLKL_ALIGN_STATUS i), 2, 1⟩
def CLKL_ALIGN_STATUS_SIGNAL (i : Nat) : Fld := ⟨(CLKL_ALIGN_STATUS i), 1, 1⟩
def CLKL_PRBS_CTRL (i : Nat) : Nat := 0x28000c + 0x1000 * i
def CLKL_PRBS_CTRL_INJ_GO (i : Nat) : Fld := ⟨(CLKL_PRBS_CTRL i), 31, 1⟩
def CLKL_PRBS_CTRL_INJ_LEN (i : Nat) : Fld := ⟨(CLKL_PRBS_CTRL i), 24, 7⟩
def CLKL_PRBS_CTRL_LOCK_LOST_SEEN (i : Nat) : Fld := ⟨(CLKL_PRBS_CTRL i), 15, 1⟩
def CLKL_PRBS_CTRL_LOCK (i : Nat) : Fld := ⟨(CLKL_PRBS_CTRL i), 14, 1⟩
def CLKL_PRBS_CTRL_CLR (i : Nat) : Fld := ⟨(CLKL_PRBS_CTRL i), 8, 1⟩
def CLKL_PRBS_CTRL_INV (i : Nat) : Fld := ⟨(CLKL_PRBS_CTRL i), 7, 1⟩
def CLKL_PRBS_CTRL_PATTERN (i : Nat) : Fld := ⟨(CLKL_PRBS_CTRL i), 4, 3⟩
def CLKL_PRBS_CTRL_RX_EN (i : Nat) : Fld := ⟨(CLKL_PRBS_CTRL i), 1, 1⟩
def CLKL_PRBS_CTRL_TX_EN (i : Nat) : Fld := ⟨(CLKL_PRBS_CTRL i), 0, 1⟩
def CLKL_PRBS_ERRCNT (i : Nat) : Nat := 0x280010 + 0x1000 * i
def CLKL_PRBS_ERRCNT_ERRCNT (i : Nat) : Fld := ⟨(CLKL_PRBS_ERRCNT i), 0, 32⟩
def CLKL_PRBS_USER_LO (i : Nat) : Nat := 0x280014 + 0x1000 * i
def CLKL_PRBS_USER_LO_PATTERN (i : Nat) : Fld := ⟨(CLKL_PRBS_USER_LO i), 0, 32⟩
def CLKL_PRBS_USER_HI (i : Nat) : Nat := 0x280018 + 0x1000 * i
def CLKL_PRBS_USER_HI_PATTERN (i : Nat) : Fld := ⟨(CLKL_PRBS_USER_HI i), 0, 32⟩
def PORT_MODE (i : Nat) : Nat := 0x300000 + 0x1000 * i
def PORT_MODE_AN37 (i : Nat) : Fld := ⟨(PORT_MODE i), 8, 1⟩
def PORT_MODE_FEC (i : Nat) : Fld := ⟨(PORT_MODE i), 4, 2⟩
def PORT_MODE_GROUP4 (i : Nat) : Fld := ⟨(PORT_MODE i), 1, 1⟩
def PORT_MODE_ENABLE (i : Nat) : Fld := ⟨(PORT_MODE i), 0, 1⟩
def PORT_FWD_MODE (i : Nat) : Nat := 0x300004 + 0x1000 * i
def PORT_FWD_MODE_PVID (i : Nat) : Fld := ⟨(PORT_FWD_MODE i), 20, 12⟩
def PORT_FWD_MODE_ACCEPT (i : Nat) : Fld := ⟨(PORT_FWD_MODE i), 18, 2⟩
def PORT_FWD_MODE_INGRESS_FILTER (i : Nat) : Fld := ⟨(PORT_FWD_MODE i), 17, 1⟩
def PORT_FWD_MODE_CT_SOURCE (i : Nat) : Fld := ⟨(PORT_FWD_MODE i), 16, 1⟩
def PORT_FWD_MODE_DEF_PCP (i : Nat) : Fld := ⟨(PORT_FWD_MODE i), 12, 3⟩
def PORT_FWD_MODE_CT (i : Nat) : Fld := ⟨(PORT_FWD_MODE i), 0, 10⟩
def PORT_STATUS (i : Nat) : Nat := 0x300008 + 0x1000 * i
def PORT_STATUS_DOWN_CNT (i : Nat) : Fld := ⟨(PORT_STATUS i), 24, 8⟩
def PORT_STATUS_CAGE_INT (i : Nat) : Fld := ⟨(PORT_STATUS i), 18, 1⟩
def PORT_STATUS_TRUNK_LOST_SEEN (i : Nat) : Fld := ⟨(PORT_STATUS i), 17, 1⟩
def PORT_STATUS_LINK_DOWN_SEEN (i : Nat) : Fld := ⟨(PORT_STATUS i), 16, 1⟩
def PORT_STATUS_DESKEW_OK (i : Nat) : Fld := ⟨(PORT_STATUS i), 11, 1⟩
def PORT_STATUS_AN_DONE (i : Nat) : Fld := ⟨(PORT_STATUS i), 10, 1⟩
def PORT_STATUS_RF (i : Nat) : Fld := ⟨(PORT_STATUS i), 9, 1⟩
def PORT_STATUS_LF (i : Nat) : Fld := ⟨(PORT_STATUS i), 8, 1⟩
def PORT_STATUS_TYPE (i : Nat) : Fld := ⟨(PORT_STATUS i), 4, 3⟩
def PORT_STATUS_FEC_ACTIVE (i : Nat) : Fld := ⟨(PORT_STATUS i), 2, 2⟩
def PORT_STATUS_LINK (i : Nat) : Fld := ⟨(PORT_STATUS i), 0, 1⟩
def PORT_TRUNK (i : Nat) : Nat := 0x30000c + 0x4000 * i
def PORT_TRUNK_IS_TRUNK (i : Nat) : Fld := ⟨(PORT_TRUNK i), 16, 1⟩
def PORT_TRUNK_REQUIRED (i : Nat) : Fld := ⟨(PORT_TRUNK i), 0, 1⟩
def FWD_TBL_CMD (q : Nat) : Nat := 0x400000 + 0x100000000 * (q + 1)
def FWD_TBL_CMD_GO (q : Nat) : Fld := ⟨(FWD_TBL_CMD q), 31, 1⟩
def FWD_TBL_CMD_RESULT (q : Nat) : Fld := ⟨(FWD_TBL_CMD q), 24, 4⟩
def FWD_TBL_CMD_OP (q : Nat) : Fld := ⟨(FWD_TBL_CMD q), 16, 4⟩
def FWD_TBL_CMD_TABLE (q : Nat) : Fld := ⟨(FWD_TBL_CMD q), 0, 4⟩
def FWD_TBL_ADDR (q : Nat) : Nat := 0x400004 + 0x100000000 * (q + 1)
def FWD_TBL_ADDR_INDEX (q : Nat) : Fld := ⟨(FWD_TBL_ADDR q), 0, 18⟩
def FWD_TBL_DATA (q : Nat) (i : Nat) : Nat := 0x400010 + 0x4 * i + 0x100000000 * (q + 1)
def FWD_TBL_DATA_DATA (q : Nat) (i : Nat) : Fld := ⟨(FWD_TBL_DATA q i), 0, 32⟩
def FWD_EPOCH : Nat := 0x400040
def FWD_EPOCH_DRAINING : Fld := ⟨FWD_EPOCH, 16, 1⟩
def FWD_EPOCH_EPOCH : Fld := ⟨FWD_EPOCH, 0, 16⟩
def FWD_HASH_CFG : Nat := 0x400044
def FWD_HASH_CFG_SEED : Fld := ⟨FWD_HASH_CFG, 16, 16⟩
def FWD_HASH_CFG_FIELDS : Fld := ⟨FWD_HASH_CFG, 0, 11⟩
def FWD_LEARN_CFG : Nat := 0x400048
def FWD_LEARN_CFG_MOVE_EN : Fld := ⟨FWD_LEARN_CFG, 16, 1⟩
def FWD_LEARN_CFG_AGE_S : Fld := ⟨FWD_LEARN_CFG, 0, 16⟩
def FWD_LEARN_CMD : Nat := 0x40004c
def FWD_LEARN_CMD_FLUSH : Fld := ⟨FWD_LEARN_CMD, 31, 1⟩
def FWD_LEARN_CMD_PORT_ONLY : Fld := ⟨FWD_LEARN_CMD, 30, 1⟩
def FWD_LEARN_CMD_PORT : Fld := ⟨FWD_LEARN_CMD, 0, 6⟩
def FWD_LEARN_STATUS : Nat := 0x400050
def FWD_LEARN_STATUS_LEARN_LOST : Fld := ⟨FWD_LEARN_STATUS, 16, 16⟩
def FWD_LEARN_STATUS_LOST_SEEN : Fld := ⟨FWD_LEARN_STATUS, 1, 1⟩
def FWD_MC_CFG : Nat := 0x400054
def FWD_MC_CFG_RESIDUE_US : Fld := ⟨FWD_MC_CFG, 0, 16⟩
def FWD_MC_STATUS : Nat := 0x400058
def FWD_MC_STATUS_FULL_SEEN : Fld := ⟨FWD_MC_STATUS, 16, 1⟩
def FWD_MC_STATUS_PENDING : Fld := ⟨FWD_MC_STATUS, 0, 15⟩
def FWD_BLOT_CNT (i : Nat) : Nat := 0x401000 + 0x10 * i
def FWD_BLOT_CNT_IN (i : Nat) : Fld := ⟨(FWD_BLOT_CNT i), 0, 32⟩
def FWD_BLOT_OUT_CNT (i : Nat) : Nat := 0x401004 + 0x10 * i
def FWD_BLOT_OUT_CNT_OUT (i : Nat) : Fld := ⟨(FWD_BLOT_OUT_CNT i), 0, 32⟩
def FWD_BLOT_CAUSE (i : Nat) : Nat := 0x401008 + 0x10 * i
def FWD_BLOT_CAUSE_MEM (i : Nat) : Fld := ⟨(FWD_BLOT_CAUSE i), 7, 1⟩
def FWD_BLOT_CAUSE_QUILL (i : Nat) : Fld := ⟨(FWD_BLOT_CAUSE i), 6, 1⟩
def FWD_BLOT_CAUSE_OVERSIZE (i : Nat) : Fld := ⟨(FWD_BLOT_CAUSE i), 5, 1⟩
def FWD_BLOT_CAUSE_POLICE (i : Nat) : Fld := ⟨(FWD_BLOT_CAUSE i), 4, 1⟩
def FWD_BLOT_CAUSE_TRUNC (i : Nat) : Fld := ⟨(FWD_BLOT_CAUSE i), 3, 1⟩
def FWD_BLOT_CAUSE_RX_ERR (i : Nat) : Fld := ⟨(FWD_BLOT_CAUSE i), 2, 1⟩
def FWD_BLOT_CAUSE_FCS (i : Nat) : Fld := ⟨(FWD_BLOT_CAUSE i), 1, 1⟩
def FWD_RESIDUE_DROP (i : Nat) : Nat := 0x40100c + 0x10 * i
def FWD_RESIDUE_DROP_BAD (i : Nat) : Fld := ⟨(FWD_RESIDUE_DROP i), 16, 16⟩
def FWD_RESIDUE_DROP_TIMEOUT (i : Nat) : Fld := ⟨(FWD_RESIDUE_DROP i), 0, 16⟩
def QW_TBL_CMD (q : Nat) : Nat := 0x500000 + 0x100000000 * (q + 1)
def QW_TBL_CMD_GO (q : Nat) : Fld := ⟨(QW_TBL_CMD q), 31, 1⟩
def QW_TBL_CMD_OP (q : Nat) : Fld := ⟨(QW_TBL_CMD q), 16, 4⟩
def QW_TBL_CMD_INACTIVE (q : Nat) : Fld := ⟨(QW_TBL_CMD q), 8, 1⟩
def QW_TBL_SEL (q : Nat) : Nat := 0x500004 + 0x100000000 * (q + 1)
def QW_TBL_SEL_PORT (q : Nat) : Fld := ⟨(QW_TBL_SEL q), 16, 6⟩
def QW_TBL_SEL_INDEX (q : Nat) : Fld := ⟨(QW_TBL_SEL q), 0, 10⟩
def QW_TBL_DATA (q : Nat) (i : Nat) : Nat := 0x500010 + 0x4 * i + 0x100000000 * (q + 1)
def QW_TBL_DATA_DATA (q : Nat) (i : Nat) : Fld := ⟨(QW_TBL_DATA q i), 0, 32⟩
def QW_PORT_CFG (i : Nat) : Nat := 0x501000 + 0x20 * i
def QW_PORT_CFG_PHASE_SRC (i : Nat) : Fld := ⟨(QW_PORT_CFG i), 8, 6⟩
def QW_PORT_CFG_SRC_EN (i : Nat) : Fld := ⟨(QW_PORT_CFG i), 3, 1⟩
def QW_PORT_CFG_LOOP_TIMED (i : Nat) : Fld := ⟨(QW_PORT_CFG i), 2, 1⟩
def QW_PORT_CFG_MINIMUM (i : Nat) : Fld := ⟨(QW_PORT_CFG i), 1, 1⟩
def QW_PORT_CFG_ENABLE (i : Nat) : Fld := ⟨(QW_PORT_CFG i), 0, 1⟩
def QW_CYCLE_NS (i : Nat) : Nat := 0x501004 + 0x20 * i
def QW_CYCLE_NS_CYCLE_NS (i : Nat) : Fld := ⟨(QW_CYCLE_NS i), 0, 30⟩
def QW_GUARD (i : Nat) : Nat := 0x501008 + 0x20 * i
def QW_GUARD_POST_NS (i : Nat) : Fld := ⟨(QW_GUARD i), 16, 16⟩
def QW_GUARD_PRE_NS (i : Nat) : Fld := ⟨(QW_GUARD i), 0, 16⟩
def QW_ACTIVE_BANK (i : Nat) : Nat := 0x50100c + 0x20 * i
def QW_ACTIVE_BANK_SWAP_CNT (i : Nat) : Fld := ⟨(QW_ACTIVE_BANK i), 16, 16⟩
def QW_ACTIVE_BANK_SWAPPED_SEEN (i : Nat) : Fld := ⟨(QW_ACTIVE_BANK i), 2, 1⟩
def QW_ACTIVE_BANK_PENDING (i : Nat) : Fld := ⟨(QW_ACTIVE_BANK i), 1, 1⟩
def QW_ACTIVE_BANK_BANK (i : Nat) : Fld := ⟨(QW_ACTIVE_BANK i), 0, 1⟩
def QW_STATUS (i : Nat) : Nat := 0x501010 + 0x20 * i
def QW_STATUS_MISS_CNT (i : Nat) : Fld := ⟨(QW_STATUS i), 16, 16⟩
def QW_STATUS_DRIFT_SEEN (i : Nat) : Fld := ⟨(QW_STATUS i), 10, 1⟩
def QW_STATUS_CLOSED_SEEN (i : Nat) : Fld := ⟨(QW_STATUS i), 9, 1⟩
def QW_STATUS_MISS_SEEN (i : Nat) : Fld := ⟨(QW_STATUS i), 8, 1⟩
def QW_STATUS_SUSP_TAKEOVER (i : Nat) : Fld := ⟨(QW_STATUS i), 4, 1⟩
def QW_STATUS_SYNT_OK (i : Nat) : Fld := ⟨(QW_STATUS i), 3, 1⟩
def QW_STATUS_STEER_LOCK (i : Nat) : Fld := ⟨(QW_STATUS i), 2, 1⟩
def QW_STATUS_STEERING (i : Nat) : Fld := ⟨(QW_STATUS i), 1, 1⟩
def QW_STATUS_OPEN (i : Nat) : Fld := ⟨(QW_STATUS i), 0, 1⟩
def QW_LAT (i : Nat) : Nat := 0x501014 + 0x20 * i
def QW_LAT_VALID (i : Nat) : Fld := ⟨(QW_LAT i), 31, 1⟩
def QW_LAT_CONST (i : Nat) : Fld := ⟨(QW_LAT i), 30, 1⟩
def QW_LAT_STALE (i : Nat) : Fld := ⟨(QW_LAT i), 29, 1⟩
def QW_LAT_INDEX (i : Nat) : Fld := ⟨(QW_LAT i), 16, 10⟩
def QW_LAT_LAT_PS (i : Nat) : Fld := ⟨(QW_LAT i), 0, 14⟩
def QW_MISMATCH_CNT (i : Nat) : Nat := 0x501018 + 0x20 * i
def QW_MISMATCH_CNT_MISMATCH (i : Nat) : Fld := ⟨(QW_MISMATCH_CNT i), 0, 32⟩
def QW_PHASE (i : Nat) : Nat := 0x50101c + 0x20 * i
def QW_PHASE_TX_PHASE_PS (i : Nat) : Fld := ⟨(QW_PHASE i), 16, 13⟩
def QW_PHASE_REQ_PS (i : Nat) : Fld := ⟨(QW_PHASE i), 0, 13⟩
def BUF_POOL_CFG0 : Nat := 0x600000
def BUF_POOL_CFG0_RUN_SIZE : Fld := ⟨BUF_POOL_CFG0, 16, 10⟩
def BUF_POOL_CFG0_SIZE : Fld := ⟨BUF_POOL_CFG0, 0, 10⟩
def BUF_POOL_CFG1 : Nat := 0x600004
def BUF_POOL_CFG1_RUN_SIZE : Fld := ⟨BUF_POOL_CFG1, 16, 10⟩
def BUF_POOL_CFG1_SIZE : Fld := ⟨BUF_POOL_CFG1, 0, 10⟩
def BUF_POOL_CFG2 : Nat := 0x600008
def BUF_POOL_CFG2_RUN_SIZE : Fld := ⟨BUF_POOL_CFG2, 16, 10⟩
def BUF_POOL_CFG2_SIZE : Fld := ⟨BUF_POOL_CFG2, 0, 10⟩
def BUF_POOL_CFG3 : Nat := 0x60000c
def BUF_POOL_CFG3_RUN_SIZE : Fld := ⟨BUF_POOL_CFG3, 16, 10⟩
def BUF_POOL_CFG3_SIZE : Fld := ⟨BUF_POOL_CFG3, 0, 10⟩
def BUF_POOL_FREE (i : Nat) : Nat := 0x600010 + 0x4 * i
def BUF_POOL_FREE_REBUILD (i : Nat) : Fld := ⟨(BUF_POOL_FREE i), 31, 1⟩
def BUF_POOL_FREE_FREE (i : Nat) : Fld := ⟨(BUF_POOL_FREE i), 0, 19⟩
def BUF_POOL_FAIL (i : Nat) : Nat := 0x600020 + 0x4 * i
def BUF_POOL_FAIL_FAIL (i : Nat) : Fld := ⟨(BUF_POOL_FAIL i), 0, 32⟩
def BUF_DT_K : Nat := 0x600030
def BUF_DT_K_K : Fld := ⟨BUF_DT_K, 0, 32⟩
def BUF_DT_K_SYS : Nat := 0x600034
def BUF_DT_K_SYS_K_MGMT : Fld := ⟨BUF_DT_K_SYS, 4, 4⟩
def BUF_DT_K_SYS_K_TIME : Fld := ⟨BUF_DT_K_SYS, 0, 4⟩
def BUF_CFG : Nat := 0x600038
def BUF_CFG_LINK_FLUSH_MS : Fld := ⟨BUF_CFG, 0, 16⟩
def BUF_PEAT_CFG : Nat := 0x600040
def BUF_PEAT_CFG_ENABLE : Fld := ⟨BUF_PEAT_CFG, 0, 1⟩
def BUF_PEAT_STATUS : Nat := 0x600044
def BUF_PEAT_STATUS_USED_MIB : Fld := ⟨BUF_PEAT_STATUS, 16, 14⟩
def BUF_PEAT_STATUS_READY : Fld := ⟨BUF_PEAT_STATUS, 15, 1⟩
def BUF_PEAT_STATUS_LOST_SEEN : Fld := ⟨BUF_PEAT_STATUS, 2, 1⟩
def BUF_PEAT_STATUS_PEND_FULL_SEEN : Fld := ⟨BUF_PEAT_STATUS, 1, 1⟩
def BUF_PEAT_STATUS_FULL_SEEN : Fld := ⟨BUF_PEAT_STATUS, 0, 1⟩
def BUF_PEAT_CMD : Nat := 0x600048
def BUF_PEAT_CMD_RESTART : Fld := ⟨BUF_PEAT_CMD, 0, 1⟩
def BUF_ECC : Nat := 0x60004c
def BUF_ECC_INK_CORR : Fld := ⟨BUF_ECC, 16, 16⟩
def BUF_ECC_INK_UNCORR : Fld := ⟨BUF_ECC, 10, 6⟩
def BUF_ECC_PEAT_UNCORR : Fld := ⟨BUF_ECC, 4, 6⟩
def BUF_ECC_PEAT_UNCORR_SEEN : Fld := ⟨BUF_ECC, 2, 1⟩
def BUF_ECC_INK_UNCORR_SEEN : Fld := ⟨BUF_ECC, 1, 1⟩
def BUF_ECC_CORR_SEEN : Fld := ⟨BUF_ECC, 0, 1⟩
def BUF_QUOTA (i j : Nat) : Nat := 0x610000 + 0x400 * i + 0x40 * j
def BUF_QUOTA_QUOTA (i j : Nat) : Fld := ⟨(BUF_QUOTA i j), 0, 27⟩
def BUF_SPILL (i j : Nat) : Nat := 0x610004 + 0x400 * i + 0x40 * j
def BUF_SPILL_EN (i j : Nat) : Fld := ⟨(BUF_SPILL i j), 31, 1⟩
def BUF_SPILL_MARK (i j : Nat) : Fld := ⟨(BUF_SPILL i j), 0, 19⟩
def BUF_SCHED (i j : Nat) : Nat := 0x610008 + 0x400 * i + 0x40 * j
def BUF_SCHED_WEIGHT (i j : Nat) : Fld := ⟨(BUF_SCHED i j), 8, 8⟩
def BUF_SCHED_ALG (i j : Nat) : Fld := ⟨(BUF_SCHED i j), 0, 2⟩
def BUF_CBS_IDLE (i j : Nat) : Nat := 0x61000c + 0x400 * i + 0x40 * j
def BUF_CBS_IDLE_IDLE_KBPS (i j : Nat) : Fld := ⟨(BUF_CBS_IDLE i j), 0, 32⟩
def BUF_Q_OCC_ON (i j : Nat) : Nat := 0x610010 + 0x400 * i + 0x40 * j
def BUF_Q_OCC_ON_O_ON (i j : Nat) : Fld := ⟨(BUF_Q_OCC_ON i j), 0, 19⟩
def BUF_Q_OCC_PEAT (i j : Nat) : Nat := 0x610014 + 0x400 * i + 0x40 * j
def BUF_Q_OCC_PEAT_SPILLING (i j : Nat) : Fld := ⟨(BUF_Q_OCC_PEAT i j), 31, 1⟩
def BUF_Q_OCC_PEAT_O_PEAT (i j : Nat) : Fld := ⟨(BUF_Q_OCC_PEAT i j), 0, 27⟩
def BUF_Q_DROP (i j : Nat) : Nat := 0x610018 + 0x400 * i + 0x40 * j
def BUF_Q_DROP_DROP (i j : Nat) : Fld := ⟨(BUF_Q_DROP i j), 0, 32⟩
def BUF_Q_DROP_CAUSE (i j : Nat) : Nat := 0x61001c + 0x400 * i + 0x40 * j
def BUF_Q_DROP_CAUSE_CAUSE (i j : Nat) : Fld := ⟨(BUF_Q_DROP_CAUSE i j), 0, 8⟩
def BUF_GATE_CFG (i : Nat) : Nat := 0x620000 + 0x40 * i
def BUF_GATE_CFG_ENABLE (i : Nat) : Fld := ⟨(BUF_GATE_CFG i), 0, 1⟩
def BUF_GATE_CYCLE_NS (i : Nat) : Nat := 0x620004 + 0x40 * i
def BUF_GATE_CYCLE_NS_CYCLE_NS (i : Nat) : Fld := ⟨(BUF_GATE_CYCLE_NS i), 0, 30⟩
def BUF_GATE_PHASE_NS (i : Nat) : Nat := 0x620008 + 0x40 * i
def BUF_GATE_PHASE_NS_PHASE_NS (i : Nat) : Fld := ⟨(BUF_GATE_PHASE_NS i), 0, 30⟩
def BUF_GATE_STATUS (i : Nat) : Nat := 0x62000c + 0x40 * i
def BUF_GATE_STATUS_ENTRY (i : Nat) : Fld := ⟨(BUF_GATE_STATUS i), 24, 8⟩
def BUF_GATE_STATUS_SWAPPED_SEEN (i : Nat) : Fld := ⟨(BUF_GATE_STATUS i), 17, 1⟩
def BUF_GATE_STATUS_PENDING (i : Nat) : Fld := ⟨(BUF_GATE_STATUS i), 16, 1⟩
def BUF_GATE_STATUS_GATES (i : Nat) : Fld := ⟨(BUF_GATE_STATUS i), 0, 10⟩
def BUF_GCL_STATE (i j : Nat) : Nat := 0x640000 + 0x800 * i + 0x8 * j
def BUF_GCL_STATE_VALID (i j : Nat) : Fld := ⟨(BUF_GCL_STATE i j), 31, 1⟩
def BUF_GCL_STATE_GATES (i j : Nat) : Fld := ⟨(BUF_GCL_STATE i j), 0, 10⟩
def BUF_GCL_INTERVAL (i j : Nat) : Nat := 0x640004 + 0x800 * i + 0x8 * j
def BUF_GCL_INTERVAL_INTERVAL_NS (i j : Nat) : Fld := ⟨(BUF_GCL_INTERVAL i j), 0, 30⟩
def TIME_SEC_HI : Nat := 0x700000
def TIME_SEC_HI_SEC_HI : Fld := ⟨TIME_SEC_HI, 0, 16⟩
def TIME_SEC_LO : Nat := 0x700004
def TIME_SEC_LO_SEC_LO : Fld := ⟨TIME_SEC_LO, 0, 32⟩
def TIME_NS : Nat := 0x700008
def TIME_NS_NS : Fld := ⟨TIME_NS, 0, 30⟩
def TIME_FRAC : Nat := 0x70000c
def TIME_FRAC_FRAC : Fld := ⟨TIME_FRAC, 0, 16⟩
def TIME_RATE_HI : Nat := 0x700010
def TIME_RATE_HI_RATE_HI : Fld := ⟨TIME_RATE_HI, 0, 16⟩
def TIME_RATE : Nat := 0x700014
def TIME_RATE_RATE_LO : Fld := ⟨TIME_RATE, 0, 32⟩
def TIME_STEP_SEC_HI : Nat := 0x700018
def TIME_STEP_SEC_HI_SEC_HI : Fld := ⟨TIME_STEP_SEC_HI, 0, 16⟩
def TIME_STEP_SEC_LO : Nat := 0x70001c
def TIME_STEP_SEC_LO_SEC_LO : Fld := ⟨TIME_STEP_SEC_LO, 0, 32⟩
def TIME_STEP_NS : Nat := 0x700020
def TIME_STEP_NS_NS : Fld := ⟨TIME_STEP_NS, 0, 30⟩
def TIME_STEP : Nat := 0x700024
def TIME_STEP_GO : Fld := ⟨TIME_STEP, 31, 1⟩
def TIME_STEP_ERR_SEEN : Fld := ⟨TIME_STEP, 8, 1⟩
def TIME_STEP_MODE : Fld := ⟨TIME_STEP, 0, 2⟩
def TIME_SLEW : Nat := 0x700028
def TIME_SLEW_AMOUNT : Fld := ⟨TIME_SLEW, 0, 32⟩
def TIME_SLEW_CFG : Nat := 0x70002c
def TIME_SLEW_CFG_SLOPE : Fld := ⟨TIME_SLEW_CFG, 0, 17⟩
def TIME_SLEW_REMAIN : Nat := 0x700030
def TIME_SLEW_REMAIN_REMAIN : Fld := ⟨TIME_SLEW_REMAIN, 0, 32⟩
def TIME_STATE : Nat := 0x700034
def TIME_STATE_STEP_CNT : Fld := ⟨TIME_STATE, 16, 16⟩
def TIME_STATE_STATE_CHG_SEEN : Fld := ⟨TIME_STATE, 11, 1⟩
def TIME_STATE_RATE_CLAMP_SEEN : Fld := ⟨TIME_STATE, 10, 1⟩
def TIME_STATE_STEP_SEEN : Fld := ⟨TIME_STATE, 9, 1⟩
def TIME_STATE_INST : Fld := ⟨TIME_STATE, 4, 3⟩
def TIME_STATE_SRC_ACTIVE : Fld := ⟨TIME_STATE, 2, 2⟩
def TIME_STATE_STATE : Fld := ⟨TIME_STATE, 0, 2⟩
def TIME_CTRL : Nat := 0x700038
def TIME_CTRL_MANUAL : Fld := ⟨TIME_CTRL, 8, 1⟩
def TIME_CTRL_SRC_INST : Fld := ⟨TIME_CTRL, 4, 3⟩
def TIME_CTRL_SRC : Fld := ⟨TIME_CTRL, 0, 2⟩
def TIME_CNT : Nat := 0x70003c
def TIME_CNT_ONESTEP_DROP : Fld := ⟨TIME_CNT, 16, 16⟩
def TIME_CNT_CORR_SAT : Fld := ⟨TIME_CNT, 0, 16⟩
def TIME_INST_CFG (i : Nat) : Nat := 0x700100 + 0x20 * i
def TIME_INST_CFG_ENABLE (i : Nat) : Fld := ⟨(TIME_INST_CFG i), 31, 1⟩
def TIME_INST_CFG_SLAVE_ONLY (i : Nat) : Fld := ⟨(TIME_INST_CFG i), 30, 1⟩
def TIME_INST_CFG_PROFILE (i : Nat) : Fld := ⟨(TIME_INST_CFG i), 28, 2⟩
def TIME_INST_CFG_TRANSPORT (i : Nat) : Fld := ⟨(TIME_INST_CFG i), 26, 2⟩
def TIME_INST_CFG_ONE_STEP (i : Nat) : Fld := ⟨(TIME_INST_CFG i), 25, 1⟩
def TIME_INST_CFG_DOMAIN (i : Nat) : Fld := ⟨(TIME_INST_CFG i), 16, 8⟩
def TIME_INST_CFG_PRIORITY1 (i : Nat) : Fld := ⟨(TIME_INST_CFG i), 8, 8⟩
def TIME_INST_CFG_PRIORITY2 (i : Nat) : Fld := ⟨(TIME_INST_CFG i), 0, 8⟩
def TIME_INST_INTV (i : Nat) : Nat := 0x700104 + 0x20 * i
def TIME_INST_INTV_LOG_SYNC (i : Nat) : Fld := ⟨(TIME_INST_INTV i), 24, 8⟩
def TIME_INST_INTV_LOG_ANNOUNCE (i : Nat) : Fld := ⟨(TIME_INST_INTV i), 16, 8⟩
def TIME_INST_INTV_LOG_DELAY (i : Nat) : Fld := ⟨(TIME_INST_INTV i), 8, 8⟩
def TIME_INST_INTV_ANNOUNCE_TIMEOUT (i : Nat) : Fld := ⟨(TIME_INST_INTV i), 4, 4⟩
def TIME_INST_PORTS_LO (i : Nat) : Nat := 0x700108 + 0x20 * i
def TIME_INST_PORTS_LO_PORTS (i : Nat) : Fld := ⟨(TIME_INST_PORTS_LO i), 0, 32⟩
def TIME_INST_PORTS_HI (i : Nat) : Nat := 0x70010c + 0x20 * i
def TIME_INST_PORTS_HI_PORTS (i : Nat) : Fld := ⟨(TIME_INST_PORTS_HI i), 0, 32⟩
def TIME_INST_STATUS (i : Nat) : Nat := 0x700110 + 0x20 * i
def TIME_INST_STATUS_IS_SOURCE (i : Nat) : Fld := ⟨(TIME_INST_STATUS i), 31, 1⟩
def TIME_INST_STATUS_PARENT_VALID (i : Nat) : Fld := ⟨(TIME_INST_STATUS i), 22, 1⟩
def TIME_INST_STATUS_PARENT_PORT (i : Nat) : Fld := ⟨(TIME_INST_STATUS i), 16, 6⟩
def TIME_INST_STATUS_MASTER_CHANGE_SEEN (i : Nat) : Fld := ⟨(TIME_INST_STATUS i), 9, 1⟩
def TIME_INST_STATUS_MASTER_LOST_SEEN (i : Nat) : Fld := ⟨(TIME_INST_STATUS i), 8, 1⟩
def TIME_INST_STATUS_STEPS_REMOVED (i : Nat) : Fld := ⟨(TIME_INST_STATUS i), 0, 8⟩
def TIME_PORT_CFG (i : Nat) : Nat := 0x700400 + 0x4 * i
def TIME_PORT_CFG_RX_TRAILER (i : Nat) : Fld := ⟨(TIME_PORT_CFG i), 2, 1⟩
def TIME_PORT_CFG_TC_EN (i : Nat) : Fld := ⟨(TIME_PORT_CFG i), 1, 1⟩
def TIME_PORT_CFG_HOST (i : Nat) : Fld := ⟨(TIME_PORT_CFG i), 0, 1⟩
def TSQ_STATUS (i : Nat) : Nat := 0x701000 + 0x40 * i
def TSQ_STATUS_TSQ_OVF (i : Nat) : Fld := ⟨(TSQ_STATUS i), 31, 1⟩
def TSQ_STATUS_FLUSHED_SEEN (i : Nat) : Fld := ⟨(TSQ_STATUS i), 30, 1⟩
def TSQ_STATUS_OVF_CNT (i : Nat) : Fld := ⟨(TSQ_STATUS i), 16, 8⟩
def TSQ_STATUS_PORT_VALID (i : Nat) : Fld := ⟨(TSQ_STATUS i), 15, 1⟩
def TSQ_STATUS_PORT (i : Nat) : Fld := ⟨(TSQ_STATUS i), 8, 6⟩
def TSQ_STATUS_COUNT (i : Nat) : Fld := ⟨(TSQ_STATUS i), 0, 5⟩
def TSQ_POP (q : Nat) (i : Nat) : Nat := 0x701004 + 0x40 * i + 0x100000000 * (q + 1)
def TSQ_POP_POP (q : Nat) (i : Nat) : Fld := ⟨(TSQ_POP q i), 0, 1⟩
def TSQ_ENTRY (q : Nat) (i : Nat) : Nat := 0x701008 + 0x40 * i + 0x100000000 * (q + 1)
def TSQ_ENTRY_VALID (q : Nat) (i : Nat) : Fld := ⟨(TSQ_ENTRY q i), 31, 1⟩
def TSQ_ENTRY_STALE (q : Nat) (i : Nat) : Fld := ⟨(TSQ_ENTRY q i), 30, 1⟩
def TSQ_ENTRY_BLOT (q : Nat) (i : Nat) : Fld := ⟨(TSQ_ENTRY q i), 29, 1⟩
def TSQ_ENTRY_PORT (q : Nat) (i : Nat) : Fld := ⟨(TSQ_ENTRY q i), 20, 6⟩
def TSQ_ENTRY_MSG_TYPE (q : Nat) (i : Nat) : Fld := ⟨(TSQ_ENTRY q i), 16, 4⟩
def TSQ_ENTRY_SEQ_ID (q : Nat) (i : Nat) : Fld := ⟨(TSQ_ENTRY q i), 0, 16⟩
def TSQ_ENTRY_NS (q : Nat) (i : Nat) : Nat := 0x70100c + 0x40 * i + 0x100000000 * (q + 1)
def TSQ_ENTRY_NS_NS (q : Nat) (i : Nat) : Fld := ⟨(TSQ_ENTRY_NS q i), 0, 30⟩
def TSQ_ENTRY_SEC_LO (q : Nat) (i : Nat) : Nat := 0x701010 + 0x40 * i + 0x100000000 * (q + 1)
def TSQ_ENTRY_SEC_LO_SEC_LO (q : Nat) (i : Nat) : Fld := ⟨(TSQ_ENTRY_SEC_LO q i), 0, 32⟩
def TSQ_ENTRY_HI (q : Nat) (i : Nat) : Nat := 0x701014 + 0x40 * i + 0x100000000 * (q + 1)
def TSQ_ENTRY_HI_FRAC (q : Nat) (i : Nat) : Fld := ⟨(TSQ_ENTRY_HI q i), 16, 16⟩
def TSQ_ENTRY_HI_SEC_HI (q : Nat) (i : Nat) : Fld := ⟨(TSQ_ENTRY_HI q i), 0, 16⟩
def LYD_NODE : Nat := 0x780000
def LYD_NODE_GM_CAPABLE : Fld := ⟨LYD_NODE, 24, 1⟩
def LYD_NODE_DOMAIN : Fld := ⟨LYD_NODE, 16, 8⟩
def LYD_NODE_NODE_ID : Fld := ⟨LYD_NODE, 0, 16⟩
def LYD_GM_CFG : Nat := 0x780004
def LYD_GM_CFG_PRIORITY1 : Fld := ⟨LYD_GM_CFG, 24, 8⟩
def LYD_GM_CFG_PRIORITY2 : Fld := ⟨LYD_GM_CFG, 16, 8⟩
def LYD_GM_CFG_ACCURACY : Fld := ⟨LYD_GM_CFG, 8, 8⟩
def LYD_GM_VAR : Nat := 0x780008
def LYD_GM_VAR_VARIANCE : Fld := ⟨LYD_GM_VAR, 0, 16⟩
def LYD_GM_ERR : Nat := 0x78000c
def LYD_GM_ERR_GM_ERR_PS : Fld := ⟨LYD_GM_ERR, 0, 32⟩
def LYD_SERVO : Nat := 0x780010
def LYD_SERVO_LOCK_WIN_PS : Fld := ⟨LYD_SERVO, 24, 8⟩
def LYD_SERVO_BW : Fld := ⟨LYD_SERVO, 16, 8⟩
def LYD_SERVO_STEP_THR_NS : Fld := ⟨LYD_SERVO, 0, 16⟩
def LYD_SERVO2 : Nat := 0x780014
def LYD_SERVO2_PULL_NS_S : Fld := ⟨LYD_SERVO2, 16, 16⟩
def LYD_SERVO2_HIST_S : Fld := ⟨LYD_SERVO2, 0, 16⟩
def LYD_STATUS : Nat := 0x780020
def LYD_STATUS_HOP : Fld := ⟨LYD_STATUS, 26, 6⟩
def LYD_STATUS_GM_SELF : Fld := ⟨LYD_STATUS, 25, 1⟩
def LYD_STATUS_GM_VALID : Fld := ⟨LYD_STATUS, 24, 1⟩
def LYD_STATUS_UP_VALID : Fld := ⟨LYD_STATUS, 20, 1⟩
def LYD_STATUS_UPSTREAM_PG : Fld := ⟨LYD_STATUS, 16, 4⟩
def LYD_STATUS_HISTORY : Fld := ⟨LYD_STATUS, 7, 1⟩
def LYD_STATUS_ACQ_PHASE : Fld := ⟨LYD_STATUS, 0, 3⟩
def LYD_GM_STATUS : Nat := 0x780024
def LYD_GM_STATUS_GM_CLASS : Fld := ⟨LYD_GM_STATUS, 24, 8⟩
def LYD_GM_STATUS_GM_PRIORITY1 : Fld := ⟨LYD_GM_STATUS, 16, 8⟩
def LYD_GM_STATUS_GM_ID : Fld := ⟨LYD_GM_STATUS, 0, 16⟩
def LYD_OFFSET_LO : Nat := 0x780028
def LYD_OFFSET_LO_OFFSET : Fld := ⟨LYD_OFFSET_LO, 0, 32⟩
def LYD_OFFSET_HI : Nat := 0x78002c
def LYD_OFFSET_HI_OFFSET : Fld := ⟨LYD_OFFSET_HI, 0, 32⟩
def LYD_ERR_EST : Nat := 0x780030
def LYD_ERR_EST_ERR_EST : Fld := ⟨LYD_ERR_EST, 0, 32⟩
def LYD_EVENTS : Nat := 0x780034
def LYD_EVENTS_LOST_CNT : Fld := ⟨LYD_EVENTS, 16, 16⟩
def LYD_EVENTS_OFFSET_LIMIT_SEEN : Fld := ⟨LYD_EVENTS, 6, 1⟩
def LYD_EVENTS_DUP_ID_SEEN : Fld := ⟨LYD_EVENTS, 5, 1⟩
def LYD_EVENTS_DOMAIN_MISMATCH_SEEN : Fld := ⟨LYD_EVENTS, 4, 1⟩
def LYD_EVENTS_HOP_LIMIT_SEEN : Fld := ⟨LYD_EVENTS, 3, 1⟩
def LYD_EVENTS_GM_CHANGE_SEEN : Fld := ⟨LYD_EVENTS, 2, 1⟩
def LYD_EVENTS_UPSTREAM_CHANGE_SEEN : Fld := ⟨LYD_EVENTS, 1, 1⟩
def LYD_EVENTS_UPSTREAM_LOST_SEEN : Fld := ⟨LYD_EVENTS, 0, 1⟩
def LYD_LINK_CFG (i : Nat) : Nat := 0x781000 + 0x100 * i
def LYD_LINK_CFG_TIME_EN (i : Nat) : Fld := ⟨(LYD_LINK_CFG i), 31, 1⟩
def LYD_LINK_CFG_NO_UPSTREAM (i : Nat) : Fld := ⟨(LYD_LINK_CFG i), 30, 1⟩
def LYD_LINK_CFG_UNC_PS (i : Nat) : Fld := ⟨(LYD_LINK_CFG i), 0, 16⟩
def LYD_LINK_STATUS (i : Nat) : Nat := 0x781004 + 0x100 * i
def LYD_LINK_STATUS_RUNNING (i : Nat) : Fld := ⟨(LYD_LINK_STATUS i), 31, 1⟩
def LYD_LINK_STATUS_PARTNER_VALID (i : Nat) : Fld := ⟨(LYD_LINK_STATUS i), 30, 1⟩
def LYD_LINK_STATUS_IS_UPSTREAM (i : Nat) : Fld := ⟨(LYD_LINK_STATUS i), 29, 1⟩
def LYD_LINK_STATUS_CANDIDATE (i : Nat) : Fld := ⟨(LYD_LINK_STATUS i), 28, 1⟩
def LYD_LINK_STATUS_REASON (i : Nat) : Fld := ⟨(LYD_LINK_STATUS i), 24, 4⟩
def LYD_LINK_STATUS_PARTNER_HOP (i : Nat) : Fld := ⟨(LYD_LINK_STATUS i), 16, 8⟩
def LYD_LINK_STATUS_PARTNER_ID (i : Nat) : Fld := ⟨(LYD_LINK_STATUS i), 0, 16⟩
def LYD_LINK_DELAY_LO (i : Nat) : Nat := 0x781008 + 0x100 * i
def LYD_LINK_DELAY_LO_DELAY (i : Nat) : Fld := ⟨(LYD_LINK_DELAY_LO i), 0, 32⟩
def LYD_LINK_DELAY_HI (i : Nat) : Nat := 0x78100c + 0x100 * i
def LYD_LINK_DELAY_HI_DELAY (i : Nat) : Fld := ⟨(LYD_LINK_DELAY_HI i), 0, 16⟩
def LYD_LINK_RTT_LO (i : Nat) : Nat := 0x781010 + 0x100 * i
def LYD_LINK_RTT_LO_RTT (i : Nat) : Fld := ⟨(LYD_LINK_RTT_LO i), 0, 32⟩
def LYD_LINK_RTT_HI (i : Nat) : Nat := 0x781014 + 0x100 * i
def LYD_LINK_RTT_HI_RTT (i : Nat) : Fld := ⟨(LYD_LINK_RTT_HI i), 0, 16⟩
def LYD_LINK_OFFSET_LO (i : Nat) : Nat := 0x781018 + 0x100 * i
def LYD_LINK_OFFSET_LO_OFFSET (i : Nat) : Fld := ⟨(LYD_LINK_OFFSET_LO i), 0, 32⟩
def LYD_LINK_OFFSET_HI (i : Nat) : Nat := 0x78101c + 0x100 * i
def LYD_LINK_OFFSET_HI_OFFSET (i : Nat) : Fld := ⟨(LYD_LINK_OFFSET_HI i), 0, 32⟩
def LYD_LINK_PHASE (i : Nat) : Nat := 0x781020 + 0x100 * i
def LYD_LINK_PHASE_PHASE (i : Nat) : Fld := ⟨(LYD_LINK_PHASE i), 0, 16⟩
def LYD_LINK_CNT (i : Nat) : Nat := 0x781024 + 0x100 * i
def LYD_LINK_CNT_SF_BAD (i : Nat) : Fld := ⟨(LYD_LINK_CNT i), 16, 16⟩
def LYD_LINK_CNT_SF_MISSING (i : Nat) : Fld := ⟨(LYD_LINK_CNT i), 0, 16⟩
def SYN_CTRL : Nat := 0x800000
def SYN_CTRL_PULL_SLOPE : Fld := ⟨SYN_CTRL, 4, 14⟩
def SYN_CTRL_SUSPECT_ACT : Fld := ⟨SYN_CTRL, 2, 1⟩
def SYN_CTRL_FORCE_HOLD : Fld := ⟨SYN_CTRL, 1, 1⟩
def SYN_CTRL_SEL_EN : Fld := ⟨SYN_CTRL, 0, 1⟩
def SYN_CMD : Nat := 0x800004
def SYN_CMD_REEVAL : Fld := ⟨SYN_CMD, 0, 1⟩
def SYN_SEL_STATUS : Nat := 0x800008
def SYN_SEL_STATUS_ENTRY : Fld := ⟨SYN_SEL_STATUS, 24, 5⟩
def SYN_SEL_STATUS_ENTRY_VALID : Fld := ⟨SYN_SEL_STATUS, 23, 1⟩
def SYN_SEL_STATUS_SOURCE : Fld := ⟨SYN_SEL_STATUS, 16, 7⟩
def SYN_SEL_STATUS_LOCK : Fld := ⟨SYN_SEL_STATUS, 9, 1⟩
def SYN_SEL_STATUS_STALE : Fld := ⟨SYN_SEL_STATUS, 8, 1⟩
def SYN_SEL_STATUS_MODE : Fld := ⟨SYN_SEL_STATUS, 0, 3⟩
def SYN_EVENTS : Nat := 0x80000c
def SYN_EVENTS_SWITCH_CNT : Fld := ⟨SYN_EVENTS, 16, 16⟩
def SYN_EVENTS_BAND_FALLBACK_SEEN : Fld := ⟨SYN_EVENTS, 6, 1⟩
def SYN_EVENTS_HOLD_ENTER_SEEN : Fld := ⟨SYN_EVENTS, 5, 1⟩
def SYN_EVENTS_SUSPECT_SEEN : Fld := ⟨SYN_EVENTS, 4, 1⟩
def SYN_EVENTS_DISQ_SEEN : Fld := ⟨SYN_EVENTS, 3, 1⟩
def SYN_EVENTS_SWITCH_SEEN : Fld := ⟨SYN_EVENTS, 2, 1⟩
def SYN_EVENTS_LOCK_LOST_SEEN : Fld := ⟨SYN_EVENTS, 1, 1⟩
def SYN_LOCK_CFG : Nat := 0x800010
def SYN_LOCK_CFG_LOCK_WIN_PS : Fld := ⟨SYN_LOCK_CFG, 16, 16⟩
def SYN_LOCK_CFG_LOCK_CNT : Fld := ⟨SYN_LOCK_CFG, 0, 16⟩
def SYN_MON_CFG : Nat := 0x800014
def SYN_MON_CFG_FREQ_HI : Fld := ⟨SYN_MON_CFG, 16, 16⟩
def SYN_MON_CFG_FREQ_LO : Fld := ⟨SYN_MON_CFG, 0, 16⟩
def SYN_MON_CFG2 : Nat := 0x800018
def SYN_MON_CFG2_DRIFT_LIM : Fld := ⟨SYN_MON_CFG2, 16, 16⟩
def SYN_MON_CFG2_DRIFT_WIN_S : Fld := ⟨SYN_MON_CFG2, 8, 8⟩
def SYN_MON_CFG2_QUAL_S : Fld := ⟨SYN_MON_CFG2, 0, 8⟩
def SYN_REFIN_CFG (i : Nat) : Nat := 0x800020 + 0x4 * i
def SYN_REFIN_CFG_EDGE (i : Nat) : Fld := ⟨(SYN_REFIN_CFG i), 2, 1⟩
def SYN_REFIN_CFG_MODE (i : Nat) : Fld := ⟨(SYN_REFIN_CFG i), 0, 1⟩
def SYN_REFIN_NOM (i : Nat) : Nat := 0x800030 + 0x4 * i
def SYN_REFIN_NOM_NOM_HZ (i : Nat) : Fld := ⟨(SYN_REFIN_NOM i), 0, 30⟩
def SYN_EMB_STATUS : Nat := 0x800040
def SYN_EMB_STATUS_UNLEARNED : Fld := ⟨SYN_EMB_STATUS, 31, 1⟩
def SYN_EMB_STATUS_LEARN_S : Fld := ⟨SYN_EMB_STATUS, 0, 17⟩
def SYN_EMB_ERR : Nat := 0x800044
def SYN_EMB_ERR_GROWTH_PS : Fld := ⟨SYN_EMB_ERR, 0, 32⟩
def SYN_PULL_REMAIN : Nat := 0x800048
def SYN_PULL_REMAIN_REMAIN_PS : Fld := ⟨SYN_PULL_REMAIN, 0, 32⟩
def SYN_SPINE_STATUS (i : Nat) : Nat := 0x800050 + 0x10 * i
def SYN_SPINE_STATUS_BAND (i : Nat) : Fld := ⟨(SYN_SPINE_STATUS i), 16, 6⟩
def SYN_SPINE_STATUS_FACTORY_BAND (i : Nat) : Fld := ⟨(SYN_SPINE_STATUS i), 8, 1⟩
def SYN_SPINE_STATUS_CARRIES_SPINE (i : Nat) : Fld := ⟨(SYN_SPINE_STATUS i), 2, 1⟩
def SYN_SPINE_STATUS_POWERED (i : Nat) : Fld := ⟨(SYN_SPINE_STATUS i), 1, 1⟩
def SYN_SPINE_STATUS_INNER_LOCK (i : Nat) : Fld := ⟨(SYN_SPINE_STATUS i), 0, 1⟩
def SYN_SPINE_WORD_LO (i : Nat) : Nat := 0x800054 + 0x10 * i
def SYN_SPINE_WORD_LO_FREQ_WORD (i : Nat) : Fld := ⟨(SYN_SPINE_WORD_LO i), 0, 32⟩
def SYN_SPINE_WORD_HI (i : Nat) : Nat := 0x800058 + 0x10 * i
def SYN_SPINE_WORD_HI_FREQ_WORD (i : Nat) : Fld := ⟨(SYN_SPINE_WORD_HI i), 0, 16⟩
def SYN_BAND_CMD (q : Nat) : Nat := 0x800080 + 0x100000000 * (q + 1)
def SYN_BAND_CMD_GO (q : Nat) : Fld := ⟨(SYN_BAND_CMD q), 31, 1⟩
def SYN_BAND_CMD_OP (q : Nat) : Fld := ⟨(SYN_BAND_CMD q), 16, 4⟩
def SYN_BAND_CMD_SYNTH (q : Nat) : Fld := ⟨(SYN_BAND_CMD q), 8, 3⟩
def SYN_BAND_CMD_INDEX (q : Nat) : Fld := ⟨(SYN_BAND_CMD q), 0, 6⟩
def SYN_BAND_DATA (q : Nat) (i : Nat) : Nat := 0x800084 + 0x4 * i + 0x100000000 * (q + 1)
def SYN_BAND_DATA_DATA (q : Nat) (i : Nat) : Fld := ⟨(SYN_BAND_DATA q i), 0, 32⟩
def SYN_PRIO (i : Nat) : Nat := 0x800100 + 0x4 * i
def SYN_PRIO_VALID (i : Nat) : Fld := ⟨(SYN_PRIO i), 31, 1⟩
def SYN_PRIO_REVERTIVE (i : Nat) : Fld := ⟨(SYN_PRIO i), 30, 1⟩
def SYN_PRIO_BUILD_OUT (i : Nat) : Fld := ⟨(SYN_PRIO i), 29, 1⟩
def SYN_PRIO_BW (i : Nat) : Fld := ⟨(SYN_PRIO i), 24, 4⟩
def SYN_PRIO_SOURCE (i : Nat) : Fld := ⟨(SYN_PRIO i), 0, 7⟩
def SYN_REF_STATUS (i : Nat) : Nat := 0x800200 + 0x8 * i
def SYN_REF_STATUS_QUAL_LEFT_S (i : Nat) : Fld := ⟨(SYN_REF_STATUS i), 24, 8⟩
def SYN_REF_STATUS_BASIS_EMBER (i : Nat) : Fld := ⟨(SYN_REF_STATUS i), 17, 1⟩
def SYN_REF_STATUS_WINDOW_FULL (i : Nat) : Fld := ⟨(SYN_REF_STATUS i), 16, 1⟩
def SYN_REF_STATUS_STATE (i : Nat) : Fld := ⟨(SYN_REF_STATUS i), 0, 2⟩
def SYN_REF_FREQ (i : Nat) : Nat := 0x800204 + 0x8 * i
def SYN_REF_FREQ_DRIFT (i : Nat) : Fld := ⟨(SYN_REF_FREQ i), 16, 16⟩
def SYN_REF_FREQ_FREQ_OFS (i : Nat) : Fld := ⟨(SYN_REF_FREQ i), 0, 16⟩
def SYN_OSYN_CFG (i : Nat) : Nat := 0x800400 + 0x10 * i
def SYN_OSYN_CFG_ENABLE (i : Nat) : Fld := ⟨(SYN_OSYN_CFG i), 31, 1⟩
def SYN_OSYN_CFG_FREQ_FRAC (i : Nat) : Fld := ⟨(SYN_OSYN_CFG i), 0, 16⟩
def SYN_OSYN_FREQ (i : Nat) : Nat := 0x800404 + 0x10 * i
def SYN_OSYN_FREQ_FREQ_HZ (i : Nat) : Fld := ⟨(SYN_OSYN_FREQ i), 0, 28⟩
def SYN_OSYN_STATUS (i : Nat) : Nat := 0x800408 + 0x10 * i
def SYN_OSYN_STATUS_DIV (i : Nat) : Fld := ⟨(SYN_OSYN_STATUS i), 16, 14⟩
def SYN_OSYN_STATUS_BAND (i : Nat) : Fld := ⟨(SYN_OSYN_STATUS i), 8, 6⟩
def SYN_OSYN_STATUS_FACTORY_BAND (i : Nat) : Fld := ⟨(SYN_OSYN_STATUS i), 2, 1⟩
def SYN_OSYN_STATUS_STALE (i : Nat) : Fld := ⟨(SYN_OSYN_STATUS i), 1, 1⟩
def SYN_OSYN_STATUS_LOCK (i : Nat) : Fld := ⟨(SYN_OSYN_STATUS i), 0, 1⟩
def SYN_PO_CFG (i : Nat) : Nat := 0x800500 + 0x20 * i
def SYN_PO_CFG_ENABLE (i : Nat) : Fld := ⟨(SYN_PO_CFG i), 31, 1⟩
def SYN_PO_CFG_MODE (i : Nat) : Fld := ⟨(SYN_PO_CFG i), 30, 1⟩
def SYN_PO_CFG_OSYN (i : Nat) : Fld := ⟨(SYN_PO_CFG i), 28, 2⟩
def SYN_PO_CFG_GATE_UNLOCKED (i : Nat) : Fld := ⟨(SYN_PO_CFG i), 27, 1⟩
def SYN_PO_CFG_DIV (i : Nat) : Fld := ⟨(SYN_PO_CFG i), 0, 14⟩
def SYN_PO_PERIOD (i : Nat) : Nat := 0x800504 + 0x20 * i
def SYN_PO_PERIOD_PERIOD_NS (i : Nat) : Fld := ⟨(SYN_PO_PERIOD i), 0, 30⟩
def SYN_PO_PHASE (i : Nat) : Nat := 0x800508 + 0x20 * i
def SYN_PO_PHASE_PHASE_NS (i : Nat) : Fld := ⟨(SYN_PO_PHASE i), 0, 30⟩
def SYN_PO_WIDTH (i : Nat) : Nat := 0x80050c + 0x20 * i
def SYN_PO_WIDTH_WIDTH_NS (i : Nat) : Fld := ⟨(SYN_PO_WIDTH i), 0, 30⟩
def SYN_PO_CTRL (i : Nat) : Nat := 0x800510 + 0x20 * i
def SYN_PO_CTRL_ALIGN (i : Nat) : Fld := ⟨(SYN_PO_CTRL i), 0, 1⟩
def SYN_PO_STATUS (i : Nat) : Nat := 0x800514 + 0x20 * i
def SYN_PO_STATUS_MISALIGN_SEEN (i : Nat) : Fld := ⟨(SYN_PO_STATUS i), 9, 1⟩
def SYN_PO_STATUS_GATED_SEEN (i : Nat) : Fld := ⟨(SYN_PO_STATUS i), 8, 1⟩
def SYN_PO_STATUS_MISALIGNED (i : Nat) : Fld := ⟨(SYN_PO_STATUS i), 4, 1⟩
def SYN_PO_STATUS_STALE (i : Nat) : Fld := ⟨(SYN_PO_STATUS i), 3, 1⟩
def SYN_PO_STATUS_ALIGNING (i : Nat) : Fld := ⟨(SYN_PO_STATUS i), 2, 1⟩
def SYN_PO_STATUS_GATED (i : Nat) : Fld := ⟨(SYN_PO_STATUS i), 1, 1⟩
def SYN_PO_STATUS_RUNNING (i : Nat) : Fld := ⟨(SYN_PO_STATUS i), 0, 1⟩
def SYN_PO_ERR (i : Nat) : Nat := 0x800518 + 0x20 * i
def SYN_PO_ERR_ERR_PS (i : Nat) : Fld := ⟨(SYN_PO_ERR i), 0, 32⟩
def NIB_CTRL : Nat := 0x900000
def NIB_CTRL_RESTART : Fld := ⟨NIB_CTRL, 0, 1⟩
def NIB_SUMMARY : Nat := 0x900004
def NIB_SUMMARY_ATTN : Fld := ⟨NIB_SUMMARY, 0, 16⟩
def NIB_CFG (i : Nat) : Nat := 0x901000 + 0x40 * i
def NIB_CFG_STOP_MAX (i : Nat) : Fld := ⟨(NIB_CFG i), 20, 12⟩
def NIB_CFG_START_SRC (i : Nat) : Fld := ⟨(NIB_CFG i), 16, 4⟩
def NIB_CFG_FREQ_EN (i : Nat) : Fld := ⟨(NIB_CFG i), 8, 1⟩
def NIB_CFG_MODE (i : Nat) : Fld := ⟨(NIB_CFG i), 4, 1⟩
def NIB_CFG_EDGE (i : Nat) : Fld := ⟨(NIB_CFG i), 1, 2⟩
def NIB_CFG_ENABLE (i : Nat) : Fld := ⟨(NIB_CFG i), 0, 1⟩
def NIB_GATE (i : Nat) : Nat := 0x901004 + 0x40 * i
def NIB_GATE_GATE_US (i : Nat) : Fld := ⟨(NIB_GATE i), 0, 30⟩
def NIB_CMD (i : Nat) : Nat := 0x901008 + 0x40 * i
def NIB_CMD_FLUSH (i : Nat) : Fld := ⟨(NIB_CMD i), 2, 1⟩
def NIB_CMD_ABORT (i : Nat) : Fld := ⟨(NIB_CMD i), 1, 1⟩
def NIB_CMD_ARM (i : Nat) : Fld := ⟨(NIB_CMD i), 0, 1⟩
def NIB_STATUS (i : Nat) : Nat := 0x90100c + 0x40 * i
def NIB_STATUS_EARLY_CNT (i : Nat) : Fld := ⟨(NIB_STATUS i), 24, 8⟩
def NIB_STATUS_FLUSHED_SEEN (i : Nat) : Fld := ⟨(NIB_STATUS i), 22, 1⟩
def NIB_STATUS_OVERRANGE_SEEN (i : Nat) : Fld := ⟨(NIB_STATUS i), 21, 1⟩
def NIB_STATUS_EARLY_SEEN (i : Nat) : Fld := ⟨(NIB_STATUS i), 20, 1⟩
def NIB_STATUS_DEAD_SEEN (i : Nat) : Fld := ⟨(NIB_STATUS i), 19, 1⟩
def NIB_STATUS_OVF_SEEN (i : Nat) : Fld := ⟨(NIB_STATUS i), 18, 1⟩
def NIB_STATUS_MSTATE (i : Nat) : Fld := ⟨(NIB_STATUS i), 16, 2⟩
def NIB_STATUS_COUNT (i : Nat) : Fld := ⟨(NIB_STATUS i), 0, 13⟩
def NIB_CNT (i : Nat) : Nat := 0x901010 + 0x40 * i
def NIB_CNT_OVF_CNT (i : Nat) : Fld := ⟨(NIB_CNT i), 16, 16⟩
def NIB_CNT_DEAD_CNT (i : Nat) : Fld := ⟨(NIB_CNT i), 0, 16⟩
def NIB_POP (q : Nat) (i : Nat) : Nat := 0x901014 + 0x40 * i + 0x100000000 * (q + 1)
def NIB_POP_POP (q : Nat) (i : Nat) : Fld := ⟨(NIB_POP q i), 0, 1⟩
def NIB_ENTRY (q : Nat) (i : Nat) : Nat := 0x901018 + 0x40 * i + 0x100000000 * (q + 1)
def NIB_ENTRY_VALID (q : Nat) (i : Nat) : Fld := ⟨(NIB_ENTRY q i), 31, 1⟩
def NIB_ENTRY_TYPE (q : Nat) (i : Nat) : Fld := ⟨(NIB_ENTRY q i), 29, 2⟩
def NIB_ENTRY_EDGE (q : Nat) (i : Nat) : Fld := ⟨(NIB_ENTRY q i), 28, 1⟩
def NIB_ENTRY_STALE (q : Nat) (i : Nat) : Fld := ⟨(NIB_ENTRY q i), 27, 1⟩
def NIB_ENTRY_LOCKED (q : Nat) (i : Nat) : Fld := ⟨(NIB_ENTRY q i), 26, 1⟩
def NIB_ENTRY_COAST (q : Nat) (i : Nat) : Fld := ⟨(NIB_ENTRY q i), 25, 1⟩
def NIB_ENTRY_DEAD_BEFORE (q : Nat) (i : Nat) : Fld := ⟨(NIB_ENTRY q i), 24, 1⟩
def NIB_ENTRY_GAP_BEFORE (q : Nat) (i : Nat) : Fld := ⟨(NIB_ENTRY q i), 23, 1⟩
def NIB_ENTRY_STEPPED (q : Nat) (i : Nat) : Fld := ⟨(NIB_ENTRY q i), 22, 1⟩
def NIB_ENTRY_NEAR (q : Nat) (i : Nat) : Fld := ⟨(NIB_ENTRY q i), 21, 1⟩
def NIB_ENTRY_NEG (q : Nat) (i : Nat) : Fld := ⟨(NIB_ENTRY q i), 20, 1⟩
def NIB_ENTRY_OVERRANGE (q : Nat) (i : Nat) : Fld := ⟨(NIB_ENTRY q i), 19, 1⟩
def NIB_ENTRY_FINE (q : Nat) (i : Nat) : Fld := ⟨(NIB_ENTRY q i), 0, 11⟩
def NIB_ENTRY_NS (q : Nat) (i : Nat) : Nat := 0x90101c + 0x40 * i + 0x100000000 * (q + 1)
def NIB_ENTRY_NS_NS_COARSE (q : Nat) (i : Nat) : Fld := ⟨(NIB_ENTRY_NS q i), 0, 32⟩
def NIB_ENTRY_SEC_LO (q : Nat) (i : Nat) : Nat := 0x901020 + 0x40 * i + 0x100000000 * (q + 1)
def NIB_ENTRY_SEC_LO_SEC_COARSE (q : Nat) (i : Nat) : Fld := ⟨(NIB_ENTRY_SEC_LO q i), 0, 32⟩
def NIB_ENTRY_SEC_HI (q : Nat) (i : Nat) : Nat := 0x901024 + 0x40 * i + 0x100000000 * (q + 1)
def NIB_ENTRY_SEC_HI_SEC_HI (q : Nat) (i : Nat) : Fld := ⟨(NIB_ENTRY_SEC_HI q i), 0, 16⟩
def NIB_FREQ_P_LO (i : Nat) : Nat := 0x901028 + 0x40 * i
def NIB_FREQ_P_LO_P (i : Nat) : Fld := ⟨(NIB_FREQ_P_LO i), 0, 32⟩
def NIB_FREQ_P_HI (i : Nat) : Nat := 0x90102c + 0x40 * i
def NIB_FREQ_P_HI_P (i : Nat) : Fld := ⟨(NIB_FREQ_P_HI i), 0, 32⟩
def NIB_FREQ_INFO (i : Nat) : Nat := 0x901030 + 0x40 * i
def NIB_FREQ_INFO_REASON (i : Nat) : Fld := ⟨(NIB_FREQ_INFO i), 30, 2⟩
def NIB_FREQ_INFO_STALE (i : Nat) : Fld := ⟨(NIB_FREQ_INFO i), 29, 1⟩
def NIB_FREQ_INFO_COAST (i : Nat) : Fld := ⟨(NIB_FREQ_INFO i), 28, 1⟩
def NIB_FREQ_INFO_DEXP (i : Nat) : Fld := ⟨(NIB_FREQ_INFO i), 21, 5⟩
def NIB_FREQ_INFO_N (i : Nat) : Fld := ⟨(NIB_FREQ_INFO i), 0, 21⟩
def NIB_FREQ_RES (i : Nat) : Nat := 0x901034 + 0x40 * i
def NIB_FREQ_RES_SEQ (i : Nat) : Fld := ⟨(NIB_FREQ_RES i), 16, 16⟩
def NIB_FREQ_RES_RMS_RES (i : Nat) : Fld := ⟨(NIB_FREQ_RES i), 0, 16⟩
def NIB_FREQ_T (i : Nat) : Nat := 0x901038 + 0x40 * i
def NIB_FREQ_T_GATE_START_US (i : Nat) : Fld := ⟨(NIB_FREQ_T i), 0, 32⟩
def CAL_CMD : Nat := 0xa00000
def CAL_CMD_START : Fld := ⟨CAL_CMD, 31, 1⟩
def CAL_CMD_GROUPS : Fld := ⟨CAL_CMD, 0, 6⟩
def CAL_STATUS : Nat := 0xa00004
def CAL_STATUS_RUN_CNT : Fld := ⟨CAL_STATUS, 16, 16⟩
def CAL_STATUS_GROUP_FAIL : Fld := ⟨CAL_STATUS, 10, 6⟩
def CAL_STATUS_FAIL_SEEN : Fld := ⟨CAL_STATUS, 9, 1⟩
def CAL_STATUS_DONE_SEEN : Fld := ⟨CAL_STATUS, 8, 1⟩
def CAL_STATUS_FACTORY_LOST : Fld := ⟨CAL_STATUS, 7, 1⟩
def CAL_STATUS_SENSOR_SUBST : Fld := ⟨CAL_STATUS, 6, 1⟩
def CAL_STATUS_RESULT : Fld := ⟨CAL_STATUS, 3, 3⟩
def CAL_STATUS_STALE : Fld := ⟨CAL_STATUS, 1, 1⟩
def CAL_STATUS_RUNNING : Fld := ⟨CAL_STATUS, 0, 1⟩
def CAL_FACTORY : Nat := 0xa00008
def CAL_FACTORY_FAC_VERSION : Fld := ⟨CAL_FACTORY, 16, 16⟩
def CAL_FACTORY_COPY1_OK : Fld := ⟨CAL_FACTORY, 1, 1⟩
def CAL_FACTORY_COPY0_OK : Fld := ⟨CAL_FACTORY, 0, 1⟩
def CAL_VAL_SEL : Nat := 0xa0000c
def CAL_VAL_SEL_GROUP : Fld := ⟨CAL_VAL_SEL, 24, 4⟩
def CAL_VAL_SEL_POINT : Fld := ⟨CAL_VAL_SEL, 16, 4⟩
def CAL_VAL_SEL_INDEX : Fld := ⟨CAL_VAL_SEL, 0, 16⟩
def CAL_VAL : Nat := 0xa00010
def CAL_VAL_VALUE : Fld := ⟨CAL_VAL, 0, 32⟩
def CAL_LAST : Nat := 0xa00014
def CAL_LAST_END_SEC : Fld := ⟨CAL_LAST, 0, 32⟩
def CAL_CLKL_TX (i : Nat) : Nat := 0xa01000 + 0x10 * i
def CAL_CLKL_TX_DELAY_PS (i : Nat) : Fld := ⟨(CAL_CLKL_TX i), 0, 16⟩
def CAL_CLKL_RX (i : Nat) : Nat := 0xa01004 + 0x10 * i
def CAL_CLKL_RX_DELAY_PS (i : Nat) : Fld := ⟨(CAL_CLKL_RX i), 0, 16⟩
def CAL_CLKL_ASYM (i : Nat) : Nat := 0xa01008 + 0x10 * i
def CAL_CLKL_ASYM_ASYM (i : Nat) : Fld := ⟨(CAL_CLKL_ASYM i), 0, 32⟩
def CAL_PORT_TX (i : Nat) : Nat := 0xa02000 + 0x10 * i
def CAL_PORT_TX_DELAY_PS (i : Nat) : Fld := ⟨(CAL_PORT_TX i), 0, 16⟩
def CAL_PORT_RX (i : Nat) : Nat := 0xa02004 + 0x10 * i
def CAL_PORT_RX_DELAY_PS (i : Nat) : Fld := ⟨(CAL_PORT_RX i), 0, 16⟩
def CAL_PORT_ASYM (i : Nat) : Nat := 0xa02008 + 0x10 * i
def CAL_PORT_ASYM_ASYM_PS (i : Nat) : Fld := ⟨(CAL_PORT_ASYM i), 0, 32⟩
def HRT_STATUS : Nat := 0xb00000
def HRT_STATUS_LONG_TAKEOVER : Fld := ⟨HRT_STATUS, 19, 1⟩
def HRT_STATUS_NO_HOLDER : Fld := ⟨HRT_STATUS, 18, 1⟩
def HRT_STATUS_TAKEOVER : Fld := ⟨HRT_STATUS, 17, 1⟩
def HRT_STATUS_IN_STEP : Fld := ⟨HRT_STATUS, 16, 1⟩
def HRT_STATUS_HOLDER : Fld := ⟨HRT_STATUS, 10, 2⟩
def HRT_STATUS_STATE_B : Fld := ⟨HRT_STATUS, 4, 3⟩
def HRT_STATUS_STATE_A : Fld := ⟨HRT_STATUS, 0, 3⟩
def HRT_LEASE_CFG : Nat := 0xb00004
def HRT_LEASE_CFG_AUTO_RESTART : Fld := ⟨HRT_LEASE_CFG, 17, 1⟩
def HRT_LEASE_CFG_PERIOD_US : Fld := ⟨HRT_LEASE_CFG, 0, 17⟩
def HRT_LEASE : Nat := 0xb00008
def HRT_LEASE_RENEW : Fld := ⟨HRT_LEASE, 31, 1⟩
def HRT_LEASE_REMAIN_US : Fld := ⟨HRT_LEASE, 0, 17⟩
def HRT_CMD : Nat := 0xb0000c
def HRT_CMD_KEY : Fld := ⟨HRT_CMD, 16, 16⟩
def HRT_CMD_TEST : Fld := ⟨HRT_CMD, 5, 1⟩
def HRT_CMD_CINDER_B : Fld := ⟨HRT_CMD, 4, 1⟩
def HRT_CMD_CINDER_A : Fld := ⟨HRT_CMD, 3, 1⟩
def HRT_CMD_RESTART_B : Fld := ⟨HRT_CMD, 2, 1⟩
def HRT_CMD_RESTART_A : Fld := ⟨HRT_CMD, 1, 1⟩
def HRT_CMD_HANDOVER : Fld := ⟨HRT_CMD, 0, 1⟩
def HRT_EVENTS : Nat := 0xb00010
def HRT_EVENTS_TAKEOVER_CNT : Fld := ⟨HRT_EVENTS, 16, 16⟩
def HRT_EVENTS_GATE_VIOL_SEEN : Fld := ⟨HRT_EVENTS, 8, 1⟩
def HRT_EVENTS_HANDOVER_REFUSED_SEEN : Fld := ⟨HRT_EVENTS, 7, 1⟩
def HRT_EVENTS_LONG_TAKEOVER_SEEN : Fld := ⟨HRT_EVENTS, 6, 1⟩
def HRT_EVENTS_NO_HOLDER_SEEN : Fld := ⟨HRT_EVENTS, 5, 1⟩
def HRT_EVENTS_TEST_FAIL_SEEN : Fld := ⟨HRT_EVENTS, 4, 1⟩
def HRT_EVENTS_MISMATCH_SEEN : Fld := ⟨HRT_EVENTS, 3, 1⟩
def HRT_EVENTS_OFFLINE_SEEN : Fld := ⟨HRT_EVENTS, 2, 1⟩
def HRT_EVENTS_CINDER_SEEN : Fld := ⟨HRT_EVENTS, 1, 1⟩
def HRT_EVENTS_TAKEOVER_SEEN : Fld := ⟨HRT_EVENTS, 0, 1⟩
def HRT_TAKEOVER : Nat := 0xb00014
def HRT_TAKEOVER_CAUSE : Fld := ⟨HRT_TAKEOVER, 28, 4⟩
def HRT_TAKEOVER_FROM : Fld := ⟨HRT_TAKEOVER, 26, 2⟩
def HRT_TAKEOVER_TO : Fld := ⟨HRT_TAKEOVER, 24, 2⟩
def HRT_TAKEOVER_DUR_NS : Fld := ⟨HRT_TAKEOVER, 0, 23⟩
def HRT_TAKEOVER_SEC : Nat := 0xb00018
def HRT_TAKEOVER_SEC_START_SEC : Fld := ⟨HRT_TAKEOVER_SEC, 0, 32⟩
def HRT_SNAP : Nat := 0xb0001c
def HRT_SNAP_SEQ : Fld := ⟨HRT_SNAP, 16, 16⟩
def HRT_SNAP_AGE_US : Fld := ⟨HRT_SNAP, 0, 8⟩
def HRT_HANDOVER : Nat := 0xb00020
def HRT_HANDOVER_REASON : Fld := ⟨HRT_HANDOVER, 0, 4⟩
def HRT_CAUSE (i : Nat) : Nat := 0xb00100 + 0x40 * i
def HRT_CAUSE_OUT_CNT (i : Nat) : Fld := ⟨(HRT_CAUSE i), 16, 16⟩
def HRT_CAUSE_AUTO_LEFT (i : Nat) : Fld := ⟨(HRT_CAUSE i), 8, 4⟩
def HRT_CAUSE_CAUSE (i : Nat) : Fld := ⟨(HRT_CAUSE i), 0, 4⟩
def HRT_CAUSE_SEC (i : Nat) : Nat := 0xb00104 + 0x40 * i
def HRT_CAUSE_SEC_CAUSE_SEC (i : Nat) : Fld := ⟨(HRT_CAUSE_SEC i), 0, 32⟩
def HRT_HEALTH (i : Nat) : Nat := 0xb00108 + 0x40 * i
def HRT_HEALTH_TEST_RESULT (i : Nat) : Fld := ⟨(HRT_HEALTH i), 30, 2⟩
def HRT_HEALTH_LOCK_US (i : Nat) : Fld := ⟨(HRT_HEALTH i), 16, 13⟩
def HRT_HEALTH_TEST_CNT (i : Nat) : Fld := ⟨(HRT_HEALTH i), 0, 16⟩
def HRT_TEST_SEC (i : Nat) : Nat := 0xb0010c + 0x40 * i
def HRT_TEST_SEC_TEST_SEC (i : Nat) : Fld := ⟨(HRT_TEST_SEC i), 0, 32⟩
def HRT_LOCKSTEP (i : Nat) : Nat := 0xb00110 + 0x40 * i
def HRT_LOCKSTEP_MISMATCH_CNT (i : Nat) : Fld := ⟨(HRT_LOCKSTEP i), 16, 16⟩
def HRT_LOCKSTEP_RESYNC_CNT (i : Nat) : Fld := ⟨(HRT_LOCKSTEP i), 0, 16⟩
def UPD_SESSION : Nat := 0xc00000
def UPD_SESSION_OWNER : Fld := ⟨UPD_SESSION, 24, 4⟩
def UPD_SESSION_STATE : Fld := ⟨UPD_SESSION, 20, 3⟩
def UPD_SESSION_TARGET : Fld := ⟨UPD_SESSION, 8, 5⟩
def UPD_SESSION_ABORT : Fld := ⟨UPD_SESSION, 2, 1⟩
def UPD_SESSION_END : Fld := ⟨UPD_SESSION, 1, 1⟩
def UPD_SESSION_BEGIN : Fld := ⟨UPD_SESSION, 0, 1⟩
def UPD_LENGTH : Nat := 0xc00004
def UPD_LENGTH_LENGTH : Fld := ⟨UPD_LENGTH, 0, 32⟩
def UPD_DATA : Nat := 0xc00008
def UPD_DATA_DATA : Fld := ⟨UPD_DATA, 0, 32⟩
def UPD_XFER_STATUS : Nat := 0xc0000c
def UPD_XFER_STATUS_RESULT : Fld := ⟨UPD_XFER_STATUS, 24, 8⟩
def UPD_XFER_STATUS_SPACE : Fld := ⟨UPD_XFER_STATUS, 0, 12⟩
def UPD_RECEIVED : Nat := 0xc00010
def UPD_RECEIVED_BYTES : Fld := ⟨UPD_RECEIVED, 0, 32⟩
def UPD_CMD : Nat := 0xc00014
def UPD_CMD_KEY : Fld := ⟨UPD_CMD, 16, 16⟩
def UPD_CMD_PART : Fld := ⟨UPD_CMD, 4, 2⟩
def UPD_CMD_ALLOW : Fld := ⟨UPD_CMD, 2, 1⟩
def UPD_CMD_REJECT : Fld := ⟨UPD_CMD, 1, 1⟩
def UPD_CMD_ACTIVATE : Fld := ⟨UPD_CMD, 0, 1⟩
def UPD_CFG : Nat := 0xc00018
def UPD_CFG_WINDOW_S : Fld := ⟨UPD_CFG, 16, 16⟩
def UPD_CFG_SOAK_S : Fld := ⟨UPD_CFG, 4, 12⟩
def UPD_CFG_COUNT_IN_FLASH : Fld := ⟨UPD_CFG, 2, 1⟩
def UPD_CFG_NEED_ACTIVE : Fld := ⟨UPD_CFG, 1, 1⟩
def UPD_CFG_HOST_GATE : Fld := ⟨UPD_CFG, 0, 1⟩
def UPD_STATUS : Nat := 0xc0001c
def UPD_STATUS_FUSE_CNT : Fld := ⟨UPD_STATUS, 25, 7⟩
def UPD_STATUS_MIXED : Fld := ⟨UPD_STATUS, 24, 1⟩
def UPD_STATUS_ACT_REFUSE : Fld := ⟨UPD_STATUS, 20, 4⟩
def UPD_STATUS_TRIAL_VALID : Fld := ⟨UPD_STATUS, 19, 1⟩
def UPD_STATUS_TRIAL_PART : Fld := ⟨UPD_STATUS, 17, 2⟩
def UPD_STATUS_ALLOWED : Fld := ⟨UPD_STATUS, 16, 1⟩
def UPD_STATUS_WINDOW_LEFT_S : Fld := ⟨UPD_STATUS, 0, 16⟩
def UPD_EVENTS : Nat := 0xc00020
def UPD_EVENTS_FUSE_SEEN : Fld := ⟨UPD_EVENTS, 4, 1⟩
def UPD_EVENTS_XFER_FAIL_SEEN : Fld := ⟨UPD_EVENTS, 3, 1⟩
def UPD_EVENTS_ACT_REFUSED_SEEN : Fld := ⟨UPD_EVENTS, 2, 1⟩
def UPD_EVENTS_CONFIRM_SEEN : Fld := ⟨UPD_EVENTS, 1, 1⟩
def UPD_EVENTS_FALLBACK_SEEN : Fld := ⟨UPD_EVENTS, 0, 1⟩
def UPD_PART_STATE (i : Nat) : Nat := 0xc00100 + 0x20 * i
def UPD_PART_STATE_REJ_REASON (i : Nat) : Fld := ⟨(UPD_PART_STATE i), 28, 4⟩
def UPD_PART_STATE_BANK1 (i : Nat) : Fld := ⟨(UPD_PART_STATE i), 20, 4⟩
def UPD_PART_STATE_BANK0 (i : Nat) : Fld := ⟨(UPD_PART_STATE i), 16, 4⟩
def UPD_PART_STATE_ATTEMPTS (i : Nat) : Fld := ⟨(UPD_PART_STATE i), 8, 2⟩
def UPD_PART_STATE_TRIAL (i : Nat) : Fld := ⟨(UPD_PART_STATE i), 1, 1⟩
def UPD_PART_STATE_ACTIVE_BANK (i : Nat) : Fld := ⟨(UPD_PART_STATE i), 0, 1⟩
def UPD_PART_VER0 (i : Nat) : Nat := 0xc00104 + 0x20 * i
def UPD_PART_VER0_VERSION (i : Nat) : Fld := ⟨(UPD_PART_VER0 i), 0, 32⟩
def UPD_PART_VER1 (i : Nat) : Nat := 0xc00108 + 0x20 * i
def UPD_PART_VER1_VERSION (i : Nat) : Fld := ⟨(UPD_PART_VER1 i), 0, 32⟩
def UPD_PART_RUN (i : Nat) : Nat := 0xc0010c + 0x20 * i
def UPD_PART_RUN_SVN (i : Nat) : Fld := ⟨(UPD_PART_RUN i), 24, 8⟩
def UPD_PART_RUN_IFACE (i : Nat) : Fld := ⟨(UPD_PART_RUN i), 0, 16⟩
def CNT_CMD : Nat := 0xd00000
def CNT_CMD_GO : Fld := ⟨CNT_CMD, 31, 1⟩
def CNT_CMD_ABORT : Fld := ⟨CNT_CMD, 30, 1⟩
def CNT_CMD_TIMED : Fld := ⟨CNT_CMD, 4, 1⟩
def CNT_CMD_OP : Fld := ⟨CNT_CMD, 0, 3⟩
def CNT_STATUS : Nat := 0xd00004
def CNT_STATUS_REFUSE : Fld := ⟨CNT_STATUS, 8, 4⟩
def CNT_STATUS_SNAP_SEEN : Fld := ⟨CNT_STATUS, 6, 1⟩
def CNT_STATUS_LATE_SEEN : Fld := ⟨CNT_STATUS, 5, 1⟩
def CNT_STATUS_REFUSED_SEEN : Fld := ⟨CNT_STATUS, 4, 1⟩
def CNT_STATUS_FROZEN : Fld := ⟨CNT_STATUS, 3, 1⟩
def CNT_STATUS_PEND_OP : Fld := ⟨CNT_STATUS, 0, 3⟩
def CNT_ACT_TIME_SEC_HI : Nat := 0xd00008
def CNT_ACT_TIME_SEC_HI_SEC_HI : Fld := ⟨CNT_ACT_TIME_SEC_HI, 0, 16⟩
def CNT_ACT_TIME_SEC_LO : Nat := 0xd0000c
def CNT_ACT_TIME_SEC_LO_SEC_LO : Fld := ⟨CNT_ACT_TIME_SEC_LO, 0, 32⟩
def CNT_ACT_TIME_NS : Nat := 0xd00010
def CNT_ACT_TIME_NS_NS : Fld := ⟨CNT_ACT_TIME_NS, 0, 30⟩
def CNT_SNAP_SEQ : Nat := 0xd00014
def CNT_SNAP_SEQ_SEQ : Fld := ⟨CNT_SNAP_SEQ, 0, 32⟩
def CNT_SNAP_TIME_SEC_LO : Nat := 0xd00018
def CNT_SNAP_TIME_SEC_LO_SEC_LO : Fld := ⟨CNT_SNAP_TIME_SEC_LO, 0, 32⟩
def CNT_SNAP_TIME_NS : Nat := 0xd0001c
def CNT_SNAP_TIME_NS_NS : Fld := ⟨CNT_SNAP_TIME_NS, 0, 30⟩
def CNT_CAP_CFG : Nat := 0xd00040
def CNT_CAP_CFG_CAP_EN : Fld := ⟨CNT_CAP_CFG, 31, 1⟩
def CNT_CAP_CFG_WRAP : Fld := ⟨CNT_CAP_CFG, 30, 1⟩
def CNT_CAP_CFG_CLASS_EN : Fld := ⟨CNT_CAP_CFG, 29, 1⟩
def CNT_CAP_CFG_DROP_EN : Fld := ⟨CNT_CAP_CFG, 28, 1⟩
def CNT_CAP_CFG_QUILL_EN : Fld := ⟨CNT_CAP_CFG, 27, 1⟩
def CNT_CAP_CFG_PLACE : Fld := ⟨CNT_CAP_CFG, 26, 1⟩
def CNT_CAP_CFG_SIZE_MIB : Fld := ⟨CNT_CAP_CFG, 0, 11⟩
def CNT_CAP_PORTS_LO : Nat := 0xd00044
def CNT_CAP_PORTS_LO_PORTS : Fld := ⟨CNT_CAP_PORTS_LO, 0, 32⟩
def CNT_CAP_PORTS_HI : Nat := 0xd00048
def CNT_CAP_PORTS_HI_PORTS : Fld := ⟨CNT_CAP_PORTS_HI, 0, 32⟩
def CNT_CAP_STATUS : Nat := 0xd0004c
def CNT_CAP_STATUS_RUN_PLACE : Fld := ⟨CNT_CAP_STATUS, 31, 1⟩
def CNT_CAP_STATUS_RUN_SIZE_MIB : Fld := ⟨CNT_CAP_STATUS, 20, 11⟩
def CNT_CAP_STATUS_STOPPED : Fld := ⟨CNT_CAP_STATUS, 19, 1⟩
def CNT_CAP_STATUS_RING_RESET_SEEN : Fld := ⟨CNT_CAP_STATUS, 18, 1⟩
def CNT_CAP_STATUS_LOST_SEEN : Fld := ⟨CNT_CAP_STATUS, 17, 1⟩
def CNT_CAP_POP (q : Nat) : Nat := 0xd00050 + 0x100000000 * (q + 1)
def CNT_CAP_POP_VALID (q : Nat) : Fld := ⟨(CNT_CAP_POP q), 31, 1⟩
def CNT_CAP_POP_UNREAD (q : Nat) : Fld := ⟨(CNT_CAP_POP q), 0, 23⟩
def CNT_CAP_POP_POP (q : Nat) : Fld := ⟨(CNT_CAP_POP q), 0, 1⟩
def CNT_CAP_DATA (q : Nat) : Nat := 0xd00054 + 0x100000000 * (q + 1)
def CNT_CAP_DATA_DATA (q : Nat) : Fld := ⟨(CNT_CAP_DATA q), 0, 32⟩
def CNT_CAP_LOST : Nat := 0xd00058
def CNT_CAP_LOST_OVERWRITE_CNT : Fld := ⟨CNT_CAP_LOST, 16, 16⟩
def CNT_CAP_LOST_LOST_CNT : Fld := ⟨CNT_CAP_LOST, 0, 16⟩
def CNT_CAP_MIRROR : Nat := 0xd0005c
def CNT_CAP_MIRROR_MIRROR_EN : Fld := ⟨CNT_CAP_MIRROR, 31, 1⟩
def CNT_CAP_MIRROR_MIRROR_PORT : Fld := ⟨CNT_CAP_MIRROR, 24, 6⟩
def CNT_CAP_MIRROR_MIRROR_TC : Fld := ⟨CNT_CAP_MIRROR, 20, 4⟩
def CNT_CAP_MIRROR_MIRROR_LOST_CNT : Fld := ⟨CNT_CAP_MIRROR, 16, 4⟩
def CNT_CAP_MIRROR_MIRROR_ETYPE : Fld := ⟨CNT_CAP_MIRROR, 0, 16⟩
def CNT_CAP_MIRROR_DMAC_LO : Nat := 0xd00060
def CNT_CAP_MIRROR_DMAC_LO_DMAC_LO : Fld := ⟨CNT_CAP_MIRROR_DMAC_LO, 0, 32⟩
def CNT_CAP_MIRROR_DMAC_HI : Nat := 0xd00064
def CNT_CAP_MIRROR_DMAC_HI_DMAC_HI : Fld := ⟨CNT_CAP_MIRROR_DMAC_HI, 0, 16⟩
def CNT_BW_CFG (i : Nat) : Nat := 0xd00400 + 0x40 * i
def CNT_BW_CFG_ENABLE (i : Nat) : Fld := ⟨(CNT_BW_CFG i), 31, 1⟩
def CNT_BW_CFG_OVERHEAD (i : Nat) : Fld := ⟨(CNT_BW_CFG i), 30, 1⟩
def CNT_BW_CFG_ORIGIN (i : Nat) : Fld := ⟨(CNT_BW_CFG i), 26, 4⟩
def CNT_BW_CFG_PFX_KIND (i : Nat) : Fld := ⟨(CNT_BW_CFG i), 16, 3⟩
def CNT_BW_CFG_PFX_LEN (i : Nat) : Fld := ⟨(CNT_BW_CFG i), 0, 8⟩
def CNT_BW_FILTER (i : Nat) : Nat := 0xd00404 + 0x40 * i
def CNT_BW_FILTER_TC_MASK (i : Nat) : Fld := ⟨(CNT_BW_FILTER i), 22, 10⟩
def CNT_BW_FILTER_VID_EN (i : Nat) : Fld := ⟨(CNT_BW_FILTER i), 21, 1⟩
def CNT_BW_FILTER_VID (i : Nat) : Fld := ⟨(CNT_BW_FILTER i), 9, 12⟩
def CNT_BW_FILTER_SRC_ANY (i : Nat) : Fld := ⟨(CNT_BW_FILTER i), 6, 1⟩
def CNT_BW_FILTER_SRC_PORT (i : Nat) : Fld := ⟨(CNT_BW_FILTER i), 0, 6⟩
def CNT_BW_LEN (i : Nat) : Nat := 0xd00408 + 0x40 * i
def CNT_BW_LEN_LEN_US (i : Nat) : Fld := ⟨(CNT_BW_LEN i), 0, 23⟩
def CNT_BW_PFX (i j : Nat) : Nat := 0xd0040c + 0x40 * i + 0x4 * j
def CNT_BW_PFX_PFX (i j : Nat) : Fld := ⟨(CNT_BW_PFX i j), 0, 32⟩
def CNT_BW_BYTES_LO (i : Nat) : Nat := 0xd00420 + 0x40 * i
def CNT_BW_BYTES_LO_BYTES_LO (i : Nat) : Fld := ⟨(CNT_BW_BYTES_LO i), 0, 32⟩
def CNT_BW_BYTES_HI (i : Nat) : Nat := 0xd00424 + 0x40 * i
def CNT_BW_BYTES_HI_BYTES_HI (i : Nat) : Fld := ⟨(CNT_BW_BYTES_HI i), 0, 16⟩
def CNT_BW_FRAMES (i : Nat) : Nat := 0xd00428 + 0x40 * i
def CNT_BW_FRAMES_FRAMES (i : Nat) : Fld := ⟨(CNT_BW_FRAMES i), 0, 32⟩
def CNT_BW_RES (i : Nat) : Nat := 0xd0042c + 0x40 * i
def CNT_BW_RES_SEQ (i : Nat) : Fld := ⟨(CNT_BW_RES i), 16, 16⟩
def CNT_BW_RES_COAST (i : Nat) : Fld := ⟨(CNT_BW_RES i), 2, 1⟩
def CNT_BW_RES_STALE (i : Nat) : Fld := ⟨(CNT_BW_RES i), 1, 1⟩
def CNT_BW_RES_STEPPED (i : Nat) : Fld := ⟨(CNT_BW_RES i), 0, 1⟩
def CNT_BW_START (i : Nat) : Nat := 0xd00430 + 0x40 * i
def CNT_BW_START_START_US (i : Nat) : Fld := ⟨(CNT_BW_START i), 0, 32⟩
def CNT_VAL_LO (i j : Nat) : Nat := 0xd10000 + 0x200 * i + 0x8 * j
def CNT_VAL_LO_VAL_LO (i j : Nat) : Fld := ⟨(CNT_VAL_LO i j), 0, 32⟩
def CNT_VAL_HI (i j : Nat) : Nat := 0xd10004 + 0x200 * i + 0x8 * j
def CNT_VAL_HI_VAL_HI (i j : Nat) : Fld := ⟨(CNT_VAL_HI i j), 0, 16⟩
def CNT_WRAP0 (i : Nat) : Nat := 0xd101a0 + 0x200 * i
def CNT_WRAP0_WRAP (i : Nat) : Fld := ⟨(CNT_WRAP0 i), 0, 32⟩
def CNT_WRAP1 (i : Nat) : Nat := 0xd101a4 + 0x200 * i
def CNT_WRAP1_WRAP (i : Nat) : Fld := ⟨(CNT_WRAP1 i), 0, 20⟩
def CNT_SNAPBANK_VAL_LO (i j : Nat) : Nat := 0xd20000 + 0x200 * i + 0x8 * j
def CNT_SNAPBANK_VAL_LO_VAL_LO (i j : Nat) : Fld := ⟨(CNT_SNAPBANK_VAL_LO i j), 0, 32⟩
def CNT_SNAPBANK_VAL_HI (i j : Nat) : Nat := 0xd20004 + 0x200 * i + 0x8 * j
def CNT_SNAPBANK_VAL_HI_VAL_HI (i j : Nat) : Fld := ⟨(CNT_SNAPBANK_VAL_HI i j), 0, 16⟩
def CNT_SNAPBANK_WRAP0 (i : Nat) : Nat := 0xd201a0 + 0x200 * i
def CNT_SNAPBANK_WRAP0_WRAP (i : Nat) : Fld := ⟨(CNT_SNAPBANK_WRAP0 i), 0, 32⟩
def CNT_SNAPBANK_WRAP1 (i : Nat) : Nat := 0xd201a4 + 0x200 * i
def CNT_SNAPBANK_WRAP1_WRAP (i : Nat) : Fld := ⟨(CNT_SNAPBANK_WRAP1 i), 0, 20⟩
def MGT_CFG : Nat := 0xe00000
def MGT_CFG_KEYS_VALID : Fld := ⟨MGT_CFG, 24, 8⟩
def MGT_CFG_OPEN_ACCESS : Fld := ⟨MGT_CFG, 16, 1⟩
def MGT_CFG_ETHERTYPE : Fld := ⟨MGT_CFG, 0, 16⟩
def MGT_MAC_LO : Nat := 0xe00004
def MGT_MAC_LO_MAC_LO : Fld := ⟨MGT_MAC_LO, 0, 32⟩
def MGT_MAC_HI : Nat := 0xe00008
def MGT_MAC_HI_MAC_HI : Fld := ⟨MGT_MAC_HI, 0, 16⟩
def MGT_PORT_EN_LO : Nat := 0xe0000c
def MGT_PORT_EN_LO_PORTS : Fld := ⟨MGT_PORT_EN_LO, 0, 32⟩
def MGT_PORT_EN_HI : Nat := 0xe00010
def MGT_PORT_EN_HI_PORTS : Fld := ⟨MGT_PORT_EN_HI, 0, 32⟩
def MGT_AUTH_LO : Nat := 0xe00014
def MGT_AUTH_LO_PORTS : Fld := ⟨MGT_AUTH_LO, 0, 32⟩
def MGT_AUTH_HI : Nat := 0xe00018
def MGT_AUTH_HI_PORTS : Fld := ⟨MGT_AUTH_HI, 0, 32⟩
def MGT_BOOT_ID : Nat := 0xe0001c
def MGT_BOOT_ID_BOOT_ID : Fld := ⟨MGT_BOOT_ID, 0, 32⟩
def MGT_AGENT_CNT : Nat := 0xe00020
def MGT_AGENT_CNT_AUTH_FAIL : Fld := ⟨MGT_AGENT_CNT, 24, 8⟩
def MGT_AGENT_CNT_REPLAY : Fld := ⟨MGT_AGENT_CNT, 16, 8⟩
def MGT_AGENT_CNT_BUSY_DROP : Fld := ⟨MGT_AGENT_CNT, 8, 8⟩
def MGT_AGENT_CNT_PORT_DROP : Fld := ⟨MGT_AGENT_CNT, 0, 8⟩
def MGT_NOTIFY_CFG : Nat := 0xe00024
def MGT_NOTIFY_CFG_EN : Fld := ⟨MGT_NOTIFY_CFG, 31, 1⟩
def MGT_NOTIFY_CFG_HEALTH_EN : Fld := ⟨MGT_NOTIFY_CFG, 30, 1⟩
def MGT_NOTIFY_CFG_PORT : Fld := ⟨MGT_NOTIFY_CFG, 24, 6⟩
def MGT_NOTIFY_CFG_KEY_SLOT : Fld := ⟨MGT_NOTIFY_CFG, 16, 3⟩
def MGT_NOTIFY_CFG_HOLDOFF_MS : Fld := ⟨MGT_NOTIFY_CFG, 0, 16⟩
def MGT_NOTIFY_DMAC_LO : Nat := 0xe00028
def MGT_NOTIFY_DMAC_LO_MAC_LO : Fld := ⟨MGT_NOTIFY_DMAC_LO, 0, 32⟩
def MGT_NOTIFY_DMAC_HI : Nat := 0xe0002c
def MGT_NOTIFY_DMAC_HI_MAC_HI : Fld := ⟨MGT_NOTIFY_DMAC_HI, 0, 16⟩
def MGT_UART_CFG : Nat := 0xe00030
def MGT_UART_CFG_BAUD : Fld := ⟨MGT_UART_CFG, 2, 1⟩
def MGT_UART_CFG_READ_ONLY : Fld := ⟨MGT_UART_CFG, 1, 1⟩
def MGT_UART_CFG_EN : Fld := ⟨MGT_UART_CFG, 0, 1⟩
def MGT_ALARM : Nat := 0xe00040
def MGT_ALARM_ALARM : Fld := ⟨MGT_ALARM, 0, 14⟩
def MGT_ALARM_MASK : Nat := 0xe00044
def MGT_ALARM_MASK_MASK : Fld := ⟨MGT_ALARM_MASK, 0, 14⟩
def MGT_ALARM_CNT (i : Nat) : Nat := 0xe00048 + 0x4 * i
def MGT_ALARM_CNT_CNT (i : Nat) : Fld := ⟨(MGT_ALARM_CNT i), 0, 32⟩
def MGT_I2C_CMD (q : Nat) : Nat := 0xe00060 + 0x100000000 * (q + 1)
def MGT_I2C_CMD_GO (q : Nat) : Fld := ⟨(MGT_I2C_CMD q), 31, 1⟩
def MGT_I2C_CMD_RESULT (q : Nat) : Fld := ⟨(MGT_I2C_CMD q), 28, 3⟩
def MGT_I2C_CMD_SPEED (q : Nat) : Fld := ⟨(MGT_I2C_CMD q), 27, 1⟩
def MGT_I2C_CMD_OP (q : Nat) : Fld := ⟨(MGT_I2C_CMD q), 26, 1⟩
def MGT_I2C_CMD_LEN_M1 (q : Nat) : Fld := ⟨(MGT_I2C_CMD q), 24, 2⟩
def MGT_I2C_CMD_CAGE (q : Nat) : Fld := ⟨(MGT_I2C_CMD q), 20, 4⟩
def MGT_I2C_CMD_DEV (q : Nat) : Fld := ⟨(MGT_I2C_CMD q), 8, 7⟩
def MGT_I2C_CMD_REG (q : Nat) : Fld := ⟨(MGT_I2C_CMD q), 0, 8⟩
def MGT_I2C_DATA (q : Nat) : Nat := 0xe00064 + 0x100000000 * (q + 1)
def MGT_I2C_DATA_DATA (q : Nat) : Fld := ⟨(MGT_I2C_DATA q), 0, 32⟩

end Sys2Proof.Machine
end

