-- ==== Sys2Proof/Machine/RegMap.lean ====
section
/-! DEFINITION. The register map: every register of the field tables of spec/, block by block, with its address,
its instances, the resource it belongs to (R5), its clock domain (R435), whether it exists once per requester (R142),
its place in a wide register (R25, R26) and its fields with access code (R6) and reset value (R10).
A field the spec loads from the configuration image (CFG) holds its factory default until kindling loads an image
(DESIGN CHOICE, log entry 4); a factory-calibration field (FAC) is read from Config and is 0 in this table (log entry 5). -/

namespace Sys2Proof.Machine

/-- Block GLB (01 R37, 02 R71, 03 R104). -/
def glbRegs : List RegDef := [
  ⟨"GLB_ID", 0x0, [], .all, .management, false, .single, [
    ⟨"PART", 16, 16, .ro, (.part 25622 12808)⟩,
    ⟨"STEP_LETTER", 12, 4, .ro, (.val 0)⟩,
    ⟨"STEP_DIGIT", 8, 4, .ro, (.val 0)⟩,
    ⟨"PACKAGE", 4, 4, .ro, (.val 1)⟩]⟩,
  ⟨"GLB_STATUS", 0x4, [], .all, .management, false, .single, [
    ⟨"CFG_DEFAULTED", 8, 1, .ro, (.val 0)⟩,
    ⟨"PHASE", 4, 3, .ro, (.val 1)⟩,
    ⟨"STATE", 0, 3, .ro, (.val 1)⟩]⟩,
  ⟨"GLB_RESET_CAUSE", 0x8, [], .all, .vbat, false, .single, [
    ⟨"COUNT", 16, 16, .ro, (.val 0)⟩,
    ⟨"PREV", 8, 8, .ro, (.val 0)⟩,
    ⟨"CAUSE", 0, 8, .ro, (.val 0)⟩]⟩,
  ⟨"GLB_RESET_CTRL", 0xc, [], .all, .management, false, .single, [
    ⟨"KEY", 16, 16, .wo, (.val 0)⟩,
    ⟨"RESET", 0, 1, .wo, (.val 0)⟩]⟩,
  ⟨"GLB_TEMP", 0x100, [(9, 0x4)], .sensor, .management, false, .single, [
    ⟨"VALID", 31, 1, .ro, (.val 0)⟩,
    ⟨"TEMP", 0, 16, .ro, (.val 0)⟩]⟩,
  ⟨"GLB_TEMP_CFG", 0x130, [], .all, .management, false, .single, [
    ⟨"HYST", 16, 8, .rw, (.cfg 80)⟩,
    ⟨"ALARM_THR", 0, 16, .rw, (.cfg 2320)⟩]⟩,
  ⟨"GLB_PWR_STATUS", 0x140, [], .all, .management, false, .single, [
    ⟨"ILIM_SEEN", 11, 1, .w1c, (.val 0)⟩,
    ⟨"SENSOR_FAULT_SEEN", 10, 1, .w1c, (.val 0)⟩,
    ⟨"TEMP_ALARM_SEEN", 9, 1, .w1c, (.val 0)⟩,
    ⟨"OV_WARN_SEEN", 8, 1, .w1c, (.val 0)⟩,
    ⟨"SENSOR_FAULT", 3, 1, .ro, (.val 0)⟩,
    ⟨"TEMP_ALARM", 2, 1, .ro, (.val 0)⟩,
    ⟨"OV_WARN", 1, 1, .ro, (.val 0)⟩,
    ⟨"VIN_OK", 0, 1, .ro, (.val 1)⟩]⟩,
  ⟨"GLB_PWR_MON", 0x144, [], .all, .management, false, .single, [
    ⟨"IIN_MA", 16, 16, .ro, (.val 0)⟩,
    ⟨"VIN_MV", 0, 16, .ro, (.val 0)⟩]⟩,
  ⟨"GLB_VBAT_CTRL", 0x180, [], .all, .vbat, false, .single, [
    ⟨"CHARGE_EN", 1, 1, .rw, (.val 0)⟩,
    ⟨"DORMANT_OSC", 0, 1, .rw, (.val 0)⟩]⟩,
  ⟨"GLB_VBAT_STATUS", 0x184, [], .all, .vbat, false, .single, [
    ⟨"VBAT_MV", 16, 12, .ro, (.val 0)⟩,
    ⟨"LOW_SEEN", 4, 1, .w1c, (.val 0)⟩,
    ⟨"STORE_LOST", 3, 1, .w1c, (.val 1)⟩,
    ⟨"LOW", 1, 1, .ro, (.val 0)⟩,
    ⟨"PRESENT", 0, 1, .ro, (.val 0)⟩]⟩,
  ⟨"GLB_VBAT_LOG_SEL", 0x188, [], .all, .vbat, false, .single, [
    ⟨"COUNT", 8, 5, .ro, (.val 0)⟩,
    ⟨"INDEX", 0, 4, .rw, (.val 0)⟩]⟩,
  ⟨"GLB_VBAT_LOG", 0x18c, [], .all, .vbat, false, (.low [4]), [
    ⟨"DETAIL", 16, 16, .rl, (.val 0)⟩,
    ⟨"SEQ", 8, 8, .rl, (.val 0)⟩,
    ⟨"CODE", 0, 8, .rl, (.val 0)⟩]⟩,
  ⟨"GLB_VBAT_LOG_HI", 0x190, [], .all, .vbat, false, (.high (-4)), [
    ⟨"HI", 0, 32, .rl, (.val 0)⟩]⟩,
  ⟨"GLB_XING_LANE_LO", 0x200, [], .all, .management, false, (.low [4]), [
    ⟨"INVALID_L31_L0", 0, 32, .rl, (.val 0)⟩]⟩,
  ⟨"GLB_XING_LANE_HI", 0x204, [], .high, .management, false, (.high (-4)), [
    ⟨"INVALID_L63_L32", 0, 32, .rl, (.val 0)⟩]⟩,
  ⟨"GLB_XING_EVENT_LO", 0x208, [], .all, .management, false, .single, [
    ⟨"ENTERED_L31_L0", 0, 32, .w1c, (.val 0)⟩]⟩,
  ⟨"GLB_XING_EVENT_HI", 0x20c, [], .high, .management, false, .single, [
    ⟨"ENTERED_L63_L32", 0, 32, .w1c, (.val 0)⟩]⟩,
  ⟨"GLB_XING_DOMAIN", 0x210, [], .all, .management, false, .single, [
    ⟨"ENTER_CNT", 16, 5, .ro, (.val 0)⟩,
    ⟨"VBAT_ENTERED", 12, 1, .w1c, (.val 0)⟩,
    ⟨"NIB_ENTERED", 11, 1, .w1c, (.val 0)⟩,
    ⟨"PEAT_ENTERED", 10, 1, .w1c, (.val 0)⟩,
    ⟨"HEARTH_B_ENTERED", 9, 1, .w1c, (.val 0)⟩,
    ⟨"HEARTH_A_ENTERED", 8, 1, .w1c, (.val 0)⟩,
    ⟨"LANE_ANY", 5, 1, .ro, (.val 0)⟩,
    ⟨"VBAT_INVALID", 4, 1, .ro, (.val 0)⟩,
    ⟨"NIB_INVALID", 3, 1, .ro, (.val 0)⟩,
    ⟨"PEAT_INVALID", 2, 1, .ro, (.val 0)⟩,
    ⟨"HEARTH_B_INVALID", 1, 1, .ro, (.val 0)⟩,
    ⟨"HEARTH_A_INVALID", 0, 1, .ro, (.val 0)⟩]⟩]

/-- Block CFG (03 R105). -/
def cfgRegs : List RegDef := [
  ⟨"CFG_STAGE_CTRL", 0x100000, [], .all, .spine, false, .single, [
    ⟨"OWNER", 20, 4, .ro, (.val 0)⟩,
    ⟨"STATE", 16, 3, .ro, (.val 0)⟩,
    ⟨"READ_SHADOW", 8, 1, .rw, (.val 0)⟩,
    ⟨"TIMED", 5, 1, .rw, (.val 0)⟩,
    ⟨"FORCE_LOCAL", 4, 1, .rw, (.val 0)⟩,
    ⟨"ABORT", 3, 1, .wo, (.val 0)⟩,
    ⟨"ARM", 2, 1, .wo, (.val 0)⟩,
    ⟨"CHECK", 1, 1, .wo, (.val 0)⟩,
    ⟨"OPEN", 0, 1, .wo, (.val 0)⟩]⟩,
  ⟨"CFG_CHECK_RESULT", 0x100004, [], .all, .spine, false, .single, [
    ⟨"FAIL_CNT", 16, 8, .ro, (.val 0)⟩,
    ⟨"CODE", 0, 8, .ro, (.val 0)⟩]⟩,
  ⟨"CFG_CHECK_ADDR", 0x100008, [], .all, .spine, false, .single, [
    ⟨"ADDR", 0, 32, .ro, (.val 0)⟩]⟩,
  ⟨"CFG_COMMIT_TIME_SEC_HI", 0x100010, [], .all, .spine, false, (.high 8), [
    ⟨"SEC_HI", 0, 16, .rw, (.val 0)⟩]⟩,
  ⟨"CFG_COMMIT_TIME_SEC_LO", 0x100014, [], .all, .spine, false, (.high 4), [
    ⟨"SEC_LO", 0, 32, .rw, (.val 0)⟩]⟩,
  ⟨"CFG_COMMIT_TIME_NS", 0x100018, [], .all, .spine, false, (.low [-4, -8]), [
    ⟨"NS", 0, 30, .rw, (.val 0)⟩]⟩,
  ⟨"CFG_COMMIT_STATUS", 0x10001c, [], .all, .spine, false, .single, [
    ⟨"COMMIT_CNT", 16, 16, .ro, (.val 0)⟩,
    ⟨"LATE", 11, 1, .w1c, (.val 0)⟩,
    ⟨"SESSION_LOST", 10, 1, .w1c, (.val 0)⟩,
    ⟨"APPLIED", 9, 1, .w1c, (.val 0)⟩,
    ⟨"REFUSED", 8, 1, .w1c, (.val 0)⟩,
    ⟨"REFUSE_CODE", 0, 8, .ro, (.val 0)⟩]⟩,
  ⟨"CFG_ACTIVE_SEQ", 0x100020, [], .all, .flash, false, .single, [
    ⟨"SEQ", 0, 32, .ro, (.val 0)⟩]⟩,
  ⟨"CFG_BANK_STATUS", 0x100024, [], .all, .flash, false, .single, [
    ⟨"DIRTY", 24, 1, .ro, (.val 0)⟩,
    ⟨"LOADED_BANK", 16, 1, .ro, (.val 0)⟩,
    ⟨"BANK1", 4, 4, .ro, (.val 0)⟩,
    ⟨"BANK0", 0, 4, .ro, (.val 0)⟩]⟩,
  ⟨"CFG_BANK_SEQ", 0x100028, [(2, 0x4)], .all, .flash, false, .single, [
    ⟨"SEQ", 0, 32, .ro, (.val 4294967295)⟩]⟩,
  ⟨"CFG_PERSIST", 0x100030, [], .all, .flash, false, .single, [
    ⟨"RESULT", 16, 8, .ro, (.val 0)⟩,
    ⟨"SNAPSHOT_STALE", 2, 1, .w1c, (.val 0)⟩,
    ⟨"DONE", 1, 1, .w1c, (.val 0)⟩,
    ⟨"START", 0, 1, .sc, (.val 0)⟩]⟩]

/-- Block LANE (04 R131). -/
def laneRegs : List RegDef := [
  ⟨"LANE_CTRL", 0x200000, [(64, 0x1000)], .lane, .management, false, .single, [
    ⟨"RX_INV", 9, 1, .rw, (.cfg 0)⟩,
    ⟨"TX_INV", 8, 1, .rw, (.cfg 0)⟩,
    ⟨"RATE", 4, 2, .rw, (.cfg 0)⟩,
    ⟨"ENABLE", 0, 1, .rw, (.cfg 1)⟩]⟩,
  ⟨"LANE_STATUS", 0x200004, [(64, 0x1000)], .lane, .laneRx, false, .single, [
    ⟨"FREQ_OFS", 16, 16, .ro, (.val 32768)⟩,
    ⟨"LINK_DOWN_SEEN", 15, 1, .w1c, (.val 0)⟩,
    ⟨"LOS_SEEN", 14, 1, .w1c, (.val 0)⟩,
    ⟨"CROSSING_INVALID", 11, 1, .ro, (.val 0)⟩,
    ⟨"HI_BER", 10, 1, .ro, (.val 0)⟩,
    ⟨"BLOCK_LOCK", 9, 1, .ro, (.val 0)⟩,
    ⟨"CDR_LOCK", 8, 1, .ro, (.val 0)⟩,
    ⟨"SIGNAL", 7, 1, .ro, (.val 0)⟩,
    ⟨"RATE_FOUND", 4, 2, .ro, (.val 0)⟩,
    ⟨"LSTATE", 0, 3, .ro, (.val 0)⟩]⟩,
  ⟨"LANE_EQ", 0x200008, [(64, 0x1000)], .lane, .management, false, .single, [
    ⟨"TX_AMP", 24, 4, .rw, (.cfg 10)⟩,
    ⟨"TX_PRE", 20, 4, .rw, (.cfg 0)⟩,
    ⟨"TX_POST", 16, 4, .rw, (.cfg 4)⟩,
    ⟨"RX_ADAPT", 8, 1, .rw, (.cfg 1)⟩,
    ⟨"RX_CTLE", 0, 4, .rw, (.cfg 8)⟩]⟩,
  ⟨"LANE_PRBS_CTRL", 0x20000c, [(64, 0x1000)], .lane, .management, false, .single, [
    ⟨"LOCK_LOST_SEEN", 15, 1, .w1c, (.val 0)⟩,
    ⟨"LOCK", 14, 1, .ro, (.val 0)⟩,
    ⟨"CLR", 8, 1, .wo, (.val 0)⟩,
    ⟨"INV", 7, 1, .rw, (.val 0)⟩,
    ⟨"PATTERN", 4, 3, .rw, (.val 0)⟩,
    ⟨"RX_EN", 1, 1, .rw, (.val 0)⟩,
    ⟨"TX_EN", 0, 1, .rw, (.val 0)⟩]⟩,
  ⟨"LANE_PRBS_ERRCNT", 0x200010, [(64, 0x1000)], .lane, .laneRx, false, .single, [
    ⟨"ERRCNT", 0, 32, .ro, (.val 0)⟩]⟩,
  ⟨"LANE_ERR_INJECT", 0x200014, [(64, 0x1000)], .lane, .management, false, .single, [
    ⟨"GO", 31, 1, .sc, (.val 0)⟩,
    ⟨"LEN", 16, 7, .rw, (.val 1)⟩,
    ⟨"INJ_CNT", 0, 16, .ro, (.val 0)⟩]⟩,
  ⟨"LANE_PRBS_USER_LO", 0x200018, [(64, 0x1000)], .lane, .management, false, (.low [4]), [
    ⟨"PATTERN", 0, 32, .rw, (.val 0)⟩]⟩,
  ⟨"LANE_PRBS_USER_HI", 0x20001c, [(64, 0x1000)], .lane, .management, false, (.high (-4)), [
    ⟨"PATTERN", 0, 32, .rw, (.val 0)⟩]⟩,
  ⟨"LANE_CMD", 0x200020, [(64, 0x1000)], .lane, .management, false, .single, [
    ⟨"RESTART", 0, 1, .sc, (.val 0)⟩]⟩]

/-- Block CLKL (04 R132). -/
def clklRegs : List RegDef := [
  ⟨"CLKL_CTRL", 0x280000, [(16, 0x1000)], .clockLane, .spine, false, .single, [
    ⟨"TX_AMP", 16, 4, .rw, (.cfg 10)⟩,
    ⟨"RETRY_MS", 8, 8, .rw, (.cfg 10)⟩,
    ⟨"RX_INV", 3, 1, .rw, (.cfg 0)⟩,
    ⟨"TX_INV", 2, 1, .rw, (.cfg 0)⟩,
    ⟨"MANUAL", 1, 1, .rw, (.cfg 0)⟩,
    ⟨"ENABLE", 0, 1, .rw, (.cfg 0)⟩]⟩,
  ⟨"CLKL_SLIP", 0x280004, [(16, 0x1000)], .clockLane, .spine, false, .single, [
    ⟨"POS", 8, 4, .ro, (.val 0)⟩,
    ⟨"CONFIRM", 1, 1, .sc, (.val 0)⟩,
    ⟨"SLIP", 0, 1, .sc, (.val 0)⟩]⟩,
  ⟨"CLKL_ALIGN_STATUS", 0x280008, [(16, 0x1000)], .clockLane, .spine, false, .single, [
    ⟨"COMMA_CNT", 21, 11, .ro, (.val 0)⟩,
    ⟨"CODE_ERR", 11, 10, .ro, (.val 0)⟩,
    ⟨"WIN_SEQ", 7, 4, .ro, (.val 0)⟩,
    ⟨"SEARCH_FAIL_SEEN", 6, 1, .w1c, (.val 0)⟩,
    ⟨"ALIGN_LOST_SEEN", 5, 1, .w1c, (.val 0)⟩,
    ⟨"ALIGNED", 3, 1, .ro, (.val 0)⟩,
    ⟨"RX_LOCK", 2, 1, .ro, (.val 0)⟩,
    ⟨"SIGNAL", 1, 1, .ro, (.val 0)⟩]⟩,
  ⟨"CLKL_PRBS_CTRL", 0x28000c, [(16, 0x1000)], .clockLane, .spine, false, .single, [
    ⟨"INJ_GO", 31, 1, .sc, (.val 0)⟩,
    ⟨"INJ_LEN", 24, 7, .rw, (.val 1)⟩,
    ⟨"LOCK_LOST_SEEN", 15, 1, .w1c, (.val 0)⟩,
    ⟨"LOCK", 14, 1, .ro, (.val 0)⟩,
    ⟨"CLR", 8, 1, .wo, (.val 0)⟩,
    ⟨"INV", 7, 1, .rw, (.val 0)⟩,
    ⟨"PATTERN", 4, 3, .rw, (.val 0)⟩,
    ⟨"RX_EN", 1, 1, .rw, (.val 0)⟩,
    ⟨"TX_EN", 0, 1, .rw, (.val 0)⟩]⟩,
  ⟨"CLKL_PRBS_ERRCNT", 0x280010, [(16, 0x1000)], .clockLane, .spine, false, .single, [
    ⟨"ERRCNT", 0, 32, .ro, (.val 0)⟩]⟩,
  ⟨"CLKL_PRBS_USER_LO", 0x280014, [(16, 0x1000)], .clockLane, .spine, false, (.low [4]), [
    ⟨"PATTERN", 0, 32, .rw, (.val 0)⟩]⟩,
  ⟨"CLKL_PRBS_USER_HI", 0x280018, [(16, 0x1000)], .clockLane, .spine, false, (.high (-4)), [
    ⟨"PATTERN", 0, 32, .rw, (.val 0)⟩]⟩]

/-- Block PORT (04 R133, 05 R177). -/
def portRegs : List RegDef := [
  ⟨"PORT_MODE", 0x300000, [(64, 0x1000)], .port, .slice, false, .single, [
    ⟨"AN37", 8, 1, .rw, (.cfg 1)⟩,
    ⟨"FEC", 4, 2, .rw, (.cfg 0)⟩,
    ⟨"GROUP4", 1, 1, .rw, (.cfg 0)⟩,
    ⟨"ENABLE", 0, 1, .rw, (.cfg 1)⟩]⟩,
  ⟨"PORT_FWD_MODE", 0x300004, [(64, 0x1000)], .port, .slice, false, .single, [
    ⟨"PVID", 20, 12, .rw, (.cfg 1)⟩,
    ⟨"ACCEPT", 18, 2, .rw, (.cfg 0)⟩,
    ⟨"INGRESS_FILTER", 17, 1, .rw, (.cfg 1)⟩,
    ⟨"CT_SOURCE", 16, 1, .rw, (.cfg 1)⟩,
    ⟨"DEF_PCP", 12, 3, .rw, (.cfg 0)⟩,
    ⟨"CT", 0, 10, .rw, (.cfg 0)⟩]⟩,
  ⟨"PORT_STATUS", 0x300008, [(64, 0x1000)], .port, .slice, false, .single, [
    ⟨"DOWN_CNT", 24, 8, .ro, (.val 0)⟩,
    ⟨"CAGE_INT", 18, 1, .ro, (.val 0)⟩,
    ⟨"TRUNK_LOST_SEEN", 17, 1, .w1c, (.val 0)⟩,
    ⟨"LINK_DOWN_SEEN", 16, 1, .w1c, (.val 0)⟩,
    ⟨"DESKEW_OK", 11, 1, .ro, (.val 0)⟩,
    ⟨"AN_DONE", 10, 1, .ro, (.val 0)⟩,
    ⟨"RF", 9, 1, .ro, (.val 0)⟩,
    ⟨"LF", 8, 1, .ro, (.val 0)⟩,
    ⟨"TYPE", 4, 3, .ro, (.val 0)⟩,
    ⟨"FEC_ACTIVE", 2, 2, .ro, (.val 0)⟩,
    ⟨"LINK", 0, 1, .ro, (.val 0)⟩]⟩,
  ⟨"PORT_TRUNK", 0x30000c, [(16, 0x4000)], .clockLane, .slice, false, .single, [
    ⟨"IS_TRUNK", 16, 1, .ro, (.val 0)⟩,
    ⟨"REQUIRED", 0, 1, .rw, (.cfg 0)⟩]⟩]

/-- Block FWD (05 R176). -/
def fwdRegs : List RegDef := [
  ⟨"FWD_TBL_CMD", 0x400000, [], .all, .slice, true, .single, [
    ⟨"GO", 31, 1, .sc, (.val 0)⟩,
    ⟨"RESULT", 24, 4, .ro, (.val 0)⟩,
    ⟨"OP", 16, 4, .rw, (.val 0)⟩,
    ⟨"TABLE", 0, 4, .rw, (.val 0)⟩]⟩,
  ⟨"FWD_TBL_ADDR", 0x400004, [], .all, .slice, true, .single, [
    ⟨"INDEX", 0, 18, .rw, (.val 0)⟩]⟩,
  ⟨"FWD_TBL_DATA", 0x400010, [(8, 0x4)], .all, .slice, true, .single, [
    ⟨"DATA", 0, 32, .rw, (.val 0)⟩]⟩,
  ⟨"FWD_EPOCH", 0x400040, [], .all, .slice, false, .single, [
    ⟨"DRAINING", 16, 1, .ro, (.val 0)⟩,
    ⟨"EPOCH", 0, 16, .ro, (.val 0)⟩]⟩,
  ⟨"FWD_HASH_CFG", 0x400044, [], .all, .slice, false, .single, [
    ⟨"SEED", 16, 16, .rw, (.cfg 0)⟩,
    ⟨"FIELDS", 0, 11, .rw, (.cfg 1022)⟩]⟩,
  ⟨"FWD_LEARN_CFG", 0x400048, [], .all, .slice, false, .single, [
    ⟨"MOVE_EN", 16, 1, .rw, (.cfg 1)⟩,
    ⟨"AGE_S", 0, 16, .rw, (.cfg 300)⟩]⟩,
  ⟨"FWD_LEARN_CMD", 0x40004c, [], .all, .slice, false, .single, [
    ⟨"FLUSH", 31, 1, .sc, (.val 0)⟩,
    ⟨"PORT_ONLY", 30, 1, .rw, (.val 0)⟩,
    ⟨"PORT", 0, 6, .rw, (.val 0)⟩]⟩,
  ⟨"FWD_LEARN_STATUS", 0x400050, [], .all, .slice, false, .single, [
    ⟨"LEARN_LOST", 16, 16, .ro, (.val 0)⟩,
    ⟨"LOST_SEEN", 1, 1, .w1c, (.val 0)⟩]⟩,
  ⟨"FWD_MC_CFG", 0x400054, [], .all, .slice, false, .single, [
    ⟨"RESIDUE_US", 0, 16, .rw, (.cfg 2000)⟩]⟩,
  ⟨"FWD_MC_STATUS", 0x400058, [], .all, .slice, false, .single, [
    ⟨"FULL_SEEN", 16, 1, .w1c, (.val 0)⟩,
    ⟨"PENDING", 0, 15, .ro, (.val 0)⟩]⟩,
  ⟨"FWD_BLOT_CNT", 0x401000, [(64, 0x10)], .port, .slice, false, .single, [
    ⟨"IN", 0, 32, .ro, (.val 0)⟩]⟩,
  ⟨"FWD_BLOT_OUT_CNT", 0x401004, [(64, 0x10)], .port, .slice, false, .single, [
    ⟨"OUT", 0, 32, .ro, (.val 0)⟩]⟩,
  ⟨"FWD_BLOT_CAUSE", 0x401008, [(64, 0x10)], .port, .slice, false, .single, [
    ⟨"MEM", 7, 1, .w1c, (.val 0)⟩,
    ⟨"QUILL", 6, 1, .w1c, (.val 0)⟩,
    ⟨"OVERSIZE", 5, 1, .w1c, (.val 0)⟩,
    ⟨"POLICE", 4, 1, .w1c, (.val 0)⟩,
    ⟨"TRUNC", 3, 1, .w1c, (.val 0)⟩,
    ⟨"RX_ERR", 2, 1, .w1c, (.val 0)⟩,
    ⟨"FCS", 1, 1, .w1c, (.val 0)⟩]⟩,
  ⟨"FWD_RESIDUE_DROP", 0x40100c, [(64, 0x10)], .port, .slice, false, .single, [
    ⟨"BAD", 16, 16, .ro, (.val 0)⟩,
    ⟨"TIMEOUT", 0, 16, .ro, (.val 0)⟩]⟩]

/-- Block QW (06 R204). -/
def qwRegs : List RegDef := [
  ⟨"QW_TBL_CMD", 0x500000, [], .all, .spine, true, .single, [
    ⟨"GO", 31, 1, .sc, (.val 0)⟩,
    ⟨"OP", 16, 4, .rw, (.val 0)⟩,
    ⟨"INACTIVE", 8, 1, .rw, (.val 0)⟩]⟩,
  ⟨"QW_TBL_SEL", 0x500004, [], .all, .spine, true, .single, [
    ⟨"PORT", 16, 6, .rw, (.val 0)⟩,
    ⟨"INDEX", 0, 10, .rw, (.val 0)⟩]⟩,
  ⟨"QW_TBL_DATA", 0x500010, [(5, 0x4)], .all, .spine, true, .single, [
    ⟨"DATA", 0, 32, .rw, (.val 0)⟩]⟩,
  ⟨"QW_PORT_CFG", 0x501000, [(64, 0x20)], .port, .spine, false, .single, [
    ⟨"PHASE_SRC", 8, 6, .rw, (.cfg 0)⟩,
    ⟨"SRC_EN", 3, 1, .rw, (.cfg 0)⟩,
    ⟨"LOOP_TIMED", 2, 1, .rw, (.cfg 0)⟩,
    ⟨"MINIMUM", 1, 1, .rw, (.cfg 0)⟩,
    ⟨"ENABLE", 0, 1, .rw, (.cfg 0)⟩]⟩,
  ⟨"QW_CYCLE_NS", 0x501004, [(64, 0x20)], .port, .spine, false, .single, [
    ⟨"CYCLE_NS", 0, 30, .rw, (.cfg 0)⟩]⟩,
  ⟨"QW_GUARD", 0x501008, [(64, 0x20)], .port, .spine, false, .single, [
    ⟨"POST_NS", 16, 16, .rw, (.cfg 0)⟩,
    ⟨"PRE_NS", 0, 16, .rw, (.cfg 0)⟩]⟩,
  ⟨"QW_ACTIVE_BANK", 0x50100c, [(64, 0x20)], .port, .spine, false, .single, [
    ⟨"SWAP_CNT", 16, 16, .ro, (.val 0)⟩,
    ⟨"SWAPPED_SEEN", 2, 1, .w1c, (.val 0)⟩,
    ⟨"PENDING", 1, 1, .ro, (.val 0)⟩,
    ⟨"BANK", 0, 1, .ro, (.val 0)⟩]⟩,
  ⟨"QW_STATUS", 0x501010, [(64, 0x20)], .port, .spine, false, .single, [
    ⟨"MISS_CNT", 16, 16, .ro, (.val 0)⟩,
    ⟨"DRIFT_SEEN", 10, 1, .w1c, (.val 0)⟩,
    ⟨"CLOSED_SEEN", 9, 1, .w1c, (.val 0)⟩,
    ⟨"MISS_SEEN", 8, 1, .w1c, (.val 0)⟩,
    ⟨"SUSP_TAKEOVER", 4, 1, .ro, (.val 0)⟩,
    ⟨"SYNT_OK", 3, 1, .ro, (.val 0)⟩,
    ⟨"STEER_LOCK", 2, 1, .ro, (.val 0)⟩,
    ⟨"STEERING", 1, 1, .ro, (.val 0)⟩,
    ⟨"OPEN", 0, 1, .ro, (.val 0)⟩]⟩,
  ⟨"QW_LAT", 0x501014, [(64, 0x20)], .port, .spine, false, .single, [
    ⟨"VALID", 31, 1, .ro, (.val 0)⟩,
    ⟨"CONST", 30, 1, .ro, (.val 0)⟩,
    ⟨"STALE", 29, 1, .ro, (.val 0)⟩,
    ⟨"INDEX", 16, 10, .ro, (.val 0)⟩,
    ⟨"LAT_PS", 0, 14, .ro, (.val 0)⟩]⟩,
  ⟨"QW_MISMATCH_CNT", 0x501018, [(64, 0x20)], .port, .spine, false, .single, [
    ⟨"MISMATCH", 0, 32, .ro, (.val 0)⟩]⟩,
  ⟨"QW_PHASE", 0x50101c, [(64, 0x20)], .port, .spine, false, .single, [
    ⟨"TX_PHASE_PS", 16, 13, .ro, (.val 0)⟩,
    ⟨"REQ_PS", 0, 13, .ro, (.val 8191)⟩]⟩]

/-- Block BUF (07 R237, 07 R238, 07 R239, 07 R240). -/
def bufRegs : List RegDef := [
  ⟨"BUF_POOL_CFG0", 0x600000, [], .all, .slice, false, .single, [
    ⟨"RUN_SIZE", 16, 10, .ro, (.val 0)⟩,
    ⟨"SIZE", 0, 10, .rw, (.cfgPart 96 48)⟩]⟩,
  ⟨"BUF_POOL_CFG1", 0x600004, [], .all, .slice, false, .single, [
    ⟨"RUN_SIZE", 16, 10, .ro, (.val 0)⟩,
    ⟨"SIZE", 0, 10, .rw, (.cfgPart 96 48)⟩]⟩,
  ⟨"BUF_POOL_CFG2", 0x600008, [], .all, .slice, false, .single, [
    ⟨"RUN_SIZE", 16, 10, .ro, (.val 0)⟩,
    ⟨"SIZE", 0, 10, .rw, (.cfgPart 192 96)⟩]⟩,
  ⟨"BUF_POOL_CFG3", 0x60000c, [], .all, .slice, false, .single, [
    ⟨"RUN_SIZE", 16, 10, .ro, (.val 0)⟩,
    ⟨"SIZE", 0, 10, .rw, (.cfgPart 384 192)⟩]⟩,
  ⟨"BUF_POOL_FREE", 0x600010, [(4, 0x4)], .all, .slice, false, .single, [
    ⟨"REBUILD", 31, 1, .ro, (.val 0)⟩,
    ⟨"FREE", 0, 19, .ro, (.val 0)⟩]⟩,
  ⟨"BUF_POOL_FAIL", 0x600020, [(4, 0x4)], .all, .slice, false, .single, [
    ⟨"FAIL", 0, 32, .ro, (.val 0)⟩]⟩,
  ⟨"BUF_DT_K", 0x600030, [], .all, .slice, false, .single, [
    ⟨"K", 0, 32, .rw, (.cfg 0)⟩]⟩,
  ⟨"BUF_DT_K_SYS", 0x600034, [], .all, .slice, false, .single, [
    ⟨"K_MGMT", 4, 4, .rw, (.cfg 2)⟩,
    ⟨"K_TIME", 0, 4, .rw, (.cfg 2)⟩]⟩,
  ⟨"BUF_CFG", 0x600038, [], .all, .slice, false, .single, [
    ⟨"LINK_FLUSH_MS", 0, 16, .rw, (.cfg 100)⟩]⟩,
  ⟨"BUF_PEAT_CFG", 0x600040, [], .all, .slice, false, .single, [
    ⟨"ENABLE", 0, 1, .rw, (.cfg 1)⟩]⟩,
  ⟨"BUF_PEAT_STATUS", 0x600044, [], .all, .slice, false, .single, [
    ⟨"USED_MIB", 16, 14, .ro, (.val 0)⟩,
    ⟨"READY", 15, 1, .ro, (.val 0)⟩,
    ⟨"LOST_SEEN", 2, 1, .w1c, (.val 0)⟩,
    ⟨"PEND_FULL_SEEN", 1, 1, .w1c, (.val 0)⟩,
    ⟨"FULL_SEEN", 0, 1, .w1c, (.val 0)⟩]⟩,
  ⟨"BUF_PEAT_CMD", 0x600048, [], .all, .slice, false, .single, [
    ⟨"RESTART", 0, 1, .sc, (.val 0)⟩]⟩,
  ⟨"BUF_ECC", 0x60004c, [], .all, .slice, false, .single, [
    ⟨"INK_CORR", 16, 16, .ro, (.val 0)⟩,
    ⟨"INK_UNCORR", 10, 6, .ro, (.val 0)⟩,
    ⟨"PEAT_UNCORR", 4, 6, .ro, (.val 0)⟩,
    ⟨"PEAT_UNCORR_SEEN", 2, 1, .w1c, (.val 0)⟩,
    ⟨"INK_UNCORR_SEEN", 1, 1, .w1c, (.val 0)⟩,
    ⟨"CORR_SEEN", 0, 1, .w1c, (.val 0)⟩]⟩,
  ⟨"BUF_QUOTA", 0x610000, [(64, 0x400), (10, 0x40)], .port, .slice, false, .single, [
    ⟨"QUOTA", 0, 27, .rw, (.cfg 134217727)⟩]⟩,
  ⟨"BUF_SPILL", 0x610004, [(64, 0x400), (10, 0x40)], .port, .slice, false, .single, [
    ⟨"EN", 31, 1, .rw, (.cfg 0)⟩,
    ⟨"MARK", 0, 19, .rw, (.cfg 0)⟩]⟩,
  ⟨"BUF_SCHED", 0x610008, [(64, 0x400), (10, 0x40)], .port, .slice, false, .single, [
    ⟨"WEIGHT", 8, 8, .rw, (.cfg 1)⟩,
    ⟨"ALG", 0, 2, .rw, (.cfg 0)⟩]⟩,
  ⟨"BUF_CBS_IDLE", 0x61000c, [(64, 0x400), (10, 0x40)], .port, .slice, false, .single, [
    ⟨"IDLE_KBPS", 0, 32, .rw, (.cfg 0)⟩]⟩,
  ⟨"BUF_Q_OCC_ON", 0x610010, [(64, 0x400), (10, 0x40)], .port, .slice, false, .single, [
    ⟨"O_ON", 0, 19, .ro, (.val 0)⟩]⟩,
  ⟨"BUF_Q_OCC_PEAT", 0x610014, [(64, 0x400), (10, 0x40)], .port, .slice, false, .single, [
    ⟨"SPILLING", 31, 1, .ro, (.val 0)⟩,
    ⟨"O_PEAT", 0, 27, .ro, (.val 0)⟩]⟩,
  ⟨"BUF_Q_DROP", 0x610018, [(64, 0x400), (10, 0x40)], .port, .slice, false, .single, [
    ⟨"DROP", 0, 32, .ro, (.val 0)⟩]⟩,
  ⟨"BUF_Q_DROP_CAUSE", 0x61001c, [(64, 0x400), (10, 0x40)], .port, .slice, false, .single, [
    ⟨"CAUSE", 0, 8, .w1c, (.val 0)⟩]⟩,
  ⟨"BUF_GATE_CFG", 0x620000, [(64, 0x40)], .port, .slice, false, .single, [
    ⟨"ENABLE", 0, 1, .rw, (.cfg 0)⟩]⟩,
  ⟨"BUF_GATE_CYCLE_NS", 0x620004, [(64, 0x40)], .port, .slice, false, .single, [
    ⟨"CYCLE_NS", 0, 30, .rw, (.cfg 1000000)⟩]⟩,
  ⟨"BUF_GATE_PHASE_NS", 0x620008, [(64, 0x40)], .port, .slice, false, .single, [
    ⟨"PHASE_NS", 0, 30, .rw, (.cfg 0)⟩]⟩,
  ⟨"BUF_GATE_STATUS", 0x62000c, [(64, 0x40)], .port, .slice, false, .single, [
    ⟨"ENTRY", 24, 8, .ro, (.val 0)⟩,
    ⟨"SWAPPED_SEEN", 17, 1, .w1c, (.val 0)⟩,
    ⟨"PENDING", 16, 1, .ro, (.val 0)⟩,
    ⟨"GATES", 0, 10, .ro, (.val 1023)⟩]⟩,
  ⟨"BUF_GCL_STATE", 0x640000, [(64, 0x800), (256, 0x8)], .port, .slice, false, .single, [
    ⟨"VALID", 31, 1, .rw, (.cfg 0)⟩,
    ⟨"GATES", 0, 10, .rw, (.cfg 1023)⟩]⟩,
  ⟨"BUF_GCL_INTERVAL", 0x640004, [(64, 0x800), (256, 0x8)], .port, .slice, false, .single, [
    ⟨"INTERVAL_NS", 0, 30, .rw, (.cfg 0)⟩]⟩]

/-- Block TIME (08 R268). -/
def timeRegs : List RegDef := [
  ⟨"TIME_SEC_HI", 0x700000, [], .all, .spine, false, (.high 12), [
    ⟨"SEC_HI", 0, 16, .rl, (.val 0)⟩]⟩,
  ⟨"TIME_SEC_LO", 0x700004, [], .all, .spine, false, (.high 8), [
    ⟨"SEC_LO", 0, 32, .rl, (.val 0)⟩]⟩,
  ⟨"TIME_NS", 0x700008, [], .all, .spine, false, (.high 4), [
    ⟨"NS", 0, 30, .rl, (.val 0)⟩]⟩,
  ⟨"TIME_FRAC", 0x70000c, [], .all, .spine, false, (.low [-4, -8, -12]), [
    ⟨"FRAC", 0, 16, .rl, (.val 0)⟩]⟩,
  ⟨"TIME_RATE_HI", 0x700010, [], .all, .spine, false, (.high 4), [
    ⟨"RATE_HI", 0, 16, .rw, (.val 0)⟩]⟩,
  ⟨"TIME_RATE", 0x700014, [], .all, .spine, false, (.low [-4]), [
    ⟨"RATE_LO", 0, 32, .rw, (.val 0)⟩]⟩,
  ⟨"TIME_STEP_SEC_HI", 0x700018, [], .all, .spine, false, (.high 8), [
    ⟨"SEC_HI", 0, 16, .rw, (.val 0)⟩]⟩,
  ⟨"TIME_STEP_SEC_LO", 0x70001c, [], .all, .spine, false, (.high 4), [
    ⟨"SEC_LO", 0, 32, .rw, (.val 0)⟩]⟩,
  ⟨"TIME_STEP_NS", 0x700020, [], .all, .spine, false, (.low [-4, -8]), [
    ⟨"NS", 0, 30, .rw, (.val 0)⟩]⟩,
  ⟨"TIME_STEP", 0x700024, [], .all, .spine, false, .single, [
    ⟨"GO", 31, 1, .sc, (.val 0)⟩,
    ⟨"ERR_SEEN", 8, 1, .w1c, (.val 0)⟩,
    ⟨"MODE", 0, 2, .rw, (.val 0)⟩]⟩,
  ⟨"TIME_SLEW", 0x700028, [], .all, .spine, false, .single, [
    ⟨"AMOUNT", 0, 32, .wo, (.val 0)⟩]⟩,
  ⟨"TIME_SLEW_CFG", 0x70002c, [], .all, .spine, false, .single, [
    ⟨"SLOPE", 0, 17, .rw, (.cfg 1000)⟩]⟩,
  ⟨"TIME_SLEW_REMAIN", 0x700030, [], .all, .spine, false, .single, [
    ⟨"REMAIN", 0, 32, .ro, (.val 0)⟩]⟩,
  ⟨"TIME_STATE", 0x700034, [], .all, .spine, false, .single, [
    ⟨"STEP_CNT", 16, 16, .ro, (.val 0)⟩,
    ⟨"STATE_CHG_SEEN", 11, 1, .w1c, (.val 0)⟩,
    ⟨"RATE_CLAMP_SEEN", 10, 1, .w1c, (.val 0)⟩,
    ⟨"STEP_SEEN", 9, 1, .w1c, (.val 0)⟩,
    ⟨"INST", 4, 3, .ro, (.val 0)⟩,
    ⟨"SRC_ACTIVE", 2, 2, .ro, (.val 0)⟩,
    ⟨"STATE", 0, 2, .ro, (.val 0)⟩]⟩,
  ⟨"TIME_CTRL", 0x700038, [], .all, .spine, false, .single, [
    ⟨"MANUAL", 8, 1, .rw, (.cfg 0)⟩,
    ⟨"SRC_INST", 4, 3, .rw, (.cfg 0)⟩,
    ⟨"SRC", 0, 2, .rw, (.cfg 0)⟩]⟩,
  ⟨"TIME_CNT", 0x70003c, [], .all, .spine, false, .single, [
    ⟨"ONESTEP_DROP", 16, 16, .ro, (.val 0)⟩,
    ⟨"CORR_SAT", 0, 16, .ro, (.val 0)⟩]⟩,
  ⟨"TIME_INST_CFG", 0x700100, [(8, 0x20)], .all, .spine, false, .single, [
    ⟨"ENABLE", 31, 1, .rw, (.cfg 0)⟩,
    ⟨"SLAVE_ONLY", 30, 1, .rw, (.cfg 0)⟩,
    ⟨"PROFILE", 28, 2, .rw, (.cfg 0)⟩,
    ⟨"TRANSPORT", 26, 2, .rw, (.cfg 0)⟩,
    ⟨"ONE_STEP", 25, 1, .rw, (.cfg 0)⟩,
    ⟨"DOMAIN", 16, 8, .rw, (.cfg 0)⟩,
    ⟨"PRIORITY1", 8, 8, .rw, (.cfg 128)⟩,
    ⟨"PRIORITY2", 0, 8, .rw, (.cfg 128)⟩]⟩,
  ⟨"TIME_INST_INTV", 0x700104, [(8, 0x20)], .all, .spine, false, .single, [
    ⟨"LOG_SYNC", 24, 8, .rw, (.cfg 0)⟩,
    ⟨"LOG_ANNOUNCE", 16, 8, .rw, (.cfg 1)⟩,
    ⟨"LOG_DELAY", 8, 8, .rw, (.cfg 0)⟩,
    ⟨"ANNOUNCE_TIMEOUT", 4, 4, .rw, (.cfg 3)⟩]⟩,
  ⟨"TIME_INST_PORTS_LO", 0x700108, [(8, 0x20)], .all, .spine, false, .single, [
    ⟨"PORTS", 0, 32, .rw, (.cfg 0)⟩]⟩,
  ⟨"TIME_INST_PORTS_HI", 0x70010c, [(8, 0x20)], .high, .spine, false, .single, [
    ⟨"PORTS", 0, 32, .rw, (.cfg 0)⟩]⟩,
  ⟨"TIME_INST_STATUS", 0x700110, [(8, 0x20)], .all, .spine, false, .single, [
    ⟨"IS_SOURCE", 31, 1, .ro, (.val 0)⟩,
    ⟨"PARENT_VALID", 22, 1, .ro, (.val 0)⟩,
    ⟨"PARENT_PORT", 16, 6, .ro, (.val 0)⟩,
    ⟨"MASTER_CHANGE_SEEN", 9, 1, .w1c, (.val 0)⟩,
    ⟨"MASTER_LOST_SEEN", 8, 1, .w1c, (.val 0)⟩,
    ⟨"STEPS_REMOVED", 0, 8, .ro, (.val 0)⟩]⟩,
  ⟨"TIME_PORT_CFG", 0x700400, [(64, 0x4)], .port, .spine, false, .single, [
    ⟨"RX_TRAILER", 2, 1, .rw, (.cfg 0)⟩,
    ⟨"TC_EN", 1, 1, .rw, (.cfg 0)⟩,
    ⟨"HOST", 0, 1, .rw, (.cfg 0)⟩]⟩,
  ⟨"TSQ_STATUS", 0x701000, [(6, 0x40)], .all, .spine, false, .single, [
    ⟨"TSQ_OVF", 31, 1, .w1c, (.val 0)⟩,
    ⟨"FLUSHED_SEEN", 30, 1, .w1c, (.val 0)⟩,
    ⟨"OVF_CNT", 16, 8, .ro, (.val 0)⟩,
    ⟨"PORT_VALID", 15, 1, .ro, (.val 0)⟩,
    ⟨"PORT", 8, 6, .ro, (.val 0)⟩,
    ⟨"COUNT", 0, 5, .ro, (.val 0)⟩]⟩,
  ⟨"TSQ_POP", 0x701004, [(6, 0x40)], .all, .spine, true, .single, [
    ⟨"POP", 0, 1, .wo, (.val 0)⟩]⟩,
  ⟨"TSQ_ENTRY", 0x701008, [(6, 0x40)], .all, .spine, true, (.low [4, 8, 12]), [
    ⟨"VALID", 31, 1, .rl, (.val 0)⟩,
    ⟨"STALE", 30, 1, .rl, (.val 0)⟩,
    ⟨"BLOT", 29, 1, .rl, (.val 0)⟩,
    ⟨"PORT", 20, 6, .rl, (.val 0)⟩,
    ⟨"MSG_TYPE", 16, 4, .rl, (.val 0)⟩,
    ⟨"SEQ_ID", 0, 16, .rl, (.val 0)⟩]⟩,
  ⟨"TSQ_ENTRY_NS", 0x70100c, [(6, 0x40)], .all, .spine, true, (.high (-4)), [
    ⟨"NS", 0, 30, .rl, (.val 0)⟩]⟩,
  ⟨"TSQ_ENTRY_SEC_LO", 0x701010, [(6, 0x40)], .all, .spine, true, (.high (-8)), [
    ⟨"SEC_LO", 0, 32, .rl, (.val 0)⟩]⟩,
  ⟨"TSQ_ENTRY_HI", 0x701014, [(6, 0x40)], .all, .spine, true, (.high (-12)), [
    ⟨"FRAC", 16, 16, .rl, (.val 0)⟩,
    ⟨"SEC_HI", 0, 16, .rl, (.val 0)⟩]⟩]

/-- Block LYD (09 R294, 09 R295). -/
def lydRegs : List RegDef := [
  ⟨"LYD_NODE", 0x780000, [], .all, .spine, false, .single, [
    ⟨"GM_CAPABLE", 24, 1, .rw, (.cfg 0)⟩,
    ⟨"DOMAIN", 16, 8, .rw, (.cfg 0)⟩,
    ⟨"NODE_ID", 0, 16, .rw, (.cfg 0)⟩]⟩,
  ⟨"LYD_GM_CFG", 0x780004, [], .all, .spine, false, .single, [
    ⟨"PRIORITY1", 24, 8, .rw, (.cfg 128)⟩,
    ⟨"PRIORITY2", 16, 8, .rw, (.cfg 128)⟩,
    ⟨"ACCURACY", 8, 8, .rw, (.cfg 254)⟩]⟩,
  ⟨"LYD_GM_VAR", 0x780008, [], .all, .spine, false, .single, [
    ⟨"VARIANCE", 0, 16, .rw, (.cfg 65535)⟩]⟩,
  ⟨"LYD_GM_ERR", 0x78000c, [], .all, .spine, false, .single, [
    ⟨"GM_ERR_PS", 0, 32, .rw, (.cfg 0)⟩]⟩,
  ⟨"LYD_SERVO", 0x780010, [], .all, .spine, false, .single, [
    ⟨"LOCK_WIN_PS", 24, 8, .rw, (.cfg 20)⟩,
    ⟨"BW", 16, 8, .rw, (.cfg 10)⟩,
    ⟨"STEP_THR_NS", 0, 16, .rw, (.cfg 1000)⟩]⟩,
  ⟨"LYD_SERVO2", 0x780014, [], .all, .spine, false, .single, [
    ⟨"PULL_NS_S", 16, 16, .rw, (.cfg 1000)⟩,
    ⟨"HIST_S", 0, 16, .rw, (.cfg 3600)⟩]⟩,
  ⟨"LYD_STATUS", 0x780020, [], .all, .spine, false, .single, [
    ⟨"HOP", 26, 6, .ro, (.val 63)⟩,
    ⟨"GM_SELF", 25, 1, .ro, (.val 0)⟩,
    ⟨"GM_VALID", 24, 1, .ro, (.val 0)⟩,
    ⟨"UP_VALID", 20, 1, .ro, (.val 0)⟩,
    ⟨"UPSTREAM_PG", 16, 4, .ro, (.val 0)⟩,
    ⟨"HISTORY", 7, 1, .ro, (.val 0)⟩,
    ⟨"ACQ_PHASE", 0, 3, .ro, (.val 0)⟩]⟩,
  ⟨"LYD_GM_STATUS", 0x780024, [], .all, .spine, false, .single, [
    ⟨"GM_CLASS", 24, 8, .ro, (.val 0)⟩,
    ⟨"GM_PRIORITY1", 16, 8, .ro, (.val 0)⟩,
    ⟨"GM_ID", 0, 16, .ro, (.val 0)⟩]⟩,
  ⟨"LYD_OFFSET_LO", 0x780028, [], .all, .spine, false, (.low [4]), [
    ⟨"OFFSET", 0, 32, .rl, (.val 0)⟩]⟩,
  ⟨"LYD_OFFSET_HI", 0x78002c, [], .all, .spine, false, (.high (-4)), [
    ⟨"OFFSET", 0, 32, .rl, (.val 0)⟩]⟩,
  ⟨"LYD_ERR_EST", 0x780030, [], .all, .spine, false, .single, [
    ⟨"ERR_EST", 0, 32, .ro, (.val 4294967295)⟩]⟩,
  ⟨"LYD_EVENTS", 0x780034, [], .all, .spine, false, .single, [
    ⟨"LOST_CNT", 16, 16, .ro, (.val 0)⟩,
    ⟨"OFFSET_LIMIT_SEEN", 6, 1, .w1c, (.val 0)⟩,
    ⟨"DUP_ID_SEEN", 5, 1, .w1c, (.val 0)⟩,
    ⟨"DOMAIN_MISMATCH_SEEN", 4, 1, .w1c, (.val 0)⟩,
    ⟨"HOP_LIMIT_SEEN", 3, 1, .w1c, (.val 0)⟩,
    ⟨"GM_CHANGE_SEEN", 2, 1, .w1c, (.val 0)⟩,
    ⟨"UPSTREAM_CHANGE_SEEN", 1, 1, .w1c, (.val 0)⟩,
    ⟨"UPSTREAM_LOST_SEEN", 0, 1, .w1c, (.val 0)⟩]⟩,
  ⟨"LYD_LINK_CFG", 0x781000, [(16, 0x100)], .clockLane, .spine, false, .single, [
    ⟨"TIME_EN", 31, 1, .rw, (.cfg 1)⟩,
    ⟨"NO_UPSTREAM", 30, 1, .rw, (.cfg 0)⟩,
    ⟨"UNC_PS", 0, 16, .rw, (.cfg 0)⟩]⟩,
  ⟨"LYD_LINK_STATUS", 0x781004, [(16, 0x100)], .clockLane, .spine, false, .single, [
    ⟨"RUNNING", 31, 1, .ro, (.val 0)⟩,
    ⟨"PARTNER_VALID", 30, 1, .ro, (.val 0)⟩,
    ⟨"IS_UPSTREAM", 29, 1, .ro, (.val 0)⟩,
    ⟨"CANDIDATE", 28, 1, .ro, (.val 0)⟩,
    ⟨"REASON", 24, 4, .ro, (.val 0)⟩,
    ⟨"PARTNER_HOP", 16, 8, .ro, (.val 0)⟩,
    ⟨"PARTNER_ID", 0, 16, .ro, (.val 0)⟩]⟩,
  ⟨"LYD_LINK_DELAY_LO", 0x781008, [(16, 0x100)], .clockLane, .spine, false, (.low [4]), [
    ⟨"DELAY", 0, 32, .rl, (.val 0)⟩]⟩,
  ⟨"LYD_LINK_DELAY_HI", 0x78100c, [(16, 0x100)], .clockLane, .spine, false, (.high (-4)), [
    ⟨"DELAY", 0, 16, .rl, (.val 0)⟩]⟩,
  ⟨"LYD_LINK_RTT_LO", 0x781010, [(16, 0x100)], .clockLane, .spine, false, (.low [4]), [
    ⟨"RTT", 0, 32, .rl, (.val 0)⟩]⟩,
  ⟨"LYD_LINK_RTT_HI", 0x781014, [(16, 0x100)], .clockLane, .spine, false, (.high (-4)), [
    ⟨"RTT", 0, 16, .rl, (.val 0)⟩]⟩,
  ⟨"LYD_LINK_OFFSET_LO", 0x781018, [(16, 0x100)], .clockLane, .spine, false, (.low [4]), [
    ⟨"OFFSET", 0, 32, .rl, (.val 0)⟩]⟩,
  ⟨"LYD_LINK_OFFSET_HI", 0x78101c, [(16, 0x100)], .clockLane, .spine, false, (.high (-4)), [
    ⟨"OFFSET", 0, 32, .rl, (.val 0)⟩]⟩,
  ⟨"LYD_LINK_PHASE", 0x781020, [(16, 0x100)], .clockLane, .spine, false, .single, [
    ⟨"PHASE", 0, 16, .ro, (.val 0)⟩]⟩,
  ⟨"LYD_LINK_CNT", 0x781024, [(16, 0x100)], .clockLane, .spine, false, .single, [
    ⟨"SF_BAD", 16, 16, .ro, (.val 0)⟩,
    ⟨"SF_MISSING", 0, 16, .ro, (.val 0)⟩]⟩]

/-- Block SYN (10 R322). -/
def synRegs : List RegDef := [
  ⟨"SYN_CTRL", 0x800000, [], .all, .spine, false, .single, [
    ⟨"PULL_SLOPE", 4, 14, .rw, (.cfg 100)⟩,
    ⟨"SUSPECT_ACT", 2, 1, .rw, (.cfg 1)⟩,
    ⟨"FORCE_HOLD", 1, 1, .rw, (.cfg 0)⟩,
    ⟨"SEL_EN", 0, 1, .rw, (.cfg 0)⟩]⟩,
  ⟨"SYN_CMD", 0x800004, [], .all, .spine, false, .single, [
    ⟨"REEVAL", 0, 1, .sc, (.val 0)⟩]⟩,
  ⟨"SYN_SEL_STATUS", 0x800008, [], .all, .spine, false, .single, [
    ⟨"ENTRY", 24, 5, .ro, (.val 0)⟩,
    ⟨"ENTRY_VALID", 23, 1, .ro, (.val 0)⟩,
    ⟨"SOURCE", 16, 7, .ro, (.val 0)⟩,
    ⟨"LOCK", 9, 1, .ro, (.val 0)⟩,
    ⟨"STALE", 8, 1, .ro, (.val 0)⟩,
    ⟨"MODE", 0, 3, .ro, (.val 4)⟩]⟩,
  ⟨"SYN_EVENTS", 0x80000c, [], .all, .spine, false, .single, [
    ⟨"SWITCH_CNT", 16, 16, .ro, (.val 0)⟩,
    ⟨"BAND_FALLBACK_SEEN", 6, 1, .w1c, (.val 0)⟩,
    ⟨"HOLD_ENTER_SEEN", 5, 1, .w1c, (.val 0)⟩,
    ⟨"SUSPECT_SEEN", 4, 1, .w1c, (.val 0)⟩,
    ⟨"DISQ_SEEN", 3, 1, .w1c, (.val 0)⟩,
    ⟨"SWITCH_SEEN", 2, 1, .w1c, (.val 0)⟩,
    ⟨"LOCK_LOST_SEEN", 1, 1, .w1c, (.val 0)⟩]⟩,
  ⟨"SYN_LOCK_CFG", 0x800010, [], .all, .spine, false, .single, [
    ⟨"LOCK_WIN_PS", 16, 16, .rw, (.cfg 100)⟩,
    ⟨"LOCK_CNT", 0, 16, .rw, (.cfg 64)⟩]⟩,
  ⟨"SYN_MON_CFG", 0x800014, [], .all, .spine, false, .single, [
    ⟨"FREQ_HI", 16, 16, .rw, (.cfg 9200)⟩,
    ⟨"FREQ_LO", 0, 16, .rw, (.cfg 8000)⟩]⟩,
  ⟨"SYN_MON_CFG2", 0x800018, [], .all, .spine, false, .single, [
    ⟨"DRIFT_LIM", 16, 16, .rw, (.cfg 100)⟩,
    ⟨"DRIFT_WIN_S", 8, 8, .rw, (.cfg 64)⟩,
    ⟨"QUAL_S", 0, 8, .rw, (.cfg 10)⟩]⟩,
  ⟨"SYN_REFIN_CFG", 0x800020, [(4, 0x4)], .all, .spine, false, .single, [
    ⟨"EDGE", 2, 1, .rw, (.cfg 0)⟩,
    ⟨"MODE", 0, 1, .rw, (.cfg 0)⟩]⟩,
  ⟨"SYN_REFIN_NOM", 0x800030, [(4, 0x4)], .all, .spine, false, .single, [
    ⟨"NOM_HZ", 0, 30, .rw, (.cfg 10000000)⟩]⟩,
  ⟨"SYN_EMB_STATUS", 0x800040, [], .all, .spine, false, .single, [
    ⟨"UNLEARNED", 31, 1, .ro, (.val 1)⟩,
    ⟨"LEARN_S", 0, 17, .ro, (.val 0)⟩]⟩,
  ⟨"SYN_EMB_ERR", 0x800044, [], .all, .spine, false, .single, [
    ⟨"GROWTH_PS", 0, 32, .ro, (.val 0)⟩]⟩,
  ⟨"SYN_PULL_REMAIN", 0x800048, [], .all, .spine, false, .single, [
    ⟨"REMAIN_PS", 0, 32, .ro, (.val 0)⟩]⟩,
  ⟨"SYN_SPINE_STATUS", 0x800050, [(2, 0x10)], .all, .spine, false, .single, [
    ⟨"BAND", 16, 6, .ro, (.val 0)⟩,
    ⟨"FACTORY_BAND", 8, 1, .ro, (.val 0)⟩,
    ⟨"CARRIES_SPINE", 2, 1, .ro, (.val 0)⟩,
    ⟨"POWERED", 1, 1, .ro, (.val 0)⟩,
    ⟨"INNER_LOCK", 0, 1, .ro, (.val 0)⟩]⟩,
  ⟨"SYN_SPINE_WORD_LO", 0x800054, [(2, 0x10)], .all, .spine, false, (.low [4]), [
    ⟨"FREQ_WORD", 0, 32, .rl, (.val 0)⟩]⟩,
  ⟨"SYN_SPINE_WORD_HI", 0x800058, [(2, 0x10)], .all, .spine, false, (.high (-4)), [
    ⟨"FREQ_WORD", 0, 16, .rl, (.val 0)⟩]⟩,
  ⟨"SYN_BAND_CMD", 0x800080, [], .all, .spine, true, .single, [
    ⟨"GO", 31, 1, .sc, (.val 0)⟩,
    ⟨"OP", 16, 4, .rw, (.val 0)⟩,
    ⟨"SYNTH", 8, 3, .rw, (.val 0)⟩,
    ⟨"INDEX", 0, 6, .rw, (.val 0)⟩]⟩,
  ⟨"SYN_BAND_DATA", 0x800084, [(2, 0x4)], .all, .spine, true, .single, [
    ⟨"DATA", 0, 32, .rw, (.val 0)⟩]⟩,
  ⟨"SYN_PRIO", 0x800100, [(32, 0x4)], .all, .spine, false, .single, [
    ⟨"VALID", 31, 1, .rw, (.cfg 0)⟩,
    ⟨"REVERTIVE", 30, 1, .rw, (.cfg 1)⟩,
    ⟨"BUILD_OUT", 29, 1, .rw, (.cfg 0)⟩,
    ⟨"BW", 24, 4, .rw, (.cfg 10)⟩,
    ⟨"SOURCE", 0, 7, .rw, (.cfg 0)⟩]⟩,
  ⟨"SYN_REF_STATUS", 0x800200, [(32, 0x8)], .all, .spine, false, .single, [
    ⟨"QUAL_LEFT_S", 24, 8, .ro, (.val 0)⟩,
    ⟨"BASIS_EMBER", 17, 1, .ro, (.val 0)⟩,
    ⟨"WINDOW_FULL", 16, 1, .ro, (.val 0)⟩,
    ⟨"STATE", 0, 2, .ro, (.val 0)⟩]⟩,
  ⟨"SYN_REF_FREQ", 0x800204, [(32, 0x8)], .all, .spine, false, .single, [
    ⟨"DRIFT", 16, 16, .ro, (.val 0)⟩,
    ⟨"FREQ_OFS", 0, 16, .ro, (.val 0)⟩]⟩,
  ⟨"SYN_OSYN_CFG", 0x800400, [(4, 0x10)], .all, .spine, false, .single, [
    ⟨"ENABLE", 31, 1, .rw, (.cfg 0)⟩,
    ⟨"FREQ_FRAC", 0, 16, .rw, (.cfg 0)⟩]⟩,
  ⟨"SYN_OSYN_FREQ", 0x800404, [(4, 0x10)], .all, .spine, false, .single, [
    ⟨"FREQ_HZ", 0, 28, .rw, (.cfg 10000000)⟩]⟩,
  ⟨"SYN_OSYN_STATUS", 0x800408, [(4, 0x10)], .all, .spine, false, .single, [
    ⟨"DIV", 16, 14, .ro, (.val 0)⟩,
    ⟨"BAND", 8, 6, .ro, (.val 0)⟩,
    ⟨"FACTORY_BAND", 2, 1, .ro, (.val 0)⟩,
    ⟨"STALE", 1, 1, .ro, (.val 0)⟩,
    ⟨"LOCK", 0, 1, .ro, (.val 0)⟩]⟩,
  ⟨"SYN_PO_CFG", 0x800500, [(8, 0x20)], .all, .spine, false, .single, [
    ⟨"ENABLE", 31, 1, .rw, (.cfg 0)⟩,
    ⟨"MODE", 30, 1, .rw, (.cfg 1)⟩,
    ⟨"OSYN", 28, 2, .rw, (.cfg 0)⟩,
    ⟨"GATE_UNLOCKED", 27, 1, .rw, (.cfg 0)⟩,
    ⟨"DIV", 0, 14, .rw, (.cfg 1)⟩]⟩,
  ⟨"SYN_PO_PERIOD", 0x800504, [(8, 0x20)], .all, .spine, false, .single, [
    ⟨"PERIOD_NS", 0, 30, .rw, (.cfg 1000000000)⟩]⟩,
  ⟨"SYN_PO_PHASE", 0x800508, [(8, 0x20)], .all, .spine, false, .single, [
    ⟨"PHASE_NS", 0, 30, .rw, (.cfg 0)⟩]⟩,
  ⟨"SYN_PO_WIDTH", 0x80050c, [(8, 0x20)], .all, .spine, false, .single, [
    ⟨"WIDTH_NS", 0, 30, .rw, (.cfg 100000000)⟩]⟩,
  ⟨"SYN_PO_CTRL", 0x800510, [(8, 0x20)], .all, .spine, false, .single, [
    ⟨"ALIGN", 0, 1, .sc, (.val 0)⟩]⟩,
  ⟨"SYN_PO_STATUS", 0x800514, [(8, 0x20)], .all, .spine, false, .single, [
    ⟨"MISALIGN_SEEN", 9, 1, .w1c, (.val 0)⟩,
    ⟨"GATED_SEEN", 8, 1, .w1c, (.val 0)⟩,
    ⟨"MISALIGNED", 4, 1, .ro, (.val 0)⟩,
    ⟨"STALE", 3, 1, .ro, (.val 0)⟩,
    ⟨"ALIGNING", 2, 1, .ro, (.val 0)⟩,
    ⟨"GATED", 1, 1, .ro, (.val 0)⟩,
    ⟨"RUNNING", 0, 1, .ro, (.val 0)⟩]⟩,
  ⟨"SYN_PO_ERR", 0x800518, [(8, 0x20)], .all, .spine, false, .single, [
    ⟨"ERR_PS", 0, 32, .ro, (.val 0)⟩]⟩]

/-- Block NIB (11 R339). -/
def nibRegs : List RegDef := [
  ⟨"NIB_CTRL", 0x900000, [], .all, .management, false, .single, [
    ⟨"RESTART", 0, 1, .sc, (.val 0)⟩]⟩,
  ⟨"NIB_SUMMARY", 0x900004, [], .all, .nib, false, .single, [
    ⟨"ATTN", 0, 16, .ro, (.val 0)⟩]⟩,
  ⟨"NIB_CFG", 0x901000, [(16, 0x40)], .event, .nib, false, .single, [
    ⟨"STOP_MAX", 20, 12, .rw, (.cfg 4095)⟩,
    ⟨"START_SRC", 16, 4, .rw, (.cfg 0)⟩,
    ⟨"FREQ_EN", 8, 1, .rw, (.cfg 0)⟩,
    ⟨"MODE", 4, 1, .rw, (.cfg 0)⟩,
    ⟨"EDGE", 1, 2, .rw, (.cfg 0)⟩,
    ⟨"ENABLE", 0, 1, .rw, (.cfg 0)⟩]⟩,
  ⟨"NIB_GATE", 0x901004, [(16, 0x40)], .event, .nib, false, .single, [
    ⟨"GATE_US", 0, 30, .rw, (.cfg 1000000)⟩]⟩,
  ⟨"NIB_CMD", 0x901008, [(16, 0x40)], .event, .nib, false, .single, [
    ⟨"FLUSH", 2, 1, .wo, (.val 0)⟩,
    ⟨"ABORT", 1, 1, .wo, (.val 0)⟩,
    ⟨"ARM", 0, 1, .wo, (.val 0)⟩]⟩,
  ⟨"NIB_STATUS", 0x90100c, [(16, 0x40)], .event, .nib, false, .single, [
    ⟨"EARLY_CNT", 24, 8, .ro, (.val 0)⟩,
    ⟨"FLUSHED_SEEN", 22, 1, .w1c, (.val 0)⟩,
    ⟨"OVERRANGE_SEEN", 21, 1, .w1c, (.val 0)⟩,
    ⟨"EARLY_SEEN", 20, 1, .w1c, (.val 0)⟩,
    ⟨"DEAD_SEEN", 19, 1, .w1c, (.val 0)⟩,
    ⟨"OVF_SEEN", 18, 1, .w1c, (.val 0)⟩,
    ⟨"MSTATE", 16, 2, .ro, (.val 0)⟩,
    ⟨"COUNT", 0, 13, .ro, (.val 0)⟩]⟩,
  ⟨"NIB_CNT", 0x901010, [(16, 0x40)], .event, .nib, false, .single, [
    ⟨"OVF_CNT", 16, 16, .ro, (.val 0)⟩,
    ⟨"DEAD_CNT", 0, 16, .ro, (.val 0)⟩]⟩,
  ⟨"NIB_POP", 0x901014, [(16, 0x40)], .event, .nib, true, .single, [
    ⟨"POP", 0, 1, .wo, (.val 0)⟩]⟩,
  ⟨"NIB_ENTRY", 0x901018, [(16, 0x40)], .event, .nib, true, (.low [4, 8, 12]), [
    ⟨"VALID", 31, 1, .rl, (.val 0)⟩,
    ⟨"TYPE", 29, 2, .rl, (.val 0)⟩,
    ⟨"EDGE", 28, 1, .rl, (.val 0)⟩,
    ⟨"STALE", 27, 1, .rl, (.val 0)⟩,
    ⟨"LOCKED", 26, 1, .rl, (.val 0)⟩,
    ⟨"COAST", 25, 1, .rl, (.val 0)⟩,
    ⟨"DEAD_BEFORE", 24, 1, .rl, (.val 0)⟩,
    ⟨"GAP_BEFORE", 23, 1, .rl, (.val 0)⟩,
    ⟨"STEPPED", 22, 1, .rl, (.val 0)⟩,
    ⟨"NEAR", 21, 1, .rl, (.val 0)⟩,
    ⟨"NEG", 20, 1, .rl, (.val 0)⟩,
    ⟨"OVERRANGE", 19, 1, .rl, (.val 0)⟩,
    ⟨"FINE", 0, 11, .rl, (.val 0)⟩]⟩,
  ⟨"NIB_ENTRY_NS", 0x90101c, [(16, 0x40)], .event, .nib, true, (.high (-4)), [
    ⟨"NS_COARSE", 0, 32, .rl, (.val 0)⟩]⟩,
  ⟨"NIB_ENTRY_SEC_LO", 0x901020, [(16, 0x40)], .event, .nib, true, (.high (-8)), [
    ⟨"SEC_COARSE", 0, 32, .rl, (.val 0)⟩]⟩,
  ⟨"NIB_ENTRY_SEC_HI", 0x901024, [(16, 0x40)], .event, .nib, true, (.high (-12)), [
    ⟨"SEC_HI", 0, 16, .rl, (.val 0)⟩]⟩,
  ⟨"NIB_FREQ_P_LO", 0x901028, [(16, 0x40)], .event, .nib, false, (.low [4, 8, 12, 16]), [
    ⟨"P", 0, 32, .rl, (.val 0)⟩]⟩,
  ⟨"NIB_FREQ_P_HI", 0x90102c, [(16, 0x40)], .event, .nib, false, (.high (-4)), [
    ⟨"P", 0, 32, .rl, (.val 0)⟩]⟩,
  ⟨"NIB_FREQ_INFO", 0x901030, [(16, 0x40)], .event, .nib, false, (.high (-8)), [
    ⟨"REASON", 30, 2, .rl, (.val 0)⟩,
    ⟨"STALE", 29, 1, .rl, (.val 0)⟩,
    ⟨"COAST", 28, 1, .rl, (.val 0)⟩,
    ⟨"DEXP", 21, 5, .rl, (.val 0)⟩,
    ⟨"N", 0, 21, .rl, (.val 0)⟩]⟩,
  ⟨"NIB_FREQ_RES", 0x901034, [(16, 0x40)], .event, .nib, false, (.high (-12)), [
    ⟨"SEQ", 16, 16, .rl, (.val 0)⟩,
    ⟨"RMS_RES", 0, 16, .rl, (.val 0)⟩]⟩,
  ⟨"NIB_FREQ_T", 0x901038, [(16, 0x40)], .event, .nib, false, (.high (-16)), [
    ⟨"GATE_START_US", 0, 32, .rl, (.val 0)⟩]⟩]

/-- Block CAL (12 R350). -/
def calRegs : List RegDef := [
  ⟨"CAL_CMD", 0xa00000, [], .all, .spine, false, .single, [
    ⟨"START", 31, 1, .sc, (.val 0)⟩,
    ⟨"GROUPS", 0, 6, .rw, (.val 63)⟩]⟩,
  ⟨"CAL_STATUS", 0xa00004, [], .all, .spine, false, .single, [
    ⟨"RUN_CNT", 16, 16, .ro, (.val 0)⟩,
    ⟨"GROUP_FAIL", 10, 6, .ro, (.val 0)⟩,
    ⟨"FAIL_SEEN", 9, 1, .w1c, (.val 0)⟩,
    ⟨"DONE_SEEN", 8, 1, .w1c, (.val 0)⟩,
    ⟨"FACTORY_LOST", 7, 1, .ro, (.val 0)⟩,
    ⟨"SENSOR_SUBST", 6, 1, .ro, (.val 0)⟩,
    ⟨"RESULT", 3, 3, .ro, (.val 0)⟩,
    ⟨"STALE", 1, 1, .ro, (.val 0)⟩,
    ⟨"RUNNING", 0, 1, .ro, (.val 0)⟩]⟩,
  ⟨"CAL_FACTORY", 0xa00008, [], .all, .spine, false, .single, [
    ⟨"FAC_VERSION", 16, 16, .ro, (.val 0)⟩,
    ⟨"COPY1_OK", 1, 1, .ro, (.val 0)⟩,
    ⟨"COPY0_OK", 0, 1, .ro, (.val 0)⟩]⟩,
  ⟨"CAL_VAL_SEL", 0xa0000c, [], .all, .spine, false, .single, [
    ⟨"GROUP", 24, 4, .rw, (.val 0)⟩,
    ⟨"POINT", 16, 4, .rw, (.val 0)⟩,
    ⟨"INDEX", 0, 16, .rw, (.val 0)⟩]⟩,
  ⟨"CAL_VAL", 0xa00010, [], .all, .spine, false, .single, [
    ⟨"VALUE", 0, 32, .ro, (.val 0)⟩]⟩,
  ⟨"CAL_LAST", 0xa00014, [], .all, .spine, false, .single, [
    ⟨"END_SEC", 0, 32, .ro, (.val 0)⟩]⟩,
  ⟨"CAL_CLKL_TX", 0xa01000, [(16, 0x10)], .clockLane, .spine, false, .single, [
    ⟨"DELAY_PS", 0, 16, .rw, (.cfg 0)⟩]⟩,
  ⟨"CAL_CLKL_RX", 0xa01004, [(16, 0x10)], .clockLane, .spine, false, .single, [
    ⟨"DELAY_PS", 0, 16, .rw, (.cfg 0)⟩]⟩,
  ⟨"CAL_CLKL_ASYM", 0xa01008, [(16, 0x10)], .clockLane, .spine, false, .single, [
    ⟨"ASYM", 0, 32, .rw, (.cfg 0)⟩]⟩,
  ⟨"CAL_PORT_TX", 0xa02000, [(64, 0x10)], .port, .spine, false, .single, [
    ⟨"DELAY_PS", 0, 16, .rw, (.cfg 0)⟩]⟩,
  ⟨"CAL_PORT_RX", 0xa02004, [(64, 0x10)], .port, .spine, false, .single, [
    ⟨"DELAY_PS", 0, 16, .rw, (.cfg 0)⟩]⟩,
  ⟨"CAL_PORT_ASYM", 0xa02008, [(64, 0x10)], .port, .spine, false, .single, [
    ⟨"ASYM_PS", 0, 32, .rw, (.cfg 0)⟩]⟩]

/-- Block HRT (13 R375). -/
def hrtRegs : List RegDef := [
  ⟨"HRT_STATUS", 0xb00000, [], .all, .spine, false, .single, [
    ⟨"LONG_TAKEOVER", 19, 1, .ro, (.val 0)⟩,
    ⟨"NO_HOLDER", 18, 1, .ro, (.val 0)⟩,
    ⟨"TAKEOVER", 17, 1, .ro, (.val 0)⟩,
    ⟨"IN_STEP", 16, 1, .ro, (.val 0)⟩,
    ⟨"HOLDER", 10, 2, .ro, (.val 0)⟩,
    ⟨"STATE_B", 4, 3, .ro, (.val 0)⟩,
    ⟨"STATE_A", 0, 3, .ro, (.val 0)⟩]⟩,
  ⟨"HRT_LEASE_CFG", 0xb00004, [], .all, .spine, false, .single, [
    ⟨"AUTO_RESTART", 17, 1, .rw, (.cfg 1)⟩,
    ⟨"PERIOD_US", 0, 17, .rw, (.cfg 1000)⟩]⟩,
  ⟨"HRT_LEASE", 0xb00008, [], .all, .spine, false, .single, [
    ⟨"RENEW", 31, 1, .wo, (.val 0)⟩,
    ⟨"REMAIN_US", 0, 17, .ro, (.val 0)⟩]⟩,
  ⟨"HRT_CMD", 0xb0000c, [], .all, .spine, false, .single, [
    ⟨"KEY", 16, 16, .wo, (.val 0)⟩,
    ⟨"TEST", 5, 1, .wo, (.val 0)⟩,
    ⟨"CINDER_B", 4, 1, .wo, (.val 0)⟩,
    ⟨"CINDER_A", 3, 1, .wo, (.val 0)⟩,
    ⟨"RESTART_B", 2, 1, .wo, (.val 0)⟩,
    ⟨"RESTART_A", 1, 1, .wo, (.val 0)⟩,
    ⟨"HANDOVER", 0, 1, .sc, (.val 0)⟩]⟩,
  ⟨"HRT_EVENTS", 0xb00010, [], .all, .spine, false, .single, [
    ⟨"TAKEOVER_CNT", 16, 16, .ro, (.val 0)⟩,
    ⟨"GATE_VIOL_SEEN", 8, 1, .w1c, (.val 0)⟩,
    ⟨"HANDOVER_REFUSED_SEEN", 7, 1, .w1c, (.val 0)⟩,
    ⟨"LONG_TAKEOVER_SEEN", 6, 1, .w1c, (.val 0)⟩,
    ⟨"NO_HOLDER_SEEN", 5, 1, .w1c, (.val 0)⟩,
    ⟨"TEST_FAIL_SEEN", 4, 1, .w1c, (.val 0)⟩,
    ⟨"MISMATCH_SEEN", 3, 1, .w1c, (.val 0)⟩,
    ⟨"OFFLINE_SEEN", 2, 1, .w1c, (.val 0)⟩,
    ⟨"CINDER_SEEN", 1, 1, .w1c, (.val 0)⟩,
    ⟨"TAKEOVER_SEEN", 0, 1, .w1c, (.val 0)⟩]⟩,
  ⟨"HRT_TAKEOVER", 0xb00014, [], .all, .spine, false, .single, [
    ⟨"CAUSE", 28, 4, .ro, (.val 0)⟩,
    ⟨"FROM", 26, 2, .ro, (.val 0)⟩,
    ⟨"TO", 24, 2, .ro, (.val 0)⟩,
    ⟨"DUR_NS", 0, 23, .ro, (.val 0)⟩]⟩,
  ⟨"HRT_TAKEOVER_SEC", 0xb00018, [], .all, .spine, false, .single, [
    ⟨"START_SEC", 0, 32, .ro, (.val 0)⟩]⟩,
  ⟨"HRT_SNAP", 0xb0001c, [], .all, .spine, false, .single, [
    ⟨"SEQ", 16, 16, .ro, (.val 0)⟩,
    ⟨"AGE_US", 0, 8, .ro, (.val 0)⟩]⟩,
  ⟨"HRT_HANDOVER", 0xb00020, [], .all, .spine, false, .single, [
    ⟨"REASON", 0, 4, .ro, (.val 0)⟩]⟩,
  ⟨"HRT_CAUSE", 0xb00100, [(2, 0x40)], .all, .spine, false, .single, [
    ⟨"OUT_CNT", 16, 16, .ro, (.val 0)⟩,
    ⟨"AUTO_LEFT", 8, 4, .ro, (.val 3)⟩,
    ⟨"CAUSE", 0, 4, .ro, (.val 0)⟩]⟩,
  ⟨"HRT_CAUSE_SEC", 0xb00104, [(2, 0x40)], .all, .spine, false, .single, [
    ⟨"CAUSE_SEC", 0, 32, .ro, (.val 0)⟩]⟩,
  ⟨"HRT_HEALTH", 0xb00108, [(2, 0x40)], .all, .spine, false, .single, [
    ⟨"TEST_RESULT", 30, 2, .ro, (.val 0)⟩,
    ⟨"LOCK_US", 16, 13, .ro, (.val 0)⟩,
    ⟨"TEST_CNT", 0, 16, .ro, (.val 0)⟩]⟩,
  ⟨"HRT_TEST_SEC", 0xb0010c, [(2, 0x40)], .all, .spine, false, .single, [
    ⟨"TEST_SEC", 0, 32, .ro, (.val 0)⟩]⟩,
  ⟨"HRT_LOCKSTEP", 0xb00110, [(2, 0x40)], .all, .spine, false, .single, [
    ⟨"MISMATCH_CNT", 16, 16, .ro, (.val 0)⟩,
    ⟨"RESYNC_CNT", 0, 16, .ro, (.val 0)⟩]⟩]

/-- Block UPD (14 R398). -/
def updRegs : List RegDef := [
  ⟨"UPD_SESSION", 0xc00000, [], .all, .flash, false, .single, [
    ⟨"OWNER", 24, 4, .ro, (.val 0)⟩,
    ⟨"STATE", 20, 3, .ro, (.val 0)⟩,
    ⟨"TARGET", 8, 5, .rw, (.val 0)⟩,
    ⟨"ABORT", 2, 1, .wo, (.val 0)⟩,
    ⟨"END", 1, 1, .wo, (.val 0)⟩,
    ⟨"BEGIN", 0, 1, .wo, (.val 0)⟩]⟩,
  ⟨"UPD_LENGTH", 0xc00004, [], .all, .flash, false, .single, [
    ⟨"LENGTH", 0, 32, .rw, (.val 0)⟩]⟩,
  ⟨"UPD_DATA", 0xc00008, [], .all, .flash, false, .single, [
    ⟨"DATA", 0, 32, .wo, (.val 0)⟩]⟩,
  ⟨"UPD_XFER_STATUS", 0xc0000c, [], .all, .flash, false, .single, [
    ⟨"RESULT", 24, 8, .ro, (.val 0)⟩,
    ⟨"SPACE", 0, 12, .ro, (.val 0)⟩]⟩,
  ⟨"UPD_RECEIVED", 0xc00010, [], .all, .flash, false, .single, [
    ⟨"BYTES", 0, 32, .ro, (.val 0)⟩]⟩,
  ⟨"UPD_CMD", 0xc00014, [], .all, .flash, false, .single, [
    ⟨"KEY", 16, 16, .wo, (.val 0)⟩,
    ⟨"PART", 4, 2, .wo, (.val 0)⟩,
    ⟨"ALLOW", 2, 1, .wo, (.val 0)⟩,
    ⟨"REJECT", 1, 1, .wo, (.val 0)⟩,
    ⟨"ACTIVATE", 0, 1, .wo, (.val 0)⟩]⟩,
  ⟨"UPD_CFG", 0xc00018, [], .all, .flash, false, .single, [
    ⟨"WINDOW_S", 16, 16, .rw, (.cfg 300)⟩,
    ⟨"SOAK_S", 4, 12, .rw, (.cfg 60)⟩,
    ⟨"COUNT_IN_FLASH", 2, 1, .rw, (.cfg 0)⟩,
    ⟨"NEED_ACTIVE", 1, 1, .rw, (.cfg 1)⟩,
    ⟨"HOST_GATE", 0, 1, .rw, (.cfg 0)⟩]⟩,
  ⟨"UPD_STATUS", 0xc0001c, [], .all, .flash, false, .single, [
    ⟨"FUSE_CNT", 25, 7, .ro, (.val 0)⟩,
    ⟨"MIXED", 24, 1, .ro, (.val 0)⟩,
    ⟨"ACT_REFUSE", 20, 4, .ro, (.val 0)⟩,
    ⟨"TRIAL_VALID", 19, 1, .ro, (.val 0)⟩,
    ⟨"TRIAL_PART", 17, 2, .ro, (.val 0)⟩,
    ⟨"ALLOWED", 16, 1, .ro, (.val 0)⟩,
    ⟨"WINDOW_LEFT_S", 0, 16, .ro, (.val 0)⟩]⟩,
  ⟨"UPD_EVENTS", 0xc00020, [], .all, .flash, false, .single, [
    ⟨"FUSE_SEEN", 4, 1, .w1c, (.val 0)⟩,
    ⟨"XFER_FAIL_SEEN", 3, 1, .w1c, (.val 0)⟩,
    ⟨"ACT_REFUSED_SEEN", 2, 1, .w1c, (.val 0)⟩,
    ⟨"CONFIRM_SEEN", 1, 1, .w1c, (.val 0)⟩,
    ⟨"FALLBACK_SEEN", 0, 1, .w1c, (.val 0)⟩]⟩,
  ⟨"UPD_PART_STATE", 0xc00100, [(4, 0x20)], .all, .flash, false, .single, [
    ⟨"REJ_REASON", 28, 4, .ro, (.val 0)⟩,
    ⟨"BANK1", 20, 4, .ro, (.val 0)⟩,
    ⟨"BANK0", 16, 4, .ro, (.val 0)⟩,
    ⟨"ATTEMPTS", 8, 2, .ro, (.val 0)⟩,
    ⟨"TRIAL", 1, 1, .ro, (.val 0)⟩,
    ⟨"ACTIVE_BANK", 0, 1, .ro, (.val 0)⟩]⟩,
  ⟨"UPD_PART_VER0", 0xc00104, [(4, 0x20)], .all, .flash, false, .single, [
    ⟨"VERSION", 0, 32, .ro, (.val 0)⟩]⟩,
  ⟨"UPD_PART_VER1", 0xc00108, [(4, 0x20)], .all, .flash, false, .single, [
    ⟨"VERSION", 0, 32, .ro, (.val 0)⟩]⟩,
  ⟨"UPD_PART_RUN", 0xc0010c, [(4, 0x20)], .all, .flash, false, .single, [
    ⟨"SVN", 24, 8, .ro, (.val 0)⟩,
    ⟨"IFACE", 0, 16, .ro, (.val 0)⟩]⟩]

/-- Block CNT (15 R414). -/
def cntRegs : List RegDef := [
  ⟨"CNT_CMD", 0xd00000, [], .all, .spine, false, .single, [
    ⟨"GO", 31, 1, .sc, (.val 0)⟩,
    ⟨"ABORT", 30, 1, .wo, (.val 0)⟩,
    ⟨"TIMED", 4, 1, .rw, (.val 0)⟩,
    ⟨"OP", 0, 3, .rw, (.val 0)⟩]⟩,
  ⟨"CNT_STATUS", 0xd00004, [], .all, .spine, false, .single, [
    ⟨"REFUSE", 8, 4, .ro, (.val 0)⟩,
    ⟨"SNAP_SEEN", 6, 1, .w1c, (.val 0)⟩,
    ⟨"LATE_SEEN", 5, 1, .w1c, (.val 0)⟩,
    ⟨"REFUSED_SEEN", 4, 1, .w1c, (.val 0)⟩,
    ⟨"FROZEN", 3, 1, .ro, (.val 0)⟩,
    ⟨"PEND_OP", 0, 3, .ro, (.val 0)⟩]⟩,
  ⟨"CNT_ACT_TIME_SEC_HI", 0xd00008, [], .all, .spine, false, (.high 8), [
    ⟨"SEC_HI", 0, 16, .rw, (.val 0)⟩]⟩,
  ⟨"CNT_ACT_TIME_SEC_LO", 0xd0000c, [], .all, .spine, false, (.high 4), [
    ⟨"SEC_LO", 0, 32, .rw, (.val 0)⟩]⟩,
  ⟨"CNT_ACT_TIME_NS", 0xd00010, [], .all, .spine, false, (.low [-4, -8]), [
    ⟨"NS", 0, 30, .rw, (.val 0)⟩]⟩,
  ⟨"CNT_SNAP_SEQ", 0xd00014, [], .all, .spine, false, .single, [
    ⟨"SEQ", 0, 32, .ro, (.val 0)⟩]⟩,
  ⟨"CNT_SNAP_TIME_SEC_LO", 0xd00018, [], .all, .spine, false, (.high 4), [
    ⟨"SEC_LO", 0, 32, .rl, (.val 0)⟩]⟩,
  ⟨"CNT_SNAP_TIME_NS", 0xd0001c, [], .all, .spine, false, (.low [-4]), [
    ⟨"NS", 0, 30, .rl, (.val 0)⟩]⟩,
  ⟨"CNT_CAP_CFG", 0xd00040, [], .all, .slice, false, .single, [
    ⟨"CAP_EN", 31, 1, .rw, (.cfg 0)⟩,
    ⟨"WRAP", 30, 1, .rw, (.cfg 1)⟩,
    ⟨"CLASS_EN", 29, 1, .rw, (.cfg 1)⟩,
    ⟨"DROP_EN", 28, 1, .rw, (.cfg 0)⟩,
    ⟨"QUILL_EN", 27, 1, .rw, (.cfg 0)⟩,
    ⟨"PLACE", 26, 1, .rw, (.cfg 0)⟩,
    ⟨"SIZE_MIB", 0, 11, .rw, (.cfg 0)⟩]⟩,
  ⟨"CNT_CAP_PORTS_LO", 0xd00044, [], .all, .slice, false, .single, [
    ⟨"PORTS", 0, 32, .rw, (.cfg 0)⟩]⟩,
  ⟨"CNT_CAP_PORTS_HI", 0xd00048, [], .high, .slice, false, .single, [
    ⟨"PORTS", 0, 32, .rw, (.cfg 0)⟩]⟩,
  ⟨"CNT_CAP_STATUS", 0xd0004c, [], .all, .slice, false, .single, [
    ⟨"RUN_PLACE", 31, 1, .ro, (.val 0)⟩,
    ⟨"RUN_SIZE_MIB", 20, 11, .ro, (.val 0)⟩,
    ⟨"STOPPED", 19, 1, .ro, (.val 0)⟩,
    ⟨"RING_RESET_SEEN", 18, 1, .w1c, (.val 0)⟩,
    ⟨"LOST_SEEN", 17, 1, .w1c, (.val 0)⟩]⟩,
  ⟨"CNT_CAP_POP", 0xd00050, [], .all, .slice, true, .single, [
    ⟨"VALID", 31, 1, .ro, (.val 0)⟩,
    ⟨"UNREAD", 0, 23, .ro, (.val 0)⟩,
    ⟨"POP", 0, 1, .wo, (.val 0)⟩]⟩,
  ⟨"CNT_CAP_DATA", 0xd00054, [], .all, .slice, true, .single, [
    ⟨"DATA", 0, 32, .ro, (.val 0)⟩]⟩,
  ⟨"CNT_CAP_LOST", 0xd00058, [], .all, .slice, false, .single, [
    ⟨"OVERWRITE_CNT", 16, 16, .ro, (.val 0)⟩,
    ⟨"LOST_CNT", 0, 16, .ro, (.val 0)⟩]⟩,
  ⟨"CNT_CAP_MIRROR", 0xd0005c, [], .all, .slice, false, .single, [
    ⟨"MIRROR_EN", 31, 1, .rw, (.cfg 0)⟩,
    ⟨"MIRROR_PORT", 24, 6, .rw, (.cfg 0)⟩,
    ⟨"MIRROR_TC", 20, 4, .rw, (.cfg 0)⟩,
    ⟨"MIRROR_LOST_CNT", 16, 4, .ro, (.val 0)⟩,
    ⟨"MIRROR_ETYPE", 0, 16, .rw, (.cfg 34998)⟩]⟩,
  ⟨"CNT_CAP_MIRROR_DMAC_LO", 0xd00060, [], .all, .slice, false, .single, [
    ⟨"DMAC_LO", 0, 32, .rw, (.cfg 0)⟩]⟩,
  ⟨"CNT_CAP_MIRROR_DMAC_HI", 0xd00064, [], .all, .slice, false, .single, [
    ⟨"DMAC_HI", 0, 16, .rw, (.cfg 0)⟩]⟩,
  ⟨"CNT_BW_CFG", 0xd00400, [(64, 0x40)], .all, .slice, false, .single, [
    ⟨"ENABLE", 31, 1, .rw, (.cfg 0)⟩,
    ⟨"OVERHEAD", 30, 1, .rw, (.cfg 0)⟩,
    ⟨"ORIGIN", 26, 4, .rw, (.cfg 15)⟩,
    ⟨"PFX_KIND", 16, 3, .rw, (.cfg 0)⟩,
    ⟨"PFX_LEN", 0, 8, .rw, (.cfg 0)⟩]⟩,
  ⟨"CNT_BW_FILTER", 0xd00404, [(64, 0x40)], .all, .slice, false, .single, [
    ⟨"TC_MASK", 22, 10, .rw, (.cfg 1023)⟩,
    ⟨"VID_EN", 21, 1, .rw, (.cfg 0)⟩,
    ⟨"VID", 9, 12, .rw, (.cfg 0)⟩,
    ⟨"SRC_ANY", 6, 1, .rw, (.cfg 1)⟩,
    ⟨"SRC_PORT", 0, 6, .rw, (.cfg 0)⟩]⟩,
  ⟨"CNT_BW_LEN", 0xd00408, [(64, 0x40)], .all, .slice, false, .single, [
    ⟨"LEN_US", 0, 23, .rw, (.cfg 1000000)⟩]⟩,
  ⟨"CNT_BW_PFX", 0xd0040c, [(64, 0x40), (4, 0x4)], .all, .slice, false, .single, [
    ⟨"PFX", 0, 32, .rw, (.cfg 0)⟩]⟩,
  ⟨"CNT_BW_BYTES_LO", 0xd00420, [(64, 0x40)], .all, .slice, false, (.low [4, 8, 12, 16]), [
    ⟨"BYTES_LO", 0, 32, .rl, (.val 0)⟩]⟩,
  ⟨"CNT_BW_BYTES_HI", 0xd00424, [(64, 0x40)], .all, .slice, false, (.high (-4)), [
    ⟨"BYTES_HI", 0, 16, .rl, (.val 0)⟩]⟩,
  ⟨"CNT_BW_FRAMES", 0xd00428, [(64, 0x40)], .all, .slice, false, (.high (-8)), [
    ⟨"FRAMES", 0, 32, .rl, (.val 0)⟩]⟩,
  ⟨"CNT_BW_RES", 0xd0042c, [(64, 0x40)], .all, .slice, false, (.high (-12)), [
    ⟨"SEQ", 16, 16, .rl, (.val 0)⟩,
    ⟨"COAST", 2, 1, .rl, (.val 0)⟩,
    ⟨"STALE", 1, 1, .rl, (.val 0)⟩,
    ⟨"STEPPED", 0, 1, .rl, (.val 0)⟩]⟩,
  ⟨"CNT_BW_START", 0xd00430, [(64, 0x40)], .all, .slice, false, (.high (-16)), [
    ⟨"START_US", 0, 32, .rl, (.val 0)⟩]⟩,
  ⟨"CNT_VAL_LO", 0xd10000, [(64, 0x200), (52, 0x8)], .port, .slice, false, (.low [4]), [
    ⟨"VAL_LO", 0, 32, .rl, (.val 0)⟩]⟩,
  ⟨"CNT_VAL_HI", 0xd10004, [(64, 0x200), (52, 0x8)], .port, .slice, false, (.high (-4)), [
    ⟨"VAL_HI", 0, 16, .rl, (.val 0)⟩]⟩,
  ⟨"CNT_WRAP0", 0xd101a0, [(64, 0x200)], .port, .slice, false, .single, [
    ⟨"WRAP", 0, 32, .w1c, (.val 0)⟩]⟩,
  ⟨"CNT_WRAP1", 0xd101a4, [(64, 0x200)], .port, .slice, false, .single, [
    ⟨"WRAP", 0, 20, .w1c, (.val 0)⟩]⟩,
  ⟨"CNT_SNAPBANK_VAL_LO", 0xd20000, [(64, 0x200), (52, 0x8)], .port, .slice, false, (.low [4]), [
    ⟨"VAL_LO", 0, 32, .rl, (.val 0)⟩]⟩,
  ⟨"CNT_SNAPBANK_VAL_HI", 0xd20004, [(64, 0x200), (52, 0x8)], .port, .slice, false, (.high (-4)), [
    ⟨"VAL_HI", 0, 16, .rl, (.val 0)⟩]⟩,
  ⟨"CNT_SNAPBANK_WRAP0", 0xd201a0, [(64, 0x200)], .port, .slice, false, .single, [
    ⟨"WRAP", 0, 32, .ro, (.val 0)⟩]⟩,
  ⟨"CNT_SNAPBANK_WRAP1", 0xd201a4, [(64, 0x200)], .port, .slice, false, .single, [
    ⟨"WRAP", 0, 20, .ro, (.val 0)⟩]⟩]

/-- Block MGT (16 R432). -/
def mgtRegs : List RegDef := [
  ⟨"MGT_CFG", 0xe00000, [], .all, .management, false, .single, [
    ⟨"KEYS_VALID", 24, 8, .ro, (.val 0)⟩,
    ⟨"OPEN_ACCESS", 16, 1, .ro, (.val 0)⟩,
    ⟨"ETHERTYPE", 0, 16, .rw, (.cfg 34997)⟩]⟩,
  ⟨"MGT_MAC_LO", 0xe00004, [], .all, .management, false, .single, [
    ⟨"MAC_LO", 0, 32, .rw, (.cfg 0)⟩]⟩,
  ⟨"MGT_MAC_HI", 0xe00008, [], .all, .management, false, .single, [
    ⟨"MAC_HI", 0, 16, .rw, (.cfg 0)⟩]⟩,
  ⟨"MGT_PORT_EN_LO", 0xe0000c, [], .all, .management, false, .single, [
    ⟨"PORTS", 0, 32, .rw, (.cfg 4294967295)⟩]⟩,
  ⟨"MGT_PORT_EN_HI", 0xe00010, [], .high, .management, false, .single, [
    ⟨"PORTS", 0, 32, .rw, (.cfg 4294967295)⟩]⟩,
  ⟨"MGT_AUTH_LO", 0xe00014, [], .all, .management, false, .single, [
    ⟨"PORTS", 0, 32, .rw, (.cfg 0)⟩]⟩,
  ⟨"MGT_AUTH_HI", 0xe00018, [], .high, .management, false, .single, [
    ⟨"PORTS", 0, 32, .rw, (.cfg 0)⟩]⟩,
  ⟨"MGT_BOOT_ID", 0xe0001c, [], .all, .management, false, .single, [
    ⟨"BOOT_ID", 0, 32, .ro, (.val 0)⟩]⟩,
  ⟨"MGT_AGENT_CNT", 0xe00020, [], .all, .management, false, .single, [
    ⟨"AUTH_FAIL", 24, 8, .ro, (.val 0)⟩,
    ⟨"REPLAY", 16, 8, .ro, (.val 0)⟩,
    ⟨"BUSY_DROP", 8, 8, .ro, (.val 0)⟩,
    ⟨"PORT_DROP", 0, 8, .ro, (.val 0)⟩]⟩,
  ⟨"MGT_NOTIFY_CFG", 0xe00024, [], .all, .management, false, .single, [
    ⟨"EN", 31, 1, .rw, (.cfg 0)⟩,
    ⟨"HEALTH_EN", 30, 1, .rw, (.cfg 0)⟩,
    ⟨"PORT", 24, 6, .rw, (.cfg 0)⟩,
    ⟨"KEY_SLOT", 16, 3, .rw, (.cfg 0)⟩,
    ⟨"HOLDOFF_MS", 0, 16, .rw, (.cfg 10)⟩]⟩,
  ⟨"MGT_NOTIFY_DMAC_LO", 0xe00028, [], .all, .management, false, .single, [
    ⟨"MAC_LO", 0, 32, .rw, (.cfg 0)⟩]⟩,
  ⟨"MGT_NOTIFY_DMAC_HI", 0xe0002c, [], .all, .management, false, .single, [
    ⟨"MAC_HI", 0, 16, .rw, (.cfg 0)⟩]⟩,
  ⟨"MGT_UART_CFG", 0xe00030, [], .all, .management, false, .single, [
    ⟨"BAUD", 2, 1, .rw, (.cfg 0)⟩,
    ⟨"READ_ONLY", 1, 1, .rw, (.cfg 0)⟩,
    ⟨"EN", 0, 1, .rw, (.cfg 1)⟩]⟩,
  ⟨"MGT_ALARM", 0xe00040, [], .all, .management, false, .single, [
    ⟨"ALARM", 0, 14, .w1c, (.val 0)⟩]⟩,
  ⟨"MGT_ALARM_MASK", 0xe00044, [], .all, .management, false, .single, [
    ⟨"MASK", 0, 14, .rw, (.cfg 4095)⟩]⟩,
  ⟨"MGT_ALARM_CNT", 0xe00048, [(4, 0x4)], .all, .management, false, .single, [
    ⟨"CNT", 0, 32, .ro, (.val 0)⟩]⟩,
  ⟨"MGT_I2C_CMD", 0xe00060, [], .all, .management, true, .single, [
    ⟨"GO", 31, 1, .sc, (.val 0)⟩,
    ⟨"RESULT", 28, 3, .ro, (.val 0)⟩,
    ⟨"SPEED", 27, 1, .rw, (.val 0)⟩,
    ⟨"OP", 26, 1, .rw, (.val 0)⟩,
    ⟨"LEN_M1", 24, 2, .rw, (.val 0)⟩,
    ⟨"CAGE", 20, 4, .rw, (.val 0)⟩,
    ⟨"DEV", 8, 7, .rw, (.val 0)⟩,
    ⟨"REG", 0, 8, .rw, (.val 0)⟩]⟩,
  ⟨"MGT_I2C_DATA", 0xe00064, [], .all, .management, true, .single, [
    ⟨"DATA", 0, 32, .rw, (.val 0)⟩]⟩]

/-- The registers of the block that holds an address (16 R433). -/
def blockRegs (addr : Nat) : List RegDef :=
  if addr < 0x100000 then glbRegs
  else if addr < 0x200000 then cfgRegs
  else if addr < 0x280000 then laneRegs
  else if addr < 0x300000 then clklRegs
  else if addr < 0x400000 then portRegs
  else if addr < 0x500000 then fwdRegs
  else if addr < 0x600000 then qwRegs
  else if addr < 0x700000 then bufRegs
  else if addr < 0x780000 then timeRegs
  else if addr < 0x800000 then lydRegs
  else if addr < 0x900000 then synRegs
  else if addr < 0xa00000 then nibRegs
  else if addr < 0xb00000 then calRegs
  else if addr < 0xc00000 then hrtRegs
  else if addr < 0xd00000 then updRegs
  else if addr < 0xe00000 then cntRegs
  else if addr < 0xf00000 then mgtRegs
  else []

end Sys2Proof.Machine
end

