-- ==== Sys2Proof/Machine/Bits.lean ====
section
/-! DEFINITION. Bit fields, signed numbers, saturating counts and byte order. -/

namespace Sys2Proof.Machine

/-- Bits [lo + width - 1 : lo] of a number. -/
def fieldOf (w lo width : Nat) : Nat := w / 2 ^ lo % 2 ^ width

/-- A number with bits [lo + width - 1 : lo] replaced by the low bits of v. -/
def withField (w lo width v : Nat) : Nat :=
  w - fieldOf w lo width * 2 ^ lo + v % 2 ^ width * 2 ^ lo

/-- Bit n of a number. -/
def bitOf (w n : Nat) : Bool := w / 2 ^ n % 2 == 1

/-- A number with bit n set to b. -/
def withBit (w n : Nat) (b : Bool) : Nat := withField w n 1 b.toNat

/-- The two's-complement value of a number of the given width. -/
def signedOf (width n : Nat) : Int :=
  if n % 2 ^ width < 2 ^ (width - 1) then (n % 2 ^ width : Nat) else (n % 2 ^ width : Nat) - (2 ^ width : Nat)

/-- The number of the given width that holds a signed value, modulo two to the width. -/
def wrapTo (width : Nat) (i : Int) : Nat := (i % (2 ^ width : Nat)).toNat

/-- A signed value limited to a signed number of the given width. -/
def satSigned (width : Nat) (i : Int) : Int :=
  max (-(2 ^ (width - 1) : Nat)) (min i ((2 ^ (width - 1) : Nat) - 1))

/-- A count that stops at the largest number of its width. -/
def satCount (width n : Nat) : Nat := min n (2 ^ width - 1)

/-- A value limited to a range. -/
def clampNat (lo hi n : Nat) : Nat := max lo (min hi n)

/-- Big-endian number of a list of bytes. -/
def beNat (bs : List Byte) : Nat := bs.foldl (fun a b => a * 256 + b.toNat) 0

/-- Little-endian number of a list of bytes. -/
def leNat (bs : List Byte) : Nat := bs.foldr (fun b a => a * 256 + b.toNat) 0

/-- The bytes of a number, most significant first. -/
def beBytes (count n : Nat) : List Byte :=
  (List.range count).map fun i => BitVec.ofNat 8 (n / 256 ^ (count - 1 - i))

/-- The bytes of a number, least significant first. -/
def leBytes (count n : Nat) : List Byte :=
  (List.range count).map fun i => BitVec.ofNat 8 (n / 256 ^ i)

/-- `count` bytes of a list from an offset. -/
def slice (bs : List Byte) (off count : Nat) : List Byte := (bs.drop off).take count

/-- Big-endian number of `count` bytes from an offset. -/
def beAt (bs : List Byte) (off count : Nat) : Nat := beNat (slice bs off count)

/-- Integer division that rounds to the nearest, ties to even. -/
def roundDivEven (a : Int) (b : Nat) : Int :=
  let q := a.fdiv b
  let r := a.fmod b
  if 2 * r < b then q else if 2 * r > b then q + 1 else if q % 2 = 0 then q else q + 1

/-- Integer division that rounds to the nearest, ties away from zero. -/
def roundDivAway (a : Int) (b : Nat) : Int :=
  if 0 ≤ a then (2 * a + b).fdiv (2 * b) else -((2 * (-a) + b).fdiv (2 * b))

/-- Position of the first element that satisfies a test. -/
def indexWhere {α : Type} (p : α → Bool) : List α → Nat → Option Nat
  | [], _ => none
  | a :: r, i => if p a then some i else indexWhere p r (i + 1)

/-- Integer square root by Newton steps on fuel, rounded down. -/
def isqrtStep (n : Nat) : Nat → Nat → Nat
  | 0, x => x
  | f + 1, x => let y := (x + n / x) / 2; if y < x then isqrtStep n f y else x

/-- Integer square root, rounded down. -/
def isqrt (n : Nat) : Nat := if n = 0 then 0 else isqrtStep n 256 (2 ^ (Nat.log2 n / 2 + 1))

end Sys2Proof.Machine
end

