-- ==== Sys2Proof/Machine/SparseMap.lean ====
section
/-! DEFINITION. Sparse data by key: a list of (key, value) pairs in one canonical form. The keys rise strictly and no
entry equals what its key reads as when it is not listed, so equal contents are equal lists. -/

namespace Sys2Proof.Machine

/-- Sparse data: (key, value) pairs. -/
abbrev SMap (α : Type) := List (Nat × α)

/-- The value at a key; `d` says what an unlisted key reads as. -/
def mapGet {α : Type} (d : Nat → α) : SMap α → Nat → α
  | [], k => d k
  | (j, v) :: r, k => if j = k then v else mapGet d r k

/-- The map without a key. -/
def mapDel {α : Type} (m : SMap α) (k : Nat) : SMap α := m.filter fun e => decide (e.1 ≠ k)

/-- The map with an entry for a key, at its place among the rising keys. -/
def mapIns {α : Type} : SMap α → Nat → α → SMap α
  | [], k, v => [(k, v)]
  | (j, u) :: r, k, v =>
    if k < j then (k, v) :: (j, u) :: r
    else if k = j then (k, v) :: r
    else (j, u) :: mapIns r k v

/-- The map with a value written at a key, in canonical form: writing what an unlisted key reads as removes the entry. -/
def mapSet {α : Type} [DecidableEq α] (d : Nat → α) (m : SMap α) (k : Nat) (v : α) : SMap α :=
  if v = d k then mapDel m k else mapIns m k v

/-- The map with a function applied to the value at a key. -/
def mapUpd {α : Type} [DecidableEq α] (d : Nat → α) (m : SMap α) (k : Nat) (f : α → α) : SMap α :=
  mapSet d m k (f (mapGet d m k))

/-- Every key of the list is above a bound and the keys rise strictly. -/
def keysRise {α : Type} : Option Nat → SMap α → Bool
  | _, [] => true
  | none, (j, _) :: r => keysRise (some j) r
  | some b, (j, _) :: r => decide (b < j) && keysRise (some j) r

/-- No entry equals what its key reads as when it is not listed. -/
def noDefaults {α : Type} [DecidableEq α] (d : Nat → α) (m : SMap α) : Bool := m.all fun e => decide (e.2 ≠ d e.1)

/-- The canonical form. -/
def mapWf {α : Type} [DecidableEq α] (d : Nat → α) (m : SMap α) : Bool := keysRise none m && noDefaults d m

end Sys2Proof.Machine
end

