-- ==== Sys2Proof/Machine/StateTypes.lean ====
section
/-! DEFINITION. The plain data that State is made of, chapter by chapter. -/

namespace Sys2Proof.Machine

/-- The lifecycle state of the device (00 R11, 03 R104). -/
inductive Life where
  | dormant | reset | kindling | running | defaulted
  deriving DecidableEq, Repr

/-- An 8b/10b symbol of a clock lane: K or D, and its byte (04 R120, 09 R269). -/
structure Symbol where
  control : Bool
  byte : Byte
  deriving DecidableEq, Repr

/-- What the block has sent to the outside. -/
inductive Output where
  /-- The answer to a register access, with the word read. -/
  | answer (q : Requester) (addr : Nat) (value : Word)
  /-- A frame sent on a port; `bad` when it ends with an error control block. -/
  | frame (port : Nat) (bytes : List Byte) (bad : Bool)
  /-- A frame given to the firmware of the hearths, with its ingress port and stamp (08 R256). -/
  | hearths (port stamp : Nat) (stale : Bool) (bytes : List Byte)
  /-- The symbols of a superframe sent on a clock lane (09 R269). -/
  | superframe (clkl : Nat) (symbols : List Symbol)
  /-- A console reply, one line an entry (16 R424). -/
  | console (lines : List (List Char))
  /-- What the scan port shifts out: the number of bits and their value (16 R426, R427). -/
  | scanned (bits value : Nat)
  /-- Transmitted bits of a lane inverted by an injection; clock lane k is lane 64 + k (04 R129). -/
  | injected (lane : Nat) (bits : Nat)
  deriving DecidableEq, Repr

/-! ## 02: the power stage and the VBAT store -/

/-- The power stage (02 R45 to R60). -/
structure PowerState where
  /-- The level of ENABLE. -/
  enable : Bool
  /-- RST_N is held low. -/
  rstLow : Bool
  /-- A soft start runs. -/
  softStart : Bool
  /-- A power-down runs. -/
  down : Bool
  /-- The cause mask of the power-down that runs or ran last (02 R58). -/
  mask : Nat
  /-- TIME_SEC_LO at the start of the power-down. -/
  downSec : Nat
  /-- The record of the power-down is stored. -/
  stored : Bool
  /-- A thermal shutdown holds the device off (02 R60). -/
  thermalLatch : Bool
  /-- ENABLE went low after the thermal shutdown. -/
  enableCycled : Bool
  /-- A boundary-scan instruction drives the pins and holds the core as in RESET (16 R426). -/
  scanHold : Bool
  deriving DecidableEq, Repr

/-- An entry of the VBAT event log (02 R58). -/
structure VbatEntry where
  code : Nat
  seq : Nat
  detail : Nat
  hi : Nat
  deriving DecidableEq, Repr

/-- What the VBAT store holds beside its registers (02 R54 to R59, 14 R395). -/
structure VbatStore where
  /-- Newest entry first, at most 16. -/
  log : List VbatEntry
  nextSeq : Nat
  /-- Whole seconds of dormancy counted by the oscillator. -/
  dormantSec : Nat
  /-- The oscillator has run since the device became DORMANT. -/
  oscRan : Bool
  /-- Boot-attempt counts of the four parts kept in VBAT (14 R395). -/
  attempts : List Nat
  deriving DecidableEq, Repr

/-! ## 01: the register interface -/

/-- What the register interface holds beside the registers (01 R24 to R27). -/
structure BusState where
  /-- High words latched by a requester's low-word reads, by the key of the requester and the address. -/
  latches : SMap Word
  /-- High words written by a requester and not yet carried. -/
  shadows : SMap Word
  /-- The receive-domain values behind the management-side copies of 01 R27, by register address. -/
  laneLive : SMap Word
  /-- Writes to receive-domain registers that wait for the receive clock: address and word written. -/
  laneCarry : List (Nat × Word)
  deriving DecidableEq, Repr

/-! ## 03: staging, banks, persist -/

/-- The states of a staging session (03 R92). -/
inductive SessState where
  | idle | opened | checking | checked | failed | arming | armed | applying
  deriving DecidableEq, Repr

/-- One staged record (03 R95). -/
inductive StagedRec where
  /-- A write to a register; `mask` gives the bits written, `masked` tells a masked record of an image. -/
  | reg (addr mask value : Nat) (masked : Bool)
  /-- A forwarding table entry. -/
  | table (table index : Nat) (data : List Word)
  /-- A window entry of a port (06 R200). -/
  | window (port index : Nat) (data : List Word)
  /-- A band table entry of a synthesizer (10 R301). -/
  | band (synth index d0 d1 : Nat)
  /-- A link value record (12 R349). -/
  | link (kind index tx rx asym : Nat)
  /-- A management key record (16 R422). -/
  | key (slot role : Nat) (key : BitVec 256)
  deriving DecidableEq, Repr

/-- The contents of a configuration flash bank (03 R81, R82, R87, R89). -/
inductive BankData where
  /-- Reads all ones. -/
  | erased
  /-- An image as bytes, written by a download (14 R397). -/
  | raw (bytes : List Byte)
  /-- An image written by a persist: its sequence number and its records (03 R87). -/
  | snapshot (seq : Nat) (recs : List StagedRec)
  /-- A write of the bytes was aborted at a point that the free value of that number decides (03 R89, 14 R397). -/
  | tornRaw (free : Nat) (bytes : List Byte)
  /-- A persist was aborted at a point that the free value of that number decides (03 R89). -/
  | tornSnapshot (free seq : Nat) (recs : List StagedRec)
  /-- A persist was programmed and its check word did not verify when it was read back (03 R87). -/
  | badSnapshot (seq : Nat) (recs : List StagedRec)
  deriving DecidableEq, Repr

/-- A persist that runs (03 R87, R88). -/
structure Persist where
  target : Nat
  seq : Nat
  recs : List StagedRec
  /-- A commit was applied since the snapshot. -/
  stale : Bool
  deriving DecidableEq, Repr

/-- Staging and flash configuration. -/
structure CfgState where
  sess : SessState
  owner : Option Requester
  records : List StagedRec
  overflow : Bool
  /-- The commit instant in nanoseconds of network time, from ARM on. -/
  instant : Nat
  bank0 : BankData
  bank1 : BankData
  persist : Option Persist
  /-- A configuration update has written its marker, or is rewriting the banks, for this bank (14 R397). -/
  updateBank : Option Nat
  /-- The image that a running configuration update writes. -/
  updateImage : List Byte
  /-- A configuration update has written its marker since the last device reset: persists are refused (03 R87). -/
  locked : Bool
  /-- Blocks of bank 0, of 64, that are not in its bad-block table (03 R88). -/
  good0 : Nat
  /-- Blocks of bank 1, of 64, that are not in its bad-block table. -/
  good1 : Nat
  deriving DecidableEq, Repr

/-! ## 16: management -/

/-- A key slot of the agent (16 R421, R422). -/
structure KeySlot where
  key : BitVec 256
  readOnly : Bool
  /-- The highest SEQ accepted; none before the first. -/
  high : Option Nat
  /-- The accepted values among the 64 below it. -/
  seen : List Nat
  deriving DecidableEq, Repr

/-- A management request that waits for the agent: its ingress port and its frame without the FCS (16 R419). -/
structure AgentReq where
  port : Nat
  bytes : List Byte
  deriving DecidableEq, Repr

/-- A cage bus transaction that waits or runs, with its kind and its number of bytes (16 R425). -/
structure I2cOp where
  q : Requester
  cage : Nat
  read : Bool
  len : Nat
  deriving DecidableEq, Repr

/-- The agent, the alarms, the cage buses and the scan port. -/
structure MgtState where
  /-- Key slots 0 to 7. -/
  slots : List (Option KeySlot)
  /-- Keys of the active configuration: they take effect at the next kindling (16 R422). -/
  staged : List StagedRec
  /-- Kindling step 5 has applied the keys. -/
  keysApplied : Bool
  /-- The device's next SEQ, without bit 63. -/
  nextSeq : Nat
  /-- Requests that wait, oldest first, at most 16 (16 R419). -/
  requests : List AgentReq
  /-- Latched alarm bits. -/
  latched : Nat
  /-- Counts of raisings of the 14 alarm bits. -/
  counts : List Nat
  /-- The network time in ns of the first raising that waits for a NOTIFY frame. -/
  notify : Option Nat
  /-- An event of 13 R372 waits for a HEALTH_REPORT frame. -/
  healthDue : Bool
  /-- Spine cycles in which the last NOTIFY and HEALTH_REPORT frames were sent (16 R430). -/
  notifySent : Option Nat
  healthSent : Option Nat
  /-- Port groups whose trunk-down condition holds (04 R126). -/
  trunkDown : List Nat
  /-- Parts with no bank that starts (14 R386). -/
  noBank : List Nat
  i2c : List I2cOp
  /-- The JTAG instruction register. -/
  ir : Nat
  /-- The boundary register: 288 cells. -/
  boundary : BitVec 288
  deriving DecidableEq, Repr

/-! ## 04: lanes and links -/

/-- How far a try of the alignment search has come (04 R122). -/
inductive SearchPhase where
  /-- Waiting for this many window ends before the window's result is read. -/
  | windows (n : Nat)
  /-- Waiting for CONFIRM to clear. -/
  | confirm
  deriving DecidableEq, Repr

/-- An alignment search that runs on a clock lane (04 R122, R124). -/
structure ClkSearch where
  clkl : Nat
  tries : Nat
  phase : SearchPhase
  deriving DecidableEq, Repr

/-- Lanes and clock lanes beside their registers (04). -/
structure LinkState where
  /-- The rate a searching lane tries, coded as LANE_CTRL.RATE; 3 where not listed (04 R112). -/
  tryRate : SMap Nat
  /-- Lanes whose restart runs (04 R119). -/
  restarting : List Nat
  /-- The lane controller itself restarts (04 R119, 14 R389). -/
  ctlRestart : Bool
  /-- Window ends until a pending confirmation is judged; 0 where none is pending (04 R122). -/
  confirm : SMap Nat
  searches : List ClkSearch
  /-- Clock lanes that wait RETRY_MS after a failed search (04 R124). -/
  retry : List Nat
  /-- Port groups whose CG_RSTk_N is released (04 R114). -/
  cageUp : List Nat
  /-- Port groups whose CG_INTk_N a module holds low: an input, which no command of the table moves (04 R114; log
  entry 72). -/
  cageInt : List Nat
  deriving DecidableEq, Repr

/-! ## 05: forwarding -/

/-- What happens to the R-TAG of a frame (05 R170 to R172). -/
inductive RtagAct where
  | keep
  | put (seq : Nat)
  | strip
  deriving DecidableEq, Repr

/-- What the timestamp functions do with a copy (08 R259, R262). -/
inductive PtpOp where
  | none
  /-- Sync from a privileged port with twoStepFlag 0: origin timestamp and fraction are written. -/
  | origin
  /-- Residence time is added to correctionField. -/
  | residence
  /-- A two-step entry is placed. -/
  | twoStep
  deriving DecidableEq, Repr

/-- What the slice has found out about a frame: it keeps these results whatever a commit changes (05 R152). -/
structure FrameInfo where
  /-- Ingress port; 64 and 65 are the hearth ports H0 and H1; 66 a frame the device made itself. -/
  src : Nat
  /-- Ingress stamp in units of 2^-16 ns (08 R252). -/
  stamp : Nat
  /-- The stamp is STALE (08 R254). -/
  stale : Bool
  /-- 0 USER, 1 TIME, 2 MGMT, 3 QUILL (05 R136). -/
  origin : Nat
  /-- Egress queue: traffic class, 8 TIME, 9 MGMT. -/
  queue : Nat
  vid : Nat
  pcp : Nat
  dei : Bool
  /-- The first tag has TPID 0x8100. -/
  ctag : Bool
  /-- Ports that send the VLAN untagged, one bit a port. -/
  untag : Nat
  /-- A VLAN was assigned, so that tags follow 05 R145. -/
  bridged : Bool
  rtag : RtagAct
  epoch : Nat
  filter : Option Nat
  /-- The FILTER entry of its lookup epoch. -/
  filterEntry : List Word
  stream : Option Nat
  /-- The sequence number this frame has taken and not confirmed (05 R174). -/
  seq : Option Nat
  noCt : Bool
  capture : Bool
  ptp : PtpOp
  deriving DecidableEq, Repr

/-- A frame from its parse window to its verdict. -/
structure RxFrame where
  info : FrameInfo
  window : List Byte
  /-- Its verdict so far, coded as 15 R410; 0 while it is forwarded. -/
  verdict : Nat
  /-- Its buffer: pool x 2^19 + index. -/
  buf : Option Nat
  /-- Ports of the copies that are judged when the frame ends. -/
  later : List Nat
  /-- Ports of copies queued or started. -/
  queued : List Nat
  /-- It has more than one destination copy (05 R160). -/
  multi : Bool
  /-- A copy was refused or entered the residue. -/
  refused : Bool
  /-- It waits for the end of the first copy of its sequence number (05 R174). -/
  held : Bool
  /-- Length of a frame that has ended; 0 before. -/
  length : Nat
  deriving DecidableEq, Repr

/-- The IEEE 802.1CB state and counts of a STREAM entry (05 R170, R174). -/
structure StreamSt where
  genSeq : Nat
  passed : Nat
  dups : Nat
  ooo : Nat
  lost : Nat
  resets : Nat
  rogue : Nat
  tagless : Nat
  takeAny : Bool
  recov : Nat
  /-- Sequence history, newest first. -/
  history : List Bool
  /-- Numbers taken and not confirmed. -/
  pend : List Nat
  deriving DecidableEq, Repr

/-- The counts, buckets and flag of a FILTER entry (05 R157, R158). Levels are in units of 10^-6 bit. -/
structure FilterSt where
  matched : Nat
  passed : Nat
  sduFail : Nat
  red : Nat
  yellow : Nat
  blocked : Bool
  committed : Nat
  excess : Nat
  /-- Spine cycle of the latest charge. -/
  last : Nat
  deriving DecidableEq, Repr

/-- A learn request (05 R149). -/
structure Learn where
  slice : Nat
  vid : Nat
  mac : Nat
  port : Nat
  deriving DecidableEq, Repr

/-- A copy in the residue (05 R160, R161). -/
structure ResCopy where
  port : Nat
  buf : Nat
  info : FrameInfo
  deriving DecidableEq, Repr

/-- The forwarding tables and what is in flight (05). -/
structure FwdState where
  /-- Active table entries by table code x 2^20 + index; eight zero words where not listed. -/
  tables : SMap (List Word)
  /-- Entries of the previous epoch while it drains (05 R153). -/
  old : Option (SMap (List Word))
  /-- The words of FWD_HASH_CFG and PORT_FWD_MODE in the previous epoch (05 R151). -/
  oldRegs : SMap Word
  streams : SMap StreamSt
  filters : SMap FilterSt
  /-- Frames being received, at most one a port. -/
  rx : List RxFrame
  /-- Frames that have ended and wait for a recovery verdict (05 R174). -/
  holds : List RxFrame
  learns : List Learn
  residue : List ResCopy
  deriving DecidableEq, Repr

/-! ## 07: buffers, queues, the peat bank -/

/-- A free list (07 R208): buffers freed and pushed, then the never used ones in ascending order. -/
structure PoolSt where
  total : Nat
  fresh : Nat
  pushed : List Nat
  deriving DecidableEq, Repr

/-- A buffer in use (07 R207). -/
structure Buf where
  refs : Nat
  bytes : List Byte
  receiving : Bool
  ctStarted : Bool
  endedGood : Bool
  moved : Bool
  deriving DecidableEq, Repr

/-- Where a queued copy is held (07 R223, R224). -/
inductive Held where
  /-- In the inkwell, by its buffer. -/
  | ink (buf : Nat)
  /-- In the inkwell, waiting for its peat bank write. -/
  | pending (buf : Nat)
  /-- In the peat bank. -/
  | peat (bytes : List Byte)
  /-- In the read-back store. -/
  | ready (bytes : List Byte)
  deriving DecidableEq, Repr

/-- A queued copy. -/
structure Copy where
  held : Held
  /-- The pool that sets its size (07 R216). -/
  pool : Nat
  info : FrameInfo
  /-- It leaves cut-through (05 R163). -/
  ct : Bool
  deriving DecidableEq, Repr

/-- A copy being sent: the head of its queue (07 R228). -/
structure TxCopy where
  queue : Nat
  /-- Egress stamp in units of 2^-16 ns. -/
  stamp : Nat
  stale : Bool
  /-- Verdict point in bytes when the copy leaves as a blot (05 R165). -/
  blot : Option Nat
  deriving DecidableEq, Repr

/-- A gate control list that waits for its cycle start (07 R233). -/
structure GatePend where
  /-- Network time of the takeover in ns. -/
  at_ : Nat
  words : SMap Nat
  deriving DecidableEq, Repr

/-- Pools, queues, transmitters, gates (07). -/
structure BufState where
  pools : List PoolSt
  bufs : SMap Buf
  /-- Copies of port n, queue q in order, by 16 n + q. -/
  queues : SMap (List Copy)
  /-- The copy each port sends. -/
  txs : SMap (Option TxCopy)
  /-- Queues of the copies that wait for a peat bank write, in order (07 R225). -/
  peatPend : List Nat
  /-- Credits of the credit-based shapers in 10^-6 bit, by 16 n + q. -/
  credits : SMap Int
  /-- Spine cycle up to which the credits of a port count. -/
  creditAt : SMap Nat
  deficits : SMap Nat
  /-- The DWRR member that a port serves. -/
  dwrr : SMap (Option Nat)
  gates : SMap (Option GatePend)
  /-- The peat bank restarts (07 R227). -/
  peatRestart : Bool
  deriving DecidableEq, Repr

/-! ## 06: quill windows -/

/-- A frame that passes a quill window (06 R179), with the bank, the entry, the cycle and the ingress port of its
window. -/
structure QFrame where
  bytes : List Byte
  stamp : Nat
  stale : Bool
  bank : Nat
  index : Nat
  cycle : Nat
  inPort : Nat
  deriving DecidableEq, Repr

/-- An open window of an egress port (06 R183). -/
structure OpenWin where
  bank : Nat
  index : Nat
  /-- The number of the cycle in which it opened (06 R178). -/
  cycle : Nat
  inPort : Nat
  /-- Elastic depths of its lanes in ps (06 R187). -/
  depths : List Nat
  /-- It passes no further frame (06 R198). -/
  closing : Bool
  /-- The frame that passes; it may be the last one of a window of the old bank (06 R201). -/
  frame : Option QFrame
  deriving DecidableEq, Repr

/-- The state of a window table entry (06 R204). -/
structure WinSt where
  openings : Nat
  passed : Nat
  mismatches : Nat
  misses : Nat
  konst : Bool
  lat : Nat
  deriving DecidableEq, Repr

/-- Quill windows (06). -/
structure QuillState where
  /-- Window entries by bank x 2^16 + port x 2^10 + index; five zero words where not listed. -/
  entries : SMap (List Word)
  states : SMap WinSt
  /-- CYCLE_NS of the inactive bank of a port. -/
  cycle : SMap Nat
  /-- Network time of a scheduled swap in ns (06 R201). -/
  swapAt : SMap (Option Nat)
  opens : SMap (Option OpenWin)
  /-- The windows of a port that have closed in a cycle: the number of the cycle, and bank x 2^10 + index of each
  (06 R183). -/
  closed : SMap (Nat × List Nat)
  /-- The egress guard bands that run, by port: bands of one port may overlap (06 R192). -/
  guards : List Nat
  /-- Arrival phase in ps last measured on a lane; none without a receive clock (06 R186). -/
  arrive : SMap (Option Nat)
  /-- Transmit phase of a lane in ps (06 R186). -/
  txph : SMap Nat
  /-- A takeover suspends every window (06 R199). -/
  suspended : Bool
  /-- Network time in ns from which the windows of a port open again after a takeover. -/
  resume : SMap Nat
  /-- Network time in ns from which the windows of a port run after kindling (06 R201). -/
  firstAt : SMap Nat
  deriving DecidableEq, Repr

/-! ## 15: counters, bandwidth windows, capture -/

/-- A bandwidth window (15 R405 to R407). -/
structure BwWin where
  /-- The first whole period has started. -/
  running : Bool
  /-- Period start in µs of network time. -/
  start : Nat
  bytes : Nat
  frames : Nat
  stepped : Bool
  stale : Bool
  coast : Bool
  deriving DecidableEq, Repr

/-- A record of the capture ring: its words in order (15 R408, R410). -/
structure CapRec where
  seq : Nat
  bytes : List Byte
  deriving DecidableEq, Repr

/-- A requester's record buffer (15 R412). -/
structure CapBuf where
  valid : Bool
  index : Nat
  bytes : List Byte
  deriving DecidableEq, Repr

/-- Counters, windows and capture (15). -/
structure CntState where
  /-- Counters by 64 n + i. -/
  vals : SMap Nat
  /-- Management-side copies of the lane counters 46 to 51. -/
  copies : SMap Nat
  snap : SMap Nat
  snapWrap : SMap Nat
  /-- OP of the pending timed action and its instant in ns. -/
  timed : Option (Nat × Nat)
  wins : SMap BwWin
  /-- Unread records, oldest first. -/
  ring : List CapRec
  nextSeq : Nat
  /-- Record buffers of the four requesters. -/
  bufs : List CapBuf
  /-- Records that wait for a mirror frame (15 R413). -/
  mirror : List CapRec
  deriving DecidableEq, Repr

/-! ## 08: the time core -/

/-- The states of the time core (00 R11, 08 R249). -/
inductive TimeMode where
  | free | acquiring | locked | holdover
  deriving DecidableEq, Repr

/-- An entry of a two-step queue (08 R263): the stamp counts 2^-16 ns. -/
structure TsqEntry where
  port : Nat
  msgType : Nat
  seqId : Nat
  stamp : Nat
  stale : Bool
  blot : Bool
  deriving DecidableEq, Repr

/-- The time core (08). -/
structure TimeState where
  /-- The local clock in units of 2^-48 ns (08 R241, R242). -/
  clock : Nat
  /-- The copy of network time in the slice core (01 R22), in units of 2^-48 ns. -/
  sliceCopy : Nat
  /-- The copy of network time in the lane transmit domain (01 R22). -/
  laneCopy : Nat
  /-- The slew remainder in units of 2^-48 ns (08 R248). -/
  slew : Int
  /-- The time core was LOCKED at some time since RESET (08 R249). -/
  everLocked : Bool
  /-- Consecutive Sync intervals with the measured offset within 10 ns (08 R249). -/
  syncRun : Nat
  /-- Offsets that the edge instance in use has measured for the average in progress, in 2^-16 ns, newest first. -/
  edgeThetas : List Int
  /-- The six two-step queues, head first (08 R262). -/
  tsq : List (List TsqEntry)
  deriving DecidableEq, Repr

/-! ## 13: the hearths -/

/-- The states of a hearth (00 R11, 13 R352). -/
inductive HState where
  | active | standby | cinder | offline
  deriving DecidableEq, Repr

/-- One hearth (13). -/
structure HearthUnit where
  st : HState
  /-- Its firmware has been verified at this start (13 R353, 14 R385). -/
  verified : Bool
  /-- It runs in step with the active hearth (13 R360). -/
  inStep : Bool
  /-- A restart runs (13 R370). -/
  restarting : Bool
  /-- An ISLAND_POWER or CLOCK_ABSENT cause has not cleared (13 R370). -/
  causeHolds : Bool
  /-- The 1 s delay before an automatic restart runs (13 R370). -/
  autoDue : Bool
  /-- Consecutive failed synthesizer tests (13 R371). -/
  fails : Nat
  /-- Its synthesizer is being tested (13 R371). -/
  testing : Bool
  /-- Spine cycle of its last entry into CINDER or OFFLINE (13 R358). -/
  outAt : Option Nat
  deriving DecidableEq, Repr

/-- The saved state of the active spine synthesizer (13 R362). -/
structure Snapshot where
  /-- Spine cycle in which it was taken. -/
  takenAt : Nat
  word : Nat
  integrator : Int
  band : Nat
  factoryBand : Bool
  aligner : Int
  mode : Nat
  pull : Int
  deriving DecidableEq, Repr

/-- How far a takeover has come (13 R364). -/
inductive TakeoverStage where
  | free | claimed | innerLocked | matched | moved
  deriving DecidableEq, Repr

/-- A takeover that runs (13 R363 to R365). -/
structure Takeover where
  cause : Nat
  source : Hearth
  /-- Spine cycle in which the token became free. -/
  since : Nat
  startSec : Nat
  stage : TakeoverStage
  deriving DecidableEq, Repr

/-- A commanded handover (13 R369). -/
inductive Handover where
  | none | testing | waiting | taking
  deriving DecidableEq, Repr

/-- The hearth pair and the lease (13). -/
structure HrtState where
  holder : Option Hearth
  a : HearthUnit
  b : HearthUnit
  /-- Spine cycle in which the running lease ends. -/
  leaseEnd : Nat
  snap : Option Snapshot
  takeover : Option Takeover
  handover : Handover
  /-- A lockstep diagnosis runs (13 R361). -/
  diagnosis : Bool
  /-- Spine cycle of the last mismatch whose diagnosis both hearths passed (13 R361). -/
  lastPass : Option Nat
  /-- The hearth that is being resynchronized (13 R361). -/
  resync : Option Hearth
  deriving DecidableEq, Repr

/-! ## 10: synthesizers and references -/

/-- The registers of a spine synthesizer that no field shows whole (10 R296, 13 R362). -/
structure Synth where
  /-- FREQ_WORD, 48 bits. -/
  word : Nat
  /-- The outer-loop integrator. -/
  integrator : Int
  /-- The setting of the fine aligner in ps. -/
  aligner : Int
  deriving DecidableEq, Repr

/-- The states of a reference entry (00 R11, 10 R306), in the order of their codes. -/
inductive RefState where
  | absent | disqualified | suspect | qualified
  deriving DecidableEq, Repr

/-- The monitor of a reference source (10 R305 to R307). -/
structure RefMon where
  st : RefState
  /-- Seconds of qualification left in DISQUALIFIED. -/
  left : Nat
  /-- FREQ_OFS in ppb. -/
  ofs : Int
  /-- The drift last computed, in 10^-12 per second. -/
  drift : Int
  /-- y of the latest seconds under the present basis, newest first. -/
  window : List Int
  /-- The sources that form the basis of the window; none for the ember path. -/
  basis : List Nat
  /-- Seconds for which the drift has stayed at most DRIFT_LIM / 2, in SUSPECT. -/
  calm : Nat
  deriving DecidableEq, Repr

/-- Synthesizers, references, ember, outputs (10). -/
structure SynState where
  a : Synth
  b : Synth
  /-- Entries of the active band tables that differ from the factory tables, by 64 x synthesizer + index. -/
  bands : SMap (Option (Nat × Nat))
  /-- Monitors by SOURCE: REFIN0 to 3, enabled clock lanes, and data lanes that a VALID entry names (10 R305). -/
  mons : SMap RefMon
  /-- The state of entry 0x20 as it was last judged (10 R306). -/
  upState : RefState
  /-- A reference has been followed since RESET (10 R297). -/
  followed : Bool
  /-- Phase still to move, in units of 10^-8 ps (10 R310). -/
  pull : Int
  /-- The mode a selection made during COAST takes when a synthesizer carries the spine (10 R297). -/
  pendMode : Option Nat
  /-- Consecutive outer-loop comparisons inside the lock window (10 R302). -/
  inRun : Nat
  /-- Consecutive outer-loop comparisons outside four lock windows. -/
  outRun : Nat
  /-- FREQ_WORD at the latest whole seconds of tracking, newest first (10 R314). -/
  wordHist : List Nat
  /-- Number of the fit of the ember model: one more at each second learned (10 R313). -/
  fit : Nat
  /-- FREQ_WORD set at the entry into EMBER_HOLD, before the model's correction (10 R314). -/
  holdWord : Nat
  /-- Spine cycle of the entry into EMBER_HOLD. -/
  holdSince : Nat
  /-- GLB_TEMP7 at that entry, in 1/16 degree. -/
  holdTemp : Int
  /-- Spine cycle in which the time core last entered HOLDOVER (10 R316). -/
  timeHoldSince : Nat
  /-- GLB_TEMP7 at that moment, in 1/16 degree. -/
  timeHoldTemp : Int
  /-- The largest excursion of GLB_TEMP7 since then. -/
  excursion : Nat
  /-- State changes that wait for the end of a calibration (10 R311): source and new state. -/
  deferred : List (Nat × RefState)
  /-- A selection waits for the end of a calibration (10 R311). -/
  selectionDue : Bool
  /-- A re-evaluation waits for the end of a calibration (10 R311). -/
  reevalDue : Bool
  /-- Time base minus time core of OSYN0 to 3, in units of 2^-48 ns (10 R318, R320). -/
  bases : List Int
  /-- The PO has been aligned since it was enabled. -/
  poAligned : List Bool
  /-- Time base of the edge that the alignment placed, for clock mode, in units of 2^-48 ns (10 R318). -/
  poAnchor : List Int
  /-- Time base of the target edge from which the PO runs after gating, in units of 2^-48 ns (10 R321). -/
  poStart : List Int
  /-- Output synthesizers that have lost their reference and not locked again (10 R303). -/
  refLost : List Nat
  /-- The rate correction that has crossed to the output synthesizers, in units of 2^-48 (10 R317). -/
  rho : Int
  deriving DecidableEq, Repr

/-! ## 09: trunk time transfer -/

/-- What a link keeps of its partner's superframe (09 R270). -/
structure Partner where
  flags : Nat
  domain : Nat
  state : Nat
  node : Nat
  hop : Nat
  gmId : Nat
  gmPriority1 : Nat
  gmClass : Nat
  gmAccuracy : Nat
  gmPriority2 : Nat
  gmVariance : Nat
  gmSeq : Nat
  gmErr : Nat
  errEst : Nat
  deriving DecidableEq, Repr

/-- A partner superframe that arrived: its SF_SEQ, its TX_TIME and its receive stamp in 2^-16 ns (09 R271). -/
structure Heard where
  seq : Nat
  tx : Nat
  rx : Nat
  deriving DecidableEq, Repr

/-- A clock-lane link (09). -/
structure LydLink where
  /-- SF_SEQ of the next superframe. -/
  sendSeq : Nat
  /-- Partner superframes that arrived, newest first, at most 3. -/
  heard : List Heard
  /-- The latest superframe with a correct CHECK and VERSION. -/
  partner : Option Partner
  /-- Spine cycle in which the partner's GM_SEQ last changed (09 R280). -/
  gmSeqAt : Nat
  /-- Consecutive superframes missing, stopping at 8 (09 R280). -/
  missing : Nat
  /-- No R outside 09 R275 has been met since the last sample. -/
  rInRange : Bool
  deriving DecidableEq, Repr

/-- The GM fields a node advertises, with its HOP (09 R270, R285). -/
structure GmSet where
  id : Nat
  priority1 : Nat
  cls : Nat
  accuracy : Nat
  priority2 : Nat
  variance : Nat
  seq : Nat
  err : Nat
  hop : Nat
  deriving DecidableEq, Repr

/-- Trunk time transfer (09). -/
structure TrunkState where
  links : SMap LydLink
  /-- The node's own GM_SEQ and its superframes since it last changed (09 R281). -/
  gmSeq : Nat
  gmCount : Nat
  /-- Values of theta of the average in progress in 2^-16 ns, newest first (09 R288). -/
  thetas : List Int
  /-- Consecutive samples beyond STEP_THR_NS in LOCKED (09 R290). -/
  beyond : Nat
  /-- The result that differs from the one in force: link or 16 for the own dataset, grandmaster, wins in a row
  (09 R284). -/
  rival : Option (Nat × Nat × Nat)
  /-- The values held while the node offers no time (09 R285). -/
  held : GmSet
  /-- Averages that count towards the end of the acquisition phase (09 R288). -/
  acqCount : Nat
  /-- The servo's integrator, in units of RATE. -/
  integrator : Int
  /-- The grandmaster followed before the latest loss (09 R287). -/
  lossGm : Option Nat
  /-- ERR_EST at the entry into HOLDOVER (09 R282). -/
  holdErr : Nat
  /-- GM_SEQ as superframes carry it while the spine coasts (13 R363, R367). -/
  seqHeld : Nat
  /-- The upstream's superframe of its latest sample; it outlives the link (09 R281, R282). -/
  upLast : Option Partner
  /-- The grandmaster that the result in force names (09 R284). -/
  gm : Option Nat
  deriving DecidableEq, Repr

/-! ## 11: nib inputs. Times count bins of 0.5 ps of network time. -/

/-- An entry of a stamp buffer (11 R329, R339): a stamp, a start stamp or an interval. -/
structure NibEntry where
  /-- 0 stamp, 1 start stamp, 2 interval. -/
  type : Nat
  falling : Bool
  stale : Bool
  locked : Bool
  coast : Bool
  deadBefore : Bool
  gapBefore : Bool
  stepped : Bool
  near : Bool
  neg : Bool
  overrange : Bool
  /-- The stamp, or the size of the interval, in bins. -/
  value : Nat
  deriving DecidableEq, Repr

/-- A frequency gate in progress (11 R335, R336). -/
structure NibGate where
  /-- Gate start in µs of network time. -/
  start : Nat
  /-- Edges of the used polarity so far. -/
  count : Nat
  /-- log2 of D. -/
  dexp : Nat
  /-- Kept edges, newest first: index and stamp. -/
  kept : List (Nat × Nat)
  stepped : Bool
  disturbed : Bool
  stale : Bool
  coast : Bool
  deriving DecidableEq, Repr

/-- One event input (11). -/
structure NibInput where
  /-- The stamp buffer, head first. -/
  entries : List NibEntry
  /-- Stamp of the latest stamped edge (11 R326). -/
  last : Option Nat
  deadMark : Bool
  gapMark : Bool
  stepMark : Bool
  /-- Network time at which ARM reached the engine. -/
  armAt : Nat
  /-- The start stamp of the measurement that collects. -/
  start : Option Nat
  /-- Stop edges stamped after ARM and before the start is known, oldest first. -/
  waiting : List NibEntry
  /-- Stops stored. -/
  stops : Nat
  /-- A TIME_STEP fell into the measurement. -/
  measStepped : Bool
  /-- The TDC clock was lost in the measurement. -/
  measStale : Bool
  gate : Option NibGate
  /-- Edges after the end of the gate in progress, oldest first: the stamp, and whether the dead time took it. -/
  late : List (Nat × Bool)
  deriving DecidableEq, Repr

/-- The nib inputs (11). -/
structure NibState where
  ins : SMap NibInput
  deriving DecidableEq, Repr

/-! ## 12: calibration -/

/-- Calibration (12). -/
structure CalState where
  /-- Groups of the calibration that runs, in ascending order. -/
  groups : List Nat
  /-- It is the power-up calibration. -/
  powerUp : Bool
  /-- Groups that are held (12 R346). -/
  held : List Nat
  /-- The words of GLB_TEMP0 to 8 at the start of the calibration. -/
  temps : List Nat
  /-- Offsets O by group x 2^16 + instance, in 0.01 ps (12 R342). -/
  offsets : SMap Int
  deriving DecidableEq, Repr

/-! ## 14: firmware -/

/-- What a firmware bank holds (14 R376). -/
inductive FwImage where
  | erased
  /-- The image of the factory (log entry 30). -/
  | factory
  | written (bytes : List Byte)
  deriving DecidableEq, Repr

/-- A bank: its status, coded as 14 R377, and its contents. -/
structure FwBank where
  status : Nat
  image : FwImage
  deriving DecidableEq, Repr

/-- A firmware part: what the update record holds of it (14 R377) and what it runs. -/
structure FwPart where
  bank0 : FwBank
  bank1 : FwBank
  active : Nat
  /-- The latest rejection reason. -/
  reason : Nat
  /-- The flash copy of the boot-attempt count. -/
  attempts : Nat
  /-- The count is kept in the VBAT store (14 R395). -/
  inVbat : Bool
  /-- The bank that it is about to start. -/
  starting : Option Nat
  /-- The bank that it runs. -/
  running : Option Nat
  /-- Spine cycle of its latest start from a TRIAL bank (14 R392). -/
  windowAt : Nat
  deriving DecidableEq, Repr

/-- The states of a download session (14 R383, R398). -/
inductive DownState where
  | idle | erasing | receiving | closing | failed
  deriving DecidableEq, Repr

/-- Field update (14). -/
structure UpdState where
  /-- Hearth A, Hearth B, lane controller, peat-bank controller. -/
  parts : List FwPart
  /-- FUSE_CNT; none while it is as the factory left it. -/
  fuse : Option Nat
  down : DownState
  owner : Option Requester
  /-- TARGET at BEGIN. -/
  targets : Nat
  /-- UPD_LENGTH at BEGIN. -/
  length : Nat
  /-- The bytes received. -/
  data : List Byte
  /-- ALLOW was written for the current trial (14 R391). -/
  allowed : Bool
  /-- Lanes that were UP at the activation of the lane controller (14 R391). -/
  upLanes : List Nat
  /-- PEAT_UNCORR at the start of the trial (14 R391). -/
  uncorr : Nat
  deriving DecidableEq, Repr

end Sys2Proof.Machine
end

