-- ==== Sys2Proof/Machine/State.lean ====
section
/-! DEFINITION. The state of the block, as plain data, and the state after reset.

Choices (log entries): 2 DESIGN CHOICE, 30 DESIGN CHOICE, 31 DESIGN CHOICE, 75 DESIGN CHOICE. -/

namespace Sys2Proof.Machine

/-- Reasons a step can stop with a fault: the spec gives the block none, so there is no constructor. -/
inductive Fault where
  deriving DecidableEq, Repr

/-- Reasons a step is refused. -/
inductive Refusal where
  /-- Raised by an arm of exec whose command has no meaning yet; safe: the machine stops where the hardware goes on. -/
  | notModelled (mnemonic : String)
  deriving DecidableEq, Repr

/-- The state of the block. -/
structure State where
  /-- The variant of the part (00 R3). -/
  part : Variant
  /-- Commands that wait, first in first out (the model's own). -/
  pending : List Instr
  /-- What the block has sent, newest first (the model's own). -/
  out : List Output
  /-- Numbers the free values (the model's own, log entry 3). -/
  freeCtr : Nat
  /-- Spine cycles since the spine started (08 R242). -/
  now : Nat
  /-- The register words, canonical: an unlisted register holds its reset value. -/
  regs : SMap Word
  /-- Register bits that hardware has set in the present cycle (00 R7; log entry 74). -/
  hot : SMap Word
  life : Life
  /-- The kindling step that runs, 0 outside kindling (03 R74). -/
  phase : Nat
  /-- Causes of the device reset that runs, until KINDLING_BEGIN writes one (03 R73). -/
  causes : List Nat
  /-- No management cycle has passed since the latest cause of a device reset (03 R73). -/
  resetFresh : Bool
  /-- The device entered RESET from DORMANT and the VBAT store is not checked yet (02 R56). -/
  fromDormant : Bool
  power : PowerState
  vbat : VbatStore
  bus : BusState
  cfg : CfgState
  links : LinkState
  fwd : FwdState
  qw : QuillState
  buf : BufState
  cnt : CntState
  time : TimeState
  trunk : TrunkState
  syn : SynState
  hrt : HrtState
  nib : NibState
  cal : CalState
  upd : UpdState
  mgt : MgtState
  deriving DecidableEq, Repr

/-! ## After reset (00 R10, R11, 03 R73, R74) -/

/-- The power stage with the rails up (02 R46; log entry 31). -/
def powerUp : PowerState := ⟨true, false, false, false, 0, 0, false, false, false, false⟩

/-- The VBAT store before anything is written (02 R56; log entry 31). -/
def vbatNew : VbatStore := ⟨[], 0, 0, false, [0, 0, 0, 0]⟩

/-- Staging with no session; the flash banks hold nothing (03 R92; log entry 30). -/
def cfgNew : CfgState := ⟨.idle, none, [], false, 0, .erased, .erased, none, none, [], false, 64, 64⟩

/-- Management after reset (16 R421, R428). -/
def mgtNew : MgtState :=
  ⟨List.replicate 8 none, [], false, 0, [], 0, List.replicate 14 0, none, false, none, none, [], [], [], 2, 0⟩

/-- A hearth in OFFLINE (13 R352). -/
def hearthNew : HearthUnit := ⟨.offline, false, false, false, false, false, 0, false, none⟩

/-- The hearth pair after reset: both OFFLINE, no holder (13 R352, R354). -/
def hrtNew : HrtState := ⟨none, hearthNew, hearthNew, 0, none, none, .none, false, none, none⟩

/-- Synthesizers and references after reset: nothing followed, nothing moved (10 R296, R306). -/
def synNew : SynState :=
  ⟨⟨0, 0, 0⟩, ⟨0, 0, 0⟩, [], [], .absent, false, 0, none, 0, 0, [], 0, 0, 0, 0, 0, 0, 0, [], false, false, [0, 0, 0, 0],
    List.replicate 8 false, List.replicate 8 0, List.replicate 8 0, [], 0⟩

/-- Trunk time transfer after reset (09 R285). -/
def trunkNew : TrunkState := ⟨[], 0, 0, [], 0, none, ⟨0, 0, 0, 0, 0, 0, 0, 0, 63⟩, 0, 0, none, 0, 0, none, none⟩

/-- A firmware part as the factory left it: its image in bank 0 and GOOD, bank 1 EMPTY, not running (14 R377; log
entry 30). -/
def partNew : FwPart := ⟨⟨3, .factory⟩, ⟨0, .erased⟩, 0, 0, 0, false, none, none, 0⟩

/-- Field update after reset: no session (14 R383). -/
def updNew : UpdState := ⟨List.replicate 4 partNew, none, .idle, none, 0, 0, [], false, [], 0⟩

/-- The state after the entry into RESET from DORMANT of a variant (00 R10, R11, 03 R73, R74). -/
def State.resetOf (p : Variant) : State where
  part := p
  pending := []
  out := []
  freeCtr := 0
  now := 0
  regs := []
  hot := []
  life := .reset
  phase := 1
  causes := [1]
  resetFresh := true
  fromDormant := true
  power := powerUp
  vbat := vbatNew
  bus := ⟨[], [], [], []⟩
  cfg := cfgNew
  links := ⟨[], [], false, [], [], [], [], []⟩
  fwd := ⟨[], none, [], [], [], [], [], [], []⟩
  qw := ⟨[], [], [], [], [], [], [], [], [], false, [], []⟩
  buf := ⟨List.replicate 4 ⟨0, 0, []⟩, [], [], [], [], [], [], [], [], [], false⟩
  cnt := ⟨[], [], [], [], none, [], [], 0, List.replicate 4 ⟨false, 0, []⟩, []⟩
  time := ⟨0, 0, 0, 0, false, 0, [], List.replicate 6 []⟩
  trunk := trunkNew
  syn := synNew
  hrt := hrtNew
  nib := ⟨[]⟩
  cal := ⟨[], false, [], [], []⟩
  mgt := mgtNew
  upd := updNew

/-- The machine right after reset: the ULK-6416 (log entry 2), in RESET after power-up. -/
def State.reset : State := State.resetOf .ulk6416

end Sys2Proof.Machine
end

