-- ==== Sys2Proof/Machine/Regs.lean ====
section
/-! DEFINITION. Finding a register of the map, what it holds at reset, and reading and writing its fields.

Choices (log entries): 2 DESIGN CHOICE, 4 DESIGN CHOICE, 15 DEDUCED, 74 DESIGN CHOICE. -/

namespace Sys2Proof.Machine

/-- The number of a requester in the keys of once-per-requester registers. -/
def reqIx : Requester → Nat
  | .hearthA => 0
  | .hearthB => 1
  | .agent => 2
  | .uart => 3

/-- The code of a requester in the OWNER fields (03 R105). -/
def ownerCode : Option Requester → Nat
  | none => 0
  | some q => reqIx q + 1

/-- The key of a once-per-requester register of a requester (05 R142). -/
def reqKey (q : Requester) (addr : Nat) : Nat := addr + 0x100000000 * (reqIx q + 1)

/-- The instance numbers of an offset in a register's instances. -/
def matchDims : List (Nat × Nat) → Nat → Option (List Nat)
  | [], off => if off = 0 then some [] else none
  | (n, stride) :: r, off =>
    if off / stride < n then (matchDims r (off % stride)).map fun t => off / stride :: t else none

/-- The instance numbers of a register at an address. -/
def instancesAt (d : RegDef) (addr : Nat) : Option (List Nat) :=
  if d.addr ≤ addr then matchDims d.dims (addr - d.addr) else none

/-- The register of a list at an address. -/
def findIn : List RegDef → Nat → Option (RegDef × List Nat)
  | [], _ => none
  | d :: r, addr =>
    match instancesAt d addr with
    | some ix => some (d, ix)
    | none => findIn r addr

/-- The register at an address; none where no register is defined (03 R103, 16 R431). -/
def findReg (addr : Nat) : Option (RegDef × List Nat) :=
  if addr % 4 = 0 then findIn (blockRegs addr) addr else none

/-- How many of a resource a variant has (00 R3). -/
def resCount (p : Variant) : Res → Nat
  | .all => 1
  | .lane => match p with | .ulk6416 => 64 | .ulk3208 => 32
  | .clockLane => match p with | .ulk6416 => 16 | .ulk3208 => 8
  | .port => match p with | .ulk6416 => 64 | .ulk3208 => 32
  | .event => match p with | .ulk6416 => 16 | .ulk3208 => 8
  | .sensor => 9
  | .high => match p with | .ulk6416 => 1 | .ulk3208 => 0

/-- The variant has a sensor: the ULK-3208 lacks slices S2 and S3 and theirs (00 R5, 02 R60). -/
def hasSensor (p : Variant) (i : Nat) : Bool :=
  match p with
  | .ulk6416 => true
  | .ulk3208 => decide (i ≠ 2) && decide (i ≠ 3)

/-- The register instance belongs to a resource the variant lacks (00 R5). -/
def absentAt (p : Variant) (d : RegDef) (ix : List Nat) : Bool :=
  match d.res with
  | .all => false
  | .sensor => !hasSensor p (ix.headD 0)
  | .high => decide (resCount p .high = 0)
  | r => decide (resCount p r ≤ ix.headD 0)

/-- The reset value of a field (00 R10). -/
def rstValue (p : Variant) : Rst → Nat
  | .val n => n
  | .cfg n => n
  | .part a b => match p with | .ulk6416 => a | .ulk3208 => b
  | .cfgPart a b => match p with | .ulk6416 => a | .ulk3208 => b

/-- The field is loaded from the configuration image: a staged field (03 R91). -/
def isStaged (f : FieldDef) : Bool :=
  match f.rst with
  | .cfg _ => true
  | .cfgPart _ _ => true
  | _ => false

/-- The reset word of a register. -/
def wordAtReset (p : Variant) (d : RegDef) : Nat :=
  d.fields.foldl (fun w f => w + rstValue p f.rst * 2 ^ f.lo) 0

/-- What a register that is not listed reads as: its reset value; zero where no register is defined or its resource
is absent. -/
def resetWord (p : Variant) (key : Nat) : Word :=
  match findReg (key % 0x100000000) with
  | some (d, ix) => if absentAt p d ix then 0 else BitVec.ofNat 32 (wordAtReset p d)
  | none => 0

/-- The word of a register. -/
def State.getReg (s : State) (key : Nat) : Nat := (mapGet (resetWord s.part) s.regs key).toNat

/-- The state with a register word written. -/
def State.setReg (s : State) (key v : Nat) : State :=
  { s with regs := mapSet (resetWord s.part) s.regs key (BitVec.ofNat 32 v) }

/-- The value of a field. -/
def State.fget (s : State) (f : Fld) : Nat := fieldOf (s.getReg f.key) f.lo f.width

/-- A field read as a flag. -/
def State.fbit (s : State) (f : Fld) : Bool := s.fget f != 0

/-- The state with a field written. -/
def State.fset (s : State) (f : Fld) (v : Nat) : State :=
  s.setReg f.key (withField (s.getReg f.key) f.lo f.width v)

/-- The state with a one-bit field written. -/
def State.fput (s : State) (f : Fld) (b : Bool) : State := s.fset f b.toNat

/-- The bits of a field are noted as set by hardware in the present cycle: a write of 1 in the same cycle does not clear
them (00 R7). -/
def State.mark (s : State) (f : Fld) : State :=
  { s with hot := mapUpd (fun _ => (0 : Word)) s.hot f.key fun w => w ||| BitVec.ofNat 32 ((2 ^ f.width - 1) * 2 ^ f.lo) }

/-- The bits of a register word that hardware has set in the present cycle (00 R7). -/
def State.hotBits (s : State) (key : Nat) : Nat := (mapGet (fun _ => (0 : Word)) s.hot key).toNat

/-- The state with a flag set by hardware. -/
def State.fon (s : State) (f : Fld) : State := (s.fset f 1).mark f

/-- The state with a flag cleared. -/
def State.foff (s : State) (f : Fld) : State := s.fset f 0

/-- The state with a count advanced by n, stopping at the largest value. -/
def State.fcount (s : State) (f : Fld) (n : Nat) : State := s.fset f (satCount f.width (s.fget f + n))

/-- The state with a count advanced by one, wrapping. -/
def State.fwrap (s : State) (f : Fld) : State := s.fset f (s.fget f + 1)

/-- The signed value of a field. -/
def State.fint (s : State) (f : Fld) : Int := signedOf f.width (s.fget f)

/-- The state with a signed value written to a field, limited to it. -/
def State.fsetInt (s : State) (f : Fld) (i : Int) : State := s.fset f (wrapTo f.width (satSigned f.width i))

/-- The value of a wide register held in a low word and one high word. -/
def State.wide2 (s : State) (lo hi : Nat) : Nat := s.getReg hi * 2 ^ 32 + s.getReg lo

/-- The state with a wide register written in a low word and one high word. -/
def State.setWide2 (s : State) (lo hi v : Nat) : State := (s.setReg lo v).setReg hi (v / 2 ^ 32)

end Sys2Proof.Machine
end

