-- ==== Sys2Proof/Machine/Ops.lean ====
section
/-! DEFINITION. The named operations every family uses: whether the block runs, what it has, what it sends, free values,
the clock, flags and alarms.

Choices (log entries): 1 DESIGN CHOICE, 3 DESIGN CHOICE, 4 DESIGN CHOICE, 6 DESIGN CHOICE, 8 DESIGN CHOICE, 9 DEDUCED,
16 DEDUCED, 17 DEDUCED, 72 DESIGN CHOICE. -/

namespace Sys2Proof.Machine

/-- The rails are up and nothing holds the blocks in reset: no power-down, no RST_N, no boundary-scan hold
(02 R51, 03 R72, 16 R426). -/
def State.up (s : State) : Bool :=
  decide (s.life ≠ .dormant) && !s.power.down && !s.power.rstLow && !s.power.scanHold

/-- The spine runs: from the spine cycle in which STATE becomes KINDLING (08 R243). -/
def State.spineRuns (s : State) : Bool := s.up && decide (s.life ≠ .reset)

/-- STATE is RUNNING or DEFAULTED. -/
def State.inService (s : State) : Bool := s.up && (decide (s.life = .running) || decide (s.life = .defaulted))

/-- The variant has this data lane. -/
def State.hasLane (s : State) (n : Nat) : Bool := decide (n < resCount s.part .lane)
/-- The variant has this clock lane. -/
def State.hasClkl (s : State) (k : Nat) : Bool := decide (k < resCount s.part .clockLane)
/-- The variant has this port. -/
def State.hasPort (s : State) (n : Nat) : Bool := decide (n < resCount s.part .port)
/-- The variant has this event input. -/
def State.hasEvent (s : State) (n : Nat) : Bool := decide (n < resCount s.part .event)

/-- The state with something sent to the outside. -/
def State.emit (s : State) (o : Output) : State := { s with out := o :: s.out }

/-- The next free value (log entry 3). -/
def State.freeVal (s : State) : Nat := (Config.freeWord s.freeCtr).toNat

/-- The state with one free value used. -/
def State.useFree (s : State) : State := { s with freeCtr := s.freeCtr + 1 }

/-- A quotient that the spec does not round: the floor, plus one or not by the free value where it is not exact
(log entry 8). -/
def State.freeDiv (s : State) (a : Int) (b : Nat) : Int :=
  a.fdiv b + (if a.fmod b = 0 then 0 else ((s.freeVal % 2 : Nat) : Int))

/-! ## The clock (08 R241) -/

/-- Units of 2^-48 ns in a nanosecond. -/
def unitsPerNs : Nat := 2 ^ 48

/-- Nanoseconds in a second. -/
def nsPerSec : Nat := 1000000000

/-- The clock wraps after 2^48 s (08 R241). -/
def clockMod : Nat := 2 ^ 48 * nsPerSec * unitsPerNs

/-- The whole nanoseconds of the clock, SEC and NS together. -/
def State.timeNs (s : State) : Nat := s.time.clock / unitsPerNs

/-- SEC of the clock. -/
def State.timeSec (s : State) : Nat := s.timeNs / nsPerSec

/-- SEC [31:0] of the clock. -/
def State.secLo (s : State) : Nat := s.timeSec % 2 ^ 32

/-- The clock in units of 2^-16 ns, as a stamp holds it. -/
def State.stampNow (s : State) : Nat := s.time.clock / 2 ^ 32

/-- The state of the time core. -/
def State.timeMode (s : State) : TimeMode :=
  match s.fget TIME_STATE_STATE with
  | 0 => .free
  | 1 => .acquiring
  | 2 => .locked
  | _ => .holdover

/-- The code of a state of the time core (08 R268). -/
def timeModeCode : TimeMode → Nat
  | .free => 0
  | .acquiring => 1
  | .locked => 2
  | .holdover => 3

/-- A calibration holds a group (12 R346). -/
def State.heldGroup (s : State) (g : Nat) : Bool := s.cal.held.contains g

/-! ## Alarms (16 R428) -/

/-- The bits of MGT_ALARM. -/
inductive Alarm where
  | thermal | supply | crossing | hearth | trunk | time | reference | calibration | firmware | config | memory | mgmt
  | link | overflow
  deriving DecidableEq, Repr

/-- The bit number of an alarm source. -/
def alarmBit : Alarm → Nat
  | .thermal => 0
  | .supply => 1
  | .crossing => 2
  | .hearth => 3
  | .trunk => 4
  | .time => 5
  | .reference => 6
  | .calibration => 7
  | .firmware => 8
  | .config => 9
  | .memory => 10
  | .mgmt => 11
  | .link => 12
  | .overflow => 13

/-- A raising of an alarm bit: it is counted, saturating at 255, and an unmasked one calls for a NOTIFY frame
(16 R428, R430). -/
def State.countAlarm (s : State) (b : Nat) : State :=
  let due := s.fbit MGT_NOTIFY_CFG_EN && bitOf (s.fget MGT_ALARM_MASK_MASK) b
  { s with mgt := { s.mgt with
      counts := s.mgt.counts.mapIdx fun i c => if i = b then min 255 (c + 1) else c
      notify := if due then some (s.mgt.notify.getD s.timeNs) else s.mgt.notify } }

/-- An event raising: the bit is latched and the raising counted (16 R428). -/
def State.raise (s : State) (a : Alarm) : State :=
  let t := (s.countAlarm (alarmBit a)).mark ⟨MGT_ALARM, alarmBit a, 1⟩
  { t with mgt := { t.mgt with latched := withBit t.mgt.latched (alarmBit a) true } }

/-- A flag that raises an alarm event is set. -/
def State.seen (s : State) (f : Fld) (a : Alarm) : State := (s.fon f).raise a

/-- No key slot holds a key and the keys have been applied (16 R423). -/
def State.openAccess (s : State) : Bool := s.mgt.keysApplied && s.mgt.slots.all (fun k => k.isNone)

/-- The conditions that hold the alarm bits at 1 (16 R428): bit number and condition. -/
def State.alarmConds (s : State) : List (Nat × Bool) :=
  [(0, s.fbit GLB_PWR_STATUS_TEMP_ALARM || s.fbit GLB_PWR_STATUS_SENSOR_FAULT),
   (3, s.fbit HRT_STATUS_NO_HOLDER),
   (4, !s.mgt.trunkDown.isEmpty),
   (7, s.fbit CAL_STATUS_FACTORY_LOST || s.fbit CAL_STATUS_GROUP_FAIL),
   (8, !s.mgt.noBank.isEmpty),
   (9, s.fbit GLB_STATUS_CFG_DEFAULTED),
   (11, s.openAccess)]

/-- The alarm bits that conditions hold, as a number. -/
def State.condBits (s : State) : Nat := s.alarmConds.foldl (fun n c => if c.2 then withBit n c.1 true else n) 0

/-- MGT_ALARM: a bit is 1 while its condition holds or an event raising latched it (16 R428). -/
def State.alarmBits (s : State) : Nat := s.mgt.latched ||| s.condBits

/-- Each condition that begins between two states raises its bit once (16 R428). -/
def settle (s t : State) : State :=
  t.alarmConds.foldl (fun u c => if c.2 && !(bitOf s.condBits c.1) then u.countAlarm c.1 else u) t

/-- The outcome of a command: the next state, with the conditions that began counted; the queue is the step's. -/
def done (s t : State) : Host.Outcome State Fault Refusal := .next { settle s t with pending := s.pending }

/-- The outcome of a command of a block that acts only while the blocks run: otherwise nothing happens. -/
def whenUp (s t : State) : Host.Outcome State Fault Refusal := done s (if s.up then t else s)

/-- A domain of GLB_XING_DOMAIN enters CROSSING_INVALID (01 R37, R38). -/
def State.domainEnters (s : State) (invalid entered : Fld) : State :=
  if s.fbit invalid then s
  else (((s.fon invalid).fon entered).fcount GLB_XING_DOMAIN_ENTER_CNT 1).raise .crossing

end Sys2Proof.Machine
end

