-- ==== Sys2Proof/Machine/Time.lean ====
section
/-! DEFINITION. The time core (08): the clock's advance, the gate on rate, step and slew, the states, the two-step
queues, and the commands that act on the time core alone.

Choices (log entries): 1 DESIGN CHOICE, 8 DESIGN CHOICE, 10 DEDUCED, 11 DEDUCED. -/

namespace Sys2Proof.Machine

/-- RATE, in units of 2^-48 (08 R246). -/
def State.rate (s : State) : Int := signedOf 48 (s.wide2 TIME_RATE TIME_RATE_HI)

/-- The limit of RATE + W, and of RATE (08 R242, R246). -/
def rateLimit : Int := 2 ^ 38

/-- A rate limited to its range. -/
def clampRate (r : Int) : Int := max (-rateLimit) (min rateLimit r)

/-- The slew slope in force in ns/s (08 R268). -/
def State.slewSlope (s : State) : Nat := clampNat 1 100000 (s.fget TIME_SLEW_CFG_SLOPE)

/-- The size of W in one cycle: SLOPE x 10^-9 x 2^48 units (08 R242, R248). The rounding is not stated: the product
rounded down, plus one or not by a free value (log entry 8). -/
def State.slewUnits (s : State) : Nat := s.slewSlope * 2 ^ 48 / nsPerSec + s.freeVal % 2

/-- What the slew adds in one cycle: at most W with the sign of the remainder, exactly what is left in the last cycle,
and no more than the limit of RATE + W leaves (08 R242, R248). -/
def State.slewStep (s : State) : Int :=
  if s.time.slew = 0 then 0
  else if 0 < s.time.slew then max 0 (clampRate (s.rate + min (s.slewUnits : Int) s.time.slew) - s.rate)
  else min 0 (clampRate (s.rate + max (-(s.slewUnits : Int)) s.time.slew) - s.rate)

/-- A clock value advanced by a signed number of units. -/
def clockAdd (c : Nat) (d : Int) : Nat := (((c : Int) + d) % (clockMod : Int)).toNat

/-- One spine cycle of the time core: the clock and its copies advance, the slew remainder is consumed (08 R242). -/
def State.spineCycle (s : State) : State :=
  { s with
    now := s.now + 1
    freeCtr := if s.time.slew = 0 then s.freeCtr else s.freeCtr + 1
    time := { s.time with
      clock := clockAdd s.time.clock ((2 ^ 48 : Nat) + s.rate + s.slewStep)
      sliceCopy := clockAdd s.time.sliceCopy ((2 ^ 48 : Nat) + s.rate + s.slewStep)
      laneCopy := clockAdd s.time.laneCopy ((2 ^ 48 : Nat) + s.rate + s.slewStep)
      slew := s.time.slew - s.slewStep } }

/-- The requester is the firmware of a hearth. -/
def hearthOf : Requester → Option Hearth
  | .hearthA => some .a
  | .hearthB => some .b
  | _ => none

/-- The requester is the firmware of the hearth that holds the token. -/
def State.isHolder (s : State) (q : Requester) : Bool := (hearthOf q).isSome && decide (hearthOf q = s.hrt.holder)

/-- What a requester writes takes effect: the agent's and the console's always, of the hearths only the active one's; the
outputs of a standby are compared and discarded, a cinder and an offline hearth write nothing (13 R352, R360). -/
def State.takes (s : State) (q : Requester) : Bool :=
  match q with
  | .hearthA => decide (s.hrt.a.st = .active) && decide (s.hrt.holder ≠ some .b)
  | .hearthB => decide (s.hrt.b.st = .active) && decide (s.hrt.holder ≠ some .a)
  | .agent => true
  | .uart => true

/-- The gate of TIME_RATE, TIME_STEP, TIME_SLEW and TIME_STEP_NS: the holder's firmware at all times, the agent and the
console while MANUAL is 1 (08 R245). -/
def State.timeGate (s : State) (q : Requester) : Bool :=
  match hearthOf q with
  | some _ => s.isHolder q
  | none => s.fbit TIME_CTRL_MANUAL

/-- A gated write that the gate refuses: ignored; from a hearth other than the holder it sets GATE_VIOL_SEEN
(08 R245, 13 R354). -/
def State.gateRefused (s : State) (q : Requester) : State :=
  match hearthOf q with
  | some _ => s.fon HRT_EVENTS_GATE_VIOL_SEEN
  | none => s

/-- The outcome of a command that a requester's write gives: a write that is discarded does nothing (13 R360). -/
def whenTaken (s : State) (q : Requester) (t : State) : Host.Outcome State Fault Refusal := whenUp s (if s.takes q then t else s)

/-- The outcome of a write to a function of the holder: one of another hearth sets GATE_VIOL_SEEN (13 R354). -/
def whenGated (s : State) (q : Requester) (t : State) : Host.Outcome State Fault Refusal :=
  whenUp s (if s.takes q then t else s.gateRefused q)

/-- The time core moves to a state (08 R249); leaving LOCKED raises the TIME alarm (16 R428). -/
def State.setTimeMode (s : State) (m : TimeMode) : State :=
  if s.timeMode = m then s
  else
    let t := (s.fset TIME_STATE_STATE (timeModeCode m)).fon TIME_STATE_STATE_CHG_SEEN
    let t := if m = .locked then { t with time := { t.time with everLocked := true } } else t
    if s.timeMode = .locked then t.raise .time else t

/-- RATE is written whole, limited to its range (08 R246). -/
def State.writeRate (s : State) (v : Nat) : State :=
  let r := signedOf 48 v
  let t := s.setWide2 TIME_RATE TIME_RATE_HI (wrapTo 48 (clampRate r))
  if clampRate r = r then t else t.fon TIME_STATE_RATE_CLAMP_SEEN

/-- The limits of the slew remainder in units of 2^-48 ns (08 R248). -/
def slewMax : Int := (2 ^ 31 - 1) * 2 ^ 32
/-- The lower limit of the slew remainder (08 R248). -/
def slewMin : Int := -(2 ^ 31 * 2 ^ 32)

/-- An amount in 2^-16 ns is added to the slew remainder, which saturates (08 R248). -/
def State.addSlew (s : State) (amount : Int) : State :=
  let v := s.time.slew + amount * 2 ^ 32
  let t := { s with time := { s.time with slew := max slewMin (min slewMax v) } }
  if slewMin ≤ v ∧ v ≤ slewMax then t else t.fon TIME_STATE_RATE_CLAMP_SEEN

/-- TIME_SLEW_REMAIN: the remainder truncated toward zero to units of 2^-16 ns (08 R248). -/
def State.slewRemain (s : State) : Int := s.time.slew.tdiv (2 ^ 32)

/-- The step operand in nanoseconds: SEC and NS (08 R247). -/
def State.stepOperand (s : State) : Nat :=
  (s.fget TIME_STEP_SEC_HI_SEC_HI * 2 ^ 32 + s.fget TIME_STEP_SEC_LO_SEC_LO) * nsPerSec + s.fget TIME_STEP_NS_NS

/-- The clock value a step of a mode leads to; none where the step is refused (08 R247). -/
def State.stepTarget (s : State) (mode : Nat) : Option Nat :=
  if nsPerSec ≤ s.fget TIME_STEP_NS_NS then none
  else if mode = 1 then
    if s.time.clock < s.stepOperand * unitsPerNs then none else some (s.time.clock - s.stepOperand * unitsPerNs)
  else if mode = 2 then some (s.stepOperand * unitsPerNs)
  else some ((s.time.clock + s.stepOperand * unitsPerNs) % clockMod)

/-- A step that is taken sets the clock and both copies, discards the slew remainder and counts (08 R247). -/
def State.moveClock (s : State) (c : Nat) : State :=
  let t := { s with time := { s.time with clock := c, sliceCopy := c, laneCopy := c, slew := 0 } }
  (t.fwrap TIME_STATE_STEP_CNT).fon TIME_STATE_STEP_SEEN

/-! ## Two-step queues (08 R262 to R266) -/

/-- The entries of a two-step queue. -/
def State.tsqOf (s : State) (j : Nat) : List TsqEntry := s.time.tsq.getD j []

/-- The state with the entries of a two-step queue replaced. -/
def State.setTsq (s : State) (j : Nat) (es : List TsqEntry) : State :=
  { s with time := { s.time with tsq := s.time.tsq.set j es } }

/-- An entry arrives at a two-step queue; a full queue discards it (08 R264). -/
def State.tsqPut (s : State) (j : Nat) (e : TsqEntry) : State :=
  if (s.tsqOf j).length < 16 then s.setTsq j (s.tsqOf j ++ [e])
  else ((s.fcount (TSQ_STATUS_OVF_CNT j) 1).seen (TSQ_STATUS_TSQ_OVF j) .overflow)

/-- The entry words of a requester's last pop (08 R265, R268). -/
def State.loadTsqWords (s : State) (q : Requester) (j : Nat) (e : Option TsqEntry) : State :=
  match e with
  | none => ((s.setReg (TSQ_ENTRY (reqIx q) j) 0).setReg (TSQ_ENTRY_NS (reqIx q) j) 0).setReg
      (TSQ_ENTRY_SEC_LO (reqIx q) j) 0 |>.setReg (TSQ_ENTRY_HI (reqIx q) j) 0
  | some e =>
    let ns := e.stamp / 2 ^ 16
    let head := 2 ^ 31 + e.stale.toNat * 2 ^ 30 + e.blot.toNat * 2 ^ 29 + e.port % 64 * 2 ^ 20
      + e.msgType % 16 * 2 ^ 16 + e.seqId % 2 ^ 16
    (((s.setReg (TSQ_ENTRY (reqIx q) j) head).setReg (TSQ_ENTRY_NS (reqIx q) j) (ns % nsPerSec)).setReg
      (TSQ_ENTRY_SEC_LO (reqIx q) j) (ns / nsPerSec % 2 ^ 32)).setReg
      (TSQ_ENTRY_HI (reqIx q) j) (e.stamp % 2 ^ 16 * 2 ^ 16 + ns / nsPerSec / 2 ^ 32 % 2 ^ 16)

/-- A pop removes the head entry into the requester's entry words (08 R265). -/
def State.tsqPop (s : State) (q : Requester) (j : Nat) : State :=
  (s.loadTsqWords q j (s.tsqOf j).head?).setTsq j (s.tsqOf j).tail

/-- The ports that TIME_PORT_CFG makes host ports, in ascending order (08 R262). -/
def State.hostPorts (s : State) : List Nat := (List.range 64).filter fun n => s.fbit (TIME_PORT_CFG_HOST n)

/-- Queues 2 to 5 take the host ports in ascending order; a queue whose port changes loses its entries (08 R266). -/
def State.assignTsq (s : State) : State :=
  (List.range 4).foldl (fun t i =>
    let old := if s.fbit (TSQ_STATUS_PORT_VALID (i + 2)) then some (s.fget (TSQ_STATUS_PORT (i + 2))) else none
    let new := s.hostPorts[i]?
    if old = new then t
    else
      let t := (t.setTsq (i + 2) []).fon (TSQ_STATUS_FLUSHED_SEEN (i + 2))
      (t.fset (TSQ_STATUS_PORT (i + 2)) (new.getD 0)).fput (TSQ_STATUS_PORT_VALID (i + 2)) new.isSome) s

/-- The servo of an edge instance stops (08 R250): RATE keeps its value, the history is discarded. -/
def State.servoStop (s : State) : State := { s with time := { s.time with syncRun := 0, edgeThetas := [] } }

/-- The instance is the time source in use (08 R249). -/
def State.isTimeSource (s : State) (i : Nat) : Bool := s.fbit (TIME_INST_STATUS_IS_SOURCE i)

end Sys2Proof.Machine
end

