-- ==== Sys2Proof/Machine/Stage.lean ====
section
/-! DEFINITION. Staging (03 R91 to R95): who may stage, what a record is charged, and the shadow copy.

Choices (log entries): 46 DEDUCED, 53 DEDUCED. -/

namespace Sys2Proof.Machine

/-- The requester owns a session that takes writes (03 R91). -/
def State.mayStage (s : State) (q : Requester) : Bool :=
  decide (s.cfg.owner = some q) &&
    (decide (s.cfg.sess = .opened) || decide (s.cfg.sess = .checked) || decide (s.cfg.sess = .failed))

/-- The charge of a record in bytes (03 R95). -/
def recCharge : StagedRec → Nat
  | .reg _ _ _ masked => if masked then 12 else 8
  | .table _ _ _ => 40
  | .window _ _ _ => 40
  | .band _ _ _ _ => 40
  | .link _ _ _ _ _ => 24
  | .key _ _ _ => 40

/-- The charge of a list of records. -/
def recsCharge (rs : List StagedRec) : Nat := (rs.map recCharge).sum

/-- The size of the shadow store (03 R95). -/
def shadowBytes : Nat := 4194304

/-- A record is written to the shadow store of the session of its owner: a record that does not fit marks the session
overflowed, and a session in CHECKED or FAILED returns to OPEN either way; any other writer is ignored
(03 R91, R95). -/
def State.stageRec (s : State) (q : Requester) (r : StagedRec) : State :=
  if s.mayStage q then
    if recsCharge s.cfg.records + recCharge r ≤ shadowBytes then
      { s with cfg := { s.cfg with sess := .opened, records := s.cfg.records ++ [r] } }
    else { s with cfg := { s.cfg with sess := .opened, overflow := true } }
  else s

/-- A word with the bits of a mask taken from a value. -/
def maskWord (old mask v : Nat) : Nat := (old &&& (mask ^^^ 0xFFFFFFFF)) ||| (v &&& mask)

/-- The mask of the staged fields of a register. -/
def stagedMask (d : RegDef) : Nat :=
  d.fields.foldl (fun m f => if isStaged f then m + (2 ^ f.width - 1) * 2 ^ f.lo else m) 0

/-- The bits of a register that one instance has: the scheduler registers of queues 8 and 9 have no ALG, which reads 0 and
ignores writes (07 R228, R238). -/
def liveBits (d : RegDef) (ix : List Nat) : Nat :=
  if d.addr = BUF_SCHED 0 0 ∧ 8 ≤ ix.getD 1 0 then 0xFFFFFFFC else 0xFFFFFFFF

/-- The mask of the fields of a register that are RW and not staged. -/
def plainMask (d : RegDef) : Nat :=
  d.fields.foldl (fun m f => if decide (f.acc = .rw) && !isStaged f then m + (2 ^ f.width - 1) * 2 ^ f.lo else m) 0

/-- The word of a register with the register records of a list applied in order. -/
def overlayWord (addr : Nat) (w : Nat) : List StagedRec → Nat
  | [] => w
  | .reg a mask v _ :: r => overlayWord addr (if a = addr then maskWord w mask v else w) r
  | _ :: r => overlayWord addr w r

/-- The requester reads shadow copies: it owns the session and READ_SHADOW is 1 (03 R91). -/
def State.readsShadow (s : State) (q : Requester) : Bool :=
  decide (s.cfg.owner = some q) && decide (s.cfg.sess ≠ .idle) && s.fbit CFG_STAGE_CTRL_READ_SHADOW

/-- The shadow copy of a register word. -/
def State.shadowWord (s : State) (addr : Nat) : Nat := overlayWord addr (s.getReg addr) s.cfg.records

/-- The last staged record of a list that satisfies a test. -/
def lastRec {α : Type} (f : StagedRec → Option α) (rs : List StagedRec) : Option α :=
  rs.foldl (fun acc r => match f r with | some x => some x | none => acc) none

end Sys2Proof.Machine
end

