-- ==== Sys2Proof/Machine/Lane.lean ====
section
/-! DEFINITION. Lanes and ports: the values of the receive domain and their copies, the lanes of a port, its type and
rate, trunks, and what a change of LINK does to the registers.

Choices (log entries): 8 DESIGN CHOICE, 81 DESIGN CHOICE. -/

namespace Sys2Proof.Machine

/-! ## Receive-domain registers and their copies (01 R27) -/

/-- The value of a receive-domain field. -/
def State.lget (s : State) (f : Fld) : Nat :=
  fieldOf (mapGet (resetWord s.part) s.bus.laneLive f.key).toNat f.lo f.width

/-- A receive-domain field as a flag. -/
def State.lbit (s : State) (f : Fld) : Bool := s.lget f != 0

/-- The state with a receive-domain field written in its own domain; the copy follows at a refresh. -/
def State.lset (s : State) (f : Fld) (v : Nat) : State :=
  let w := withField (mapGet (resetWord s.part) s.bus.laneLive f.key).toNat f.lo f.width v
  { s with bus := { s.bus with laneLive := mapSet (resetWord s.part) s.bus.laneLive f.key (BitVec.ofNat 32 w) } }

/-- The state with a field written in the receive domain and in the management-side copy: what the lane logic declares
outside the receive domain (01 R32). -/
def State.ldecl (s : State) (f : Fld) (v : Nat) : State := (s.lset f v).fset f v

/-- The copies of a lane take the values of the receive domain. -/
def State.refreshLane (s : State) (n : Nat) : State :=
  (s.setReg (LANE_STATUS n) (mapGet (resetWord s.part) s.bus.laneLive (LANE_STATUS n)).toNat).setReg
    (LANE_PRBS_ERRCNT n) (mapGet (resetWord s.part) s.bus.laneLive (LANE_PRBS_ERRCNT n)).toNat

/-- The register that holds a lane's CROSSING_INVALID bit, and the bit. -/
def xingLane (n : Nat) : Fld := if n < 32 then ⟨GLB_XING_LANE_LO, n, 1⟩ else ⟨GLB_XING_LANE_HI, n - 32, 1⟩

/-- The register that holds a lane's entry bit, and the bit. -/
def xingEvent (n : Nat) : Fld := if n < 32 then ⟨GLB_XING_EVENT_LO, n, 1⟩ else ⟨GLB_XING_EVENT_HI, n - 32, 1⟩

/-- The crossings of a lane are held invalid. -/
def State.laneInvalid (s : State) (n : Nat) : Bool := s.fbit (xingLane n)

/-- The receive clock of a lane runs and its crossings are released (01 R27, 04 R115). -/
def State.laneClock (s : State) (n : Nat) : Bool := s.lbit (LANE_STATUS_CDR_LOCK n) && !s.laneInvalid n

/-! ## Ports -/

/-- The port group of a port or lane. -/
def groupOf (n : Nat) : Nat := n / 4

/-- The group of a lane or port holds one four-lane port (04 R107). -/
def State.group4 (s : State) (n : Nat) : Bool := s.fbit (PORT_MODE_GROUP4 (4 * groupOf n))

/-- The port a lane belongs to (04 R107). -/
def State.portOf (s : State) (n : Nat) : Nat := if s.group4 n then 4 * groupOf n else n

/-- The lanes of a port (04 R107). -/
def State.lanesOf (s : State) (p : Nat) : List Nat :=
  if s.group4 p then (if p % 4 = 0 then [p, p + 1, p + 2, p + 3] else []) else [p]

/-- The rate of a port's first lane, coded as LANE_CTRL.RATE: the one it is set to, or the one it has found; 0 while it
searches (04 R109, R112). -/
def State.portRate (s : State) (p : Nat) : Nat :=
  if s.fget (LANE_CTRL_RATE p) = 0 then s.lget (LANE_STATUS_RATE_FOUND p) else s.fget (LANE_CTRL_RATE p)

/-- PORT_STATUS.TYPE: the port type that follows from rate and group mode, whatever ENABLE holds (04 R109). -/
def State.portType (s : State) (p : Nat) : Nat :=
  if (s.lanesOf p).isEmpty then 0
  else if s.group4 p then (match s.portRate p with | 2 => 4 | 3 => 5 | _ => 0)
  else match s.portRate p with | 1 => 1 | 2 => 2 | 3 => 3 | _ => 0

/-- The data rate of a port in Gb/s (05 R163). -/
def State.dataRate (s : State) (p : Nat) : Nat :=
  match s.portType p with | 1 => 1 | 2 => 10 | 3 => 25 | 4 => 40 | 5 => 100 | _ => 0

/-- PORT_STATUS.LINK. -/
def State.link (s : State) (p : Nat) : Bool := s.fbit (PORT_STATUS_LINK p)

/-- A port group is a trunk (04 R125). -/
def State.isTrunk (s : State) (k : Nat) : Bool := s.fbit (PORT_TRUNK_IS_TRUNK k)

/-- Stamps of a port are STALE: LANE_TS is held, or DIST at a trunk port (12 R346). -/
def State.stampStale (s : State) (p : Nat) : Bool := s.heldGroup 1 || (s.heldGroup 5 && s.isTrunk (groupOf p))

/-- A delay of d ps in 2^-16 ns; its rounding is not stated (log entry 8). -/
def State.psUnits (s : State) (d : Nat) : Nat := (s.freeDiv (d * 2 ^ 16) 1000).toNat

/-- An ingress stamp refers to the fibre end: the receive link delay before the balls (12 R348). -/
def State.inStamp (s : State) (p stamp : Nat) : Nat := stamp - s.psUnits (s.fget (CAL_PORT_RX_DELAY_PS p))

/-- An egress stamp refers to the fibre end: the transmit link delay after the balls (12 R348). -/
def State.outStamp (s : State) (p stamp : Nat) : Nat := stamp + s.psUnits (s.fget (CAL_PORT_TX_DELAY_PS p))

/-- LINK becomes 0: flags and count (04 R117), and the LINK alarm (16 R428). -/
def State.linkFalls (s : State) (p : Nat) : State :=
  ((s.foff (PORT_STATUS_LINK p)).seen (PORT_STATUS_LINK_DOWN_SEEN p) .link).fcount (PORT_STATUS_DOWN_CNT p) 1

/-- A lane takes a state; where it leaves UP, LINK_DOWN_SEEN of the lane is set (04 R131). An enabled lane whose TX_EN is
1 shows PRBS: the spec gives the code alone (DESIGN CHOICE, log entry 81). -/
def State.laneState (s : State) (n st : Nat) : State :=
  let st := if st ≠ 0 ∧ s.fbit (LANE_PRBS_CTRL_TX_EN n) = true then 5 else st
  let t := if s.lget (LANE_STATUS_LSTATE n) = 4 ∧ st ≠ 4 then s.ldecl (LANE_STATUS_LINK_DOWN_SEEN n) 1 else s
  t.ldecl (LANE_STATUS_LSTATE n) st

/-- A lane looks for its rate: RATE is 0 (04 R112). -/
def State.searches (s : State) (n : Nat) : Bool := decide (s.fget (LANE_CTRL_RATE n) = 0)

/-- The state a lane is in while it waits for lock (04 R115): DISABLED, SEARCH or ACQUIRE. -/
def State.waitState (s : State) (n : Nat) : Nat :=
  if !s.fbit (LANE_CTRL_ENABLE n) then 0
  else if s.searches n && decide (s.lget (LANE_STATUS_RATE_FOUND n) = 0) then 1 else 2

/-- The rate a searching lane tries (04 R112). -/
def State.tried (s : State) (n : Nat) : Nat := mapGet (fun _ => 3) s.links.tryRate n

/-- The state with the rate a searching lane tries. -/
def State.setTried (s : State) (n r : Nat) : State :=
  { s with links := { s.links with tryRate := mapSet (fun _ => 3) s.links.tryRate n r } }

/-- Ports whose bit is set in a number. -/
def portsOf (m : Nat) : List Nat := (List.range 64).filter fun p => bitOf m p

/-- A 64-bit number from a low and a high register word. -/
def State.pair (s : State) (lo hi : Nat) : Nat := s.getReg lo + s.getReg hi * 2 ^ 32

end Sys2Proof.Machine
end

