-- ==== Sys2Proof/Machine/Patterns.lean ====
section
/-! DEFINITION. The test patterns of lanes and clock lanes (04 R127, R128): what a generator sends and what a checker
expects. The bits themselves pass outside the model: PRBS_CHECKER_LOCK, PRBS_LOCK_LOST and the bit errors that
LANE_COPY_REFRESH and CLKL_WINDOW_END give are what these functions say of the bits received.

Choices (log entries): 80 DEDUCED. -/

namespace Sys2Proof.Machine

/-- The pattern a lane is set to, with INV. -/
structure Pattern where
  /-- PATTERN as it acts: 0 to 5. -/
  code : Nat
  invert : Bool
  user : Nat
  deriving DecidableEq, Repr

/-- PATTERN as it acts: 6 and 7 are treated as 0 (04 R127). -/
def patternCode (n : Nat) : Nat := if n < 6 then n else 0

/-- The pattern that a lane is set to (04 R127, R131, R132). -/
def State.patternOf (s : State) (lane : AnyLane) : Pattern :=
  match lane with
  | .data n =>
    ⟨patternCode (s.fget (LANE_PRBS_CTRL_PATTERN n.val)), s.fbit (LANE_PRBS_CTRL_INV n.val),
      s.pair (LANE_PRBS_USER_LO n.val) (LANE_PRBS_USER_HI n.val)⟩
  | .clock k =>
    ⟨patternCode (s.fget (CLKL_PRBS_CTRL_PATTERN k.val)), s.fbit (CLKL_PRBS_CTRL_INV k.val),
      s.pair (CLKL_PRBS_USER_LO k.val) (CLKL_PRBS_USER_HI k.val)⟩

/-- Degree and inner tap of a polynomial x^degree + x^tap + 1 (04 R127). -/
def prbsTaps : Nat → Nat × Nat
  | 1 => (9, 5)
  | 2 => (15, 14)
  | 3 => (23, 18)
  | 4 => (31, 28)
  | _ => (7, 6)

/-- The next bit of a sequence whose latest bits are given, newest first: the sum of the bits degree and tap ago. -/
def prbsNext (taps : Nat × Nat) (latest : List Bool) : Bool :=
  Bool.xor (latest.getD (taps.1 - 1) false) (latest.getD (taps.2 - 1) false)

/-- The bits that follow the latest ones of a sequence. -/
def prbsBits (taps : Nat × Nat) : Nat → List Bool → List Bool
  | 0, _ => []
  | k + 1, latest =>
    let b := prbsNext taps latest
    b :: prbsBits taps k ((b :: latest).take taps.1)

/-- The user pattern from a rotation on: bit 0 first, repeating every 64 bits (04 R127). -/
def userBits (user rotation k : Nat) : List Bool := (List.range k).map fun i => bitOf user ((rotation + i) % 64)

/-- The k bits a pattern sends: `latest` are the generator's bits so far, newest first, which INV inverts on the line
alone; a user pattern starts at bit 0 (04 R127). -/
def Pattern.sends (p : Pattern) (latest : List Bool) (k : Nat) : List Bool :=
  (if p.code = 5 then userBits p.user 0 k else prbsBits (prbsTaps p.code) k latest).map fun b => Bool.xor b p.invert

/-- The bits a checker expects of k bits after it has seeded itself: from the bits received before, newest first, or
for the user pattern from one of its 64 rotations (04 R128). -/
def Pattern.expects (p : Pattern) (before : List Bool) (rotation k : Nat) : List Bool :=
  (if p.code = 5 then userBits p.user rotation k
    else prbsBits (prbsTaps p.code) k (before.map fun b => Bool.xor b p.invert)).map fun b => Bool.xor b p.invert

/-- The bit errors of received bits against expected ones (04 R128). -/
def bitErrors (received expected : List Bool) : Nat := ((received.zip expected).filter fun e => decide (e.1 ≠ e.2)).length

/-- A checker locks on received bits, for some rotation of a user pattern: 128 consecutive bits are right (04 R128). -/
def Pattern.locks (p : Pattern) (before received : List Bool) : Bool :=
  (List.range (if p.code = 5 then 64 else 1)).any fun r =>
    decide (128 ≤ received.length) && decide (bitErrors (received.take 128) (p.expects before r 128) = 0)

/-- A checker loses lock on 256 consecutive bits (04 R128). -/
def losesLock (received expected : List Bool) : Bool := decide (32 ≤ bitErrors (received.take 256) (expected.take 256))

end Sys2Proof.Machine
end

