-- ==== Sys2Proof/Machine/Crc.lean ====
section
/-! DEFINITION. The checksums the block computes: the CRC-32C of 03 R80 and the frame check sequence of IEEE 802.3. -/

namespace Sys2Proof.Machine

/-- `n` shifts of a reflected CRC register. -/
def crcShift (poly : Nat) : Nat → Nat → Nat
  | 0, c => c
  | n + 1, c => crcShift poly n (if c % 2 = 1 then (c / 2) ^^^ poly else c / 2)

/-- One byte enters a reflected CRC register. -/
def crcByte (poly c : Nat) (b : Byte) : Nat := crcShift poly 8 (c ^^^ b.toNat)

/-- The reflected CRC of a list of bytes from an initial value, complemented at the end. -/
def crcOf (poly init : Nat) (bs : List Byte) : Nat := (bs.foldl (crcByte poly) init) ^^^ 0xFFFFFFFF

/-- CRC-32C: polynomial 0x1EDC6F41, reflected (03 R80). -/
def crc32c (bs : List Byte) : Nat := crcOf 0x82F63B78 0xFFFFFFFF bs

/-- CRC-32C with another initial value (05 R154). -/
def crc32cFrom (init : Nat) (bs : List Byte) : Nat := crcOf 0x82F63B78 init bs

/-- The FCS of IEEE 802.3 over the bytes of a frame. -/
def fcs32 (bs : List Byte) : Nat := crcOf 0xEDB88320 0xFFFFFFFF bs

/-- The FCS as it is sent: least significant byte first. -/
def fcsBytes (bs : List Byte) : List Byte := leBytes 4 (fcs32 bs)

/-- A frame with its FCS at the end carries a good one. -/
def fcsGood (bs : List Byte) : Bool :=
  decide (4 ≤ bs.length) && decide (bs.drop (bs.length - 4) = fcsBytes (bs.take (bs.length - 4)))

/-- The bytes of a frame with its FCS computed afresh. -/
def withFcs (bs : List Byte) : List Byte := bs ++ fcsBytes bs

end Sys2Proof.Machine
end

