-- ==== Sys2Proof/Machine/Parse.lean ====
section
/-! DEFINITION. The parser of stage 2: what the parse window of a frame shows (05 R135, R136, R139).

Choices (log entries): 24 PRESUMED, 84 DESIGN CHOICE. -/

namespace Sys2Proof.Machine

/-- Bytes of the parse window (05 R135). -/
def windowBytes : Nat := 96

/-- A field of the parse window; absent where the frame lacks it or it lies beyond the window. -/
def winField (bs : List Byte) (off n : Nat) : Option Nat :=
  if off + n ≤ min windowBytes bs.length then some (beAt bs off n) else none

/-- A field, with the value 0 when it is absent (05 R135). -/
def winZero (bs : List Byte) (off n : Nat) : Nat := (winField bs off n).getD 0

/-- The TPID of a tag of the parser. -/
def isTag (v : Nat) : Bool := decide (v = 0x8100) || decide (v = 0x88A8)

/-- The next headers that begin an IPv6 extension (05 R135: the parser does not read past one). -/
def ip6Extension (n : Nat) : Bool := [0, 43, 44, 50, 51, 60, 135, 139, 140].contains n

/-- What the parser found: offsets of headers in the frame. -/
structure Parsed where
  dmac : Nat
  smac : Nat
  /-- Tags recognised, at most two. -/
  tags : Nat
  /-- TPID and TCI of the first tag; 0 without one. -/
  tpid : Nat
  tci : Nat
  /-- Offset and number of the R-TAG. -/
  rtag : Option (Nat × Nat)
  etype : Nat
  /-- Offset of the byte after the EtherType. -/
  l3 : Nat
  ip4 : Bool
  ip6 : Bool
  proto : Option Nat
  dscp : Option Nat
  src : Option Nat
  dst : Option Nat
  /-- Offset of the TCP or UDP header. -/
  l4 : Option Nat
  sport : Option Nat
  dport : Option Nat
  flow : Option Nat
  deriving DecidableEq, Repr

/-- The parse window read (05 R135). That IPv4 is recognised only with version 4 and a header length of at least 5 words,
and IPv6 only with version 6, is the model's choice: the spec gives no such test (DESIGN CHOICE, log entry 84). -/
def parseFrame (bs : List Byte) : Parsed :=
  let t0 := winZero bs 12 2
  let tags := if isTag t0 then (if isTag (winZero bs 16 2) then 2 else 1) else 0
  let off := 12 + 4 * tags
  let r := decide (winZero bs off 2 = 0xF1C1) && (winField bs (off + 4) 2).isSome
  let et := if r then off + 6 else off
  let e := winZero bs et 2
  let l3 := et + 2
  let v := winZero bs l3 1
  let ihl := v % 16
  let ip4 := decide (e = 0x0800) && decide (v / 16 = 4) && decide (5 ≤ ihl)
  let ip6 := decide (e = 0x86DD) && decide (v / 16 = 6) && !ip6Extension ((winField bs (l3 + 6) 1).getD 59)
  let proto := if ip4 then winField bs (l3 + 9) 1 else if ip6 then winField bs (l3 + 6) 1 else none
  let first := if ip4 then decide (winZero bs (l3 + 6) 2 % 2 ^ 13 = 0) else true
  let isL4 := first && (decide (proto = some 6) || decide (proto = some 17))
  let l4 := if isL4 then some (if ip4 then l3 + 4 * ihl else l3 + 40) else none
  { dmac := winZero bs 0 6
    smac := winZero bs 6 6
    tags
    tpid := if tags = 0 then 0 else t0
    tci := if tags = 0 then 0 else winZero bs 14 2
    rtag := if r then some (off, winZero bs (off + 4) 2) else none
    etype := e
    l3
    ip4
    ip6
    proto
    dscp := if ip4 then (winField bs (l3 + 1) 1).map (· / 4)
      else if ip6 then (winField bs l3 2).map (fun w => w / 2 ^ 6 % 2 ^ 6) else none
    src := if ip4 then winField bs (l3 + 12) 4 else if ip6 then winField bs (l3 + 8) 16 else none
    dst := if ip4 then winField bs (l3 + 16) 4 else if ip6 then winField bs (l3 + 24) 16 else none
    l4
    sport := l4.bind fun o => winField bs o 2
    dport := l4.bind fun o => winField bs (o + 2) 2
    flow := if ip6 then (winField bs l3 4).map (· % 2 ^ 20) else none }

/-- The first tag has TPID 0x8100. -/
def Parsed.ctag (p : Parsed) : Bool := decide (p.tpid = 0x8100)

/-- The VID of the first tag. -/
def Parsed.tagVid (p : Parsed) : Nat := p.tci % 4096

/-- The frame is tagged for PORT_FWD_MODE.ACCEPT (05 R139). -/
def Parsed.isTagged (p : Parsed) : Bool := p.ctag && decide (1 ≤ p.tagVid) && decide (p.tagVid ≤ 4094)

/-- The frame is dropped for its VID 4,095 (05 R139). -/
def Parsed.vid4095 (p : Parsed) : Bool := p.ctag && decide (p.tagVid = 4095)

/-- The frame is UDP to a port. -/
def Parsed.udpTo (p : Parsed) (port : Nat) : Bool := decide (p.proto = some 17) && decide (p.dport = some port)

/-- The frame has origin TIME (05 R136). -/
def Parsed.isTime (p : Parsed) : Bool := decide (p.etype = 0x88F7) || p.udpTo 319 || p.udpTo 320

/-- Offset of the PTP message of a TIME frame. -/
def Parsed.ptpOff (p : Parsed) : Nat :=
  if p.etype = 0x88F7 then p.l3 else p.l4.getD 0 + 8

/-- versionPTP of a TIME frame holds 2 (08 R255). -/
def Parsed.isPtp (p : Parsed) (bs : List Byte) : Bool :=
  p.isTime && decide ((winField bs (p.ptpOff + 1) 1).map (· % 16) = some 2)

/-- messageType of a TIME frame. -/
def Parsed.ptpType (p : Parsed) (bs : List Byte) : Nat := winZero bs p.ptpOff 1 % 16

/-- domainNumber of a TIME frame. -/
def Parsed.ptpDomain (p : Parsed) (bs : List Byte) : Nat := winZero bs (p.ptpOff + 4) 1

/-- twoStepFlag of a TIME frame. -/
def Parsed.ptpTwoStep (p : Parsed) (bs : List Byte) : Bool := bitOf (winZero bs (p.ptpOff + 6) 1) 1

/-- sequenceId of a TIME frame. -/
def Parsed.ptpSeq (p : Parsed) (bs : List Byte) : Nat := winZero bs (p.ptpOff + 30) 2

/-- messageType is an event message (08 R255). -/
def ptpEvent (t : Nat) : Bool := decide (t < 4)

end Sys2Proof.Machine
end

