-- ==== Sys2Proof/Machine/Tally.lean ====
section
/-! DEFINITION. The port and class counters (15 R399, R400) and the bandwidth windows' counting (15 R406).

Choices (log entries): 90 DEDUCED. -/

namespace Sys2Proof.Machine

/-- The key of counter i of port n. -/
def cntKey (n i : Nat) : Nat := 64 * n + i

/-- Counter i of port n. -/
def State.cntVal (s : State) (n i : Nat) : Nat := mapGet (fun _ => 0) s.cnt.vals (cntKey n i)

/-- The wrap bit of a counter. -/
def wrapBit (n i : Nat) : Fld := if i < 32 then ⟨CNT_WRAP0 n, i, 1⟩ else ⟨CNT_WRAP1 n, i - 32, 1⟩

/-- Counter i of port n advances by k unless frozen, and sets its wrap bit when it wraps (15 R400, R401). -/
def State.cntAdd (s : State) (n i k : Nat) : State :=
  if s.fbit CNT_STATUS_FROZEN then s
  else
    let v := s.cntVal n i + k
    let t := { s with cnt := { s.cnt with vals := mapSet (fun _ => 0) s.cnt.vals (cntKey n i) (v % 2 ^ 48) } }
    if v < 2 ^ 48 then t else t.fon (wrapBit n i)

/-- The management-side copies of the listed lane counters of a port take their values (01 R27, R435). -/
def State.refreshCounters (s : State) (n : Nat) (is : List Nat) : State :=
  let take := fun m i => mapSet (fun _ => 0) m (cntKey n i) (s.cntVal n i)
  { s with cnt := { s.cnt with copies := is.foldl take s.cnt.copies } }

/-! ## Bandwidth windows (15 R405 to R407) -/

/-- A window with nothing in progress. -/
def bwIdle : BwWin := ⟨false, 0, 0, 0, false, false, false⟩

/-- Window w. -/
def State.bwOf (s : State) (w : Nat) : BwWin := mapGet (fun _ => bwIdle) s.cnt.wins w

/-- The state with window w replaced. -/
def State.setBw (s : State) (w : Nat) (b : BwWin) : State :=
  { s with cnt := { s.cnt with wins := mapSet (fun _ => bwIdle) s.cnt.wins w b } }

/-- What a window sees of a frame: its headers as parsed, its length and its stamp. -/
structure BwFrame where
  src : Nat
  origin : Nat
  cls : Nat
  vid : Nat
  length : Nat
  stamp : Nat
  stale : Bool
  dmac : Nat
  smac : Nat
  ip4 : Option (Nat × Nat)
  ip6 : Option (Nat × Nat)
  deriving DecidableEq, Repr

/-- The first `len` bits of a prefix register set equal those of an address of `width` bits (15 R406). -/
def State.prefixMatches (s : State) (w len width addr : Nat) : Bool :=
  let n := min len width
  let pfx := s.getReg (CNT_BW_PFX w 0) * 2 ^ 96 + s.getReg (CNT_BW_PFX w 1) * 2 ^ 64
    + s.getReg (CNT_BW_PFX w 2) * 2 ^ 32 + s.getReg (CNT_BW_PFX w 3)
  decide (pfx / 2 ^ (128 - n) = addr / 2 ^ (width - n))

/-- The address filter of window w (15 R406). -/
def State.bwAddress (s : State) (w : Nat) (f : BwFrame) : Bool :=
  let len := s.fget (CNT_BW_CFG_PFX_LEN w)
  match s.fget (CNT_BW_CFG_PFX_KIND w) with
  | 1 => s.prefixMatches w len 48 f.dmac
  | 2 => s.prefixMatches w len 48 f.smac
  | 3 => match f.ip4 with | some a => s.prefixMatches w len 32 a.2 | none => false
  | 4 => match f.ip4 with | some a => s.prefixMatches w len 32 a.1 | none => false
  | 5 => match f.ip6 with | some a => s.prefixMatches w len 128 a.2 | none => false
  | 6 => match f.ip6 with | some a => s.prefixMatches w len 128 a.1 | none => false
  | _ => true

/-- Every active filter of window w matches (15 R406). -/
def State.bwMatches (s : State) (w : Nat) (f : BwFrame) : Bool :=
  (s.fbit (CNT_BW_FILTER_SRC_ANY w) || decide (s.fget (CNT_BW_FILTER_SRC_PORT w) = f.src)) &&
  (if f.origin = 3 then decide (s.fget (CNT_BW_FILTER_TC_MASK w) = 0x3FF)
   else bitOf (s.fget (CNT_BW_FILTER_TC_MASK w)) f.cls) &&
  (!s.fbit (CNT_BW_FILTER_VID_EN w) || decide (s.fget (CNT_BW_FILTER_VID w) = f.vid)) &&
  bitOf (s.fget (CNT_BW_CFG_ORIGIN w)) f.origin && s.bwAddress w f

/-- The period of window w in which a stamp lies starts at this number of µs (15 R405). -/
def State.bwPeriod (s : State) (w stamp : Nat) : Nat :=
  let us := stamp / 2 ^ 16 / 1000
  us - us % max 1 (s.fget (CNT_BW_LEN_LEN_US w))

/-- A frame with a good FCS is counted in every window that it matches (15 R406). -/
def State.bwCount (s : State) (f : BwFrame) : State :=
  (List.range 64).foldl (fun t w =>
    let b := t.bwOf w
    if t.fbit (CNT_BW_CFG_ENABLE w) && b.running && decide (t.bwPeriod w f.stamp = b.start) && t.bwMatches w f then
      t.setBw w { b with
        bytes := b.bytes + f.length + (if t.fbit (CNT_BW_CFG_OVERHEAD w) then 20 else 0)
        frames := b.frames + 1
        stale := b.stale || f.stale }
    else t) s

/-- A window drops the period in progress; its next one starts at the next period boundary (15 R407). -/
def State.bwDiscard (s : State) (w : Nat) : State := s.setBw w bwIdle

end Sys2Proof.Machine
end

