-- ==== Sys2Proof/Machine/Shape.lean ====
section
/-! DEFINITION. What a copy looks like as it leaves a port: tags (05 R145), R-TAG (05 R171, R172), PTP rewriting and
repair (08 R259 to R261), trailer (08 R267), blots (05 R166).

Choices (log entries): 20 DEDUCED. -/

namespace Sys2Proof.Machine

/-- The longest frame in bytes (05 R164). -/
def maxFrame : Nat := 10176

/-- Bytes replaced from an offset. -/
def patchBytes (bs : List Byte) (off : Nat) (new : List Byte) : List Byte :=
  bs.take off ++ new ++ bs.drop (off + new.length)

/-- A frame body padded with zero bytes to the 60 B that precede the FCS of a 64 B frame (05 R145). -/
def padBody (bs : List Byte) : List Byte := bs ++ List.replicate (60 - bs.length) 0

/-- The 0x8100 tag of a frame (05 R145). -/
def tagBytes (i : FrameInfo) : List Byte :=
  [0x81, 0x00] ++ beBytes 2 (i.pcp % 8 * 2 ^ 13 + i.dei.toNat * 2 ^ 12 + i.vid % 4096)

/-- The tag bytes a copy carries to a port, given the tag bytes it arrived with. -/
def egressTag (i : FrameInfo) (port : Nat) (old : List Byte) : List Byte :=
  if !i.bridged then old else if bitOf i.untag port then [] else tagBytes i

/-- The R-TAG bytes a copy carries, given the ones it arrived with (05 R172). -/
def egressRtag (i : FrameInfo) (old : List Byte) : List Byte :=
  match i.rtag with
  | .keep => old
  | .put n => [0xF1, 0xC1, 0, 0] ++ beBytes 2 n
  | .strip => []

/-- What takes the place of a span of a frame, as far as the bytes before a point of the frame call for it: whole where
the span lies before the point, cut where the point lies in it, nothing where the span starts at the point or after. -/
def upTo (point start len : Nat) (new : List Byte) : List Byte :=
  if point ≤ start then [] else if start + len ≤ point then new else new.take (point - start)

/-- The bytes of a frame before a point, with the tags they leave with (05 R145, R172). -/
def retagged (i : FrameInfo) (port : Nat) (bs : List Byte) (point : Nat) : List Byte :=
  let p := parseFrame bs
  let c := if p.ctag then 4 else 0
  let inner := 4 * p.tags - c
  let r := if p.rtag.isSome then 6 else 0
  let at_ := 12 + c + inner
  (bs.take 12).take point ++ upTo point 12 c (egressTag i port (slice bs 12 c)) ++ slice (bs.take point) (12 + c) inner
    ++ upTo point at_ r (egressRtag i (slice bs at_ r)) ++ (bs.take point).drop (at_ + r)

/-- The body of a copy, without its FCS, with the tags it leaves with. -/
def retag (i : FrameInfo) (port : Nat) (bs : List Byte) : List Byte := padBody (retagged i port bs (bs.length - 4))

/-- The one's-complement sum of the 16-bit words of a list of bytes. -/
def sum16 : List Byte → Nat
  | [] => 0
  | [a] => a.toNat * 256
  | a :: b :: r => (a.toNat * 256 + b.toNat + sum16 r) % 65535

/-- The last two bytes of the UDP payload are adjusted so that an IPv6 checksum stays valid (08 R261): `old` is the
segment before the rewrite, `new` after it. -/
def balanceUdp (old new : List Byte) : List Byte :=
  let n := new.length
  let cleared := patchBytes new (n - 2) [0, 0]
  let x := (sum16 old + 65535 - sum16 cleared % 65535) % 65535
  let two := beBytes 2 x
  patchBytes new (n - 2) (if n % 2 = 0 then two else two.reverse)

/-- correctionField with an addition in units of 2^-16 ns: the sum and whether it saturated (08 R260). -/
def addCorrection (old : Nat) (add : Int) : Nat × Bool :=
  let v := signedOf 64 old + add
  if v ≤ 2 ^ 63 - 1 then (wrapTo 64 v, false) else (2 ^ 63 - 1, true)

/-- A body with the PTP message rewritten for an egress stamp; whether correctionField saturated (08 R259). -/
def ptpFields (i : FrameInfo) (o stamp : Nat) (body : List Byte) : List Byte × Bool :=
  let ns := stamp / 2 ^ 16
  match i.ptp with
  | .origin =>
    let c := addCorrection (beAt body (o + 8) 8) (stamp % 2 ^ 16)
    let t := beBytes 6 (ns / nsPerSec) ++ beBytes 4 (ns % nsPerSec)
    (patchBytes (patchBytes body (o + 8) (beBytes 8 c.1)) (o + 34) t, c.2)
  | .residence =>
    let c := addCorrection (beAt body (o + 8) 8) ((stamp : Int) - i.stamp)
    (patchBytes body (o + 8) (beBytes 8 c.1), c.2)
  | _ => (body, false)

/-- The checksum repair after a rewrite (08 R261). -/
def repairUdp (p : Parsed) (old new : List Byte) : List Byte :=
  match p.l4 with
  | none => new
  | some o =>
    if p.ip4 then patchBytes new (o + 6) [0, 0]
    else
      let n := beAt old (o + 4) 2
      patchBytes new o (balanceUdp (slice old o n) (slice new o n))

/-- A body rewritten and repaired for an egress stamp; whether correctionField saturated. -/
def ptpRewrite (i : FrameInfo) (stamp : Nat) (body : List Byte) : List Byte × Bool :=
  if decide (i.ptp = .origin) || decide (i.ptp = .residence) then
    let p := parseFrame body
    let r := ptpFields i p.ptpOff stamp body
    (repairUdp p body r.1, r.2)
  else (body, false)

/-- A rewrite of an IPv6 copy lacks the two bytes it needs (08 R261): the copy is dropped at admission. The UDP length
is read as the length of the UDP payload (log entry 20). -/
def noRoomForRepair (i : FrameInfo) (bs : List Byte) : Bool :=
  let p := parseFrame bs
  (decide (i.ptp = .origin) || decide (i.ptp = .residence)) && p.ip6 &&
    (match p.l4 with
     | some o => decide (beAt bs (o + 4) 2 < 8 + beAt bs (p.ptpOff + 2) 2 + 2)
     | none => false)

/-- The 12 B trailer of a PTP event message (08 R267). -/
def trailerBytes (i : FrameInfo) : List Byte :=
  let ns := i.stamp / 2 ^ 16
  beBytes 4 (ns / nsPerSec) ++ beBytes 4 (i.stale.toNat * 2 ^ 31 + ns % nsPerSec) ++ beBytes 2 i.stamp
    ++ beBytes 1 i.src ++ [0]

/-- A body with the trailer where its port asks for it (08 R267). -/
def withTrailer (i : FrameInfo) (on : Bool) (body : List Byte) : List Byte :=
  let p := parseFrame body
  if on && p.isPtp body && ptpEvent (p.ptpType body) && decide (body.length + 16 ≤ maxFrame)
  then body ++ trailerBytes i else body

/-- The bytes of a whole copy as a port sends them, with the FCS afresh; whether correctionField saturated. -/
def shapeFrame (i : FrameInfo) (port stamp : Nat) (trailer : Bool) (bs : List Byte) : List Byte × Bool :=
  let r := ptpRewrite i stamp (retag i port bs)
  (withFcs (withTrailer i trailer r.1), r.2)

/-- The bytes of a blot: those up to the verdict point and the complement of their FCS (05 R166). -/
def blotBytes (bs : List Byte) : List Byte := bs ++ (fcsBytes bs).map fun b => b ^^^ 0xFF

end Sys2Proof.Machine
end

