-- ==== Sys2Proof/Machine/Buffers.lean ====
section
/-! DEFINITION. The inkwell and its queues (07): pools, reference counts, admission, spill, flush and drops.

Choices (log entries): 26 DEDUCED, 29 DEDUCED, 85 DESIGN CHOICE, 88 DESIGN CHOICE. -/

namespace Sys2Proof.Machine

/-! ## Pools (07 R205 to R213) -/

/-- Payload capacity of a pool in bytes (07 R205). -/
def poolCapacity : Nat → Nat
  | 0 => 96
  | 1 => 480
  | 2 => 2016
  | _ => 10208

/-- Buffer size of a pool in bytes (07 R205). -/
def poolBuffer : Nat → Nat
  | 0 => 128
  | 1 => 512
  | 2 => 2048
  | _ => 10240

/-- Units of 128 B that a copy in a pool counts (07 R216). -/
def poolUnits (p : Nat) : Nat := poolBuffer p / 128

/-- The smallest pool whose payload capacity holds a length (07 R210). -/
def fittingPool (len : Nat) : Nat := if len ≤ 96 then 0 else if len ≤ 480 then 1 else if len ≤ 2016 then 2 else 3

/-- A pool with no buffers. -/
def poolEmpty : PoolSt := ⟨0, 0, []⟩

/-- Pool p. -/
def State.poolOf (s : State) (p : Nat) : PoolSt := s.buf.pools.getD p poolEmpty

/-- The state with pool p replaced. -/
def State.setPool (s : State) (p : Nat) (v : PoolSt) : State :=
  { s with buf := { s.buf with pools := s.buf.pools.set p v } }

/-- Buffers on the free list of a pool (07 R208). -/
def PoolSt.free (v : PoolSt) : Nat := v.pushed.length + (v.total - v.fresh)

/-- F_p of a pool. -/
def State.poolFree (s : State) (p : Nat) : Nat := (s.poolOf p).free

/-- The head of a free list and the list after a pop (07 R208). -/
def PoolSt.pop (v : PoolSt) : Option (Nat × PoolSt) :=
  match v.pushed with
  | i :: r => some (i, { v with pushed := r })
  | [] => if v.fresh < v.total then some (v.fresh, { v with fresh := v.fresh + 1 }) else none

/-- The key of a buffer: pool in the high part, index in the low (07 R208). -/
def bufKey (pool index : Nat) : Nat := pool * 2 ^ 19 + index

/-- The pool of a buffer. -/
def bufPool (k : Nat) : Nat := k / 2 ^ 19

/-- What an unlisted buffer holds: it is free. -/
def bufFree : Buf := ⟨0, [], false, false, false, false⟩

/-- The buffer with a key. -/
def State.bufOf (s : State) (k : Nat) : Buf := mapGet (fun _ => bufFree) s.buf.bufs k

/-- The state with a buffer replaced. -/
def State.setBuf (s : State) (k : Nat) (b : Buf) : State :=
  { s with buf := { s.buf with bufs := mapSet (fun _ => bufFree) s.buf.bufs k b } }

/-- An uncorrectable inkwell error is counted (07 R213); it raises the MEMORY alarm (16 R428). -/
def State.inkUncorr (s : State) : State := (s.fcount BUF_ECC_INK_UNCORR 1).seen BUF_ECC_INK_UNCORR_SEEN .memory

/-- Corrected inkwell errors are counted (07 R213). -/
def State.inkCorr (s : State) (n : Nat) : State :=
  if n = 0 then s else (s.fcount BUF_ECC_INK_CORR n).fon BUF_ECC_CORR_SEEN

/-- A pool's rebuild starts (07 R213). -/
def State.startRebuild (s : State) (p : Nat) : State := (s.inkUncorr.fon (BUF_POOL_FREE_REBUILD p)).raise .memory

/-- A buffer of a pool is allocated with one reference, or the request fails and is counted (07 R209, R211).
`nextBad`: reading the NEXT word meets an uncorrectable error (07 R213). -/
def State.alloc (s : State) (p : Nat) (nextBad : Bool) : State × Option Nat :=
  if s.fbit (BUF_POOL_FREE_REBUILD p) then (s.fwrap (BUF_POOL_FAIL_FAIL p), none)
  else
    match (s.poolOf p).pop with
    | none => (s.fwrap (BUF_POOL_FAIL_FAIL p), none)
    | some (i, v) =>
      if nextBad then ((s.startRebuild p).fwrap (BUF_POOL_FAIL_FAIL p), none)
      else ((s.setPool p v).setBuf (bufKey p i) { bufFree with refs := 1 }, some (bufKey p i))

/-- A reference to a buffer is taken (07 R214). -/
def State.takeRef (s : State) (k : Nat) : State := s.setBuf k { s.bufOf k with refs := (s.bufOf k).refs + 1 }

/-- A reference is released; a buffer without one is pushed onto its free list (07 R214, R215). -/
def State.dropRef (s : State) (k : Nat) : State :=
  let b := s.bufOf k
  if b.refs ≤ 1 then
    let v := s.poolOf (bufPool k)
    (s.setBuf k bufFree).setPool (bufPool k) { v with pushed := k % 2 ^ 19 :: v.pushed }
  else s.setBuf k { b with refs := b.refs - 1 }

/-- The buffers of a pool in use, as indices. -/
def State.usedIndices (s : State) (p : Nat) : List Nat :=
  (s.buf.bufs.filter fun e => decide (bufPool e.1 = p)).map fun e => e.1 % 2 ^ 19

/-- A free list rebuilt from the in-use record, in ascending order (07 R213). -/
def State.rebuilt (s : State) (p : Nat) : PoolSt :=
  let v := s.poolOf p
  let used := s.usedIndices p
  { v with fresh := v.total, pushed := (List.range v.total).filter fun i => !used.contains i }

/-- The pools of the kindling commit: sizes in units of 64 KiB (07 R206, R208). -/
def State.partition (s : State) (sizes : List Nat) : State :=
  let pools := sizes.mapIdx fun p u => (⟨u * 65536 / poolBuffer p, 0, []⟩ : PoolSt)
  { s with buf := { s.buf with pools := pools, bufs := [] } }

/-! ## Queues (07 R216, R223) -/

/-- The key of queue q of port n. -/
def queueKey (n q : Nat) : Nat := 16 * n + q

/-- The copies of a queue in order. -/
def State.queueOf (s : State) (n q : Nat) : List Copy := mapGet (fun _ => []) s.buf.queues (queueKey n q)

/-- The copy a port sends. -/
def State.txOf (s : State) (n : Nat) : Option TxCopy := mapGet (fun _ => none) s.buf.txs n

/-- The queue's head is being sent. -/
def State.sending (s : State) (n q : Nat) : Bool := decide ((s.txOf n).map (·.queue) = some q)

/-- The queue's algorithm: 0 strict, 1 CBS, 2 DWRR (07 R228, R238). -/
def State.algOf (s : State) (n q : Nat) : Nat :=
  if 8 ≤ q then 0 else match s.fget (BUF_SCHED_ALG n q) with | 1 => 1 | 2 => 2 | _ => 0

/-- The credit of a queue in 10^-6 bit. -/
def State.creditOf (s : State) (n q : Nat) : Int := mapGet (fun _ => 0) s.buf.credits (queueKey n q)

/-- The change of a queue's credit over a number of ns. -/
def State.creditStep (s : State) (n q dt : Nat) : Int :=
  let idle : Int := s.fget (BUF_CBS_IDLE_IDLE_KBPS n q)
  let c := s.creditOf n q
  if s.sending n q then c + (idle - s.dataRate n * 1000000) * dt
  else if (s.queueOf n q).isEmpty then min c 0
  else if bitOf (s.fget (BUF_GATE_STATUS_GATES n)) q then c + idle * dt
  else c

/-- The state with a queue's credit. -/
def State.setCredit (s : State) (n q : Nat) (v : Int) : State :=
  { s with buf := { s.buf with credits := mapSet (fun _ => 0) s.buf.credits (queueKey n q) v } }

/-- The credits of a port are brought up to the present spine cycle (07 R231). -/
def State.credit (s : State) (n : Nat) : State :=
  let dt := s.now - mapGet (fun _ => 0) s.buf.creditAt n
  let t := (List.range 8).foldl (fun u q => if u.algOf n q = 1 then u.setCredit n q (u.creditStep n q dt) else u) s
  { t with buf := { t.buf with creditAt := mapSet (fun _ => 0) t.buf.creditAt n s.now } }

/-- The credits are brought up to date before what they depend on changes, where a queue of the port has one. -/
def State.accrue (s : State) (n : Nat) : State := if (List.range 8).any (fun q => decide (s.algOf n q = 1)) then s.credit n else s

/-- The deficit of a queue in bytes. -/
def State.deficitOf (s : State) (n q : Nat) : Nat := mapGet (fun _ => 0) s.buf.deficits (queueKey n q)

/-- The state with a queue's deficit. -/
def State.setDeficit (s : State) (n q v : Nat) : State :=
  { s with buf := { s.buf with deficits := mapSet (fun _ => 0) s.buf.deficits (queueKey n q) v } }

/-- The state with the copy a port sends. -/
def State.setTx (s : State) (n : Nat) (t : Option TxCopy) : State :=
  let s := s.accrue n
  { s with buf := { s.buf with txs := mapSet (fun _ => none) s.buf.txs n t } }

/-- A queue that has become empty: its deficit returns to 0, and a credit above 0 is set to 0 (07 R230, R231). -/
def State.emptied (s : State) (n q : Nat) : State := (s.setDeficit n q 0).setCredit n q (min (s.creditOf n q) 0)

/-- The state with the copies of a queue replaced. -/
def State.setQueue (s : State) (n q : Nat) (cs : List Copy) : State :=
  let t := s.accrue n
  let t := { t with buf := { t.buf with queues := mapSet (fun _ => []) t.buf.queues (queueKey n q) cs } }
  if cs.isEmpty then t.emptied n q else t

/-- The copy holds a buffer of the inkwell. -/
def Copy.onChip (c : Copy) : Bool :=
  match c.held with
  | .ink _ => true
  | .pending _ => true
  | _ => false

/-- The copy is in the peat bank, on its way there or on its way back. -/
def Copy.inPeat (c : Copy) : Bool :=
  match c.held with
  | .ink _ => false
  | _ => true

/-- The buffer a copy holds. -/
def Copy.buffer (c : Copy) : Option Nat :=
  match c.held with
  | .ink k => some k
  | .pending k => some k
  | _ => none

/-- Size of a copy in units of 128 B (07 R216). -/
def Copy.units (c : Copy) : Nat := poolUnits c.pool

/-- O_on of a queue (07 R216). -/
def occOn (cs : List Copy) : Nat := ((cs.filter fun c => c.onChip).map Copy.units).sum

/-- O_peat of a queue (07 R238). -/
def occPeat (cs : List Copy) : Nat := ((cs.filter fun c => c.inPeat).map Copy.units).sum

/-- O_all of a queue (07 R216). -/
def occAll (cs : List Copy) : Nat := (cs.map Copy.units).sum

/-- Q_p of a queue (07 R216). -/
def occPool (cs : List Copy) (p : Nat) : Nat := (cs.filter fun c => c.onChip && decide (c.pool = p)).length

/-- The causes of R236, by their bits. -/
inductive DropCause where
  | linkDown | dt | quota | spill | flush | peatLost | peatEcc | inkEcc
  deriving DecidableEq, Repr

/-- The bit of a drop cause (07 R236). -/
def dropBit : DropCause → Nat
  | .linkDown => 0
  | .dt => 1
  | .quota => 2
  | .spill => 3
  | .flush => 4
  | .peatLost => 5
  | .peatEcc => 6
  | .inkEcc => 7

/-- A dropped copy is counted once at its queue (07 R236). -/
def State.countDrop (s : State) (n q : Nat) (c : DropCause) : State :=
  let t := s.fwrap (BUF_Q_DROP_DROP n q)
  t.fset (BUF_Q_DROP_CAUSE_CAUSE n q) (withBit (t.fget (BUF_Q_DROP_CAUSE_CAUSE n q)) (dropBit c) true)

/-- The exponent of a queue (07 R218). -/
def State.exponent (s : State) (n : Nat) : Int :=
  if n = 8 then signedOf 4 (s.fget BUF_DT_K_SYS_K_TIME)
  else if n = 9 then signedOf 4 (s.fget BUF_DT_K_SYS_K_MGMT)
  else signedOf 4 (fieldOf (s.fget BUF_DT_K_K) (4 * n) 4)

/-- The dynamic threshold admits a copy: Q_p < 2^k x F_p, in integers (07 R218). -/
def thresholdAdmits (k : Int) (q f : Nat) : Bool :=
  if 0 ≤ k then decide (q < f * 2 ^ k.toNat) else decide (q * 2 ^ (-k).toNat < f)

/-- The first failing check of admission (07 R217). -/
def State.judge (s : State) (n q pool : Nat) : Option DropCause :=
  let cs := s.queueOf n q
  if !s.link n then some .linkDown
  else if !thresholdAdmits (s.exponent q) (occPool cs pool) (s.poolFree pool) then some .dt
  else if s.fget (BUF_QUOTA_QUOTA n q) < occAll cs + poolUnits pool then some .quota
  else none

/-! ## Spill (07 R222 to R227) -/

/-- Segments of 256 B that a frame takes in the spill store (07 R222). -/
def segments (len : Nat) : Nat := (len + 32 + 255) / 256

/-- The spill store in segments: the peat bank less the capture ring (07 R222). -/
def State.spillSegments (s : State) : Nat :=
  (8192 - (if s.fbit CNT_CAP_STATUS_RUN_PLACE then s.fget CNT_CAP_STATUS_RUN_SIZE_MIB else 0)) * 4096

/-- Segments a copy takes in the spill store. -/
def State.copySegments (s : State) (c : Copy) : Nat :=
  match c.held with
  | .ink _ => 0
  | .pending k => segments (s.bufOf k).bytes.length
  | .peat bs => segments bs.length
  | .ready _ => 0

/-- Segments in use (07 R222). -/
def State.segmentsUsed (s : State) : Nat :=
  (s.buf.queues.map fun e => (e.2.map s.copySegments).sum).sum

/-- The spill store in use in MiB, rounded up (07 R237). -/
def State.usedMib (s : State) : Nat := (s.segmentsUsed + 4095) / 4096

/-- The peat bank takes no spill (07 R226). -/
def State.peatOff (s : State) : Bool :=
  !s.fbit BUF_PEAT_CFG_ENABLE || !s.fbit BUF_PEAT_STATUS_READY || s.fbit GLB_XING_DOMAIN_PEAT_INVALID

/-- The queue is in SPILLING, or a copy of a pool makes it so (07 R223). -/
def State.spills (s : State) (n q pool : Nat) : Bool :=
  s.fbit (BUF_SPILL_EN n q) &&
    (s.fbit (BUF_Q_OCC_PEAT_SPILLING n q) ||
      decide (s.fget (BUF_SPILL_MARK n q) < occOn (s.queueOf n q) + poolUnits pool))

/-- An admitted copy is put at the tail of its queue with a reference (07 R214). -/
def State.append (s : State) (n q k : Nat) (c : Copy) : State :=
  (s.setQueue n q (s.queueOf n q ++ [c])).takeRef k

/-- An admitted copy is placed: on chip, spilled, or dropped because it cannot spill (07 R223, R225, R226). -/
def State.place (s : State) (n q k : Nat) (i : FrameInfo) (ct : Bool) : State :=
  let pool := bufPool k
  if s.spills n q pool then
    if s.peatOff then s.countDrop n q .spill
    else if s.spillSegments < s.segmentsUsed + segments (s.bufOf k).bytes.length then
      (s.fon BUF_PEAT_STATUS_FULL_SEEN).countDrop n q .spill
    else if 4096 ≤ s.buf.peatPend.length then (s.fon BUF_PEAT_STATUS_PEND_FULL_SEEN).countDrop n q .spill
    else
      let t := (s.fon (BUF_Q_OCC_PEAT_SPILLING n q)).append n q k ⟨.pending k, pool, i, false⟩
      { t with buf := { t.buf with peatPend := t.buf.peatPend ++ [queueKey n q] } }
  else s.append n q k ⟨.ink k, pool, i, ct⟩

/-- A queue without copies in the peat bank or on the way returns to ONCHIP (07 R223). -/
def State.endSpilling (s : State) (n q : Nat) : State :=
  if (s.queueOf n q).any (fun c => c.inPeat) then s else s.foff (BUF_Q_OCC_PEAT_SPILLING n q)

/-- The references that a list of copies holds are released. -/
def State.releaseAll (s : State) (cs : List Copy) : State :=
  cs.foldl (fun t c => match c.buffer with | some k => t.dropRef k | none => t) s

/-- Copies of a queue that meet a test are taken out of it, their references released and the pending list cleared of
them. A copy being sent stays. Answers how many were taken out. -/
def State.removeCopies (s : State) (n q : Nat) (p : Copy → Bool) : State × Nat :=
  let cs := s.queueOf n q
  let keep := if s.sending n q then cs.take 1 else []
  let rest := if s.sending n q then cs.drop 1 else cs
  let gone := rest.filter p
  let t := s.setQueue n q (keep ++ rest.filter fun x => !p x)
  let waits := (gone.filter fun x => match x.held with | .pending _ => true | _ => false).length
  let pend := waits.repeat (fun l : List Nat => l.erase (queueKey n q)) t.buf.peatPend
  let t := { t with buf := { t.buf with peatPend := pend } }
  ((t.releaseAll gone).endSpilling n q, gone.length)

/-- Copies of a queue that meet a test are dropped and counted with a cause (07 R236). -/
def State.dropCopies (s : State) (n q : Nat) (p : Copy → Bool) (c : DropCause) : State :=
  let r := s.removeCopies n q p
  (List.range r.2).foldl (fun t _ => t.countDrop n q c) r.1

/-- Every queue of a port is flushed, but for the frame being sent. -/
def State.flushQueues (s : State) (n : Nat) : State :=
  (List.range 10).foldl (fun t q => t.dropCopies n q (fun _ => true) .flush) s

/-- Every queue of a port is flushed; the frame being sent is lost with it (07 R235). -/
def State.flushPort (s : State) (n : Nat) : State := (s.setTx n none).flushQueues n

/-- A copy that a port sends from the read-back store is lost (07 R226): what has left ends as a bad frame, after a
number of bytes that the spec leaves open (DESIGN CHOICE, log entry 85). -/
def State.cutReady (s : State) (n : Nat) : State :=
  match s.txOf n with
  | none => s
  | some t =>
    match (s.queueOf n t.queue).head? with
    | some ⟨.ready bs, _, _, _⟩ =>
      ((s.emit (.frame n (blotBytes (bs.take (s.freeVal % (bs.length + 1)))) true)).useFree).setTx n none
    | _ => s

/-- Every spilled copy of every queue is lost (07 R226, R227); LOST_SEEN raises the MEMORY alarm (16 R428). -/
def State.losePeat (s : State) : State :=
  let any := s.buf.queues.any fun e => e.2.any fun c => c.inPeat
  let t := (List.range 64).foldl State.cutReady s
  let t := s.buf.queues.foldl (fun u e =>
    u.dropCopies (e.1 / 16) (e.1 % 16) (fun c => c.inPeat) .peatLost) t
  if any then t.seen BUF_PEAT_STATUS_LOST_SEEN .memory else t

/-- LINK of a port becomes 0: its flags, and the flush at once where LINK_FLUSH_MS is 0 (04 R117, 07 R235); `finish`:
the transmitter finishes the frame it is sending (04 R130). -/
def State.linkDown (s : State) (p : Nat) (finish : Bool) : State :=
  if s.link p then
    let t := s.linkFalls p
    if t.fget BUF_CFG_LINK_FLUSH_MS = 0 then (if finish then t.flushQueues p else t.flushPort p) else t
  else s

end Sys2Proof.Machine
end

