-- ==== Sys2Proof/Machine/Tables.lean ====
section
/-! DEFINITION. The forwarding tables (05 R141 to R148), the flow hash and aggregation (05 R154, R156), and the state of
STREAM and FILTER entries (05 R157, R170).

Choices (log entries): 21 PRESUMED, 22 PRESUMED, 28 DEDUCED, 83 DEDUCED. -/

namespace Sys2Proof.Machine

/-- Entries of a table; 0 for an undefined code (05 R141). -/
def tableSize : Nat → Nat
  | 1 => 262144
  | 2 => 4096
  | 3 => 16384
  | 4 => 8192
  | 5 => 4096
  | 6 => 64
  | _ => 0

/-- The key of a table entry. -/
def tableKey (t i : Nat) : Nat := t * 2 ^ 20 + i

/-- An empty entry. -/
def zeroEntry : List Word := List.replicate 8 0

/-- An entry of a table version. -/
def entryOf (m : SMap (List Word)) (t i : Nat) : List Word := mapGet (fun _ => zeroEntry) m (tableKey t i)

/-- Word w of an entry. -/
def entryWord (e : List Word) (w : Nat) : Nat := (e.getD w 0).toNat

/-- Field [lo + width - 1 : lo] of word w of an entry. -/
def entryField (e : List Word) (w lo width : Nat) : Nat := fieldOf (entryWord e w) lo width

/-- Bit b of word w of an entry. -/
def entryBit (e : List Word) (w b : Nat) : Bool := bitOf (entryWord e w) b

/-- The active entry of a table. -/
def State.entry (s : State) (t i : Nat) : List Word := entryOf s.fwd.tables t i

/-- The state with an active entry written. -/
def State.setEntry (s : State) (t i : Nat) (e : List Word) : State :=
  { s with fwd := { s.fwd with tables := mapSet (fun _ => zeroEntry) s.fwd.tables (tableKey t i) e } }

/-- The VALID bit of an entry, by its table (05 R144 to R147, R157, R170). -/
def entryValid (t : Nat) (e : List Word) : Bool :=
  match t with
  | 1 => entryBit e 1 31
  | 2 => entryBit e 4 31
  | 3 => entryBit e 3 31
  | 4 => entryBit e 6 31
  | 5 => entryBit e 0 31
  | 6 => entryBit e 2 31
  | _ => false

/-! ## MAC and STREAM buckets (05 R143) -/

/-- The bucket of a MAC entry's key. -/
def macBucket (e : List Word) : Nat :=
  crc32c (leBytes 4 (entryWord e 0) ++ leBytes 4 (entryWord e 1 % 2 ^ 28)) % 2 ^ 16

/-- The bucket of a STREAM entry's key. -/
def streamBucket (e : List Word) : Nat :=
  crc32c (leBytes 1 (entryWord e 3 % 16) ++ leBytes 4 (entryWord e 0) ++ leBytes 4 (entryWord e 1)
    ++ leBytes 4 (entryWord e 2)) % 2 ^ 12

/-- The bucket of a key in a table. -/
def bucketOf (t : Nat) (e : List Word) : Nat := if t = 1 then macBucket e else streamBucket e

/-- Two entries of a hashed table hold the same key (05 R143). -/
def sameKey (t : Nat) (a b : List Word) : Bool :=
  if t = 1 then decide (entryWord a 0 = entryWord b 0) && decide (entryWord a 1 % 2 ^ 28 = entryWord b 1 % 2 ^ 28)
  else decide (entryWord a 3 % 16 = entryWord b 3 % 16) && decide (entryWord a 0 = entryWord b 0)
    && decide (entryWord a 1 = entryWord b 1) && decide (entryWord a 2 = entryWord b 2)

/-- The four indices of the bucket of a key. -/
def waysOf (t : Nat) (key : List Word) : List Nat := (List.range 4).map fun w => 4 * bucketOf t key + w

/-- The lowest VALID way that holds a key (05 R143). -/
def findKey (m : SMap (List Word)) (t : Nat) (key : List Word) : Option Nat :=
  (waysOf t key).find? fun i => entryValid t (entryOf m t i) && sameKey t (entryOf m t i) key

/-- The lowest way of a key's bucket that is not VALID. -/
def freeWay (m : SMap (List Word)) (t : Nat) (key : List Word) : Option Nat :=
  (waysOf t key).find? fun i => !entryValid t (entryOf m t i)

/-- A MAC key: address and VID as an entry's words (05 R144). -/
def macKey (vid mac : Nat) : List Word :=
  [BitVec.ofNat 32 mac, BitVec.ofNat 32 (vid % 4096 * 2 ^ 16 + mac / 2 ^ 32 % 2 ^ 16), 0, 0, 0, 0, 0, 0]

/-- A STREAM key: function and key words (05 R170). -/
def streamKey (func k0 k1 k2 : Nat) : List Word :=
  [BitVec.ofNat 32 k0, BitVec.ofNat 32 k1, BitVec.ofNat 32 k2, BitVec.ofNat 32 func, 0, 0, 0, 0]

/-- A 64-bit port set of two words of an entry. -/
def entryPorts (e : List Word) (w : Nat) : Nat := entryWord e w + entryWord e (w + 1) * 2 ^ 32

/-! ## Aggregation (05 R154 to R156) -/

/-- The bytes of an optional field of the flow hash. -/
def hashField (on : Bool) (n : Nat) (v : Option Nat) : List Byte :=
  if on then (match v with | some x => beBytes n x | none => []) else []

/-- A field of the configuration that the stages read, as a lookup epoch has it (05 R151). -/
def State.epochField (s : State) (epoch : Nat) (f : Fld) : Nat :=
  if epoch = s.fget FWD_EPOCH_EPOCH then s.fget f
  else fieldOf (mapGet (resetWord s.part) s.fwd.oldRegs f.key).toNat f.lo f.width

/-- The flow hash H of a frame in its lookup epoch (05 R152, R154). -/
def State.flowHash (s : State) (p : Parsed) (epoch src vid : Nat) : Nat :=
  let f := fun b => bitOf (s.epochField epoch FWD_HASH_CFG_FIELDS) b
  let w := if p.ip6 then 16 else 4
  crc32cFrom (s.epochField epoch FWD_HASH_CFG_SEED * 0x10001)
    (hashField (f 0) 1 (some src) ++ hashField (f 1) 6 (some p.dmac) ++ hashField (f 2) 6 (some p.smac)
      ++ hashField (f 3) 2 (some vid) ++ hashField (f 4) 2 (some p.etype) ++ hashField (f 5) w p.src
      ++ hashField (f 6) w p.dst ++ hashField (f 7) 1 p.proto ++ hashField (f 8) 2 p.sport
      ++ hashField (f 9) 2 p.dport ++ hashField (f 10) 3 p.flow)

/-- A member of a group is eligible (05 R154). -/
def State.eligible (s : State) (e : List Word) (m : Nat) : Bool :=
  bitOf (entryPorts e 0) m && s.fbit (PORT_MODE_ENABLE m) && (!entryBit e 2 29 || s.link m)

/-- The score of a member for a flow (05 R154). -/
def memberScore (h m : Nat) : Nat := crc32c (leBytes 4 h ++ leBytes 1 m)

/-- The member with the highest score, the lower port on equal scores (05 R154). -/
def bestMember (h : Nat) : List Nat → Option Nat
  | [] => none
  | m :: r =>
    match bestMember h r with
    | none => some m
    | some b => if memberScore h b ≤ memberScore h m then some m else some b

/-- The lowest VALID link aggregation group that holds a port (05 R156). -/
def lagOf (m : SMap (List Word)) (p : Nat) : Option Nat :=
  (List.range 64).find? fun g =>
    let e := entryOf m 6 g
    entryBit e 2 31 && !entryBit e 2 30 && bitOf (entryPorts e 0) p

/-- The port a group's copy of a flow leaves on; a port of several groups of KIND 0 belongs to the lowest (05 R154,
R156). -/
def State.groupPort (s : State) (m : SMap (List Word)) (g h : Nat) : Option Nat :=
  let e := entryOf m 6 g
  if entryBit e 2 31 then
    bestMember h ((List.range 64).filter fun p =>
      s.eligible e p && (entryBit e 2 30 || decide (lagOf m p = some g)))
  else none

/-- The ports of the link aggregation group that holds a port (05 R148). -/
def lagPorts (m : SMap (List Word)) (p : Nat) : List Nat :=
  match lagOf m p with
  | some g => (portsOf (entryPorts (entryOf m 6 g) 0)).filter fun x => decide (lagOf m x = some g)
  | none => [p]

/-- One copy to each link aggregation group that a destination set touches (05 R156). -/
def State.oneEach (s : State) (m : SMap (List Word)) (h : Nat) (ports : List Nat) : List Nat :=
  let groups := (ports.filterMap fun p => lagOf m p).eraseDups
  let members := groups.filterMap fun g => s.groupPort m g h
  (List.range 64).filter fun p => (ports.contains p && decide (lagOf m p = none)) || members.contains p

/-! ## Counts of STREAM and FILTER entries -/

/-- A stream's state after a reset of its entry (05 R175). -/
def streamReset : StreamSt := ⟨0, 0, 0, 0, 0, 0, 0, 0, true, 65535, [], []⟩

/-- The state of a STREAM entry. -/
def State.streamOf (s : State) (i : Nat) : StreamSt := mapGet (fun _ => streamReset) s.fwd.streams i

/-- The state with a STREAM entry's state replaced. -/
def State.setStream (s : State) (i : Nat) (v : StreamSt) : State :=
  { s with fwd := { s.fwd with streams := mapSet (fun _ => streamReset) s.fwd.streams i v } }

/-- A filter's state before its entry is first VALID. -/
def filterIdle : FilterSt := ⟨0, 0, 0, 0, 0, false, 0, 0, 0⟩

/-- The state of a FILTER entry. -/
def State.filterOf (s : State) (i : Nat) : FilterSt := mapGet (fun _ => filterIdle) s.fwd.filters i

/-- The state with a FILTER entry's state replaced. -/
def State.setFilter (s : State) (i : Nat) (v : FilterSt) : State :=
  { s with fwd := { s.fwd with filters := mapSet (fun _ => filterIdle) s.fwd.filters i v } }

/-- Units of 10^-6 bit in a byte. -/
def meterByte : Nat := 8000000

/-- A count that wraps at 2^32 (05 R157, R170). -/
def inc32 (n : Nat) : Nat := (n + 1) % 2 ^ 32

/-- Committed burst of a FILTER entry in 10^-6 bit (05 R157). -/
def filterCbs (e : List Word) : Nat := entryField e 2 0 24 * meterByte

/-- Excess burst of a FILTER entry in 10^-6 bit (05 R157). -/
def filterEbs (e : List Word) : Nat := entryField e 4 0 24 * meterByte

/-- The buckets of a filter with the tokens of the time since the latest charge, with coupling: committed tokens that
overflow go to the excess bucket (05 R158; the meter of MEF 10.3, log entry 21). -/
def fillBuckets (e : List Word) (f : FilterSt) (now : Nat) : FilterSt :=
  let dt := now - f.last
  let c := f.committed + entryWord e 1 * dt
  let spare := if entryBit e 0 20 then c - filterCbs e else 0
  { f with committed := min c (filterCbs e)
           excess := min (f.excess + entryWord e 3 * dt + spare) (filterEbs e)
           last := now }

/-- The colours of the meter. -/
inductive Colour where
  | green | yellow | red
  deriving DecidableEq, Repr

/-- The meter's judgement of a frame of a length, entering yellow or not (05 R158). -/
def meterJudge (e : List Word) (f : FilterSt) (now len : Nat) (yellowIn : Bool) : Colour × FilterSt :=
  let b := fillBuckets e f now
  let need := len * meterByte
  if !yellowIn && decide (need ≤ b.committed) then (.green, { b with committed := b.committed - need })
  else if need ≤ b.excess then (.yellow, { b with excess := b.excess - need })
  else (.red, b)

/-- The longest frame a FILTER entry passes (05 R157). -/
def maxSdu (e : List Word) : Nat := if entryField e 0 0 14 = 0 then maxFrame else entryField e 0 0 14

end Sys2Proof.Machine
end

