-- ==== Sys2Proof/Machine/Capture.lean ====
section
/-! DEFINITION. The capture ring (15 R408 to R413) and frames that the device makes itself.

Choices (log entries): 89 DESIGN CHOICE. -/

namespace Sys2Proof.Machine

/-- Records the ring in force holds (15 R408). -/
def State.ringSize (s : State) : Nat :=
  (if s.fbit CNT_CAP_STATUS_RUN_PLACE then s.fget CNT_CAP_STATUS_RUN_SIZE_MIB else 1) * 2 ^ 20 / 160

/-- A record is discarded and counted (15 R411); LOST_SEEN raises the OVERFLOW alarm (16 R428). -/
def State.lostRecord (s : State) : State := (s.fcount CNT_CAP_LOST_LOST_CNT 1).seen CNT_CAP_STATUS_LOST_SEEN .overflow

/-- The ring takes no record: it is in the peat bank and the peat bank is not ready (15 R411). -/
def State.ringOff (s : State) : Bool :=
  s.fbit CNT_CAP_STATUS_RUN_PLACE && (!s.fbit BUF_PEAT_STATUS_READY || s.fbit GLB_XING_DOMAIN_PEAT_INVALID)

/-- STOPPED: the ring is full and does not wrap (15 R411). -/
def State.ringState (s : State) : State :=
  s.fput CNT_CAP_STATUS_STOPPED (!s.fbit CNT_CAP_CFG_WRAP && decide (s.ringSize ≤ s.cnt.ring.length))

/-- The oldest record is overwritten and counted; a mirror frame that had not sent it loses it (15 R411, R413). -/
def State.overwriteOldest (s : State) : State :=
  match s.cnt.ring with
  | [] => s
  | r :: rest =>
    let t := s.fcount CNT_CAP_LOST_OVERWRITE_CNT 1
    let t := if t.cnt.mirror.any (fun m => decide (m.seq = r.seq)) then t.fcount CNT_CAP_MIRROR_MIRROR_LOST_CNT 1 else t
    { t with cnt := { t.cnt with ring := rest, mirror := t.cnt.mirror.filter fun m => decide (m.seq ≠ r.seq) } }

/-- A record enters the ring and, with MIRROR_EN, the mirror (15 R413). -/
def State.putRecord (s : State) (r : CapRec) : State :=
  let m := if s.fbit CNT_CAP_MIRROR_MIRROR_EN then s.cnt.mirror ++ [r] else s.cnt.mirror
  State.ringState { s with
    cnt := { s.cnt with ring := s.cnt.ring ++ [r], mirror := m, nextSeq := (s.cnt.nextSeq + 1) % 2 ^ 32 } }

/-- A record is written: `head` makes the 160 B for a record sequence number (15 R408, R411). -/
def State.writeRecord (s : State) (make : Nat → List Byte) : State :=
  if s.ringOff then s.lostRecord
  else if s.cnt.ring.length < s.ringSize then s.putRecord ⟨s.cnt.nextSeq, make s.cnt.nextSeq⟩
  else if s.fbit CNT_CAP_CFG_WRAP then s.overwriteOldest.putRecord ⟨s.cnt.nextSeq, make s.cnt.nextSeq⟩
  else s.lostRecord

/-- What the capture ring records of a frame (15 R410). -/
structure CapFrame where
  bytes : List Byte
  stamp : Nat
  stale : Bool
  src : Nat
  queue : Nat
  verdict : Nat
  origin : Nat
  byClass : Bool
  ports : List Nat
  epoch : Nat
  deriving DecidableEq, Repr

/-- The verdict is a drop (15 R409). -/
def isDropVerdict (v : Nat) : Bool := (decide (1 ≤ v) && decide (v ≤ 9)) || decide (v = 14)

/-- The ingress port is selected for capture. -/
def State.capturePort (s : State) (p : Nat) : Bool :=
  decide (p < 64) && bitOf (s.pair CNT_CAP_PORTS_LO CNT_CAP_PORTS_HI) p

/-- The 64-bit set of a list of ports. -/
def portSet (ps : List Nat) : Nat := ps.foldl (fun m p => withBit m p true) 0

/-- The 160 B of a record (15 R408, R410). -/
def recordBytes (f : CapFrame) (locked portHit dropHit : Bool) (seq : Nat) : List Byte :=
  let head := f.bytes.take 128
  let ns := f.stamp / 2 ^ 16
  head ++ List.replicate (128 - head.length) 0
    ++ beBytes 4 (ns / nsPerSec) ++ beBytes 4 (f.stale.toNat * 2 ^ 31 + locked.toNat * 2 ^ 30 + ns % nsPerSec)
    ++ beBytes 2 f.stamp ++ beBytes 1 f.src ++ beBytes 1 f.queue
    ++ beBytes 2 (if maxFrame < f.bytes.length then 0xFFFF else f.bytes.length) ++ beBytes 1 f.verdict
    ++ beBytes 1 (f.origin + f.byClass.toNat * 4 + portHit.toNat * 8 + dropHit.toNat * 16)
    ++ beBytes 8 (portSet f.ports) ++ beBytes 2 f.epoch ++ beBytes 1 head.length ++ [0] ++ beBytes 4 seq

/-- A frame that meets a trigger is captured once (15 R409). -/
def State.capture (s : State) (f : CapFrame) : State :=
  if s.fbit CNT_CAP_CFG_CAP_EN then
    let cls := s.fbit CNT_CAP_CFG_CLASS_EN && f.byClass
    let port := s.capturePort f.src && (decide (f.origin ≠ 3) || s.fbit CNT_CAP_CFG_QUILL_EN)
    let drop := s.fbit CNT_CAP_CFG_DROP_EN && isDropVerdict f.verdict
    if cls || port || drop then
      s.writeRecord (recordBytes { f with byClass := cls } (decide (s.timeMode = .locked)) port drop)
    else s
  else s

/-- What a frame that the device made itself carries: no bridging, no rewrite. -/
def ownInfo (queue origin : Nat) : FrameInfo :=
  ⟨66, 0, false, origin, queue, 0, 0, false, false, 0, false, .keep, 0, none, [], none, none, true, false, .none⟩

/-- A whole frame that the device made is given a buffer and queued on a port, or refused at admission (07 R217).
Answers whether it was queued. -/
def State.inject (s : State) (port queue origin : Nat) (bytes : List Byte) : State × Bool :=
  let i := ownInfo queue origin
  match s.alloc (fittingPool bytes.length) false with
  | (t, none) => (t, false)
  | (t, some k) =>
    let t := t.setBuf k { t.bufOf k with bytes := bytes, endedGood := true }
    match t.judge port queue (bufPool k) with
    | some c => ((t.countDrop port queue c).dropRef k, false)
    | none => ((t.place port queue k i false).dropRef k, true)

/-- The words of a record buffer (15 R412). -/
def capWord (b : CapBuf) (i : Nat) : Nat := beAt b.bytes (4 * i) 4

/-- An empty record buffer. -/
def capBufEmpty : CapBuf := ⟨false, 0, []⟩

/-- A requester's record buffer. -/
def State.capBufOf (s : State) (q : Requester) : CapBuf := s.cnt.bufs.getD (reqIx q) capBufEmpty

/-- The state with a requester's record buffer replaced. -/
def State.setCapBuf (s : State) (q : Requester) (b : CapBuf) : State :=
  { s with cnt := { s.cnt with bufs := s.cnt.bufs.set (reqIx q) b } }

end Sys2Proof.Machine
end

