-- ==== Sys2Proof/Machine/Recovery.lean ====
section
/-! DEFINITION. IEEE 802.1CB sequence recovery (05 R174): the vector and match algorithms, and the numbers that frames in
flight hold. The algorithms are those of IEEE 802.1CB-2017 (log entry 22).

Choices (log entries): 22 PRESUMED. -/

namespace Sys2Proof.Machine

/-- What recovery does with a frame. -/
inductive Recovered where
  | pass
  | discard
  /-- It waits for the end of the frame that holds its number. -/
  | hold
  deriving DecidableEq, Repr

/-- The history with a bit shifted in, of a length; whether a zero fell out, which counts a lost frame. -/
def shiftHistory (len : Nat) (h : List Bool) (b : Bool) : List Bool × Bool :=
  let full := h ++ List.replicate (len - h.length) false
  ((b :: full).take len, !(full.getD (len - 1) false))

/-- n shifts of zeros, then one of 1: a number that lies n + 1 ahead. -/
def advanceHistory (len : Nat) : Nat → List Bool → Nat → List Bool × Nat
  | 0, h, lost => let r := shiftHistory len h true; (r.1, lost + r.2.toNat)
  | n + 1, h, lost => let r := shiftHistory len h false; advanceHistory len n r.1 (lost + r.2.toNat)

/-- The vector recovery algorithm. -/
def vectorRecover (len : Nat) (v : StreamSt) (n : Nat) : Recovered × StreamSt :=
  if v.takeAny then
    (.pass, { v with takeAny := false, history := [true], recov := n, passed := inc32 v.passed, pend := n :: v.pend })
  else
    let d := signedOf 16 (n + 65536 - v.recov % 65536)
    if (len : Int) ≤ d ∨ d ≤ -(len : Int) then (.discard, { v with rogue := inc32 v.rogue })
    else if d ≤ 0 then
      if v.history.getD (-d).toNat false then (.discard, { v with dups := inc32 v.dups })
      else
        let h := (v.history ++ List.replicate (len - v.history.length) false).set (-d).toNat true
        (.pass, { v with history := h, ooo := inc32 v.ooo, passed := inc32 v.passed, pend := n :: v.pend })
    else
      let r := advanceHistory len (d.toNat - 1) v.history 0
      (.pass, { v with
        history := r.1
        lost := (v.lost + r.2) % 2 ^ 32
        ooo := if d = 1 then v.ooo else inc32 v.ooo
        recov := n
        passed := inc32 v.passed
        pend := n :: v.pend })

/-- The match recovery algorithm. -/
def matchRecover (v : StreamSt) (n : Nat) : Recovered × StreamSt :=
  if v.takeAny then (.pass, { v with takeAny := false, recov := n, passed := inc32 v.passed, pend := n :: v.pend })
  else if n = v.recov then (.discard, { v with dups := inc32 v.dups })
  else
    (.pass, { v with
      ooo := if n = (v.recov + 1) % 65536 then v.ooo else inc32 v.ooo
      recov := n
      passed := inc32 v.passed
      pend := n :: v.pend })

/-- History length of a STREAM entry (05 R170). -/
def histLen (e : List Word) : Nat := entryField e 4 14 5 + 1

/-- Recovery judges a frame with a sequence number; a number that a frame in flight holds makes a later copy wait. -/
def recoverFrame (e : List Word) (v : StreamSt) (n : Nat) : Recovered × StreamSt :=
  if v.pend.contains n then (.hold, v)
  else if entryBit e 4 27 then matchRecover v n
  else vectorRecover (histLen e) v n

/-- A number is confirmed: the frame that carried it ended good. -/
def confirmNumber (v : StreamSt) (n : Nat) : StreamSt := { v with pend := v.pend.erase n }

/-- A number is released: the frame that carried it ended bad and no copy waits for it. -/
def releaseNumber (e : List Word) (v : StreamSt) (n : Nat) : StreamSt :=
  let d := signedOf 16 (v.recov + 65536 - n % 65536)
  let v := { v with pend := v.pend.erase n }
  if entryBit e 4 27 then (if v.recov = n then { v with recov := (n + 65535) % 65536 } else v)
  else if 0 ≤ d then { v with history := v.history.set d.toNat false } else v

end Sys2Proof.Machine
end

