-- ==== Sys2Proof/Machine/Forward.lean ====
section
/-! DEFINITION. The stages a received frame passes (05 R134 to R175): VLAN, class map, stream, filter, recovery, MAC,
destinations, admission, the residue and blots.

Choices (log entries): 23 DEDUCED, 26 DEDUCED, 27 DEDUCED, 70 DEDUCED, 83 DEDUCED. -/

namespace Sys2Proof.Machine

/-! ## Stages 2 to 9 -/

/-- A frame on its way through the stages. -/
structure Path where
  st : State
  info : FrameInfo
  /-- Its verdict coded as 15 R410; 0 while it goes on. -/
  verdict : Nat
  dests : List Nat
  held : Bool
  deriving DecidableEq, Repr

/-- A stage acts on a frame that no earlier stage has dropped. -/
def Path.andThen (p : Path) (f : Path → Path) : Path := if p.verdict = 0 then f p else p

/-- The frame is dropped with a verdict and a counter of its ingress port. -/
def Path.drop (p : Path) (v counter : Nat) : Path :=
  { p with st := p.st.cntAdd p.info.src counter 1, verdict := v }

/-- The first bytes of what the parser read, as the frame's results. -/
def State.firstInfo (s : State) (src stamp : Nat) (p : Parsed) (old : Bool) : FrameInfo :=
  let e := s.fget FWD_EPOCH_EPOCH
  let epoch := if old then (e + 65535) % 65536 else e
  let pcp := if p.ctag then p.tci / 2 ^ 13 else if src < 64 then s.epochField epoch (PORT_FWD_MODE_DEF_PCP src) else 0
  let vid := if p.isTagged then p.tagVid else if src < 64 then s.epochField epoch (PORT_FWD_MODE_PVID src) else 0
  { src, stamp, stale := s.stampStale src, origin := 0, queue := pcp, vid, pcp,
    dei := p.ctag && bitOf p.tci 12, ctag := p.ctag, untag := 0, bridged := false, rtag := .keep,
    epoch, filter := none, filterEntry := [], stream := none, seq := none, noCt := false,
    capture := false, ptp := .none }

/-- Stage 3: VLAN acceptance and ingress filtering (05 R139). -/
def vlanStage (m : SMap (List Word)) (p : Parsed) (x : Path) : Path :=
  let src := x.info.src
  let e := entryOf m 2 x.info.vid
  let acc := x.st.epochField x.info.epoch (PORT_FWD_MODE_ACCEPT src)
  let refused := (decide (acc = 1) && !p.isTagged) || (decide (acc = 2) && p.isTagged)
  let noVlan := !entryBit e 4 31 || decide (x.info.vid = 0) || decide (x.info.vid = 4095)
  let outside := decide (x.st.epochField x.info.epoch (PORT_FWD_MODE_INGRESS_FILTER src) ≠ 0) && !bitOf (entryPorts e 0) src
  if p.vid4095 || refused || noVlan || outside then x.drop 4 43
  else { x with info := { x.info with bridged := true, untag := entryPorts e 2 } }

/-- The key words of a frame in the class map (05 R146). -/
def classKey (p : Parsed) (i : FrameInfo) : List Nat :=
  [p.etype * 2 ^ 16 + i.vid * 16 + i.pcp * 2 + i.ctag.toNat,
   p.dport.getD 0 * 2 ^ 16 + p.proto.getD 0 * 2 ^ 8 + p.dscp.getD 0 * 4 + p.ip6.toNat * 2 + p.ip4.toNat,
   p.rtag.isSome.toNat * 2 ^ 6 + i.src]

/-- A class-map entry matches a key (05 R140). -/
def classMatches (key : List Nat) (e : List Word) : Bool :=
  entryBit e 6 31 && (List.range 3).all fun w =>
    decide ((key.getD w 0 ^^^ entryWord e w) &&& entryWord e (w + 3) = 0)

/-- The matching class-map entry of lowest index (05 R140). -/
def classEntry (m : SMap (List Word)) (key : List Nat) : Option (List Word) :=
  (m.find? fun e => decide (e.1 / 2 ^ 20 = 4) && classMatches key e.2).map (·.2)

/-- Stage 4: the class map (05 R140). -/
def classStage (m : SMap (List Word)) (p : Parsed) (x : Path) : Path :=
  match classEntry m (classKey p x.info) with
  | none => x
  | some e =>
    let i := { x.info with
      capture := entryBit e 6 29
      queue := if entryBit e 6 28 then entryField e 6 25 3 else x.info.queue
      filter := if entryBit e 6 24 then some (entryField e 6 12 12) else none
      noCt := entryBit e 6 11 }
    if entryBit e 6 30 then Path.drop { x with info := i } 5 44 else { x with info := i }

/-- A VALID STREAM entry of a key that a port may use (05 R170, R171). -/
def streamFind (m : SMap (List Word)) (src : Nat) (key : List Word) : Option Nat :=
  match findKey m 3 key with
  | none => none
  | some i =>
    let e := entryOf m 3 i
    if entryBit e 4 25 && decide (entryField e 4 19 6 ≠ src) then none else some i

/-- The STREAM entry of a frame: function 1 before 2 before 3 (05 R171). -/
def streamOfFrame (m : SMap (List Word)) (p : Parsed) (i : FrameInfo) : Option Nat :=
  let mac := fun f a => streamKey f a (i.vid * 2 ^ 16 + a / 2 ^ 32) 0
  let ip := streamKey 3 (p.src.getD 0) (p.dst.getD 0)
    (p.dscp.getD 0 * 2 ^ 24 + p.proto.getD 0 * 2 ^ 16 + p.dport.getD 0)
  (streamFind m i.src (mac 1 p.dmac)).or
    ((streamFind m i.src (mac 2 p.smac)).or (if p.ip4 then streamFind m i.src ip else none))

/-- Stage 5: stream identification (05 R171). -/
def streamStage (m : SMap (List Word)) (p : Parsed) (x : Path) : Path :=
  match streamOfFrame m p x.info with
  | none => x
  | some n =>
    let e := entryOf m 3 n
    { x with info := { x.info with
        stream := some n
        filter := if entryBit e 4 31 then some (entryField e 4 0 12) else x.info.filter } }

/-- An oversize frame at its filter: counted, and BLOCKED where the entry asks for it (05 R157). -/
def State.oversized (s : State) (n : Nat) (e : List Word) : State :=
  let f := s.filterOf n
  s.setFilter n { f with sduFail := inc32 f.sduFail, blocked := f.blocked || entryBit e 0 16 }

/-- Stage 6: the per-stream filter at the parse window (05 R157, R165); the frame keeps the entry it found (05 R152). -/
def filterStage (m : SMap (List Word)) (len : Nat) (x : Path) : Path :=
  match x.info.filter with
  | none => x
  | some n =>
    let e := entryOf m 5 n
    if !entryBit e 0 31 then { x with info := { x.info with filter := none } }
    else
      let f := x.st.filterOf n
      let x := { x with info := { x.info with filterEntry := e } }
      let t := x.st.setFilter n { f with matched := inc32 f.matched }
      if f.blocked then Path.drop { x with st := t } 6 44
      else if maxSdu e < len then Path.drop { x with st := t.oversized n e } 6 44
      else { x with st := t }

/-- Stage 7: recovery, then generation (05 R172 to R174). -/
def sequenceStage (m : SMap (List Word)) (p : Parsed) (x : Path) : Path :=
  match x.info.stream with
  | none => x
  | some n =>
    let e := entryOf m 3 n
    let v := x.st.streamOf n
    let x := if entryBit e 4 29 then
        match p.rtag with
        | none => { x with st := x.st.setStream n { v with tagless := inc32 v.tagless } }
        | some (_, num) =>
          let r := recoverFrame e v num
          let act := if entryBit e 4 28 then RtagAct.strip else .keep
          match r.1 with
          | .pass => { x with st := x.st.setStream n r.2, info := { x.info with seq := some num, rtag := act } }
          | .discard => { x with st := x.st.setStream n r.2, verdict := 14 }
          | .hold => { x with held := true, info := { x.info with seq := some num, rtag := act } }
      else x
    if x.verdict = 0 && entryBit e 4 30 then
      let v := x.st.streamOf n
      { x with st := x.st.setStream n { v with genSeq := (v.genSeq + 1) % 65536 }
               info := { x.info with rtag := .put v.genSeq } }
    else x

/-- A destination set without what egress filtering removes (05 R148). -/
def pruneDests (m : SMap (List Word)) (i : FrameInfo) (ports : List Nat) : List Nat :=
  let members := entryPorts (entryOf m 2 i.vid) 0
  let own := lagPorts m i.src
  ports.filter fun p => bitOf members p && decide (p ≠ i.src) && !own.contains p

/-- The group address bit of a MAC address. -/
def isGroup (mac : Nat) : Bool := bitOf mac 40

/-- The MAC result of a frame before egress filtering; `true` where it is a flood (05 R148). -/
def macResult (s : State) (m : SMap (List Word)) (p : Parsed) (i : FrameInfo) (h : Nat) : List Nat × Bool :=
  let v := entryOf m 2 i.vid
  match findKey m 1 (macKey i.vid p.dmac) with
  | some n =>
    let e := entryOf m 1 n
    match entryField e 1 28 2 with
    | 0 => (portsOf (entryPorts e 3), false)
    | 1 => ((s.groupPort m (entryField e 2 0 6) h).toList, false)
    | _ => ([], false)
  | none =>
    let all := portsOf (entryPorts v 0)
    if p.dmac = 2 ^ 48 - 1 then (all, true)
    else if isGroup p.dmac then (if entryBit v 4 0 then (all, true) else ([], false))
    else if entryBit v 4 1 then (all, true) else ([], false)

/-- Stages 8 and 9: destinations of a frame (05 R148, R156, R173). A frame never leaves on its ingress port, also where the
flow hash chooses that port in a group of the replication set (DEDUCED, log entry 83). -/
def destStage (m : SMap (List Word)) (p : Parsed) (x : Path) : Path :=
  let i := x.info
  let h := x.st.flowHash p i.epoch i.src i.vid
  let repl := match i.stream with
    | some n => let e := entryOf m 3 n; if entryBit e 4 26 then some (entryPorts e 5) else none
    | none => none
  let out := match repl with
    | some set => (x.st.oneEach m h ((portsOf set).filter fun q => decide (q ≠ i.src))).filter fun q => decide (q ≠ i.src)
    | none =>
      let r := macResult x.st m p i h
      let ports := pruneDests m i r.1
      if r.2 || isGroup p.dmac || decide (1 < ports.length) then pruneDests m i (x.st.oneEach m h ports) else ports
  let out := out.filter fun q => x.st.hasPort q
  if out.isEmpty then x.drop 7 45 else { x with dests := out }

/-- The destination a learned address gets: the port, or its link aggregation group (05 R149). -/
def learnedEntry (m : SMap (List Word)) (vid mac port : Nat) : List Word :=
  let key := macKey vid mac
  let base := BitVec.ofNat 32 (entryWord key 1 + 3 * 2 ^ 30)
  match lagOf m port with
  | some g => [key.getD 0 0, base + BitVec.ofNat 32 (2 ^ 28), BitVec.ofNat 32 g, 0, 0, 0, 0, 0]
  | none => [key.getD 0 0, base, 0, BitVec.ofNat 32 (2 ^ port), BitVec.ofNat 32 (2 ^ port / 2 ^ 32), 0, 0, 0]

/-- A lost learn is counted (05 R149). -/
def State.learnLost (s : State) : State :=
  (s.fcount FWD_LEARN_STATUS_LEARN_LOST 1).fon FWD_LEARN_STATUS_LOST_SEEN

/-- The source lookup in the tables of an epoch asks for a table change (05 R149, R151). -/
def State.wantsLearn (s : State) (m : SMap (List Word)) (vid mac port : Nat) : Bool :=
  match findKey m 1 (macKey vid mac) with
  | none => true
  | some n =>
    let e := entryOf m 1 n
    entryBit e 1 30 && s.fbit FWD_LEARN_CFG_MOVE_EN && decide (e ≠ learnedEntry m vid mac port)

/-- A learned entry in the tables of one epoch: a static entry of that epoch stays (05 R149, R151). -/
def putLearned (m : SMap (List Word)) (n : Nat) (e : List Word) : SMap (List Word) :=
  let o := entryOf m 1 n
  if entryBit o 1 31 && !entryBit o 1 30 then m else mapSet (fun _ => zeroEntry) m (tableKey 1 n) e

/-- A learned MAC entry is written or removed: frames of either epoch see it (05 R151). -/
def State.setLearned (s : State) (n : Nat) (e : List Word) : State :=
  { s with fwd := { s.fwd with tables := putLearned s.fwd.tables n e, old := s.fwd.old.map fun m => putLearned m n e } }

/-- Source learning: a request enters the slice's learn queue of 64, or is lost (05 R149). -/
def learnStage (m : SMap (List Word)) (p : Parsed) (x : Path) : Path :=
  let i := x.info
  if entryBit (entryOf m 2 i.vid) 4 2 && !isGroup p.smac && x.st.wantsLearn m i.vid p.smac i.src then
    let sl := i.src / 16
    if (x.st.fwd.learns.filter fun l => decide (l.slice = sl)).length < 64 then
      let ls := x.st.fwd.learns ++ [⟨sl, i.vid, p.smac, i.src⟩]
      { x with st := { x.st with fwd := { x.st.fwd with learns := ls } } }
    else { x with st := x.st.learnLost }
  else x

/-! ## Origins (05 R136, 08 R256, 16 R416) -/

/-- The frame meets the first two conditions of a management frame (16 R416). -/
def State.forAgent (s : State) (bs : List Byte) : Bool :=
  let p := parseFrame bs
  let one := decide (winZero bs 12 2 = 0x8100)
  let at_ := if one then 18 else 14
  let hit := decide ((if one then winZero bs 16 2 else winZero bs 12 2) = s.fget MGT_CFG_ETHERTYPE)
  let node := bitOf (winZero bs (at_ + 2) 1) 2
    && decide (winField bs (at_ + 16) 2 = some (s.fget LYD_NODE_NODE_ID))
    && decide (winField bs (at_ + 23) 1 = some (s.fget LYD_NODE_DOMAIN))
  hit && (decide (p.dmac = s.pair MGT_MAC_LO MGT_MAC_HI % 2 ^ 48) || (decide (p.dmac = 2 ^ 48 - 1) && node))

/-- The enabled edge instance a port belongs to: the lowest that holds it (08 R257). -/
def State.instOf (s : State) (port : Nat) : Option Nat :=
  (List.range 8).find? fun i =>
    s.fbit (TIME_INST_CFG_ENABLE i) && bitOf (s.pair (TIME_INST_PORTS_LO i) (TIME_INST_PORTS_HI i)) port

/-- The frame ends at the hearths (08 R256). -/
def State.forHearths (s : State) (src : Nat) (p : Parsed) (bs : List Byte) : Bool :=
  match s.instOf src with
  | some i => p.isPtp bs && decide (p.ptpDomain bs = s.fget (TIME_INST_CFG_DOMAIN i))
  | none => false

/-- The ingress is privileged (08 R259). -/
def State.privileged (s : State) (src : Nat) : Bool := if src < 64 then s.fbit (TIME_PORT_CFG_HOST src) else true

/-- What the timestamp functions do with the copies of a PTP message (08 R259, R262). -/
def State.ptpOpOf (s : State) (src : Nat) (p : Parsed) (bs : List Byte) : PtpOp :=
  let t := p.ptpType bs
  if !p.isPtp bs then .none
  else if decide (t = 0) && !p.ptpTwoStep bs && s.privileged src then .origin
  else if decide (t < 2) && decide (src < 64) && s.fbit (TIME_PORT_CFG_TC_EN src) then .residence
  else if ptpEvent t && s.privileged src then .twoStep
  else .none

/-- Stages 2 to 9 of a frame from a port (05 R134, R136). -/
def State.stages (s : State) (src stamp : Nat) (bs : List Byte) (old : Bool) : Path :=
  let p := parseFrame bs
  let m := if old then s.fwd.old.getD s.fwd.tables else s.fwd.tables
  let i := s.firstInfo src stamp p old
  let x : Path := ⟨s, i, 0, [], false⟩
  if s.forAgent bs then
    let x := { x with info := { i with origin := 2, queue := 9 } }
    if bitOf (s.pair MGT_PORT_EN_LO MGT_PORT_EN_HI) src then { x with verdict := 11 }
    else { x with st := s.fcount MGT_AGENT_CNT_PORT_DROP 1, verdict := 7 }
  else if p.isTime then
    let x := { x with info := { i with origin := 1, queue := 8, ptp := s.ptpOpOf src p bs } }
    if s.forHearths src p bs then { x with verdict := 12 }
    else if p.dmac = 0x0180C200000E then x.drop 7 45
    else (((x.andThen (vlanStage m p)).andThen (learnStage m p)).andThen (destStage m p))
  else
    let x := (x.andThen (vlanStage m p)).andThen (classStage m p)
    let x := (x.andThen (streamStage m p)).andThen (filterStage m bs.length)
    let x := x.andThen (sequenceStage m p)
    (x.andThen (learnStage m p)).andThen (destStage m p)

/-- A frame that the firmware of a hearth sends: to the ports it names, in queue 8 (13 R351, 08 R259). -/
def State.hearthStages (s : State) (src stamp dests : Nat) (bs : List Byte) : Path :=
  let p := parseFrame bs
  let i := { s.firstInfo src stamp p false with origin := 1, queue := 8, ptp := s.ptpOpOf src p bs }
  let out := (portsOf dests).filter fun q => s.hasPort q
  ⟨s, i, if out.isEmpty then 7 else 0, out, false⟩

/-! ## The residue (05 R160 to R162) -/

/-- A copy enters the residue with a reference, or is dropped at once (05 R161, R162). -/
def State.toResidue (s : State) (port k : Nat) (i : FrameInfo) : State :=
  if s.fget FWD_MC_CFG_RESIDUE_US = 0 then s.fwrap (FWD_RESIDUE_DROP_TIMEOUT port)
  else if 16384 ≤ s.fwd.residue.length then
    (s.fwrap (FWD_RESIDUE_DROP_TIMEOUT port)).seen FWD_MC_STATUS_FULL_SEEN .overflow
  else
    let t := s.takeRef k
    { t with fwd := { t.fwd with residue := t.fwd.residue ++ [⟨port, k, i⟩] } }

/-- Residue copies of a buffer leave the residue, counted in BAD of their ports (05 R162). -/
def State.dropResidue (s : State) (k : Nat) : State :=
  let gone := s.fwd.residue.filter fun c => decide (c.buf = k)
  let t := { s with fwd := { s.fwd with residue := s.fwd.residue.filter fun c => decide (c.buf ≠ k) } }
  gone.foldl (fun u c => (u.fwrap (FWD_RESIDUE_DROP_BAD c.port)).dropRef k) t

/-- Residue copies of a buffer leave the residue uncounted (07 R211). -/
def State.forgetResidue (s : State) (k : Nat) : State :=
  let gone := s.fwd.residue.filter fun c => decide (c.buf = k)
  let t := { s with fwd := { s.fwd with residue := s.fwd.residue.filter fun c => decide (c.buf ≠ k) } }
  gone.foldl (fun u _ => u.dropRef k) t

/-- A residue copy is judged again: once its frame has ended good and its port is ready it is queued store-and-forward
(05 R161, 07 R217). -/
def State.rejudgeCopy (t : State) (c : ResCopy) : State :=
  if (t.bufOf c.buf).endedGood ∧ t.judge c.port c.info.queue (bufPool c.buf) = none then
    let u := { t with fwd := { t.fwd with residue := t.fwd.residue.erase c } }
    (u.place c.port c.info.queue c.buf c.info false).dropRef c.buf
  else t

/-- Every residue copy is judged again, in the order they entered: what a link, a queue, a pool or a commit has changed
lets some of them pass, and a copy that nothing of this concerns fails as before (07 R217). -/
def State.rejudge (s : State) : State := s.fwd.residue.foldl State.rejudgeCopy s

/-- The residue copies of a port are judged again, in order. -/
def State.requeueResidue (s : State) (port : Nat) : State :=
  (s.fwd.residue.filter fun c => decide (c.port = port)).foldl State.rejudgeCopy s

/-! ## Admission (05 R160, R163, 07 R217) -/

/-- A copy may leave cut-through (05 R163). -/
def State.mayCut (s : State) (i : FrameInfo) (port : Nat) : Bool :=
  bitOf (s.epochField i.epoch (PORT_FWD_MODE_CT port)) i.queue && decide (i.src < 64) &&
  decide (s.epochField i.epoch (PORT_FWD_MODE_CT_SOURCE i.src) ≠ 0) &&
  decide (s.dataRate port ≤ s.dataRate i.src) && (s.queueOf port i.queue).isEmpty && !i.noCt

/-- One copy meets admission: queued, in the residue, or dropped. Answers the state and whether it was queued: a copy that
cannot spill is dropped where it would be placed (07 R226). -/
def State.admitCopy (s : State) (k port : Nat) (i : FrameInfo) (multi ct : Bool) : State × Bool :=
  if noRoomForRepair i (s.bufOf k).bytes then (s.fwrap TIME_CNT_ONESTEP_DROP, false)
  else
    match s.judge port i.queue (bufPool k) with
    | none =>
      let t := s.place port i.queue k i ct
      (t, decide ((s.queueOf port i.queue).length < (t.queueOf port i.queue).length))
    | some c => (if multi then s.toResidue port k i else s.countDrop port i.queue c, false)

/-- The copy at a queue's tail leaves cut-through from a buffer. -/
def State.tailCuts (s : State) (port q k : Nat) : Bool :=
  (s.queueOf port q).getLast?.any fun c => c.ct && decide (c.held = .ink k)

/-- Stage 10: a copy that leaves cut-through is judged, and of a frame with several copies one whose port is not ready
enters the residue (05 R160); the others wait for the frame's end, when they are judged (07 R217). -/
def State.stage10 (s : State) (k : Nat) (x : Path) (f : RxFrame) : State × RxFrame :=
  x.dests.foldl (fun (r : State × RxFrame) port =>
    let unready := f.multi && (r.1.judge port x.info.queue (bufPool k)).isSome
    if !x.held && (unready || r.1.mayCut x.info port) then
      let a := r.1.admitCopy k port x.info f.multi true
      let t := if a.1.tailCuts port x.info.queue k then a.1.setBuf k { a.1.bufOf k with ctStarted := true } else a.1
      if a.2 then (t, { r.2 with queued := r.2.queued ++ [port] }) else (t, { r.2 with refused := true })
    else (r.1, { r.2 with later := r.2.later ++ [port] })) (s, f)

/-- The state with a frame being received. -/
def State.setRx (s : State) (f : RxFrame) : State :=
  { s with fwd := { s.fwd with rx := s.fwd.rx.filter (fun g => decide (g.info.src ≠ f.info.src)) ++ [f] } }

/-- The frame a source is sending in. -/
def State.rxOf (s : State) (src : Nat) : Option RxFrame := s.fwd.rx.find? fun f => decide (f.info.src = src)

/-- The state without the frame of a source. -/
def State.dropRx (s : State) (src : Nat) : State :=
  { s with fwd := { s.fwd with rx := s.fwd.rx.filter fun f => decide (f.info.src ≠ src) } }

/-- The frame takes no part in the stages: it has found no stream and taken no number. -/
def FrameInfo.apart (i : FrameInfo) : FrameInfo := { i with seq := none, stream := none, filter := none }

/-- A frame's parse window is complete: its buffer is allocated (07 R209), and unless it is a runt (05 R164) it passes
the stages and its first copies are judged (05 R134). -/
def State.parseWindow (s : State) (stages : State → Path) (bs : List Byte) (whole nextBad : Bool) : State :=
  match s.alloc (if whole then 0 else 3) nextBad with
  | (t, none) => t.setRx ⟨(stages t).info.apart, bs, 8, none, [], [], false, false, false, 0⟩
  | (t, some k) =>
    let t := t.setBuf k { t.bufOf k with bytes := bs, receiving := true }
    let x := stages t
    if whole && decide (bs.length < 64) then t.setRx ⟨x.info.apart, bs, 2, some k, [], [], false, false, false, 0⟩
    else
      let f : RxFrame := ⟨x.info, bs, x.verdict, some k, [], [], decide (1 < x.dests.length), false, x.held, 0⟩
      if x.verdict = 0 then
        let r := x.st.stage10 k x f
        r.1.setRx r.2
      else x.st.setRx f

/-! ## The end of a frame (05 R164 to R168, 07 R210) -/

/-- The causes of a blot, by their bits in FWD_BLOT_CAUSE (05 R165). -/
inductive BlotCause where
  | fcs | rxErr | trunc | police | oversize | quill | mem
  deriving DecidableEq, Repr

/-- The field of a blot cause. -/
def blotField (n : Nat) : BlotCause → Fld
  | .fcs => FWD_BLOT_CAUSE_FCS n
  | .rxErr => FWD_BLOT_CAUSE_RX_ERR n
  | .trunc => FWD_BLOT_CAUSE_TRUNC n
  | .police => FWD_BLOT_CAUSE_POLICE n
  | .oversize => FWD_BLOT_CAUSE_OVERSIZE n
  | .quill => FWD_BLOT_CAUSE_QUILL n
  | .mem => FWD_BLOT_CAUSE_MEM n

/-- A blotted frame is counted once at its ingress (05 R168). -/
def State.countBlot (s : State) (src : Nat) (c : BlotCause) : State :=
  if src < 64 then (s.fwrap (FWD_BLOT_CNT_IN src)).fon (blotField src c) else s

/-- A port sends a cut-through copy of a buffer that is no blot yet (05 R168: each is counted once). -/
def State.sendsCut (s : State) (port k : Nat) : Bool :=
  match s.txOf port with
  | none => false
  | some t =>
    match s.queueOf port t.queue with
    | [] => false
    | c :: _ => c.ct && t.blot.isNone && decide (c.held = .ink k)

/-- The copy a port sends becomes a blot (05 R165, R168). -/
def State.markBlot (s : State) (port point : Nat) : State :=
  match s.txOf port with
  | none => s
  | some t => (s.setTx port (some { t with blot := some point })).fwrap (FWD_BLOT_OUT_CNT_OUT port)

/-- Copies of a buffer that have not started leave every queue, uncounted (05 R165, 07 R236). -/
def State.dropUnsent (s : State) (k : Nat) : State :=
  s.buf.queues.foldl (fun t e =>
    (t.removeCopies (e.1 / 16) (e.1 % 16) fun c => decide (c.buffer = some k)).1) s

/-- A frame turns bad: started copies are blotted, the others dropped; residue copies go to BAD (05 R162, R165).
Answers whether a copy was blotted. -/
def State.turnBad (s : State) (src k point : Nat) (c : BlotCause) : State × Bool :=
  let ports := (List.range 64).filter fun p => s.sendsCut p k
  let t := ports.foldl (fun u p => u.markBlot p point) s
  let t := if ports.isEmpty then t else t.countBlot src c
  ((t.dropUnsent k).dropResidue k, !ports.isEmpty)

/-- What a frame's end shows before the stages judge it: the counter it takes, the verdict and the blot cause with its
verdict point; none for a good frame (05 R164, R165, 15 R399). -/
def endJudge (bs : List Byte) (e : FrameEnd) : Option (Nat × Nat × BlotCause × Nat) :=
  let n := bs.length
  if n < 64 then some (41, 2, .trunc, n)
  else if maxFrame < n then some (42, 3, .oversize, maxFrame - 4)
  else match e with
    | .truncated => some (40, 1, .trunc, n)
    | .errored => some (40, 1, .rxErr, n)
    | .whole => if fcsGood bs then none else some (40, 1, .fcs, n - 4)

/-- A copy that waits for its peat bank write follows its frame into another buffer. -/
def Copy.moved (k j : Nat) (c : Copy) : Copy :=
  if c.held = .pending k then { c with held := .pending j, pool := bufPool j } else c

/-- The frame moves from P3 into the smallest pool that holds it; copies in the residue and on the way to the peat bank
follow (07 R210, R211, R214). Answers its buffer, or none where the pool is empty: the frame is then discarded. -/
def State.moveBuffer (s : State) (k len : Nat) (nextBad : Bool) : State × Option Nat :=
  let p := fittingPool len
  if decide (bufPool k ≠ 3) || (s.bufOf k).ctStarted || decide (p = 3) then (s, some k)
  else
    match s.alloc p nextBad with
    | (t, none) => ((t.forgetResidue k).dropRef k, none)
    | (t, some j) =>
      let waits := (t.fwd.residue.filter fun c => decide (c.buf = k)).length
      let b := t.bufOf k
      let spilled := ((t.buf.queues.map fun e => (e.2.filter fun c => decide (c.buffer = some k)).length)).sum
      let t := t.setBuf j { b with refs := 1 + waits + spilled, moved := true }
      let res := t.fwd.residue.map fun c => if c.buf = k then { c with buf := j } else c
      let t := { t with fwd := { t.fwd with residue := res } }
      let t := t.buf.queues.foldl (fun u e => u.setQueue (e.1 / 16) (e.1 % 16) (e.2.map (Copy.moved k j))) t
      ((List.range (1 + waits + spilled)).foldl (fun u _ => u.dropRef k) t, some j)

/-- Store-and-forward copies of a frame that ended good are judged (07 R217). -/
def State.admitLater (s : State) (k : Nat) (f : RxFrame) : State × RxFrame :=
  f.later.foldl (fun (r : State × RxFrame) port =>
    let a := r.1.admitCopy k port r.2.info f.multi false
    if a.2 then (a.1, { r.2 with queued := r.2.queued ++ [port] }) else (a.1, { r.2 with refused := true }))
    (s, { f with later := [] })

/-- The verdict of a frame whose copies have been judged (15 R410). -/
def finalVerdict (f : RxFrame) : Nat :=
  if f.verdict ≠ 0 then f.verdict
  else if !f.refused then 0
  else if f.queued.isEmpty && !f.multi then 9 else 10

/-- The record of a frame at its verdict (15 R409). -/
def State.captureEnd (s : State) (f : RxFrame) (bs : List Byte) : State :=
  if f.info.src < 64 then
    s.capture ⟨bs, f.info.stamp, f.info.stale, f.info.src, if f.queued.isEmpty then 0xFF else f.info.queue,
      finalVerdict f, f.info.origin, f.info.capture, f.queued, f.info.epoch⟩
  else s

/-- The receive reference of a frame is released. -/
def State.releaseRx (s : State) (f : RxFrame) : State :=
  match f.buf with
  | some k => s.dropRef k
  | none => s

/-- A good frame's copies are made: the move, admission, the release and the record (05 R160, 07 R210). -/
def State.finishGood (s : State) (f : RxFrame) (nextBad : Bool) : State :=
  match f.buf with
  | none => s.captureEnd f f.window
  | some k =>
    let bs := (s.bufOf k).bytes
    match s.moveBuffer k bs.length nextBad with
    | (t, none) => t.captureEnd { f with verdict := 8, buf := none } bs
    | (t, some j) =>
      let r := t.admitLater j f
      (r.1.captureEnd r.2 bs).dropRef j

/-- Copies that wait for a sequence number learn that it is confirmed: they are duplicates (05 R174). -/
def State.holdsDuplicate (s : State) (n num : Nat) : State :=
  let waits := fun (g : RxFrame) => g.held && decide (g.info.stream = some n) && decide (g.info.seq = some num)
  let ended := s.fwd.holds.filter waits
  let going := s.fwd.rx.filter waits
  let v := s.streamOf n
  let t := s.setStream n { v with dups := (v.dups + ended.length + going.length) % 2 ^ 32 }
  let rx := t.fwd.rx.map fun g =>
    if waits g then { g with verdict := 14, held := false, later := [], info := { g.info with seq := none } } else g
  let t := { t with fwd := { t.fwd with rx := rx, holds := t.fwd.holds.filter fun g => !waits g } }
  ended.foldl (fun u g =>
    let bs := match g.buf with | some k => (u.bufOf k).bytes | none => []
    (u.captureEnd { g with verdict := 14, later := [] } bs).releaseRx g) t

/-- The lowest ingress port of a list of frames. -/
def lowestSrc : List RxFrame → Option RxFrame
  | [] => none
  | f :: r =>
    match lowestSrc r with
    | none => some f
    | some g => if g.info.src < f.info.src then some g else some f

/-- The frame that held a number ended bad: the first waiting copy takes it, else it is released (05 R174). -/
def State.holdsRelease (s : State) (n num : Nat) : State :=
  let waits := fun (g : RxFrame) => g.held && decide (g.info.stream = some n) && decide (g.info.seq = some num)
  match lowestSrc ((s.fwd.holds ++ s.fwd.rx).filter waits) with
  | none => s.setStream n (releaseNumber (s.entry 3 n) (s.streamOf n) num)
  | some g =>
    let v := s.streamOf n
    let t := s.setStream n { v with passed := inc32 v.passed }
    if t.fwd.holds.contains g then
      let t := { t with fwd := { t.fwd with holds := t.fwd.holds.erase g } }
      let t := t.finishGood { g with held := false } false
      (t.setStream n (confirmNumber (t.streamOf n) num)).holdsDuplicate n num
    else t.setRx { g with held := false }

/-- A frame that carries a sequence number has ended (05 R174). -/
def State.seqEnd (s : State) (f : RxFrame) (good : Bool) : State :=
  match f.info.stream, f.info.seq, f.held with
  | some n, some num, false =>
    if good then (s.setStream n (confirmNumber (s.streamOf n) num)).holdsDuplicate n num else s.holdsRelease n num
  | _, _, _ => s

/-- A frame judged yellow leaves with DEI 1, but for copies of it that have started (05 R158). -/
def State.markYellow (s : State) (k : Nat) : State :=
  let mark := fun (c : Copy) => if c.buffer = some k then { c with info := { c.info with dei := true } } else c
  let t := s.buf.queues.foldl (fun u e =>
    let keep := if u.sending (e.1 / 16) (e.1 % 16) then 1 else 0
    u.setQueue (e.1 / 16) (e.1 % 16) (e.2.take keep ++ (e.2.drop keep).map mark)) s
  let res := t.fwd.residue.map fun c => if c.buf = k then { c with info := { c.info with dei := true } } else c
  { t with fwd := { t.fwd with residue := res } }

/-- The length a frame had reached exceeds the limit of its filter, whatever else it ends with (05 R157, R165). -/
def overSdu (f : RxFrame) (len : Nat) : Bool :=
  f.info.filter.isSome && decide (f.verdict = 0) && decide (maxSdu f.info.filterEntry < len)

/-- The meter and the length limit judge a whole good frame by the entry of its lookup epoch: the verdict (05 R152, R157,
R158). -/
def State.filterEnd (s : State) (f : RxFrame) (len : Nat) : State × Option (BlotCause × Nat) × RxFrame :=
  match f.info.filter with
  | none => (s, none, f)
  | some n =>
    let e := f.info.filterEntry
    if maxSdu e < len then (s.oversized n e, some (.oversize, maxSdu e - 4), f)
    else if entryBit e 0 17 then
      let r := meterJudge e (s.filterOf n) s.now len (entryBit e 0 18 && f.info.dei)
      let v := r.2
      match r.1 with
      | .green => (s.setFilter n { v with passed := inc32 v.passed }, none, f)
      | .red => (s.setFilter n { v with red := inc32 v.red }, some (.police, len - 4), f)
      | .yellow =>
        let t := s.setFilter n { v with yellow := inc32 v.yellow }
        if entryBit e 0 19 then (t, some (.police, len - 4), f)
        else
          let t := t.setFilter n { v with yellow := inc32 v.yellow, passed := inc32 v.passed }
          (match f.buf with | some k => t.markYellow k | none => t, none, { f with info := { f.info with dei := true } })
    else
      let v := s.filterOf n
      (s.setFilter n { v with passed := inc32 v.passed }, none, f)

/-- What the bandwidth windows see of a frame (15 R406). -/
def bwFrame (f : RxFrame) (bs : List Byte) : BwFrame :=
  let p := parseFrame bs
  let pair := match p.src, p.dst with | some a, some b => some (a, b) | _, _ => none
  { src := f.info.src, origin := f.info.origin, cls := f.info.queue, vid := f.info.vid, length := bs.length,
    stamp := f.info.stamp, stale := f.info.stale, dmac := p.dmac, smac := p.smac,
    ip4 := if p.ip4 then pair else none, ip6 := if p.ip6 then pair else none }

/-- A frame that ended bad, or whose filter drops it, is settled: blots, drops, the record, the release. -/
def State.finishBad (s : State) (f : RxFrame) (bs : List Byte) (verdict point : Nat) (c : BlotCause) : State :=
  match f.buf with
  | none => s.captureEnd { f with verdict := if f.verdict = 0 then verdict else f.verdict, later := [] } bs
  | some k =>
    let r := s.turnBad f.info.src k point c
    let v := if f.verdict ≠ 0 then f.verdict else if r.2 then 13 else verdict
    let t := if decide (v = 6) then r.1.cntAdd f.info.src 44 1 else r.1
    (t.captureEnd { f with verdict := v, later := [] } bs).dropRef k

/-- Where a good frame that takes no further part in forwarding goes: to the agent, to the hearths, or nowhere. -/
def State.deliver (s : State) (f : RxFrame) (bs : List Byte) : State :=
  if f.verdict = 11 then
    if s.mgt.requests.length < 16 then
      { s with mgt := { s.mgt with requests := s.mgt.requests ++ [⟨f.info.src, bs.take (bs.length - 4)⟩] } }
    else s.fcount MGT_AGENT_CNT_BUSY_DROP 1
  else if f.verdict = 12 then s.emit (.hearths f.info.src f.info.stamp f.info.stale bs)
  else s

/-- The buffer of a frame holds it whole (07 R207). -/
def State.fillBuffer (s : State) (f : RxFrame) (bs : List Byte) (good : Bool) : State :=
  match f.buf with
  | none => s
  | some k => s.setBuf k { s.bufOf k with bytes := bs, receiving := false, endedGood := good }

/-- A received frame ends: counters, verdict, copies or blots, delivery and record (05 R164, R165, 15 R399). One that
exceeded MAX_SDU before it ended bad has that verdict (05 R157, R165). -/
def State.endFrame (s : State) (f : RxFrame) (rest : List Byte) (e : FrameEnd) (nextBad : Bool) : State :=
  let bs := f.window ++ rest
  let src := f.info.src
  let t := s.dropRx src
  match endJudge bs e with
  | some (counter, verdict, cause, point) =>
    let t := if src < 64 then t.cntAdd src counter 1 else t
    let t := t.fillBuffer f bs false
    match f.info.filter, overSdu f bs.length with
    | some n, true =>
      let e := f.info.filterEntry
      ((t.oversized n e).finishBad f bs 6 (maxSdu e - 4) .oversize).seqEnd f false
    | _, _ => (t.finishBad f bs verdict point cause).seqEnd f false
  | none =>
    let t := if src < 64 then (t.cntAdd src (4 * f.info.queue) 1).cntAdd src (4 * f.info.queue + 1) bs.length else t
    let t := if src < 64 then t.bwCount (bwFrame f bs) else t
    let t := t.fillBuffer f bs true
    if f.verdict ≠ 0 then (((t.deliver f bs).captureEnd f bs).releaseRx f).seqEnd f (decide (f.verdict ≠ 13))
    else
      match t.filterEnd f bs.length with
      | (t, some (cause, point), f) => (t.finishBad f bs 6 point cause).seqEnd f false
      | (t, none, f) =>
        if f.held then
          { t with fwd := { t.fwd with holds := t.fwd.holds ++ [{ f with length := bs.length }] } }
        else (t.finishGood f nextBad).seqEnd f true

/-- A frame of which bytes had crossed is cut off: its lane lost its clock or was restarted (01 R32, 04 R116). Without
a parsed frame the bytes that crossed are counted by their length. -/
def State.truncateFrame (s : State) (src : Nat) (crossed : List Byte) : State :=
  match s.rxOf src with
  | some f => s.endFrame f crossed .truncated false
  | none =>
    if crossed.isEmpty then s
    else if crossed.length < 64 then s.cntAdd src 41 1
    else if maxFrame < crossed.length then s.cntAdd src 42 1
    else s.cntAdd src 40 1

/-! ## The commands of the receive side -/

/-- A port can receive a frame: it runs with LINK 1 and none is being received. -/
def State.mayReceive (s : State) (src : Nat) : Bool :=
  s.inService && (s.rxOf src).isNone &&
    (if src < 64 then s.hasPort src && s.link src else true)

/-- FRAME_PARSE (05 R134). -/
def execFrameParse (src : Ingress) (window : List Byte) (whole : Bool) (stamp : Nat) (old nextBad : Bool) (s : State) :
    Host.Outcome State Fault Refusal :=
  match src with
  | .port n =>
    whenUp s (if s.mayReceive n.val && !window.isEmpty then
        s.useFree.parseWindow (fun u => u.stages n.val (s.inStamp n.val stamp) window (old && u.fwd.old.isSome)) window whole
          nextBad else s)
  | .hearth h dests =>
    let n := match h with | .a => 64 | .b => 65
    whenUp s (if s.mayReceive n && decide (s.hrt.holder = some h) && !window.isEmpty then
        s.parseWindow (fun u => u.hearthStages n stamp dests.toNat window) window whole nextBad else s)

/-- LEARN_INSERT (05 R149, R150): the oldest request of a slice. -/
def execLearnInsert (slice : Fin 4) (s : State) : Host.Outcome State Fault Refusal :=
  whenUp s (match s.fwd.learns.find? fun l => decide (l.slice = slice.val) with
    | none => s
    | some l =>
      let t := { s with fwd := { s.fwd with learns := s.fwd.learns.erase l } }
      let e := learnedEntry t.fwd.tables l.vid l.mac l.port
      match findKey t.fwd.tables 1 (macKey l.vid l.mac) with
      | some n => if t.wantsLearn t.fwd.tables l.vid l.mac l.port then t.setLearned n e else t
      | none =>
        match freeWay t.fwd.tables 1 (macKey l.vid l.mac) with
        | some n => t.setLearned n e
        | none => t.learnLost)

/-- An entry is VALID and DYNAMIC. -/
def isDynamic (e : List Word) : Bool := entryBit e 1 31 && entryBit e 1 30

/-- AGE_OUT (05 R149): a DYNAMIC entry is removed. -/
def execAgeOut (index : Fin 262144) (s : State) : Host.Outcome State Fault Refusal :=
  whenUp s (if s.fget FWD_LEARN_CFG_AGE_S ≠ 0 ∧ isDynamic (s.entry 1 index.val) then s.setLearned index.val zeroEntry
    else s)

/-- EPOCH_DRAINED (05 R153). -/
def execEpochDrained (s : State) : Host.Outcome State Fault Refusal :=
  whenUp s { (s.foff FWD_EPOCH_DRAINING) with fwd := { s.fwd with old := none, oldRegs := [] } }

/-- RESIDUE_QUEUE (05 R161). -/
def execResidueQueue (port : Fin 64) (s : State) : Host.Outcome State Fault Refusal :=
  whenUp s (s.requeueResidue port.val)

/-- RESIDUE_TIMEOUT (05 R161): the oldest residue copy of a port. -/
def execResidueTimeout (port : Fin 64) (s : State) : Host.Outcome State Fault Refusal :=
  whenUp s (match s.fwd.residue.find? fun c => decide (c.port = port.val) with
    | none => s
    | some c =>
      let t := { s with fwd := { s.fwd with residue := s.fwd.residue.erase c } }
      ((t.fwrap (FWD_RESIDUE_DROP_TIMEOUT port.val)).dropRef c.buf).rejudge)

/-- RECOVERY_RESET (05 R174). -/
def execRecoveryReset (stream : Fin 16384) (s : State) : Host.Outcome State Fault Refusal :=
  whenUp s (
    let e := s.entry 3 stream.val
    let v := s.streamOf stream.val
    if entryBit e 3 31 && entryBit e 4 29 then
      s.setStream stream.val { v with takeAny := true, recov := 65535, history := [], resets := inc32 v.resets }
    else s)

end Sys2Proof.Machine
end

