-- ==== Sys2Proof/Machine/Egress.lean ====
section
/-! DEFINITION. The egress side (07 R228 to R236): gates, guard bands, eligibility, the shapers, sending, spill and
read-back, the flush, and the peat bank.

Choices (log entries): 26 DEDUCED, 29 DEDUCED, 86 DEDUCED. -/

namespace Sys2Proof.Machine

/-! ## Time until a queue must be silent (07 R229) -/

/-- The entries of a port's gate control list: gates and interval, skipping intervals of 0 (07 R232). -/
def State.gateList (s : State) (n : Nat) : List (Nat × Nat) :=
  (((List.range 256).takeWhile fun i => s.fbit (BUF_GCL_STATE_VALID n i)).map fun i =>
    (s.fget (BUF_GCL_STATE_GATES n i), s.fget (BUF_GCL_INTERVAL_INTERVAL_NS n i))).filter fun e => decide (e.2 ≠ 0)

/-- The same with the index of each entry. -/
def State.gateIndices (s : State) (n : Nat) : List Nat :=
  ((List.range 256).takeWhile fun i => s.fbit (BUF_GCL_STATE_VALID n i)).filter fun i =>
    decide (s.fget (BUF_GCL_INTERVAL_INTERVAL_NS n i) ≠ 0)

/-- The place in a cycle of a network time in ns (07 R232). -/
def cyclePlace (cycle phase t : Nat) : Nat := (t + (phase / cycle + 1) * cycle - phase) % cycle

/-- The position of the entry in force at a place in the cycle; the last one holds to the cycle's end (07 R232). -/
def entryAt : List Nat → Nat → Nat
  | [], _ => 0
  | [_], _ => 0
  | d :: r, t => if t < d then 0 else 1 + entryAt r (t - d)

/-- The spans of a cycle: gates and length, the last reaching the cycle's end. -/
def spans : List (Nat × Nat) → Nat → List (Nat × Nat)
  | [], _ => []
  | [e], left => [(e.1, left)]
  | e :: r, left => e :: spans r (left - e.2)

/-- Nanoseconds from a place until a queue's gate closes, over a list of spans. -/
def closesIn (q : Nat) : List (Nat × Nat) → Nat → Option Nat
  | [], _ => none
  | (g, d) :: r, t =>
    if d ≤ t then closesIn q r (t - d)
    else if bitOf g q then (closesIn q r 0).map fun x => x + (d - t)
    else some 0

/-- Spans from a place on. -/
def dropSpans : List (Nat × Nat) → Nat → List (Nat × Nat)
  | [], _ => []
  | (g, d) :: r, t => if d ≤ t then dropSpans r (t - d) else (g, d - t) :: r

/-- The first nanoseconds of spans. -/
def takeSpans : List (Nat × Nat) → Nat → List (Nat × Nat)
  | [], _ => []
  | (g, d) :: r, t => if t ≤ d then [(g, t)] else (g, d) :: takeSpans r (t - d)

/-- The spans of a port's list from a network time in ns to the end of the next cycle; every gate open where it has no
list (07 R232). -/
def State.gateSpans (s : State) (n t : Nat) : List (Nat × Nat) :=
  let l := s.gateList n
  let c := max 1 (s.fget (BUF_GATE_CYCLE_NS_CYCLE_NS n))
  let sp := if l.isEmpty then [(0x3FF, c)] else spans l c
  dropSpans (sp ++ sp) (cyclePlace c (s.fget (BUF_GATE_PHASE_NS_PHASE_NS n)) t)

/-- The state with the words of a port's pending list in force (07 R233). -/
def State.withGates (s : State) (g : GatePend) : State := g.words.foldl (fun u w => u.setReg w.1 w.2) s

/-- The spans ahead of a port: the running list, cut short where a pending one takes over (07 R233). -/
def State.spansAhead (s : State) (n : Nat) : List (Nat × Nat) :=
  let t := s.time.sliceCopy / unitsPerNs
  match mapGet (fun _ => none) s.buf.gates n with
  | some (g : GatePend) => takeSpans (s.gateSpans n t) (g.at_ - t) ++ (s.withGates g).gateSpans n (max t g.at_)
  | none => s.gateSpans n t

/-- Nanoseconds until the gate of a queue closes; none where it does not (07 R229). -/
def State.gateCloses (s : State) (n q : Nat) : Option Nat :=
  if s.fbit (BUF_GATE_CFG_ENABLE n) then closesIn q (s.spansAhead n) 0 else none

/-- Five zero words: an empty window entry. -/
def zeroWindow : List Word := List.replicate 5 0

/-- The key of a window entry (06 R200, R201). -/
def winKey (bank port index : Nat) : Nat := bank * 2 ^ 16 + port * 2 ^ 10 + index

/-- A window entry of a bank. -/
def State.winEntry (s : State) (bank port index : Nat) : List Word :=
  mapGet (fun _ => zeroWindow) s.qw.entries (winKey bank port index)

/-- The active bank of a port (06 R201). -/
def State.bankOf (s : State) (port : Nat) : Nat := s.fget (QW_ACTIVE_BANK_BANK port)

/-- The windows of a bank of a port: indices of the table up to the first entry with VALID 0 (06 R200). -/
def State.windowsOf (s : State) (bank port : Nat) : List Nat :=
  (List.range 1024).takeWhile fun i => entryBit (s.winEntry bank port i) 0 31

/-- The windows of a port in force. -/
def State.windows (s : State) (port : Nat) : List Nat := s.windowsOf (s.bankOf port) port

/-- Nanoseconds until the next guard band of a port begins; none without windows (06 R192). Until a scheduled swap the
cycles are those of the active bank, and from it on those of the other bank (06 R201). -/
def State.guardIn (s : State) (port : Nat) : Option Nat :=
  if s.fbit (QW_PORT_CFG_ENABLE port) then
    let now : Int := (s.time.laneCopy / unitsPerNs : Nat)
    let pre := s.fget (QW_GUARD_PRE_NS port)
    let opens := fun bank => (s.windowsOf bank port).map fun i => entryField (s.winEntry bank port i) 0 0 30
    let swap : Option Nat := if s.fbit (QW_ACTIVE_BANK_PENDING port) then mapGet (fun _ => none) s.qw.swapAt port else none
    let c := max 1 (s.fget (QW_CYCLE_NS_CYCLE_NS port))
    let here := (opens (s.bankOf port)).filterMap fun o =>
      let d := ((o : Int) - pre - now).emod c
      match swap with
      | some w => if now + d + pre - o < w then some d.toNat else none
      | none => some d.toNat
    let there := match swap with
      | some w =>
        let d := max 1 (mapGet (fun _ => 0) s.qw.cycle port)
        (opens (1 - s.bankOf port)).map fun o =>
          let b : Int := (w : Int) + o - pre
          (if now ≤ b then b - now else (b - now).emod d).toNat
      | none => []
    (here ++ there).min?
  else none

/-! ## Eligibility (07 R229) -/

/-- The bytes of a copy, where it can be sent from. -/
def State.copyBytes (s : State) (c : Copy) : Option (List Byte) :=
  match c.held with
  | .ink k => some (s.bufOf k).bytes
  | .ready bs => some bs
  | _ => none

/-- A copy of a buffer that is still being received. -/
def State.receivingCopy (s : State) (c : Copy) : Bool :=
  match c.held with
  | .ink k => (s.bufOf k).receiving
  | _ => false

/-- The length a copy is judged on (07 R229). -/
def State.judgedLength (s : State) (c : Copy) : Nat :=
  if s.receivingCopy c then maxFrame else ((s.copyBytes c).getD []).length

/-- A copy of a length ends before a span of time is over (07 R229). -/
def fitsIn (len rate : Nat) : Option Nat → Bool
  | none => true
  | some ns => decide ((len + 20) * 8 ≤ ns * rate)

/-- The head of a queue may be sent now (07 R229, 06 R192). -/
def State.canSend (s : State) (n q : Nat) : Bool :=
  match (s.queueOf n q).head? with
  | none => false
  | some c =>
    let len := s.judgedLength c
    let r := s.dataRate n
    (s.copyBytes c).isSome && bitOf (s.fget (BUF_GATE_STATUS_GATES n)) q &&
      (decide (s.algOf n q ≠ 1) || decide (0 ≤ s.creditOf n q)) &&
      !s.qw.guards.contains n && fitsIn len r (s.gateCloses n q) && fitsIn len r (s.guardIn n)

/-! ## DWRR (07 R230) -/

/-- The member of a port's DWRR group that is served. -/
def State.setMember (s : State) (n : Nat) (q : Option Nat) : State :=
  { s with buf := { s.buf with dwrr := mapSet (fun _ => none) s.buf.dwrr n q } }

/-- The member after another in a round: the next lower queue of the list, then the highest again. -/
def nextMember (ms : List Nat) (q : Nat) : Nat := ((ms.find? fun m => decide (m < q)).orElse fun _ => ms.head?).getD q

/-- Rounds of the group until a member's deficit holds its next copy: the member served and the state. -/
def dwrrRounds (n : Nat) (ms : List Nat) : Nat → State → Nat → State × Nat
  | 0, s, q => (s, q)
  | f + 1, s, q =>
    let len := match (s.queueOf n q).head? with | some c => s.judgedLength c | none => 0
    if s.canSend n q && decide (len ≤ s.deficitOf n q) then ((s.setDeficit n q (s.deficitOf n q - len)).setMember n (some q), q)
    else
      let m := nextMember ms q
      let t := if s.canSend n m then s.setDeficit n m (s.deficitOf n m + s.fget (BUF_SCHED_WEIGHT n m) * 128) else s
      dwrrRounds n ms f t m

/-- The choice within the DWRR group of a port (07 R230). -/
def State.dwrrChoose (s : State) (n : Nat) (ready : List Nat) : Option (State × Nat) :=
  let heavy := ready.filter fun q => decide (0 < s.fget (BUF_SCHED_WEIGHT n q))
  match heavy, ready with
  | [], [] => none
  | [], q :: _ => some (s, q)
  | q :: _, _ =>
    let from_ := match mapGet (fun _ => none) s.buf.dwrr n with | some m => m | none => q + 1
    some (dwrrRounds n heavy 1024 s from_)

/-- The queues of a port in the scheduler's order; the DWRR group stands at its highest member (07 R228). -/
def State.choose (s : State) (n : Nat) : Option (State × Nat) :=
  let group := ([7, 6, 5, 4, 3, 2, 1, 0] : List Nat).filter fun q => decide (s.algOf n q = 2)
  let order := ([8, 9, 7, 6, 5, 4, 3, 2, 1, 0] : List Nat).filter fun q =>
    decide (s.algOf n q ≠ 2) || decide (group.head? = some q)
  let ready := group.filter fun q => s.canSend n q
  order.findSome? fun q => if s.algOf n q = 2 then s.dwrrChoose n ready else if s.canSend n q then some (s, q) else none

/-! ## Sending -/

/-- A frame whose buffer's header is lost is dropped: every copy that has not started, those in the residue and those
that would be judged at its end too, counts as INK_ECC; while it is received, its receive reference is released (07 R213;
log entry 86). -/
def State.dropFrameEcc (s : State) (k : Nat) : State :=
  let t := s.buf.queues.foldl (fun u e =>
    u.dropCopies (e.1 / 16) (e.1 % 16) (fun c => decide (c.buffer = some k)) .inkEcc) s
  let gone := t.fwd.residue.filter fun c => decide (c.buf = k)
  let t := gone.foldl (fun u c => u.countDrop c.port c.info.queue .inkEcc) (t.forgetResidue k)
  match t.fwd.rx.find? fun f => decide (f.buf = some k) with
  | some f =>
    let t := f.later.foldl (fun u p => u.countDrop p f.info.queue .inkEcc) t
    (t.setRx { f with verdict := 9, buf := none, later := [], refused := true }).dropRef k
  | none => t

/-- A copy's first byte is sent (15 R399). -/
def State.startCopy (s : State) (n q stamp : Nat) (blot : Option Nat) : State :=
  (s.useFree.setTx n (some ⟨q, s.outStamp n stamp, s.stampStale n, blot⟩)).cntAdd n (4 * q + 2) 1

/-- A cut-through frame turns bad on an inkwell error (07 R213): every copy of it that has started is blotted, the others
are dropped, and a frame that is still received keeps that verdict (05 R165). -/
def State.blotFrame (s : State) (src k off : Nat) : State :=
  let t := (s.turnBad src k off .mem).1
  match t.fwd.rx.find? fun f => decide (f.buf = some k) with
  | some f => t.setRx { f with verdict := 13, later := [] }
  | none => t

/-- The chosen copy starts, with what reading its buffer shows (07 R213). -/
def State.startChosen (s : State) (n q stamp : Nat) (read : InkRead) : State :=
  match (s.queueOf n q).head? with
  | none => s
  | some c =>
    match read with
    | .good corrected => (s.startCopy n q stamp none).inkCorr corrected
    | .badData off =>
      let t := s.inkUncorr
      match c.ct, c.buffer with
      | true, some k => (t.startCopy n q stamp none).blotFrame c.info.src k off
      | _, _ => (t.startCopy n q stamp (some off)).countDrop n q .inkEcc
    | .badHeader =>
      let t := s.inkUncorr
      match c.buffer with
      | some k => t.dropFrameEcc k
      | none => t

/-- EGRESS_SELECT (07 R228): the free transmitter of a port takes the next copy. -/
def execEgressSelect (port : Fin 64) (stamp : Nat) (read : InkRead) (s : State) : Host.Outcome State Fault Refusal :=
  let n := port.val
  whenUp s (if s.inService && s.link n && (s.txOf n).isNone then
      match (s.credit n).choose n with
      | none => s.credit n
      | some (t, q) => (t.startChosen n q stamp read).rejudge
    else s)

/-- The two-step queue of an ingress: 0 and 1 for the hearth ports, 2 to 5 for the host ports (08 R262). -/
def State.tsqIndex (s : State) (src : Nat) : Option Nat :=
  if src = 64 then some 0 else if src = 65 then some 1
  else (indexWhere (fun p => decide (p = src)) (s.hostPorts.take 4) 2)

/-- A two-step entry for a copy that has been sent (08 R262, R263). -/
def State.twoStep (s : State) (n : Nat) (i : FrameInfo) (t : TxCopy) (bs : List Byte) : State :=
  match i.ptp, s.tsqIndex i.src with
  | .twoStep, some j =>
    let p := parseFrame bs
    s.tsqPut j ⟨n, p.ptpType bs, p.ptpSeq bs, t.stamp, t.stale, t.blot.isSome⟩
  | _, _ => s

/-- The bytes a copy leaves with, whether it leaves as a blot, and whether its correctionField saturated. -/
def State.sentBytes (s : State) (n : Nat) (c : Copy) (t : TxCopy) (bs : List Byte) : List Byte × Bool × Bool :=
  let trailer := s.fbit (TIME_PORT_CFG_RX_TRAILER n)
  match t.blot with
  | none => let r := shapeFrame c.info n t.stamp trailer bs; (r.1, false, r.2)
  | some point =>
    let r := ptpRewrite c.info t.stamp (retagged c.info n bs bs.length)
    (blotBytes (r.1.take (retagged c.info n bs point).length), true, r.2)

/-- The copy a port sends is gone: counters, two-step entry, reference (07 R214, 08 R262). -/
def State.finishCopy (s : State) (n : Nat) (t : TxCopy) (c : Copy) (rest : List Copy) (bs : List Byte) : State :=
  let r := s.sentBytes n c t bs
  let u := (s.emit (.frame n r.1 r.2.1)).cntAdd n (4 * t.queue + 3) r.1.length
  let u := if r.2.2 then u.fwrap TIME_CNT_CORR_SAT else u
  let u := (u.twoStep n c.info t bs).setTx n none
  let u := u.setQueue n t.queue rest
  let u := u.releaseAll [c]
  (u.endSpilling n t.queue).rejudge

/-- COPY_SENT (07 R214): the last byte of the copy that a port sends has been read. -/
def execCopySent (port : Fin 64) (s : State) : Host.Outcome State Fault Refusal :=
  let n := port.val
  whenUp s (match s.txOf n with
    | none => s
    | some t =>
      match s.queueOf n t.queue with
      | [] => s.setTx n none
      | c :: rest =>
        if s.receivingCopy c then s
        else (s.credit n).finishCopy n t c rest ((s.copyBytes c).getD []))

/-! ## Link flush, pools, the peat bank -/

/-- LINK_FLUSH (07 R235). -/
def execLinkFlush (port : Fin 64) (s : State) : Host.Outcome State Fault Refusal :=
  whenUp s (if s.link port.val then s else (s.flushPort port.val).rejudge)

/-- POOL_REBUILD_DONE (07 R213). -/
def execPoolRebuildDone (pool : Fin 4) (s : State) : Host.Outcome State Fault Refusal :=
  whenUp s (if s.fbit (BUF_POOL_FREE_REBUILD pool.val) then
      ((s.setPool pool.val (s.rebuilt pool.val)).foff (BUF_POOL_FREE_REBUILD pool.val)).rejudge else s)

/-- The first copy of a list that waits for its peat bank write is replaced or taken out. -/
def mapPending (f : Nat → Copy → Option Copy) : List Copy → List Copy
  | [] => []
  | c :: r =>
    match c.held with
    | .pending k => match f k c with | some d => d :: r | none => r
    | _ => c :: mapPending f r

/-- The buffer of the first copy of a list that waits for its peat bank write. -/
def firstPending : List Copy → Option Nat
  | [] => none
  | c :: r => match c.held with | .pending k => some k | _ => firstPending r

/-- A peat bank write of a queue's first pending copy ends, by what reading its buffer showed (07 R213, R223). -/
def State.writeEnds (t : State) (n q k : Nat) (read : InkRead) : State :=
  match read with
  | .good corrected =>
    let bs := (t.bufOf k).bytes
    ((t.setQueue n q (mapPending (fun _ c => some { c with held := .peat bs }) (t.queueOf n q))).dropRef k).inkCorr corrected
  | .badData _ =>
    let u := t.setQueue n q (mapPending (fun _ _ => none) (t.queueOf n q))
    ((u.inkUncorr.countDrop n q .inkEcc).dropRef k).endSpilling n q
  | .badHeader => t.inkUncorr.dropFrameEcc k

/-- SPILL_WRITE_DONE (07 R223): the oldest pending copy is in the peat bank, or reading its buffer met an uncorrectable
error (07 R213). A copy whose frame is still being received waits. -/
def execSpillWriteDone (read : InkRead) (s : State) : Host.Outcome State Fault Refusal :=
  whenUp s (match s.buf.peatPend with
    | [] => s
    | key :: rest =>
      let n := key / 16
      let q := key % 16
      match firstPending (s.queueOf n q) with
      | none => { s with buf := { s.buf with peatPend := rest } }
      | some k =>
        if (s.bufOf k).receiving then s
        else
          (match read with
          | .badHeader => s.writeEnds n q k read
          | _ => ({ s with buf := { s.buf with peatPend := rest } } : State).writeEnds n q k read).rejudge)

/-- The first copy of a list that is in the peat bank is replaced or taken out. -/
def mapPeat (f : List Byte → Copy → Option Copy) : List Copy → List Copy
  | [] => []
  | c :: r =>
    match c.held with
    | .peat bs => match f bs c with | some d => d :: r | none => r
    | _ => c :: mapPeat f r

/-- The first copy of a list that is in the peat bank. -/
def firstPeat : List Copy → Option (List Byte)
  | [] => none
  | c :: r => match c.held with | .peat bs => some bs | _ => firstPeat r

/-- Bytes of the read-back store of a port in use (07 R224). -/
def State.readBack (s : State) (n : Nat) : Nat :=
  ((List.range 10).map fun q => ((s.queueOf n q).map fun c =>
    match c.held with | .ready bs => bs.length | _ => 0).sum).sum

/-- SPILL_READBACK_DONE (07 R224, R226): the oldest copy of a queue in the peat bank is whole in the read-back store, or
fails its ECC check. -/
def execSpillReadbackDone (port : Fin 64) (queue : Fin 10) (good : Bool) (s : State) :
    Host.Outcome State Fault Refusal :=
  let n := port.val
  let q := queue.val
  whenUp s (match firstPeat (s.queueOf n q) with
    | none => s
    | some bs =>
      if good then
        if 32768 < s.readBack n + bs.length then s
        else s.setQueue n q (mapPeat (fun b c => some { c with held := .ready b }) (s.queueOf n q))
      else
        let t := s.setQueue n q (mapPeat (fun _ _ => none) (s.queueOf n q))
        ((((t.countDrop n q .peatEcc).fcount BUF_ECC_PEAT_UNCORR 1).seen BUF_ECC_PEAT_UNCORR_SEEN .memory).endSpilling
          n q).rejudge)

/-- The peat bank controller restarts: spilled copies are lost, the ring in it stops (07 R227, 15 R411). -/
def State.startPeatRestart (s : State) : State :=
  let t := (s.losePeat.foff BUF_PEAT_STATUS_READY).fon BUF_PEAT_CMD_RESTART
  let t := ({ t with buf := { t.buf with peatRestart := true } } : State).rejudge
  if t.fbit CNT_CAP_STATUS_RUN_PLACE then
    let u := t.fon CNT_CAP_STATUS_RING_RESET_SEEN
    { u with cnt := { u.cnt with ring := [] } }
  else t

/-! ## Gates (07 R232 to R234) -/

/-- The gate state of a port follows the slice core's time copy (07 R232); its credits count up to here (07 R231). -/
def State.gateNow (s : State) (n : Nat) : State :=
  let s := s.accrue n
  let ix := s.gateIndices n
  if !s.fbit (BUF_GATE_CFG_ENABLE n) || ix.isEmpty then
    (s.fset (BUF_GATE_STATUS_ENTRY n) 0).fset (BUF_GATE_STATUS_GATES n) 0x3FF
  else
    let c := max 1 (s.fget (BUF_GATE_CYCLE_NS_CYCLE_NS n))
    let place := cyclePlace c (s.fget (BUF_GATE_PHASE_NS_PHASE_NS n)) (s.time.sliceCopy / unitsPerNs)
    let i := ix.getD (entryAt (ix.map fun j => s.fget (BUF_GCL_INTERVAL_INTERVAL_NS n j)) place) 0
    (s.fset (BUF_GATE_STATUS_ENTRY n) i).fset (BUF_GATE_STATUS_GATES n) (s.fget (BUF_GCL_STATE_GATES n i))

/-- GATE_ENTRY_CHANGE (07 R232). -/
def execGateEntryChange (port : Fin 64) (s : State) : Host.Outcome State Fault Refusal :=
  whenUp s (if s.hasPort port.val then s.gateNow port.val else s)

/-- The pending list of a port takes over (07 R233). -/
def State.gateSwap (s : State) (n : Nat) : State :=
  match mapGet (fun _ => none) s.buf.gates n with
  | none => s
  | some (g : GatePend) =>
    let t := (s.accrue n).withGates g
    let t := { t with buf := { t.buf with gates := mapSet (fun _ => none) t.buf.gates n none } }
    ((t.foff (BUF_GATE_STATUS_PENDING n)).fon (BUF_GATE_STATUS_SWAPPED_SEEN n)).gateNow n

/-- The takeover of a pending list has come on the slice core's time copy (07 R233). -/
def State.gateDue (s : State) (n : Nat) : Bool :=
  match mapGet (fun _ => none) s.buf.gates n with
  | some (g : GatePend) => decide (g.at_ * unitsPerNs ≤ s.time.sliceCopy)
  | none => false

/-- GATE_LIST_SWAP (07 R233): nothing before the list's takeover. -/
def execGateListSwap (port : Fin 64) (s : State) : Host.Outcome State Fault Refusal :=
  whenUp s (if s.gateDue port.val then s.gateSwap port.val else s)

end Sys2Proof.Machine
end

