-- ==== Sys2Proof/Machine/TableOps.lean ====
section
/-! DEFINITION. The table commands of the FWD block (05 R142, R149, R176).

Choices (log entries): 13 DEDUCED, 25 DEDUCED, 28 DEDUCED. -/

namespace Sys2Proof.Machine

/-- The table and the operation of a write to FWD_TBL_CMD are held in the requester's register. -/
def State.tblCmd (s : State) (q : Requester) (op table : Nat) : State :=
  (s.fset (FWD_TBL_CMD_OP (reqIx q)) op).fset (FWD_TBL_CMD_TABLE (reqIx q)) table

/-- The index in a requester's FWD_TBL_ADDR. -/
def State.tblAddr (s : State) (q : Requester) : Nat := s.fget (FWD_TBL_ADDR_INDEX (reqIx q))

/-- The words in a requester's FWD_TBL_DATA0 to 7. -/
def State.tblData (s : State) (q : Requester) : List Word :=
  (List.range 8).map fun i => BitVec.ofNat 32 (s.getReg (FWD_TBL_DATA (reqIx q) i))

/-- A requester's FWD_TBL_DATA0 to 7 are loaded. -/
def State.loadTbl (s : State) (q : Requester) (e : List Word) : State :=
  (List.range 8).foldl (fun t i => t.setReg (FWD_TBL_DATA (reqIx q) i) (entryWord e i)) s

/-- The staged record of a table entry, if there is one. -/
def stagedEntry (t i : Nat) (rs : List StagedRec) : Option (List Word) :=
  lastRec (fun r => match r with | .table a b d => if a = t ∧ b = i then some d else none | _ => none) rs

/-- The shadow of a table entry (03 R91). -/
def State.shadowEntry (s : State) (t i : Nat) : List Word := (stagedEntry t i s.cfg.records).getD (s.entry t i)

/-- An index lies in a table. -/
def inTable (t i : Nat) : Bool := decide (i < tableSize t)

/-- RESULT shows an operation that is done (05 R176). -/
def State.tblDone (s : State) (q : Requester) : State := s.fset (FWD_TBL_CMD_RESULT (reqIx q)) 0

/-- READ (05 R142). -/
def State.tblRead (s : State) (q : Requester) (t : Nat) : State :=
  let i := s.tblAddr q
  (if inTable t i then s.loadTbl q (if s.readsShadow q then s.shadowEntry t i else s.entry t i)
    else s.loadTbl q zeroEntry).tblDone q

/-- An entry as it is staged: a MAC entry is never DYNAMIC (05 R144). -/
def stagedForm (t : Nat) (e : List Word) : List Word :=
  if t = 1 then e.set 1 (BitVec.ofNat 32 (withField (entryWord e 1) 30 1 0)) else e

/-- WRITE (05 R142). -/
def State.tblWrite (s : State) (q : Requester) (t : Nat) : State :=
  if s.mayStage q then (s.stageRec q (.table t (s.tblAddr q) (stagedForm t (s.tblData q)))).tblDone q else s

/-- SEARCH (05 R142). -/
def State.tblSearch (s : State) (q : Requester) (t : Nat) : State :=
  let r := reqIx q
  if t = 1 ∨ t = 3 then
    let key := s.tblData q
    match findKey s.fwd.tables t key with
    | some i => ((s.fset (FWD_TBL_ADDR_INDEX r) i).loadTbl q (s.entry t i)).fset (FWD_TBL_CMD_RESULT r) 0
    | none =>
      match freeWay s.fwd.tables t key with
      | some i => (s.fset (FWD_TBL_ADDR_INDEX r) i).fset (FWD_TBL_CMD_RESULT r) 1
      | none => s.fset (FWD_TBL_CMD_RESULT r) 2
  else s

/-- The state words of a STREAM entry (05 R170). -/
def streamWords (v : StreamSt) : List Word :=
  [BitVec.ofNat 32 v.genSeq, BitVec.ofNat 32 v.passed, BitVec.ofNat 32 v.dups, BitVec.ofNat 32 v.ooo,
   BitVec.ofNat 32 v.lost, BitVec.ofNat 32 v.resets, BitVec.ofNat 32 v.rogue, BitVec.ofNat 32 v.tagless]

/-- The state words of a FILTER entry (05 R157). -/
def filterWords (f : FilterSt) : List Word :=
  [BitVec.ofNat 32 f.matched, BitVec.ofNat 32 f.passed, BitVec.ofNat 32 f.sduFail, BitVec.ofNat 32 f.red,
   BitVec.ofNat 32 f.yellow, BitVec.ofNat 32 f.blocked.toNat, 0, 0]

/-- READ_STATE (05 R142). -/
def State.tblReadState (s : State) (q : Requester) (t : Nat) : State :=
  let i := s.tblAddr q
  if t = 3 ∧ inTable 3 i then (s.loadTbl q (streamWords (s.streamOf i))).tblDone q
  else if t = 5 ∧ inTable 5 i then (s.loadTbl q (filterWords (s.filterOf i))).tblDone q
  else s

/-- CLEAR_STATE (05 R142): only while a hearth holds the token. -/
def State.tblClearState (s : State) (q : Requester) (t : Nat) : State :=
  let i := s.tblAddr q
  if s.hrt.holder.isNone then s
  else if t = 3 ∧ inTable 3 i then
    let v := s.streamOf i
    (s.setStream i { v with
      genSeq := 0, passed := 0, dups := 0, ooo := 0, lost := 0, resets := 0, rogue := 0, tagless := 0 }).tblDone q
  else if t = 5 ∧ inTable 5 i then
    let f := s.filterOf i
    (s.setFilter i { f with matched := 0, passed := 0, sduFail := 0, red := 0, yellow := 0, blocked := false }).tblDone q
  else s

/-- A table operation by its code; other codes change nothing (05 R142). -/
def State.tblOp (s : State) (q : Requester) (op t : Nat) : State :=
  match op with
  | 0 => s.tblRead q t
  | 1 => s.tblWrite q t
  | 2 => s.tblSearch q t
  | 3 => s.tblReadState q t
  | 4 => s.tblClearState q t
  | _ => s

/-- FWD_TBL_READ (05 R142). -/
def execFwdTblRead (q : Requester) (table : Fin 16) (s : State) : Host.Outcome State Fault Refusal :=
  whenTaken s q ((s.tblCmd q 0 table.val).tblOp q 0 table.val)

/-- FWD_TBL_WRITE (05 R142). -/
def execFwdTblWrite (q : Requester) (table : Fin 16) (s : State) : Host.Outcome State Fault Refusal :=
  whenTaken s q ((s.tblCmd q 1 table.val).tblOp q 1 table.val)

/-- FWD_TBL_SEARCH (05 R142). -/
def execFwdTblSearch (q : Requester) (table : Fin 16) (s : State) : Host.Outcome State Fault Refusal :=
  whenTaken s q ((s.tblCmd q 2 table.val).tblOp q 2 table.val)

/-- FWD_TBL_READ_STATE (05 R142). -/
def execFwdTblReadState (q : Requester) (table : Fin 16) (s : State) : Host.Outcome State Fault Refusal :=
  whenTaken s q ((s.tblCmd q 3 table.val).tblOp q 3 table.val)

/-- FWD_TBL_CLEAR_STATE (05 R142). -/
def execFwdTblClearState (q : Requester) (table : Fin 16) (s : State) : Host.Outcome State Fault Refusal :=
  whenGated s q ((s.tblCmd q 4 table.val).tblOp q 4 table.val)

/-- A DYNAMIC entry leads to a port, or to a group that holds it (05 R176). -/
def leadsTo (m : SMap (List Word)) (e : List Word) (port : Nat) : Bool :=
  if entryField e 1 28 2 = 1 then bitOf (entryPorts (entryOf m 6 (entryField e 2 0 6)) 0) port
  else bitOf (entryPorts e 3) port

/-- DYNAMIC entries are removed, for one port where asked (05 R149, R176). -/
def flushTables (m : SMap (List Word)) (portOnly : Bool) (port : Nat) : SMap (List Word) :=
  m.filter fun e => !(decide (e.1 / 2 ^ 20 = 1) && isDynamic e.2 && (!portOnly || leadsTo m e.2 port))

/-- FLUSH of FWD_LEARN_CMD: acts only while a hearth holds the token and no flush runs (05 R149, R176, 00 R8). -/
def State.learnFlush (s : State) (portOnly : Bool) (port : Nat) : State :=
  if s.hrt.holder.isNone || s.fbit FWD_LEARN_CMD_FLUSH then s
  else
    let t := s.fon FWD_LEARN_CMD_FLUSH
    { t with fwd := { t.fwd with
        tables := flushTables t.fwd.tables portOnly port
        old := t.fwd.old.map fun m => flushTables m portOnly port } }

/-- LEARN_FLUSH (05 R149): the write carries PORT_ONLY and PORT. -/
def execLearnFlush (q : Requester) (portOnly : Bool) (port : Fin 64) (s : State) :
    Host.Outcome State Fault Refusal :=
  whenGated s q (((s.fput FWD_LEARN_CMD_PORT_ONLY portOnly).fset FWD_LEARN_CMD_PORT port.val).learnFlush portOnly port.val)

/-- LEARN_FLUSH_DONE (05 R176). -/
def execLearnFlushDone (s : State) : Host.Outcome State Fault Refusal := whenUp s (s.foff FWD_LEARN_CMD_FLUSH)

end Sys2Proof.Machine
end

