-- ==== Sys2Proof/Machine/Quill.lean ====
section
/-! DEFINITION. Quill windows (06): opening, passing, blots, guard bands, steering, the swap and the window table.

Choices (log entries): 28 DEDUCED, 53 DEDUCED, 54 DEDUCED. -/

namespace Sys2Proof.Machine

/-! ## Phases (06 R185 to R188) -/

/-- Block time of a port's lanes in ps (06 R186). -/
def State.blockPs (s : State) (port : Nat) : Nat := if s.portRate port = 3 then 2560 else 6400

/-- F of a port in ps (06 R185). -/
def State.fixedPs (s : State) (port : Nat) : Nat := if s.portRate port = 3 then 3500 else 6350

/-- The pad P in ps, in constant mode only (06 R185). -/
def State.padPs (s : State) (port : Nat) : Nat :=
  if s.fbit (QW_PORT_CFG_MINIMUM port) then 0 else if s.portRate port = 3 then 20 else 50

/-- The elastic range in ps (06 R185). -/
def State.rangePs (s : State) (port : Nat) : Nat := if s.portRate port = 3 then 1280 else 3200

/-- The depth that steering aims at in ps (06 R188). -/
def State.targetPs (s : State) (port : Nat) : Nat :=
  if s.fbit (QW_PORT_CFG_MINIMUM port) then (if s.portRate port = 3 then 20 else 50) else s.rangePs port

/-- TXPH of a lane in ps. -/
def State.txphOf (s : State) (lane : Nat) : Nat := mapGet (fun _ => 0) s.qw.txph lane

/-- The state with TXPH of a lane. -/
def State.setTxph (s : State) (lane v : Nat) : State :=
  { s with qw := { s.qw with txph := mapSet (fun _ => 0) s.qw.txph lane v } }

/-- E_req of an egress lane for an arrival phase, in ps (06 R187). -/
def State.reqPs (s : State) (port lane arrival : Nat) : Nat :=
  let b := s.blockPs port
  ((s.txphOf lane : Int) - arrival - s.fixedPs port - s.padPs port).emod b |>.toNat

/-! ## Qualifying and opening (06 R182, R183) -/

/-- FREQ_OFS lies from -10 to +10, which 0x8000 does not (06 R182). -/
def State.loopOffset (s : State) (lane : Nat) : Bool :=
  let f := signedOf 16 (s.lget (LANE_STATUS_FREQ_OFS lane))
  decide (-10 ≤ f) && decide (f ≤ 10)

/-- The port qualifies as syntonized (06 R182). -/
def State.syntOk (s : State) (port : Nat) : Bool :=
  s.isTrunk (groupOf port) || (s.fbit (QW_PORT_CFG_LOOP_TIMED port) && (s.lanesOf port).all fun l => s.loopOffset l)

/-- The open window of an egress port. -/
def State.openOf (s : State) (port : Nat) : Option OpenWin := mapGet (fun _ => none) s.qw.opens port

/-- The state with the open window of a port; OPEN follows. -/
def State.setOpen (s : State) (port : Nat) (w : Option OpenWin) : State :=
  let t := { s with qw := { s.qw with opens := mapSet (fun _ => none) s.qw.opens port w } }
  t.fput (QW_STATUS_OPEN port) w.isSome

/-- The number of the cycle in which a port is (06 R178). -/
def State.cycleNo (s : State) (port : Nat) : Nat :=
  s.time.laneCopy / unitsPerNs / max 1 (s.fget (QW_CYCLE_NS_CYCLE_NS port))

/-- A window that closes is noted for its own cycle, while that cycle runs (06 R183). -/
def State.noteShut (s : State) (port bank index cycle : Nat) : State :=
  if cycle = s.cycleNo port then
    let old := mapGet (fun _ => (0, [])) s.qw.closed port
    let ks := if old.1 = cycle then old.2 else []
    { s with qw := { s.qw with
        closed := mapSet (fun _ => (0, [])) s.qw.closed port (cycle, (bank * 2 ^ 10 + index) :: ks) } }
  else s

/-- An open window of a port closes. -/
def State.shutWin (s : State) (port : Nat) (w : OpenWin) : State :=
  (s.noteShut port w.bank w.index w.cycle).setOpen port none

/-- The window was closed earlier in the present cycle (06 R183). -/
def State.shutBefore (s : State) (port index : Nat) : Bool :=
  let old := mapGet (fun _ => (0, [])) s.qw.closed port
  decide (old.1 = s.cycleNo port) && old.2.contains (s.bankOf port * 2 ^ 10 + index)

/-- Network time at the lanes in ns (01 R22). -/
def State.laneNs (s : State) : Nat := s.time.laneCopy / unitsPerNs

/-- The windows of a port are suspended by a takeover (06 R199). -/
def State.suspendedPort (s : State) (port : Nat) : Bool :=
  s.qw.suspended || decide (s.laneNs < mapGet (fun _ => 0) s.qw.resume port)

/-- The first cycle start of a port after kindling has come (06 R201). -/
def State.windowsRun (s : State) (port : Nat) : Bool := decide (mapGet (fun _ => 0) s.qw.firstAt port ≤ s.laneNs)

/-- The state of a window entry (06 R204). -/
def winIdle : WinSt := ⟨0, 0, 0, 0, false, 0⟩

/-- The state of a window entry of a bank. -/
def State.winState (s : State) (bank port index : Nat) : WinSt :=
  mapGet (fun _ => winIdle) s.qw.states (winKey bank port index)

/-- The state with a function applied to the state of an entry of a bank. -/
def State.updWinOf (s : State) (bank port index : Nat) (f : WinSt → WinSt) : State :=
  { s with qw := { s.qw with states := mapUpd (fun _ => winIdle) s.qw.states (winKey bank port index) f } }

/-- The state with a function applied to the state of an entry of the active bank. -/
def State.updWin (s : State) (port index : Nat) (f : WinSt → WinSt) : State := s.updWinOf (s.bankOf port) port index f

/-- The window entry in force. -/
def State.win (s : State) (port index : Nat) : List Word := s.winEntry (s.bankOf port) port index

/-- IN_PORT of a window entry (06 R200). -/
def winIn (e : List Word) : Nat := entryField e 4 0 6

/-- The window comes from the port's phase source (06 R187). -/
def State.fromSource (s : State) (port inPort : Nat) : Bool :=
  s.fbit (QW_PORT_CFG_SRC_EN port) && decide (s.fget (QW_PORT_CFG_PHASE_SRC port) = inPort)

/-- E_req of every lane pair of a window (06 R180, R187). -/
def State.depths (s : State) (port : Nat) (arrivals : List Nat) : List Nat :=
  (s.lanesOf port).mapIdx fun m lane => s.reqPs port lane (arrivals.getD m 0)

/-- The phase requirement is met (06 R187). -/
def State.phaseMet (s : State) (port inPort : Nat) (arrivals : List Nat) : Bool :=
  ((s.depths port arrivals).all fun e => decide (e ≤ s.rangePs port)) &&
    (s.fbit (QW_PORT_CFG_MINIMUM port) || !s.fromSource port inPort || s.fbit (QW_STATUS_STEER_LOCK port))

/-- Every condition for the opening of a window holds (06 R183). -/
def State.mayOpen (s : State) (port index : Nat) (arrivals : List Nat) : Bool :=
  let inPort := winIn (s.win port index)
  s.link inPort && s.link port && s.syntOk inPort && s.syntOk port && !s.suspendedPort port &&
    !s.shutBefore port index && s.phaseMet port inPort arrivals

/-- A window stays shut for its cycle (06 R183). -/
def State.missWindow (s : State) (port index : Nat) : State :=
  let t := (s.fwrap (QW_STATUS_MISS_CNT port)).fon (QW_STATUS_MISS_SEEN port)
  t.updWin port index fun w => { w with misses := inc32 w.misses }

/-- The frame that a window of the old bank still passes at the swap, while a window of the new bank opens (06 R201). -/
def State.lastOfOld (s : State) (port : Nat) : Option QFrame := (s.openOf port).bind fun w => w.frame

/-- A window opens with its depths, and its latency is shown (06 R187, R189). -/
def State.openWindow (s : State) (port index : Nat) (arrivals : List Nat) : State :=
  let inPort := winIn (s.win port index)
  let ds := s.depths port arrivals
  let lat := s.fixedPs port + ds.headD 0 + s.padPs port
  let konst := !s.fbit (QW_PORT_CFG_MINIMUM port) && s.fromSource port inPort && s.fbit (QW_STATUS_STEER_LOCK port)
  let t := s.setOpen port (some ⟨s.bankOf port, index, s.cycleNo port, inPort, ds, false, s.lastOfOld port⟩)
  let t := ((t.fon (QW_LAT_VALID port)).fput (QW_LAT_CONST port) konst).fput (QW_LAT_STALE port) (s.heldGroup 1)
  let t := (t.fset (QW_LAT_INDEX port) index).fset (QW_LAT_LAT_PS port) lat
  t.updWin port index fun w => { w with openings := inc32 w.openings, konst := konst, lat := lat }

/-- No window of a port is open, but for one of the old bank whose last frame still passes (06 R179, R201). -/
def State.roomToOpen (s : State) (port : Nat) : Bool :=
  match s.openOf port with
  | none => true
  | some w => w.closing && decide (w.bank ≠ s.bankOf port)

/-- The arrival phases of the lanes of a port as they are measured (06 R186). -/
def State.setArrivals (s : State) (port : Nat) (arrivals : List Nat) : State :=
  { s with qw := { s.qw with
      arrive := ((s.lanesOf port).zip arrivals).foldl (fun m e => mapSet (fun _ => none) m e.1 (some e.2)) s.qw.arrive } }

/-- WINDOW_OPEN (06 R183). `arrivals`: the arrival phases in ps of the lanes of the window's ingress port. -/
def execWindowOpen (port : Fin 64) (index : Fin 1024) (arrivals : List Nat) (s : State) :
    Host.Outcome State Fault Refusal :=
  let n := port.val
  whenUp s (if s.inService && s.fbit (QW_PORT_CFG_ENABLE n) && s.windowsRun n && (s.windows n).contains index.val
        && s.roomToOpen n then
      let t := s.setArrivals (winIn (s.win n index.val)) arrivals
      (if t.mayOpen n index.val arrivals then t.openWindow n index.val arrivals else t.missWindow n index.val)
    else s)

/-- The window of a port closes at a frame boundary (06 R198). -/
def State.closeBoundary (s : State) (port : Nat) : State :=
  match s.openOf port with
  | none => s
  | some w => if w.frame.isSome then s.setOpen port (some { w with closing := true }) else s.shutWin port w

/-- WINDOW_CLOSE (06 R178, R179). -/
def execWindowClose (port : Fin 64) (s : State) : Host.Outcome State Fault Refusal :=
  whenUp s (s.closeBoundary port.val)

/-- GUARD_BAND_START (06 R192): the band of a window may begin before that of the last one ends. -/
def execGuardBandStart (port : Fin 64) (s : State) : Host.Outcome State Fault Refusal :=
  whenUp s (if s.fbit (QW_PORT_CFG_ENABLE port.val) then
      { s with qw := { s.qw with guards := s.qw.guards ++ [port.val] } } else s)

/-- GUARD_BAND_END (06 R192): one band of the port ends. -/
def execGuardBandEnd (port : Fin 64) (s : State) : Host.Outcome State Fault Refusal :=
  whenUp s { s with qw := { s.qw with guards := s.qw.guards.erase port.val } }

/-! ## The crossbar (06 R190) -/

/-- What a 64b/66b block carries, as the crossbar tells blocks apart. -/
inductive BlockKind where
  | data | start | terminate | idle | orderedSet | otherControl
  deriving DecidableEq, Repr

/-- The block that the crossbar passes for an ingress block: data, start, terminate and idle unchanged, every other
control block replaced by an idle block. -/
def crossbar : BlockKind → BlockKind
  | .orderedSet => .idle
  | .otherControl => .idle
  | b => b

/-- What the egress lanes of a port send in place of its own stream. -/
inductive QuillSends where
  /-- The blocks of a frame that passes from an ingress port, through the crossbar. -/
  | passing (inPort : Nat)
  /-- The idle of the ingress lane, before the first frame and between frames. -/
  | ingressIdle (inPort : Nat)
  /-- Its own idle, until the guard band ends. -/
  | ownIdle
  deriving DecidableEq, Repr

/-- What windows and guard bands make a port's lanes send; none outside them. -/
def State.quillSends (s : State) (port : Nat) : Option QuillSends :=
  match s.openOf port with
  | some w =>
    (match w.frame with
    | some f => some (.passing f.inPort)
    | none => some (if w.closing then .ownIdle else .ingressIdle w.inPort))
  | none => if s.qw.guards.contains port then some .ownIdle else none

/-! ## Frames that pass (06 R179, R193 to R197) -/

/-- What the capture ring and the bandwidth windows see of a quill frame (15 R406, R410). -/
def quillRx (s : State) (inPort : Nat) (f : QFrame) : RxFrame :=
  let i := { ownInfo 0 3 with src := inPort, stamp := f.stamp, stale := f.stale, queue := 0xFF,
                              vid := (s.firstInfo inPort 0 (parseFrame f.bytes) false).vid }
  ⟨i, f.bytes, 0, none, [], [], false, false, false, f.bytes.length⟩

/-- A quill frame is recorded with a verdict (15 R409). -/
def State.captureQuill (s : State) (port inPort verdict : Nat) (f : QFrame) : State :=
  s.capture ⟨f.bytes, f.stamp, f.stale, inPort, 0xFF, verdict, 3, false, [port], 0⟩

/-- The frame belongs to the open window and not to one of the old bank. -/
def ownFrame (w : OpenWin) (f : QFrame) : Bool := decide (f.bank = w.bank) && decide (f.index = w.index)

/-- The frame of a window has left. `shut`: its window is closed for the rest of its cycle (06 R195 to R197). -/
def State.frameLeft (s : State) (port : Nat) (w : OpenWin) (f : QFrame) (shut : Bool) : State :=
  if ownFrame w f && (shut || w.closing) then s.shutWin port w else s.setOpen port (some { w with frame := none })

/-- A passed frame leaves as a blot with the bytes up to a verdict point, and its window is closed for the rest of its
cycle (06 R197, 05 R168). -/
def State.quillBlot (s : State) (port : Nat) (w : OpenWin) (f : QFrame) (point : Nat) (c : BlotCause) : State :=
  let out := blotBytes (f.bytes.take point)
  let t := (s.fon (QW_STATUS_CLOSED_SEEN port)).countBlot f.inPort c
  let t := (t.fwrap (FWD_BLOT_OUT_CNT_OUT port)).emit (.frame port out true)
  let t := (t.cntAdd port 48 1).cntAdd port 49 out.length
  (t.captureQuill port f.inPort 13 f).frameLeft port w f true

/-- The entry's header check: the verdict point where it fails (06 R194, R195). -/
def headerFails (e : List Word) (bs : List Byte) : Option Nat :=
  let dmac := entryWord e 2 + entryField e 3 0 16 * 2 ^ 32
  let tpid := beAt bs 12 2
  let bad := match entryField e 4 8 2 with
    | 1 => decide (tpid = 0x8100)
    | 2 => decide (tpid ≠ 0x8100) || decide (beAt bs 14 2 % 4096 ≠ entryField e 3 16 12)
    | _ => false
  if beAt bs 0 6 ≠ dmac then some 8 else if bad then some 16 else none

/-- QUILL_FRAME_START (06 R179, R194, R195). `header`: the first 16 B of the frame. -/
def execQuillFrameStart (port : Fin 64) (header : List Byte) (stamp : Nat) (s : State) :
    Host.Outcome State Fault Refusal :=
  let n := port.val
  whenUp s (match s.openOf n with
    | none => s
    | some w =>
      if w.closing || w.frame.isSome then s
      else
        let f : QFrame := ⟨header, s.inStamp w.inPort stamp, s.stampStale w.inPort, w.bank, w.index, w.cycle, w.inPort⟩
        let s := s.useFree
        match headerFails (s.winEntry w.bank n w.index) header with
        | none => s.setOpen n (some { w with frame := some f })
        | some point =>
          let t := s.fwrap (QW_MISMATCH_CNT_MISMATCH n)
          let t := t.updWinOf w.bank n w.index fun x => { x with mismatches := inc32 x.mismatches }
          t.quillBlot n w f point .quill)

/-- QUILL_FRAME_END (06 R196). `rest`: the bytes after the first 16. -/
def execQuillFrameEnd (port : Fin 64) (rest : List Byte) (errored : Bool) (s : State) :
    Host.Outcome State Fault Refusal :=
  let n := port.val
  whenUp s (match s.openOf n with
    | none => s
    | some w =>
      match w.frame with
      | none => s
      | some f =>
        let bs := f.bytes ++ rest
        let f := { f with bytes := bs }
        if errored then s.quillBlot n w f bs.length .rxErr
        else if !fcsGood bs then s.quillBlot n w f (bs.length - 4) .fcs
        else
          let inPort := f.inPort
          let t := s.emit (.frame n bs false)
          let t := ((t.cntAdd inPort 46 1).cntAdd inPort 47 bs.length).cntAdd n 48 1 |>.cntAdd n 49 bs.length
          let t := t.updWinOf f.bank n f.index fun x => { x with passed := inc32 x.passed }
          let t := (t.bwCount (bwFrame (quillRx s inPort f) bs)).captureQuill n inPort 15 f
          t.frameLeft n w f false)

/-- QUILL_OVERRUN (06 R193). `sent`: the bytes after the first 16 that still leave in time. -/
def execQuillOverrun (port : Fin 64) (sent : List Byte) (s : State) : Host.Outcome State Fault Refusal :=
  let n := port.val
  whenUp s (match s.openOf n with
    | none => s
    | some w =>
      match w.frame with
      | none => s
      | some f =>
        let f := { f with bytes := f.bytes ++ sent }
        s.quillBlot n w f f.bytes.length .quill)

/-- ELASTIC_DRIFT (06 R191). -/
def execElasticDrift (port : Fin 64) (s : State) : Host.Outcome State Fault Refusal :=
  whenUp s (if (s.openOf port.val).isSome then (s.fon (QW_STATUS_DRIFT_SEEN port.val)).closeBoundary port.val else s)

/-- The egress port of an open window loses its link or is restarted: the window ends (06 R198). -/
def State.quillEgressDown (s : State) (port : Nat) : State :=
  match s.openOf port with
  | some w => s.shutWin port w
  | none => s

/-- The ingress port of open windows loses its receive clock or is restarted (01 R32, 06 R198): the current block is ended
cleanly, so a frame in flight is blotted after the bytes that have passed, its first 16 and `passed`; the window ends. -/
def State.quillIngressLost (s : State) (inPort : Nat) (passed : List Byte) : State :=
  (List.range 64).foldl (fun t port =>
    match t.openOf port with
    | none => t
    | some w =>
      let t := match w.frame with
        | some f =>
          if f.inPort = inPort then
            t.quillBlot port w { f with bytes := f.bytes ++ passed } (f.bytes.length + passed.length) .trunc
          else t
        | none => t
      match t.openOf port with
      | some w => if w.inPort = inPort then t.shutWin port w else t
      | none => t) s

/-- Every open window closes at a frame boundary. -/
def State.closeAllBoundary (s : State) : State := (List.range 64).foldl (fun t p => t.closeBoundary p) s

/-- A takeover begins: windows are suspended (06 R199). -/
def State.suspendWindows (s : State) : State :=
  { s.closeAllBoundary with qw := { s.closeAllBoundary.qw with suspended := true } }

/-- The first cycle start of a port at or after a network time in ns (06 R178). -/
def nextCycle (cycle t : Nat) : Nat := (t + (max 1 cycle - 1)) / max 1 cycle * max 1 cycle

/-- The next cycle start of each port. -/
def State.nextStarts (s : State) : SMap Nat :=
  (List.range 64).foldl (fun m p => mapSet (fun _ => 0) m p (nextCycle (s.fget (QW_CYCLE_NS_CYCLE_NS p)) s.laneNs)) []

/-- A synthesizer carries the spine again: the windows of a port open from its next cycle start (06 R199). -/
def State.resumeWindows (s : State) : State :=
  { s with qw := { s.qw with suspended := false, resume := s.nextStarts } }

/-- STATE becomes RUNNING or DEFAULTED: the windows of a port run from its next cycle start (06 R201). -/
def State.startWindows (s : State) : State := { s with qw := { s.qw with firstAt := s.nextStarts } }

/-- A cycle start that is still awaited at a TIME_STEP is awaited on the new time, and one that has come is past; `old` is
the state before the step (06 R198, R199). -/
def State.restart (s old : State) (m : SMap Nat) : SMap Nat :=
  (List.range 64).foldl (fun u p =>
    mapSet (fun _ => 0) u p
      (if old.laneNs < mapGet (fun _ => 0) m p then nextCycle (s.fget (QW_CYCLE_NS_CYCLE_NS p)) s.laneNs else 0)) []

/-! ## Steering (06 R188) -/

/-- The way from a depth to the target, the shorter way modulo a block. -/
def shorterWay (b target req : Nat) : Int :=
  let d := ((target : Int) - req).emod b
  if 2 * d ≤ b then d else d - b

/-- A lane's TXPH moves one step of at most 1 ps toward the target (06 R188). -/
def State.steerLane (s : State) (port lane arrival : Nat) : State :=
  let b := s.blockPs port
  let d := shorterWay b (s.targetPs port) (s.reqPs port lane arrival)
  let step : Int := if d = 0 then 0 else if 0 < d then 1 else -1
  s.setTxph lane (((s.txphOf lane : Int) + step).emod b).toNat

/-- The largest distance of a port's lanes from the target. -/
def State.steerError (s : State) (port : Nat) (arrivals : List Nat) : Nat :=
  ((s.lanesOf port).mapIdx fun m lane =>
    (shorterWay (s.blockPs port) (s.targetPs port) (s.reqPs port lane (arrivals.getD m 0))).natAbs).foldl max 0

/-- STEER_LOCK with its two limits (06 R188). -/
def State.steerLock (s : State) (port err : Nat) : State :=
  if err ≤ 4 then s.fon (QW_STATUS_STEER_LOCK port)
  else if 8 < err then s.foff (QW_STATUS_STEER_LOCK port)
  else s

/-- The arrival phases of a port's phase source; none while one is not known. -/
def State.sourcePhases (s : State) (port : Nat) : Option (List Nat) :=
  let as := (s.lanesOf (s.fget (QW_PORT_CFG_PHASE_SRC port))).map fun l => mapGet (fun _ => none) s.qw.arrive l
  if as.all (fun a => a.isSome) then some (as.filterMap id) else none

/-- The phase source of a port has a receive clock on every lane. -/
def State.sourceClock (s : State) (port : Nat) : Bool :=
  (s.lanesOf (s.fget (QW_PORT_CFG_PHASE_SRC port))).all fun l => s.laneClock l

/-- STEER_LOCK judged on the known phases (06 R188). -/
def State.relock (s : State) (port : Nat) : State :=
  match s.sourcePhases port with
  | some as => if s.fbit (QW_PORT_CFG_SRC_EN port) then s.steerLock port (s.steerError port as) else s
  | none => s

/-- The steering of a port is off, or has lost its source: neither locked nor moving (06 R188). -/
def State.steerStops (s : State) (port : Nat) : State :=
  (s.foff (QW_STATUS_STEER_LOCK port)).foff (QW_STATUS_STEERING port)

/-- A lane has lost its receive clock: its arrival phase is not known, and the ports it steers stop (06 R186, R188). -/
def State.sourceGone (s : State) (lane : Nat) : State :=
  let t := { s with qw := { s.qw with arrive := mapSet (fun _ => none) s.qw.arrive lane none } }
  (List.range 64).foldl (fun u p =>
    if u.fbit (QW_PORT_CFG_SRC_EN p) && (u.lanesOf (u.fget (QW_PORT_CFG_PHASE_SRC p))).contains lane then u.steerStops p
    else u) t

/-- QW_PHASE of a port (06 R203): TXPH of its lowest lane; E_req of its phase source's lowest lane, which is a free value
until the phase is measured, and 0x1FFF with SRC_EN 0 or no source clock. -/
def State.phaseWord (s : State) (port w : Nat) : Nat :=
  let lane := (s.lanesOf port).headD port
  let req := if s.fbit (QW_PORT_CFG_SRC_EN port) && s.sourceClock port then
      (match s.sourcePhases port with
      | some as => s.reqPs port lane (as.headD 0)
      | none => s.freeVal % s.blockPs port)
    else 0x1FFF
  withField (withField w 16 13 (s.txphOf lane)) 0 13 req

/-- TXPH_STEER (06 R188). `arrivals`: the arrival phases in ps of the phase source's lanes. -/
def execTxphSteer (port : Fin 64) (arrivals : List Nat) (s : State) : Host.Outcome State Fault Refusal :=
  let n := port.val
  whenUp s (
    if !s.hasPort n || !s.fbit (QW_PORT_CFG_SRC_EN n) then s
    else if !s.sourceClock n then s.steerStops n
    else
      let before := s.steerError n arrivals
      let t := s.setArrivals (s.fget (QW_PORT_CFG_PHASE_SRC n)) arrivals
      let t := if s.heldGroup 1 then t
        else ((s.lanesOf n).mapIdx fun m lane => (m, lane)).foldl (fun u e => u.steerLane n e.2 (arrivals.getD e.1 0)) t
      (t.fput (QW_STATUS_STEERING n) (decide (before ≠ 0) && !s.heldGroup 1)).steerLock n (t.steerError n arrivals))

/-- A restart of an egress lane sets its TXPH: the target where it is steered and the source's arrival phase is known,
else 0 (06 R186, R188). -/
def State.restartTxph (s : State) (lane : Nat) (arrival : Option Nat) : State :=
  let port := s.portOf lane
  match arrival with
  | some a =>
    if s.fbit (QW_PORT_CFG_SRC_EN port) then
      let v := ((s.targetPs port : Int) + a + s.fixedPs port + s.padPs port).emod (s.blockPs port)
      (s.setTxph lane v.toNat).relock port
    else s.setTxph lane 0
  | none => (s.setTxph lane 0).relock port

/-! ## The swap (06 R201) -/

/-- The banks of a port exchange roles. -/
def State.swapBanks (s : State) (port : Nat) : State :=
  let inactive := mapGet (fun _ => 0) s.qw.cycle port
  let active := s.fget (QW_CYCLE_NS_CYCLE_NS port)
  let t := (s.closeBoundary port).fset (QW_ACTIVE_BANK_BANK port) (1 - s.bankOf port)
  let t := t.fset (QW_CYCLE_NS_CYCLE_NS port) inactive
  let t := ((t.fwrap (QW_ACTIVE_BANK_SWAP_CNT port)).fon (QW_ACTIVE_BANK_SWAPPED_SEEN port)).foff
    (QW_ACTIVE_BANK_PENDING port)
  { t with qw := { t.qw with
      cycle := mapSet (fun _ => 0) t.qw.cycle port active
      swapAt := mapSet (fun _ => none) t.qw.swapAt port none
      closed := mapSet (fun _ => (0, [])) t.qw.closed port (0, [])
      resume := mapSet (fun _ => 0) t.qw.resume port 0 } }

/-- The swap of a port is due: its time has come (06 R201). -/
def State.swapDue (s : State) (port : Nat) : Bool :=
  s.fbit (QW_ACTIVE_BANK_PENDING port) && (mapGet (fun _ => none) s.qw.swapAt port).all fun (t : Nat) => decide (t ≤ s.laneNs)

/-- WINDOW_TABLE_SWAP (06 R201). -/
def execWindowTableSwap (port : Fin 64) (s : State) : Host.Outcome State Fault Refusal :=
  whenUp s (if s.swapDue port.val then s.swapBanks port.val else s)

/-! ## The window table (06 R204) -/

/-- The port and entry in a requester's QW_TBL_SEL. -/
def State.qwSel (s : State) (q : Requester) : Nat × Nat :=
  (s.fget (QW_TBL_SEL_PORT (reqIx q)), s.fget (QW_TBL_SEL_INDEX (reqIx q)))

/-- The words in a requester's QW_TBL_DATA0 to 4. -/
def State.qwData (s : State) (q : Requester) : List Word :=
  (List.range 5).map fun i => BitVec.ofNat 32 (s.getReg (QW_TBL_DATA (reqIx q) i))

/-- A requester's QW_TBL_DATA0 to 4 are loaded. -/
def State.loadQw (s : State) (q : Requester) (e : List Word) : State :=
  (List.range 5).foldl (fun t i => t.setReg (QW_TBL_DATA (reqIx q) i) (entryWord e i)) s

/-- The bank that a commit builds on: the pending one, or the active one (06 R201). -/
def State.bankBase (s : State) (port : Nat) : Nat :=
  if s.fbit (QW_ACTIVE_BANK_PENDING port) then 1 - s.bankOf port else s.bankOf port

/-- The staged record of a window entry, if there is one. -/
def stagedWindow (port index : Nat) (rs : List StagedRec) : Option (List Word) :=
  lastRec (fun r => match r with | .window a b d => if a = port ∧ b = index then some d else none | _ => none) rs

/-- A window table operation by its code (06 R204). -/
def State.qwOp (s : State) (q : Requester) (op : Nat) (inactive : Bool) : State :=
  let (port, i) := s.qwSel q
  let bank := if inactive then 1 - s.bankOf port else s.bankOf port
  match op with
  | 0 =>
    if s.readsShadow q then
      s.loadQw q ((stagedWindow port i s.cfg.records).getD (s.winEntry (s.bankBase port) port i))
    else s.loadQw q (s.winEntry bank port i)
  | 1 => s.stageRec q (.window port i (s.qwData q))
  | 3 =>
    let w := s.winState bank port i
    s.loadQw q [BitVec.ofNat 32 w.openings, BitVec.ofNat 32 w.passed, BitVec.ofNat 32 w.mismatches,
      BitVec.ofNat 32 w.misses, BitVec.ofNat 32 (w.konst.toNat * 2 ^ 16 + w.lat % 2 ^ 14)]
  | 4 => if s.hrt.holder.isNone then s else s.updWin port i fun _ => winIdle
  | _ => s

/-- OP and INACTIVE of a write to QW_TBL_CMD are held in the requester's register. -/
def State.qwCmd (s : State) (q : Requester) (op : Nat) (inactive : Bool) : State :=
  (s.fset (QW_TBL_CMD_OP (reqIx q)) op).fput (QW_TBL_CMD_INACTIVE (reqIx q)) inactive

/-- QW_TBL_READ (06 R204). -/
def execQwTblRead (q : Requester) (inactive : Bool) (s : State) : Host.Outcome State Fault Refusal :=
  whenTaken s q ((s.qwCmd q 0 inactive).qwOp q 0 inactive)

/-- QW_TBL_WRITE (06 R204). -/
def execQwTblWrite (q : Requester) (inactive : Bool) (s : State) : Host.Outcome State Fault Refusal :=
  whenTaken s q ((s.qwCmd q 1 inactive).qwOp q 1 inactive)

/-- QW_TBL_READ_STATE (06 R204). -/
def execQwTblReadState (q : Requester) (inactive : Bool) (s : State) : Host.Outcome State Fault Refusal :=
  whenTaken s q ((s.qwCmd q 3 inactive).qwOp q 3 inactive)

/-- QW_TBL_CLEAR_STATE (06 R204). -/
def execQwTblClearState (q : Requester) (inactive : Bool) (s : State) : Host.Outcome State Fault Refusal :=
  whenGated s q ((s.qwCmd q 4 inactive).qwOp q 4 inactive)

end Sys2Proof.Machine
end

