-- ==== Sys2Proof/Machine/Synth.lean ====
section
/-! DEFINITION. Synthesizers, references and outputs (10): band tables, the outer loop, reference states and selection,
the ember, OSYN0 to 3 and PO0 to 7.

Choices (log entries): 57 DEDUCED, 58 DESIGN CHOICE, 59 DEDUCED, 62 DEDUCED, 63 DEDUCED. -/

namespace Sys2Proof.Machine

/-! ## Band tables (10 R299, R300) -/

/-- An entry of the factory band table of a synthesizer: DATA0 and DATA1 (10 R299). -/
def factoryBandEntry (synth i : Nat) : Nat × Nat :=
  (2 ^ 31 + (9064 + 21 * i) * 2 ^ 16 + (9000 + 21 * i), (Config.factoryBand synth i).toNat &&& 0x3F0FFF)

/-- An entry of the active band table of a synthesizer. -/
def State.bandEntry (s : State) (synth i : Nat) : Nat × Nat :=
  (mapGet (fun _ => none) s.syn.bands (64 * synth + i)).getD (factoryBandEntry synth i)

/-- The state with an entry of an active band table written. -/
def State.setBand (s : State) (synth i : Nat) (e : Nat × Nat) : State :=
  { s with syn := { s.syn with bands := mapSet (fun _ => none) s.syn.bands (64 * synth + i) (some e) } }

/-- The valid bits of DATA0 and DATA1 (10 R299). -/
def bandForm (e : Nat × Nat) : Nat × Nat := (e.1 &&& 0xBFFF3FFF, e.2 &&& 0x3F0FFF)

/-- A megahertz in units of 2^-16 Hz. -/
def mhzUnits : Nat := 1000000 * 2 ^ 16

/-- A band holds a VCO frequency, in 2^-16 Hz, with 10 MHz on both sides (10 R300). -/
def bandFits (e : Nat × Nat) (f : Nat) : Bool :=
  bitOf e.1 31 && decide ((fieldOf e.1 0 14 + 10) * mhzUnits ≤ f) && decide (f + 10 * mhzUnits ≤ fieldOf e.1 16 14 * mhzUnits)

/-- The lowest entry of a table that holds a frequency. -/
def firstBand (e : Nat → Nat × Nat) (f : Nat) : Option Nat := (List.range 64).find? fun i => bandFits (e i) f

/-- The band a synthesizer chooses for a VCO frequency, and whether it is of the factory table (10 R300). -/
def State.chooseBand (s : State) (synth f : Nat) : Option (Nat × Bool) :=
  match firstBand (s.bandEntry synth) f with
  | some i => some (i, false)
  | none => (firstBand (factoryBandEntry synth) f).map fun i => (i, true)

/-! ## The spine synthesizers (10 R296, R297) -/

/-- 0 for Hearth A, 1 for Hearth B. -/
def hearthIx : Hearth → Nat
  | .a => 0
  | .b => 1

/-- The other hearth. -/
def otherHearth : Hearth → Hearth
  | .a => .b
  | .b => .a

/-- The synthesizer of a hearth. -/
def State.synthOf (s : State) (h : Hearth) : Synth :=
  match h with
  | .a => s.syn.a
  | .b => s.syn.b

/-- The state with the synthesizer of a hearth replaced. -/
def State.setSynth (s : State) (h : Hearth) (v : Synth) : State :=
  match h with
  | .a => { s with syn := { s.syn with a := v } }
  | .b => { s with syn := { s.syn with b := v } }

/-- FREQ_WORD with the ember at exactly 2.5 GHz (10 R296). -/
def nominalWord : Nat := 100 * 2 ^ 40

/-- The VCO frequency of the spine in 2^-16 Hz (10 R296). -/
def spineVco : Nat := 10000 * mhzUnits

/-- A spine synthesizer starts its lock: it takes its band, from the factory table where `factory` (10 R300,
13 R365). -/
def State.startSpine (s : State) (h : Hearth) (factory : Bool) : State :=
  let x := hearthIx h
  let t := (s.fon (SYN_SPINE_STATUS_POWERED x)).foff (SYN_SPINE_STATUS_INNER_LOCK x)
  match (if factory then (firstBand (factoryBandEntry x) spineVco).map fun i => (i, true) else s.chooseBand x spineVco) with
  | none => t
  | some (i, f) =>
    let t := (t.fset (SYN_SPINE_STATUS_BAND x) i).fput (SYN_SPINE_STATUS_FACTORY_BAND x) f
    if f && !factory then t.fon SYN_EVENTS_BAND_FALLBACK_SEEN else t

/-- A spine synthesizer is switched off (10 R297). -/
def State.stopSpine (s : State) (h : Hearth) : State := s.setReg (SYN_SPINE_STATUS (hearthIx h)) 0

/-- FREQ_WORD of a hearth's synthesizer; 0 while it is not powered (10 R322). -/
def State.freqWord (s : State) (h : Hearth) : Nat :=
  if s.fbit (SYN_SPINE_STATUS_POWERED (hearthIx h)) then (s.synthOf h).word else 0

/-- The mode of SYN_SEL_STATUS: 0 FREE_RUN, 1 TRACKING, 2 PULLING, 3 EMBER_HOLD, 4 COAST (10 R297). -/
def State.spineMode (s : State) : Nat := s.fget SYN_SEL_STATUS_MODE

/-- The mode that is in force or, in COAST, will be when a synthesizer carries the spine (10 R297). -/
def State.nextMode (s : State) : Nat := if s.spineMode = 4 then s.syn.pendMode.getD 4 else s.spineMode

/-- The spine follows something new: in COAST the change waits for a synthesizer to carry the spine (10 R297). -/
def State.setSpineMode (s : State) (m : Nat) : State :=
  let t := if s.spineMode = 4 then { s with syn := { s.syn with pendMode := some m } } else s.fset SYN_SEL_STATUS_MODE m
  { t.foff SYN_SEL_STATUS_LOCK with syn := { t.syn with inRun := 0, outRun := 0 } }

/-! ## References (10 R304 to R306) -/

/-- SOURCE of an entry. -/
def State.refSource (s : State) (i : Nat) : Nat := s.fget (SYN_PRIO_SOURCE i)

/-- The source in use of an entry: entry 0x20 stands for the clock lane of the upstream (10 R304, R322). -/
def State.actualSource (s : State) (i : Nat) : Nat :=
  if s.refSource i = 0x20 then (if s.fbit LYD_STATUS_UP_VALID then 0x10 + s.fget LYD_STATUS_UPSTREAM_PG else 0x20)
  else s.refSource i

/-- The entry is VALID. -/
def State.refValid (s : State) (i : Nat) : Bool := s.fbit (SYN_PRIO_VALID i)

/-- An empty monitor. -/
def monEmpty : RefMon := ⟨.absent, 0, 0, 0, [], [], 0⟩

/-- The monitor of a source. -/
def State.monOf (s : State) (src : Nat) : RefMon := mapGet (fun _ => monEmpty) s.syn.mons src

/-- The state with the monitor of a source. -/
def State.setMon (s : State) (src : Nat) (m : RefMon) : State :=
  { s with syn := { s.syn with mons := mapSet (fun _ => monEmpty) s.syn.mons src m } }

/-- The state of an entry: that of its source (10 R305, R306). -/
def State.refState (s : State) (i : Nat) : RefState := if s.refValid i then (s.monOf (s.actualSource i)).st else .absent

/-- A VALID entry names the source. -/
def State.named (s : State) (src : Nat) : Bool := (List.range 32).any fun i => s.refValid i && decide (s.actualSource i = src)

/-- The source is monitored: REFIN0 to 3 and enabled clock lanes at all times, a data lane while a VALID entry names it
(10 R305). -/
def State.monitored (s : State) (src : Nat) : Bool :=
  if src < 4 then true
  else if 0x10 ≤ src && decide (src < 0x20) then s.hasClkl (src - 0x10) && s.fbit (CLKL_CTRL_ENABLE (src - 0x10))
  else if 0x40 ≤ src then s.named src
  else false

/-- The code of a state. -/
def refCode : RefState → Nat
  | .absent => 0
  | .disqualified => 1
  | .suspect => 2
  | .qualified => 3

/-- What the registers say of the activity of a source: a trunk's clock lane, a recovered clock; a REFIN is judged
outside (10 R305). -/
def State.sourceActive (s : State) (src : Nat) : Bool :=
  if src < 4 then true
  else if src < 0x20 then s.isTrunk (src - 0x10)
  else if src = 0x20 then s.fbit LYD_STATUS_UP_VALID && s.isTrunk (s.fget LYD_STATUS_UPSTREAM_PG)
  else
    let n := src - 0x40
    s.lbit (LANE_STATUS_SIGNAL n) && s.lbit (LANE_STATUS_CDR_LOCK n) && decide (s.lget (LANE_STATUS_RATE_FOUND n) ≠ 0)

/-- QUAL_S in force (10 R322). -/
def State.qualS (s : State) : Nat := max 1 (s.fget SYN_MON_CFG2_QUAL_S)

/-- DRIFT_WIN_S in force: even and at least 2 (10 R322). -/
def State.driftWin (s : State) : Nat := max 2 (s.fget SYN_MON_CFG2_DRIFT_WIN_S / 2 * 2)

/-- FREQ_HI. -/
def State.freqHi (s : State) : Nat := s.fget SYN_MON_CFG_FREQ_HI

/-- FREQ_LO in force (10 R322). -/
def State.freqLo (s : State) : Nat := min (s.fget SYN_MON_CFG_FREQ_LO) s.freqHi

/-! ## Selection (10 R308 to R310) -/

/-- The selected entry. -/
def State.selected (s : State) : Option Nat :=
  if s.fbit SYN_SEL_STATUS_ENTRY_VALID then some (s.fget SYN_SEL_STATUS_ENTRY) else none

/-- b of 10 R308: the lowest QUALIFIED entry. -/
def State.bestRef (s : State) : Option Nat :=
  (List.range 32).find? fun i => s.refValid i && decide (s.refState i = .qualified)

/-- NOM_HZ in force (10 R322). -/
def State.nomHz (s : State) (x : Nat) : Nat := clampNat 1 800000000 (s.fget (SYN_REFIN_NOM_NOM_HZ x))

/-- A phase in 10^-8 ps reduced modulo a period to the shorter way (10 R310). -/
def shorter (x : Int) (period : Nat) : Int :=
  let r := x.emod period
  if 2 * r ≤ period then r else r - period

/-- The phase a selection of an entry has to move, in 10^-8 ps; none where the phase found is kept (10 R310). -/
def State.pullOf (s : State) (i : Nat) : Option Int :=
  if s.refSource i < 4 && !s.fbit (SYN_PRIO_BUILD_OUT i) then
    some (shorter (Config.refPhase i s.now) (10 ^ 20 / s.nomHz (s.refSource i)))
  else none

/-- FREQ_WORD of the token's holder. -/
def State.holderWord (s : State) : Nat :=
  match s.hrt.holder with
  | some h => (s.synthOf h).word
  | none => nominalWord

/-- The loop goes on from the present frequency: the integrator of the holder's synthesizer takes it (10 R310). -/
def State.loadLoop (s : State) : State :=
  match s.hrt.holder with
  | some h => s.setSynth h { s.synthOf h with integrator := ((s.synthOf h).word : Int) - nominalWord }
  | none => s

/-- The phase of an entry is met anew: a pull from the phase of this moment, or TRACKING at once (10 R310, R311). -/
def State.followRef (s : State) (i : Nat) : State :=
  let p := (s.pullOf i).getD 0
  let s := s.loadLoop
  let t := { s with syn := { s.syn with pull := p, followed := true, wordHist := [] } }
  let t := t.setSpineMode (if p = 0 then 1 else 2)
  t.fset SYN_SEL_STATUS_SOURCE (t.actualSource i)

/-- An entry is selected; a selection of a different entry counts (10 R309). -/
def State.selectRef (s : State) (i : Nat) : State :=
  if s.selected = some i then s
  else
    let t := (s.fcount SYN_EVENTS_SWITCH_CNT 1).fon SYN_EVENTS_SWITCH_SEEN
    ((t.fset SYN_SEL_STATUS_ENTRY i).fon SYN_SEL_STATUS_ENTRY_VALID).followRef i

/-- The mean of FREQ_WORD over the 16 s that ended 1 s ago, where the spine has tracked long enough (10 R314). -/
def meanWord (h : List Nat) (word : Nat) : Nat := if h.length < 17 then word else ((h.drop 1).take 16).sum / 16

/-- No entry stays selected. -/
def State.deselect (s : State) : State :=
  { (s.foff SYN_SEL_STATUS_ENTRY_VALID) with syn := { s.syn with pull := 0, wordHist := [] } }

/-- FREQ_WORD of the token's holder is set. -/
def State.setHolderWord (s : State) (w : Nat) : State :=
  match s.hrt.holder with
  | some h => s.setSynth h { s.synthOf h with word := w % 2 ^ 48 }
  | none => s

/-- The words of GLB_TEMP0 to 8. -/
def State.tempWords (s : State) : List Nat := (List.range 9).map fun i => s.getReg (GLB_TEMP i)

/-- A sensor's word is valid. -/
def tempValid (w : Nat) : Bool := bitOf w 31

/-- A sensor's reading in 1/16 degree. -/
def tempOf (w : Nat) : Int := signedOf 16 w

/-- The sum and number of the valid sensors among some. -/
def validSum (ws : List Nat) (ixs : List Nat) : Int × Nat :=
  (ixs.filter fun i => tempValid (ws.getD i 0)).foldl (fun a i => (a.1 + tempOf (ws.getD i 0), a.2 + 1)) (0, 0)

/-- The ember's temperature in 1/16 degree: GLB_TEMP7, or, while it is invalid, the mean of the valid sensors among
GLB_TEMP0 to 5 (10 R312, 12 R340, R342). -/
def State.emberTemp (s : State) : Int :=
  let m := validSum s.tempWords (List.range 6)
  if tempValid (s.getReg (GLB_TEMP 7)) || decide (m.2 = 0) then s.fint (GLB_TEMP_TEMP 7) else s.freeDiv m.1 m.2

/-- The spine enters EMBER_HOLD (10 R309, R314); the flag raises the REFERENCE alarm (16 R428). -/
def State.enterHold (s : State) : State :=
  if s.nextMode = 3 then s.deselect
  else
    let w := meanWord s.syn.wordHist s.holderWord
    let t := ((s.deselect.setHolderWord w).setSpineMode 3).seen SYN_EVENTS_HOLD_ENTER_SEEN .reference
    { t with syn := { t.syn with holdWord := w, holdSince := t.now, holdTemp := t.emberTemp } }

/-- No reference is followed (10 R309). -/
def State.noReference (s : State) : State :=
  if s.syn.followed then s.enterHold
  else if s.nextMode = 0 then s.deselect else s.deselect.setSpineMode 0

/-- Selection runs (10 R308). -/
def State.selecting (s : State) : Bool := s.fbit SYN_CTRL_SEL_EN && !s.fbit SYN_CTRL_FORCE_HOLD

/-- The best entry is selected, or the spine enters EMBER_HOLD. -/
def State.selectBest (s : State) : State :=
  match s.bestRef with
  | some b => s.selectRef b
  | none => s.enterHold

/-- The rules of selection applied to the states, the table and the control fields as they are (10 R308, R309). -/
def State.runSelection (s : State) : State :=
  if s.fbit SYN_CTRL_FORCE_HOLD then s.enterHold
  else if !s.fbit SYN_CTRL_SEL_EN then s.noReference
  else
    match s.selected with
    | none => (match s.bestRef with | some b => s.selectRef b | none => s)
    | some c =>
      if !s.refValid c then s.selectBest
      else
        match s.refState c with
        | .absent => s.selectBest
        | .disqualified => s.selectBest
        | .suspect =>
          if s.fbit SYN_CTRL_SUSPECT_ACT then
            if s.bestRef.isNone && s.fbit SYN_EMB_STATUS_UNLEARNED then s else s.selectBest
          else s
        | .qualified =>
          (match s.bestRef with
            | some b => if b < c ∧ s.fbit (SYN_PRIO_REVERTIVE b) then s.selectRef b else s
            | none => s)

/-- A calibration holds the outer loop (10 R311, 12 R346). -/
def State.loopHeld (s : State) : Bool := s.heldGroup 4 || s.heldGroup 5

/-- What a calibration does not hold back: FORCE_HOLD, SEL_EN 0, and a selected entry that is ABSENT or DISQUALIFIED
(10 R309, R311). -/
def State.selectNow (s : State) : Bool :=
  !s.selecting || s.selected.any fun c => decide (s.refState c = .absent) || decide (s.refState c = .disqualified)

/-- Selection runs now, or at the end of the calibration that holds the loop (10 R311). -/
def State.reselect (s : State) : State :=
  if s.loopHeld && !s.selectNow then { s with syn := { s.syn with selectionDue := true } } else s.runSelection

/-- A state is in use: SUSPECT or QUALIFIED. -/
def refUsable : RefState → Bool
  | .suspect => true
  | .qualified => true
  | _ => false

/-- The flags of a move of an entry (10 R306); they raise the REFERENCE alarm (16 R428). -/
def State.moveFlags (s : State) (o n : RefState) : State :=
  let t := if refUsable o && !refUsable n then s.seen SYN_EVENTS_DISQ_SEEN .reference else s
  if n = .suspect ∧ o ≠ .suspect then t.seen SYN_EVENTS_SUSPECT_SEEN .reference else t

/-- The VALID entry of source 0x20. -/
def State.upEntry (s : State) : Option Nat := (List.range 32).find? fun i => s.refValid i && decide (s.refSource i = 0x20)

/-- The state of entry 0x20 is noted. -/
def State.noteUp (s : State) : State :=
  { s with syn := { s.syn with upState := (s.upEntry.map s.refState).getD .absent } }

/-- A source takes a state, with the flags of the entries that name it and its qualification time (10 R306). -/
def State.putRefState (s : State) (src : Nat) (n : RefState) : State :=
  let m := s.monOf src
  let t := s.setMon src { m with
    st := n, left := if n = .disqualified then s.qualS else 0, calm := 0
    window := if n = .absent then [] else m.window }
  (if t.named src then t.moveFlags m.st n else t).noteUp

/-- No change of a source waits for the end of a calibration. -/
def State.undefer (s : State) (src : Nat) : State :=
  { s with syn := { s.syn with deferred := s.syn.deferred.filter fun d => decide (d.1 ≠ src) } }

/-- A source moves to a state and selection follows; during a calibration that holds the loop only moves to ABSENT and
DISQUALIFIED act at once (10 R306, R311). -/
def State.setRefState (s : State) (src : Nat) (n : RefState) : State :=
  if (s.monOf src).st = n then s
  else if s.loopHeld && refUsable n then
    { s.undefer src with syn := { s.syn with deferred := (s.undefer src).syn.deferred ++ [(src, n)] } }
  else ((s.undefer src).putRefState src n).reselect

/-- The selected entry goes on with a source that has changed, with the phase found where it is a lane (10 R311). -/
def State.followChanged (s : State) : State :=
  match s.selected with
  | some i => if s.fget SYN_SEL_STATUS_SOURCE ≠ s.actualSource i then s.followRef i else s
  | none => s

/-- The changes that a calibration held back are applied (10 R311). -/
def State.applyDeferred (s : State) : State :=
  let d := s.syn.deferred
  let due := s.syn.selectionDue || !d.isEmpty
  let t := { s with syn := { s.syn with deferred := [], selectionDue := false, reevalDue := false } }
  let t := d.foldl (fun u e => if (u.monOf e.1).st = e.2 then u else u.putRefState e.1 e.2) t
  let t := if due then t.runSelection.followChanged else t
  if s.syn.reevalDue && t.selecting then (match t.bestRef with | some b => t.selectRef b | none => t) else t

/-- A source stops being active: it becomes ABSENT (10 R305, R306). -/
def State.sourceDown (s : State) (src : Nat) : State := s.setRefState src .absent

/-- A monitored source becomes active: it leaves ABSENT (10 R306). -/
def State.sourceUp (s : State) (src : Nat) : State :=
  if s.monitored src && decide ((s.monOf src).st = .absent) then s.setRefState src .disqualified else s

/-- Entry 0x20 changes lane (10 R305, R311): it takes the state of the new lane's monitor, selection runs, and where it
is selected the new lane is followed with the phase found, at the end of a calibration that holds the loop. -/
def State.upstreamMoved (s : State) : State :=
  match s.upEntry with
  | none => s
  | some i =>
    let t := (s.moveFlags s.syn.upState (s.refState i)).noteUp
    let t := t.reselect
    if t.loopHeld then { t with syn := { t.syn with selectionDue := true } } else t.followChanged

/-- REF_ACTIVE (10 R305, R306). -/
def execRefActive (entry : Fin 32) (s : State) : Host.Outcome State Fault Refusal :=
  let src := s.actualSource entry.val
  whenUp s (if s.sourceActive src then s.sourceUp src else s)

/-- REF_LOSS (10 R305, R306). -/
def execRefLoss (entry : Fin 32) (s : State) : Host.Outcome State Fault Refusal :=
  let src := s.actualSource entry.val
  whenUp s (if s.monitored src then s.sourceDown src else s)

/-- REF_FREQ_UPDATE (10 R305, R306): the average is shown and judged. -/
def execRefFreqUpdate (entry : Fin 32) (ofs : Int) (s : State) : Host.Outcome State Fault Refusal :=
  let src := s.actualSource entry.val
  let m := s.monOf src
  whenUp s (
    if !s.monitored src || decide (m.st = .absent) then s
    else
      let m := { m with ofs := satSigned 16 ofs }
      if m.st = .disqualified then
        if s.freqLo ≤ ofs.natAbs then (s.setMon src { m with left := s.qualS }).undefer src else s.setMon src m
      else if s.freqHi < ofs.natAbs then (s.setMon src m).setRefState src .disqualified
      else s.setMon src m)

/-- REF_QUALIFIED (10 R306): the qualification time has passed without a failed check; its last second may still be
shown. -/
def execRefQualified (entry : Fin 32) (s : State) : Host.Outcome State Fault Refusal :=
  let src := s.actualSource entry.val
  let m := s.monOf src
  whenUp s (
    if s.monitored src && decide (m.st = .disqualified) && decide (m.left ≤ 1) && decide (m.ofs.natAbs < s.freqLo) then
      s.setRefState src .qualified
    else s)

/-- A write of REEVAL (10 R308, R311): the best entry is selected, REVERTIVE notwithstanding. -/
def State.reeval (s : State) : State :=
  if !s.selecting then s
  else if s.loopHeld then { s with syn := { s.syn with reevalDue := true } }
  else match s.bestRef with | some b => s.selectRef b | none => s

/-- SYN_REEVAL (10 R308). -/
def execSynReeval (s : State) : Host.Outcome State Fault Refusal := whenUp s s.reeval

/-! ## The drift test (10 R307) -/

/-- Insertion of a number into an ascending list. -/
def insertInt (x : Int) : List Int → List Int
  | [] => [x]
  | y :: r => if x ≤ y then x :: y :: r else y :: insertInt x r

/-- Twice the median of a list: the middle one doubled, or the sum of the two in the middle. -/
def twiceMedian (xs : List Int) : Int :=
  let v := xs.foldl (fun a x => insertInt x a) []
  let n := v.length
  if n % 2 = 1 then 2 * v.getD (n / 2) 0 else v.getD (n / 2 - 1) 0 + v.getD (n / 2) 0

/-- The sources that form the basis of a source: those of the QUALIFIED entries with another source when there are at
least two; none for the ember path (10 R307). -/
def State.basisOf (s : State) (src : Nat) : List Nat :=
  let others := ((List.range 32).filter fun j => s.refValid j && decide (s.refState j = .qualified)).map s.actualSource
  let others := (others.filter fun x => decide (x ≠ src)).eraseDups
  if 2 ≤ others.length then others else []

/-- Twice y of a source in this second, in ppb (10 R307). -/
def State.driftY (s : State) (src : Nat) (basis : List Nat) : Int :=
  2 * (s.monOf src).ofs - (if basis.isEmpty then 0 else twiceMedian (basis.map fun x => (s.monOf x).ofs))

/-- The drift of a full window of 2 h values of 2 y, newest first, in 10^-12 per second, towards zero (10 R307). -/
def driftOf (window : List Int) (h : Nat) : Int :=
  (((window.take h).sum - ((window.drop h).take h).sum) * 500).tdiv (h * h : Nat)

/-- DRIFT_LIM in force against a basis (10 R307). -/
def State.driftLim (s : State) (ember : Bool) : Nat :=
  (if ember && s.fbit SYN_EMB_STATUS_UNLEARNED then 4 else 1) * s.fget SYN_MON_CFG2_DRIFT_LIM

/-- The drift window of a source is full under the present basis (10 R307, R322). -/
def State.windowFull (s : State) (src : Nat) : Bool :=
  decide ((s.monOf src).basis = s.basisOf src) && decide (s.driftWin ≤ (s.monOf src).window.length)

/-- The window of a source takes this second. Answers the drift where the window is full (10 R307). -/
def State.driftSample (s t : State) (src : Nat) : State × Option Int :=
  let basis := s.basisOf src
  let m := t.monOf src
  let w := ((s.driftY src basis) :: (if m.basis = basis then m.window else [])).take s.driftWin
  let d := if w.length = s.driftWin then some (driftOf w (s.driftWin / 2)) else none
  (t.setMon src { m with window := w, basis := basis, drift := (d.map (satSigned 16)).getD m.drift }, d)

/-- A source is judged for a second: the drift test, the qualification time, the calm seconds of SUSPECT
(10 R306, R307). -/
def State.driftJudge (s t : State) (src : Nat) : State :=
  let (u, d) := s.driftSample t src
  let lim := s.driftLim (s.basisOf src).isEmpty
  let fails := match d with | some x => decide (lim < x.natAbs) | none => false
  let ofs := (s.monOf src).ofs.natAbs
  let m := u.monOf src
  match m.st with
  | .absent => u
  | .disqualified =>
    if fails || decide (s.freqLo ≤ ofs) then (u.setMon src { m with left := s.qualS }).undefer src
    else u.setMon src { m with left := m.left - 1 }
  | .qualified => if fails then u.setRefState src .suspect else u
  | .suspect =>
    let calm := match d with | some x => if 2 * x.natAbs ≤ lim then m.calm + 1 else 0 | none => 0
    let u := u.setMon src { m with calm := calm }
    if s.driftWin ≤ calm ∧ ofs < s.freqHi then u.setRefState src .qualified else u

/-- DRIFT_TEST (10 R307): every source that is not ABSENT, against the bases of this second; and the second's sample of
FREQ_WORD while the spine tracks (10 R314). -/
def execDriftTest (s : State) : Host.Outcome State Fault Refusal :=
  whenUp s (
    let hist := if s.spineMode = 1 then (s.holderWord :: s.syn.wordHist).take 17 else []
    let t := { s with syn := { s.syn with wordHist := hist } }
    ((s.syn.mons.filter fun e => decide (e.2.st ≠ .absent)).map fun e => e.1).foldl (fun u src => s.driftJudge u src) t)

/-! ## The outer loop (10 R296, R302, R304) -/

/-- The comparison period of a source in ps (10 R304). -/
def State.comparePs (s : State) (src : Nat) : Nat :=
  if src < 4 then
    let f := s.nomHz src
    if 1000000 ≤ f then f / 1000000 * 10 ^ 12 / f else 10 ^ 12 / f
  else if src < 0x40 then 16000000
  else 640000

/-- The pull slope S in units of 10 ps/s (10 R322). -/
def State.pullSlope (s : State) : Nat := clampNat 1 10000 (s.fget SYN_CTRL_PULL_SLOPE)

/-- A signed number moved towards zero by at most n. -/
def towardZero (x : Int) (n : Nat) : Int := if 0 ≤ x then max 0 (x - n) else min 0 (x + n)

/-- LOCK_WIN_PS in force. -/
def State.lockWin (s : State) : Nat := max 1 (s.fget SYN_LOCK_CFG_LOCK_WIN_PS)
/-- LOCK_CNT in force. -/
def State.lockCnt (s : State) : Nat := max 1 (s.fget SYN_LOCK_CFG_LOCK_CNT)

/-- The outer loop's lock after a comparison in TRACKING (10 R302). -/
def State.outerLock (s : State) (phase : Int) : State :=
  let inn := if phase.natAbs ≤ s.lockWin then s.syn.inRun + 1 else 0
  let out := if 4 * s.lockWin < phase.natAbs then s.syn.outRun + 1 else 0
  let t := { s with syn := { s.syn with inRun := min inn s.lockCnt, outRun := min out 4 } }
  if s.fbit SYN_SEL_STATUS_LOCK then
    if 4 ≤ out then (t.foff SYN_SEL_STATUS_LOCK).seen SYN_EVENTS_LOCK_LOST_SEEN .reference else t
  else if s.lockCnt ≤ inn then t.fon SYN_SEL_STATUS_LOCK
  else t

/-- The loop bandwidth of an entry in nHz: 2^BW mHz, at most one twentieth of the comparison rate (10 R304). -/
def State.loopBw (s : State) (i : Nat) : Nat :=
  min (2 ^ s.fget (SYN_PRIO_BW i) * 10 ^ 6) (5 * 10 ^ 19 / max 1 (s.comparePs (s.actualSource i)))

/-- The pull slope in units of FREQ_WORD: the spine's phase never moves faster against the reference (10 R296, R310). -/
def State.slopeWord (s : State) : Nat := nominalWord * s.pullSlope / 10 ^ 11

/-- The holder's synthesizer after a comparison (10 R296, R310): in TRACKING the loop's proportional part, at most the
pull slope, moves the phase, and in PULLING exactly the slope; the aligner moves at most 1 ps. `dir`: the sign of the
pull. -/
def State.loopStep (s : State) (i : Nat) (phase dir : Int) : State :=
  match s.hrt.holder with
  | none => s
  | some h =>
    let y := s.synthOf h
    let r := Config.outerLoop (s.loopBw i) (s.comparePs (s.actualSource i)) phase y.integrator
    let lim : Int := s.slopeWord
    let p := if dir = 0 then max (-lim) (min lim r.1) else dir * lim
    s.setSynth h ⟨(((nominalWord : Int) + r.2.1 + p).emod (2 ^ 48 : Nat)).toNat, r.2.1,
      (y.aligner + max (-1) (min 1 r.2.2)).emod 1000⟩

/-- How far a pull gets in one comparison period of an entry, in 10^-8 ps (10 R310). -/
def State.pullStep (s : State) (i : Nat) : Nat := s.pullSlope * s.comparePs (s.actualSource i) / 1000

/-- The pull has reached its target (10 R310). -/
def State.endPull (s : State) : State := ({ s with syn := { s.syn with pull := 0 } }).setSpineMode 1

/-- OUTER_LOOP_COMPARE (10 R296, R302, R304, R310): a calibration of the timing paths holds the loop (R311). -/
def execOuterLoopCompare (phase : Int) (s : State) : Host.Outcome State Fault Refusal :=
  whenUp s (
    match s.selected with
    | none => s
    | some i =>
      if s.loopHeld then s
      else if s.spineMode = 1 then (s.loopStep i phase 0).outerLock phase
      else if s.spineMode = 2 then
        let t := s.loopStep i phase s.syn.pull.sign
        let rest := towardZero t.syn.pull (t.pullStep i)
        if rest = 0 then t.endPull else { t with syn := { t.syn with pull := rest } }
      else s)

/-- PULL_DONE (10 R310): the pull reaches its target before the next comparison, so at most one comparison's part of it
is left. -/
def execPullDone (s : State) : Host.Outcome State Fault Refusal :=
  whenUp s (
    if s.spineMode = 2 ∧ !s.loopHeld ∧ s.syn.pull.natAbs ≤ s.selected.elim 0 s.pullStep then s.endPull else s)

/-- SYN_PULL_REMAIN in ps; 0 outside PULLING (10 R310, R322). -/
def State.pullRemain (s : State) : Int := if s.spineMode = 2 then s.syn.pull.tdiv 100000000 else 0

/-! ## The ember (10 R312 to R316) -/

/-- EMBER_LEARN_SECOND (10 R313). -/
def execEmberLearnSecond (s : State) : Host.Outcome State Fault Refusal :=
  whenUp s (
    match s.selected with
    | none => s
    | some i =>
      if s.spineMode = 1 ∧ s.fbit SYN_SEL_STATUS_LOCK ∧ s.refState i = .qualified ∧ !s.fbit CAL_STATUS_RUNNING then
        let n := min 86400 (s.fget SYN_EMB_STATUS_LEARN_S + 1)
        let t := { s with syn := { s.syn with fit := s.syn.fit + 1 } }
        let t := t.fset SYN_EMB_STATUS_LEARN_S n
        if n = 86400 then t.foff SYN_EMB_STATUS_UNLEARNED else t
      else s)

/-- The model's value: the resonator's predicted offset at a temperature in 1/16 degree and an age in seconds, a cubic and
a linear term (10 R312), in units of 10^-18. -/
def emberModel (fit : Nat) (temp : Int) (age : Nat) : Int :=
  let c := Config.emberCoef fit
  c 0 + c 1 * temp + c 2 * temp * temp + c 3 * temp * temp * temp + c 4 * age

/-- Seconds since the spine started, as the model counts age. -/
def ageOf (now : Nat) : Nat := now / nsPerSec

/-- What the ember path's own divider corrects, which feeds the spine in COAST: the model's value now (10 R312). -/
def State.emberNow (s : State) : Int := emberModel s.syn.fit s.emberTemp (ageOf s.now)

/-- FREQ_WORD corrected for an offset of the ember in 10^-18; the spec gives no rounding. -/
def State.wordFor (s : State) (word : Nat) (offset : Int) : Nat :=
  ((word : Int) - s.freeDiv (nominalWord * offset) (10 ^ 18)).emod (2 ^ 48 : Nat) |>.toNat

/-- The ember model's correction of FREQ_WORD: in EMBER_HOLD by the predicted change since entry, in FREE_RUN by the
prediction itself (10 R312, R314). -/
def State.emberCorrect (s : State) : State :=
  if s.spineMode = 3 then
    let d := s.emberNow - emberModel s.syn.fit s.syn.holdTemp (ageOf s.syn.holdSince)
    (s.setHolderWord (s.wordFor s.syn.holdWord d)).useFree
  else if s.spineMode = 0 then (s.setHolderWord (s.wordFor nominalWord s.emberNow)).useFree
  else s

/-- The time core enters HOLDOVER: the growth of its error starts (10 R316). -/
def State.startGrowth (s : State) : State :=
  { s with syn := { s.syn with timeHoldSince := s.now, timeHoldTemp := s.emberTemp, excursion := 0 } }

/-- Y in units of 1/16 ps/s: 300 ps/s, 100 more for each kelvin of the excursion beyond half a kelvin, 5,000 while the
ember is UNLEARNED (10 R315). -/
def State.growthY (s : State) : Nat :=
  if s.fbit SYN_EMB_STATUS_UNLEARNED then 80000 else 4800 + 100 * (s.syn.excursion - 8)

/-- GROWTH_PS (10 R315, R316): Y t + D t^2 / 2, with D / 2 = 0.032 ps/s^2. -/
def State.growthPs (s : State) : Nat :=
  if s.timeMode = .holdover then
    let t := s.now - s.syn.timeHoldSince
    min 0xFFFFFFFE ((s.growthY * t * 10 ^ 12 + 512 * t * t) / (16 * 10 ^ 21))
  else 0

/-! ## Output synthesizers and pulse outputs (10 R303, R317 to R321) -/

/-- f_o of an OSYN in 2^-16 Hz (10 R317). -/
def State.osynFreq (s : State) (j : Nat) : Nat :=
  clampNat 1000000 200000000 (s.fget (SYN_OSYN_FREQ_FREQ_HZ j)) * 2 ^ 16 + s.fget (SYN_OSYN_CFG_FREQ_FRAC j)

/-- The smallest divider from d on, within a number of tries, for which f times it lies in a band of a table. -/
def findDiv (e : Nat → Nat × Nat) (f : Nat) : Nat → Nat → Option (Nat × Nat)
  | 0, _ => none
  | fuel + 1, d =>
    match firstBand e (f * d) with
    | some i => some (d, i)
    | none => findDiv e f fuel (d + 1)

/-- The first divider worth trying: below it f_o D stays under every band (10 R299, R317). -/
def firstDiv (f : Nat) : Nat := (9000 * mhzUnits + f - 1) / f

/-- How many dividers are worth trying (10 R299, R317). -/
def divTries (f : Nat) : Nat := 1400 * mhzUnits / f + 1

/-- Divider, band and whether the band is of the factory table (10 R300, R317). -/
def State.osynChoice (s : State) (j : Nat) : Option (Nat × Nat × Bool) :=
  let f := s.osynFreq j
  match findDiv (s.bandEntry (j + 2)) f (divTries f) (firstDiv f) with
  | some (d, i) => some (d, i, false)
  | none => (findDiv (factoryBandEntry (j + 2)) f (divTries f) (firstDiv f)).map fun x => (x.1, x.2, true)

/-- A PO's OSYN. -/
def State.poOsyn (s : State) (n : Nat) : Nat := s.fget (SYN_PO_CFG_OSYN n)

/-- A PO is enabled. -/
def State.poOn (s : State) (n : Nat) : Bool := s.fbit (SYN_PO_CFG_ENABLE n)

/-- Time base minus time core of an OSYN in 2^-48 ns. -/
def State.baseOf (s : State) (j : Nat) : Int := s.syn.bases.getD j 0

/-- The state with the difference of an OSYN's time base. -/
def State.setBase (s : State) (j : Nat) (d : Int) : State :=
  { s with syn := { s.syn with bases := s.syn.bases.set j d } }

/-- PERIOD_NS in force (10 R318). -/
def State.poPeriod (s : State) (n : Nat) : Nat :=
  let p := s.fget (SYN_PO_PERIOD_PERIOD_NS n)
  if p = 0 ∨ nsPerSec < p then nsPerSec else p

/-- The output time base of a PO's OSYN in 2^-48 ns (10 R318). -/
def State.poBase (s : State) (n : Nat) : Int := (s.time.clock : Int) + s.baseOf (s.poOsyn n)

/-- A time of the registers as it acts: PHASE_NS and WIDTH_NS at or above the period act as the period less one OSYN
period, rounded down (10 R318). -/
def State.poNs (s : State) (n v : Nat) : Nat :=
  let p := s.poPeriod n
  let f := s.osynFreq (s.poOsyn n)
  if p ≤ v then (p * f - nsPerSec * 2 ^ 16) / f else v

/-- One second in units of 2^-48 ns and 2^-16 Hz: one period of f_o lasts this divided by f_o. -/
def cycleUnits : Nat := 2 ^ 16 * nsPerSec * unitsPerNs

/-- The quotient rounded up. -/
def ceilDiv (a : Int) (b : Nat) : Int := -((-a).fdiv b)

/-- The first OSYN edge at or after a time (10 R318). -/
def State.osynEdge (s : State) (j : Nat) (x : Int) : Int :=
  let f := s.osynFreq j
  (ceilDiv (x * f) cycleUnits * cycleUnits).fdiv f

/-- The distance of clock-mode edges in 2^-48 ns times f_o (10 R318). -/
def State.clockSpan (s : State) (n : Nat) : Nat := max 1 (s.fget (SYN_PO_CFG_DIV n)) * cycleUnits

/-- The rising edge that an alignment places in clock mode: the next time base value that is PHASE_NS past a whole second
(10 R318). -/
def State.anchorFor (s : State) (n : Nat) : Int :=
  let t := s.poBase n
  t + ((s.fget (SYN_PO_PHASE_PHASE_NS n) * unitsPerNs : Int) - t).emod (nsPerSec * unitsPerNs : Nat)

/-- The next rising edge of a PO at or after a time of its time base (10 R318). -/
def State.nextTarget (s : State) (n : Nat) (t : Int) : Int :=
  let j := s.poOsyn n
  if s.fbit (SYN_PO_CFG_MODE n) then
    let ph := (s.poNs n (s.fget (SYN_PO_PHASE_PHASE_NS n)) * unitsPerNs : Int)
    s.osynEdge j (t + (ph - t).emod (s.poPeriod n * unitsPerNs : Nat))
  else
    let a := s.syn.poAnchor.getD n 0
    if t ≤ a then a
    else a + (ceilDiv ((t - a) * s.osynFreq j) (s.clockSpan n) * s.clockSpan n).fdiv (s.osynFreq j)

/-- The time base from which a PO runs. -/
def State.setPoStart (s : State) (n : Nat) (t : Int) : State :=
  { s with syn := { s.syn with poStart := s.syn.poStart.set n t } }

/-- A case of 10 R321 holds. -/
def State.poGateCause (s : State) (n : Nat) : Bool :=
  let j := s.poOsyn n
  !s.fbit (SYN_OSYN_CFG_ENABLE j) || !s.fbit (SYN_OSYN_STATUS_LOCK j) || s.syn.refLost.contains j
    || s.fbit (SYN_PO_STATUS_ALIGNING n)
    || (s.fbit (SYN_PO_CFG_GATE_UNLOCKED n) && decide (s.timeMode ≠ .locked))

/-- GATED and RUNNING of a PO follow the cases of 10 R321; where they clear, it runs from its next target edge. -/
def State.refreshPo (s : State) (n : Nat) : State :=
  if s.poOn n then
    let g := s.poGateCause n
    let t := if g && !s.fbit (SYN_PO_STATUS_GATED n) then s.fon (SYN_PO_STATUS_GATED_SEEN n) else s
    let t := if !g && !s.fbit (SYN_PO_STATUS_RUNNING n) then t.setPoStart n (t.nextTarget n (t.poBase n)) else t
    (t.fput (SYN_PO_STATUS_GATED n) g).fput (SYN_PO_STATUS_RUNNING n) (!g)
  else
    let t := ((s.foff (SYN_PO_STATUS_GATED n)).foff (SYN_PO_STATUS_RUNNING n)).foff (SYN_PO_STATUS_ALIGNING n)
    { t with syn := { t.syn with poAligned := t.syn.poAligned.set n false } }

/-- GATED and RUNNING of every PO follow. -/
def State.refreshPos (s : State) : State := (List.range 8).foldl (fun t n => t.refreshPo n) s

/-- What a PO ball shows (10 R318, R321, 02 R68). -/
inductive PoPin where
  | highZ | low | high
  deriving DecidableEq, Repr

/-- A PO drives its edges: it is not gated and its first target edge has come (10 R321). -/
def State.poRuns (s : State) (n : Nat) : Bool :=
  s.poOn n && s.fbit (SYN_PO_STATUS_RUNNING n) && decide (s.syn.poStart.getD n 0 ≤ s.poBase n)

/-- The level of a running PO: a pulse of WIDTH_NS from each target, each edge on an OSYN edge, or a square wave
(10 R318). -/
def State.poWave (s : State) (n : Nat) : Bool :=
  let j := s.poOsyn n
  let t := s.poBase n
  if s.fbit (SYN_PO_CFG_MODE n) then
    let p : Int := (s.poPeriod n * unitsPerNs : Nat)
    let ph := (s.poNs n (s.fget (SYN_PO_PHASE_PHASE_NS n)) * unitsPerNs : Int)
    let w := (s.poNs n (s.fget (SYN_PO_WIDTH_WIDTH_NS n)) * unitsPerNs : Int)
    let r := t - (t - ph).emod p
    [r, r - p].any fun x => decide (s.osynEdge j x ≤ t) && decide (t < s.osynEdge j (x + w))
  else
    let x := (t - s.syn.poAnchor.getD n 0) * s.osynFreq j
    decide (0 ≤ x) && decide (2 * x.emod (s.clockSpan n) < s.clockSpan n)

/-- What a PO ball shows: high impedance with ENABLE 0, low while gated or before its first edge (10 R321). -/
def State.poPin (s : State) (n : Nat) : PoPin :=
  if !s.poOn n then .highZ else if s.poRuns n && s.poWave n then .high else .low

/-- The VCO frequency of an output synthesizer in units of 2^-64 Hz: f_o D (1 + rho) (10 R317). -/
def State.osynVco (s : State) (j : Nat) : Int :=
  (s.osynFreq j * s.fget (SYN_OSYN_STATUS_DIV j) : Int) * ((2 ^ 48 : Nat) + s.syn.rho)

/-- The difference of a PO's time base and the time core, to the shorter way modulo its period, in 2^-48 ns
(10 R320). -/
def State.poErrUnits (s : State) (n : Nat) : Int :=
  let d := s.baseOf (s.poOsyn n)
  if s.fbit (SYN_PO_CFG_MODE n) then shorter d (s.poPeriod n * unitsPerNs)
  else
    let f := s.osynFreq (s.poOsyn n)
    (shorter (d * f) (max 1 (s.fget (SYN_PO_CFG_DIV n)) * 2 ^ 16 * nsPerSec * unitsPerNs)).tdiv f

/-- ERR_PS of a PO (10 R320). -/
def State.poErrPs (s : State) (n : Nat) : Int := satSigned 32 ((s.poErrUnits n * 1000).tdiv (2 ^ 48))

/-- MISALIGNED of a PO follows ERR_PS (10 R320). -/
def State.refreshAlign (s : State) (n : Nat) : State :=
  let bad := decide (100 < (s.poErrPs n).natAbs)
  let t := if bad && !s.fbit (SYN_PO_STATUS_MISALIGNED n) then s.fon (SYN_PO_STATUS_MISALIGN_SEEN n) else s
  t.fput (SYN_PO_STATUS_MISALIGNED n) bad

/-- MISALIGNED of every PO follows. -/
def State.refreshAligns (s : State) : State := (List.range 8).foldl (fun t n => t.refreshAlign n) s

/-- An OSYN starts its lock: enabled, or with a new frequency (10 R300, R303, R317). -/
def State.startOsyn (s : State) (j : Nat) : State :=
  let t := { s.foff (SYN_OSYN_STATUS_LOCK j) with syn := { s.syn with refLost := s.syn.refLost.filter fun k => decide (k ≠ j) } }
  let t := match s.osynChoice j with
    | none => t
    | some (d, i, f) =>
      let t := ((t.fset (SYN_OSYN_STATUS_DIV j) d).fset (SYN_OSYN_STATUS_BAND j) i).fput (SYN_OSYN_STATUS_FACTORY_BAND j) f
      if f then t.fon SYN_EVENTS_BAND_FALLBACK_SEEN else t
  t.refreshPos

/-- An OSYN is switched off. -/
def State.stopOsyn (s : State) (j : Nat) : State :=
  let s := { s with syn := { s.syn with refLost := s.syn.refLost.filter fun k => decide (k ≠ j) } }
  (((s.foff (SYN_OSYN_STATUS_LOCK j)).fset (SYN_OSYN_STATUS_DIV j) 0).fset (SYN_OSYN_STATUS_BAND j) 0).foff
    (SYN_OSYN_STATUS_FACTORY_BAND j) |>.refreshPos

/-- A PO is gated off to be re-phased (10 R318, R320). -/
def State.realignPo (s : State) (n : Nat) : State :=
  let t := { s with syn := { s.syn with poAnchor := s.syn.poAnchor.set n (s.anchorFor n) } }
  (t.fon (SYN_PO_STATUS_ALIGNING n)).refreshPo n

/-- The time base of an OSYN takes the time core, and every PO bound to it is re-phased (10 R320). -/
def State.alignOsyn (s : State) (j : Nat) : State :=
  ((List.range 8).foldl (fun t n => if t.poOn n && decide (t.poOsyn n = j) then t.realignPo n else t)
    (s.setBase j 0)).refreshAligns

/-- PO_ALIGN (10 R320); ignored while it runs (00 R8). -/
def execPoAlign (po : Fin 8) (s : State) : Host.Outcome State Fault Refusal :=
  whenUp s (if s.fbit (SYN_PO_STATUS_ALIGNING po.val) then s else s.alignOsyn (s.poOsyn po.val))

/-- PO_ALIGN_RESTART (10 R320). -/
def execPoAlignRestart (po : Fin 8) (s : State) : Host.Outcome State Fault Refusal :=
  whenUp s (
    if s.fbit (SYN_PO_STATUS_ALIGNING po.val) then
      let t := s.foff (SYN_PO_STATUS_ALIGNING po.val)
      ({ t with syn := { t.syn with poAligned := t.syn.poAligned.set po.val true } }).refreshPo po.val
    else s)

/-- SYNTH_LOCK (10 R302): the inner loop of a spine synthesizer that runs, or an enabled OSYN; one that had lost its
reference has it again and takes its band for this lock (10 R300, R303). -/
def execSynthLock (synth : Fin 6) (s : State) : Host.Outcome State Fault Refusal :=
  let j := synth.val - 2
  whenUp s (
    if synth.val < 2 then
      if s.fbit (SYN_SPINE_STATUS_POWERED synth.val) then s.fon (SYN_SPINE_STATUS_INNER_LOCK synth.val) else s
    else if s.fbit (SYN_OSYN_CFG_ENABLE j) then
      ((if s.syn.refLost.contains j then s.startOsyn j else s).fon (SYN_OSYN_STATUS_LOCK j)).refreshPos
    else s)

/-- An OSYN loses lock and starts its next lock at once (10 R300): its POs are gated off; the flag raises the REFERENCE
alarm (10 R303, 16 R428). -/
def State.osynLost (s : State) (j : Nat) : State :=
  if s.fbit (SYN_OSYN_STATUS_LOCK j) then (s.seen SYN_EVENTS_LOCK_LOST_SEEN .reference).startOsyn j else s

/-- OSYN_REF_LOSS (10 R303): an enabled OSYN has lost its reference, locked or locking; it cannot lock until the
reference is back. -/
def execOsynRefLoss (osyn : Fin 4) (s : State) : Host.Outcome State Fault Refusal :=
  let j := osyn.val
  whenUp s (
    if s.fbit (SYN_OSYN_CFG_ENABLE j) && !s.syn.refLost.contains j then
      let t := (s.foff (SYN_OSYN_STATUS_LOCK j)).seen SYN_EVENTS_LOCK_LOST_SEEN .reference
      ({ t with syn := { t.syn with refLost := j :: t.syn.refLost } }).refreshPos
    else s)

/-! ## Band table access (10 R301) -/

/-- SYN_BAND_DATA0 and 1 of a requester are loaded. -/
def State.loadBand (s : State) (q : Requester) (e : Nat × Nat) : State :=
  (s.setReg (SYN_BAND_DATA (reqIx q) 0) e.1).setReg (SYN_BAND_DATA (reqIx q) 1) e.2

/-- The last staged entry of a band table index. -/
def stagedBand (synth i : Nat) (rs : List StagedRec) : Option (Nat × Nat) :=
  lastRec (fun r => match r with | .band a b x y => if a = synth ∧ b = i then some (x, y) else none | _ => none) rs

/-- A band table operation by its code (10 R301, R322); SYNTH 6 and 7 change nothing. -/
def State.bandOp (s : State) (q : Requester) (op synth i : Nat) : State :=
  if 6 ≤ synth then s
  else match op with
    | 0 =>
      if s.readsShadow q then s.loadBand q ((stagedBand synth i s.cfg.records).getD (s.bandEntry synth i))
      else s.loadBand q (s.bandEntry synth i)
    | 1 =>
      let e := bandForm (s.getReg (SYN_BAND_DATA (reqIx q) 0), s.getReg (SYN_BAND_DATA (reqIx q) 1))
      s.stageRec q (.band synth i e.1 e.2)
    | 2 => s.loadBand q (factoryBandEntry synth i)
    | _ => s

/-- OP, SYNTH and INDEX of a write to SYN_BAND_CMD are held in the requester's register. -/
def State.bandCmd (s : State) (q : Requester) (op synth i : Nat) : State :=
  ((s.fset (SYN_BAND_CMD_OP (reqIx q)) op).fset (SYN_BAND_CMD_SYNTH (reqIx q)) synth).fset (SYN_BAND_CMD_INDEX (reqIx q)) i

/-- SYN_BAND_READ (10 R301). -/
def execSynBandRead (q : Requester) (synth : Fin 8) (index : Fin 64) (s : State) : Host.Outcome State Fault Refusal :=
  whenTaken s q ((s.bandCmd q 0 synth.val index.val).bandOp q 0 synth.val index.val)

/-- SYN_BAND_WRITE (10 R301). -/
def execSynBandWrite (q : Requester) (synth : Fin 8) (index : Fin 64) (s : State) : Host.Outcome State Fault Refusal :=
  whenTaken s q ((s.bandCmd q 1 synth.val index.val).bandOp q 1 synth.val index.val)

/-- SYN_BAND_READ_FACTORY (10 R301). -/
def execSynBandReadFactory (q : Requester) (synth : Fin 8) (index : Fin 64) (s : State) :
    Host.Outcome State Fault Refusal :=
  whenTaken s q ((s.bandCmd q 2 synth.val index.val).bandOp q 2 synth.val index.val)

end Sys2Proof.Machine
end

