-- ==== Sys2Proof/Machine/Trunk.lean ====
section
/-! DEFINITION. Trunk time transfer over the clock lanes (09): superframes, samples, candidates, the choice of the
upstream, the source of the time core and its loss.

Choices (log entries): 8 DESIGN CHOICE, 55 DEDUCED, 56 DEDUCED, 60 DEDUCED. -/

namespace Sys2Proof.Machine

/-! ## Links -/

/-- A link that has heard nothing. -/
def linkIdle : LydLink := ⟨0, [], none, 0, 8, true⟩

/-- The link of clock lane k. -/
def State.lydLink (s : State) (k : Nat) : LydLink := mapGet (fun _ => linkIdle) s.trunk.links k

/-- The state with the link of a clock lane. -/
def State.setLydLink (s : State) (k : Nat) (l : LydLink) : State :=
  { s with trunk := { s.trunk with links := mapSet (fun _ => linkIdle) s.trunk.links k l } }

/-- GM_VALID of a partner. -/
def Partner.gmValid (p : Partner) : Bool := bitOf p.flags 0
/-- GM_SELF of a partner. -/
def Partner.gmSelf (p : Partner) : Bool := bitOf p.flags 1
/-- UPSTREAM of a partner. -/
def Partner.upstream (p : Partner) : Bool := bitOf p.flags 2

/-- The record of a superframe without its CHECK, and the partner fields of it (09 R270). -/
def parsePartner (r : List Byte) : Partner :=
  ⟨beAt r 1 1, beAt r 2 1, beAt r 3 1, beAt r 4 2, beAt r 7 1, beAt r 48 2, beAt r 50 1, beAt r 51 1, beAt r 52 1,
    beAt r 53 1, beAt r 54 2, beAt r 56 2, beAt r 60 4, beAt r 64 4⟩

/-- A 12 B timestamp of a record in 2^-16 ns (09 R270). -/
def recordTime (r : List Byte) (off : Nat) : Nat :=
  (beAt r off 6 * nsPerSec + beAt r (off + 6) 4 % 2 ^ 30) * 2 ^ 16 + beAt r (off + 10) 2

/-- The 12 B of a time in 2^-16 ns. -/
def timeBytes (t : Nat) : List Byte :=
  beBytes 6 (t / 2 ^ 16 / nsPerSec) ++ beBytes 4 (t / 2 ^ 16 % nsPerSec) ++ beBytes 2 t

/-- CHECK of a record: CRC-32C over bytes 0 to 67, as a number in network byte order (03 R80, 09 R270). -/
def recordCheck (r : List Byte) : Nat := crc32c (r.take 68)

/-! ## What the node is (09 R281 to R285) -/

/-- This node is grandmaster. -/
def State.gmSelf (s : State) : Bool := s.fbit LYD_STATUS_GM_SELF

/-- The upstream's clock lane. -/
def State.upstream (s : State) : Option Nat :=
  if s.fbit LYD_STATUS_UP_VALID then some (s.fget LYD_STATUS_UPSTREAM_PG) else none

/-- The upstream's fields of its latest sample. -/
def State.upPartner (s : State) : Option Partner := if s.upstream.isSome then s.trunk.upLast else none

/-- clockClass of the own state (08 R257). -/
def State.clockClass (s : State) : Nat :=
  match s.timeMode with
  | .locked => 6
  | .holdover => if s.fbit SYN_EMB_STATUS_UNLEARNED then 52 else 7
  | _ => 248

/-- clockClass that edge instance i sends as a master (08 R257). -/
def State.instClass (s : State) (i : Nat) : Nat := if s.fbit (TIME_INST_CFG_SLAVE_ONLY i) then 255 else s.clockClass

/-- A sum of error bounds (09 R282). -/
def errSum (a b : Nat) : Nat := min 0xFFFFFFFE (a + b)

/-- The own ERR_EST (09 R282). -/
def State.errEst (s : State) : Nat :=
  if s.gmSelf then s.fget LYD_GM_ERR_GM_ERR_PS
  else match s.timeMode with
    | .locked =>
      (match s.upstream, s.upPartner with
        | some k, some p => errSum p.errEst (12 + s.fget (LYD_LINK_CFG_UNC_PS k))
        | _, _ => 0xFFFFFFFF)
    | .holdover => if s.trunk.holdErr = 0xFFFFFFFF then 0xFFFFFFFF else errSum s.trunk.holdErr s.growthPs
    | _ => 0xFFFFFFFF

/-- The own dataset as grandmaster (09 R282, R283). -/
def State.ownGm (s : State) : GmSet :=
  ⟨s.fget LYD_NODE_NODE_ID, s.fget LYD_GM_CFG_PRIORITY1, s.clockClass, s.fget LYD_GM_CFG_ACCURACY,
    s.fget LYD_GM_CFG_PRIORITY2, s.fget LYD_GM_VAR_VARIANCE, s.trunk.gmSeq,
    errSum (s.fget LYD_GM_ERR_GM_ERR_PS) s.growthPs, 0⟩

/-- The GM fields of a partner, as a node that follows it advertises them (09 R285). -/
def partnerGm (p : Partner) : GmSet :=
  ⟨p.gmId, p.gmPriority1, p.gmClass, p.gmAccuracy, p.gmPriority2, p.gmVariance, p.gmSeq, p.gmErr, p.hop + 1⟩

/-- The trunk is the time source that TIME_CTRL selects (08 R249, 09 R292). -/
def State.trunkSteers (s : State) : Bool :=
  !s.fbit TIME_CTRL_MANUAL && (decide (s.fget TIME_CTRL_SRC = 1) || decide (s.fget TIME_CTRL_SRC = 3))

/-- The edge instance that TIME_CTRL selects now: SRC 2, or SRC 3 while the trunk gives no upstream time (08 R249). -/
def State.edgeSource (s : State) : Option Nat :=
  let i := s.fget TIME_CTRL_SRC_INST
  let asked := decide (s.fget TIME_CTRL_SRC = 2) || (decide (s.fget TIME_CTRL_SRC = 3) && !s.fbit LYD_STATUS_UP_VALID)
  if !s.fbit TIME_CTRL_MANUAL && asked && s.fbit (TIME_INST_CFG_ENABLE i) then some i else none

/-- SRC_ACTIVE, INST and IS_SOURCE follow the source in use (08 R268). -/
def State.refreshSource (s : State) : State :=
  let e := s.edgeSource
  let t := (List.range 8).foldl (fun u i => u.fput (TIME_INST_STATUS_IS_SOURCE i) (decide (e = some i))) s
  let t := t.fset TIME_STATE_INST (e.getD 0)
  t.fset TIME_STATE_SRC_ACTIVE (if s.trunkSteers && s.fbit LYD_STATUS_UP_VALID then 1 else if e.isSome then 2 else 0)

/-- The node offers a time (09 R285, R292). -/
def State.offersTime (s : State) : Bool :=
  s.gmSelf || (s.trunkSteers && s.upPartner.isSome
    && (decide (s.timeMode = .locked) || decide (s.timeMode = .acquiring)))

/-- The GM fields the node advertises (09 R285). -/
def State.advertised (s : State) : GmSet :=
  if s.gmSelf then s.ownGm
  else match s.upPartner with
    | some p => if s.offersTime then partnerGm p else s.trunk.held
    | none => s.trunk.held

/-- LYD_STATUS, LYD_GM_STATUS and the held values follow what the node follows (09 R285, R294). -/
def State.refreshLyd (s : State) : State :=
  let g := s.advertised
  let hop := if s.gmSelf then 0 else match s.upPartner with | some p => p.hop + 1 | none => 63
  let t := (s.fset LYD_STATUS_HOP hop).fput LYD_STATUS_GM_VALID s.offersTime
  let t := { t with trunk := { t.trunk with held := if s.offersTime then g else t.trunk.held } }
  let f := if s.gmSelf then some s.ownGm else s.upPartner.map partnerGm
  let t := match f with
    | some g => ((t.fset LYD_GM_STATUS_GM_CLASS g.cls).fset LYD_GM_STATUS_GM_PRIORITY1 g.priority1).fset
        LYD_GM_STATUS_GM_ID g.id
    | none => t
  (t.refreshSource).refreshPos

/-! ## The source of the time core (08 R249) -/

/-- An acquisition starts: COLLECT, with history or without (09 R287, R288). -/
def State.startAcquire (s : State) (history : Bool) : State :=
  let t := (s.fset LYD_STATUS_ACQ_PHASE 1).fput LYD_STATUS_HISTORY history
  { t with
    trunk := { t.trunk with
      thetas := [], acqCount := 0, beyond := 0
      integrator := if history then t.trunk.integrator else 0 }
    time := { t.time with edgeThetas := [], syncRun := 0 } }

/-- An upstream chosen after a loss has history (09 R287). -/
def State.hasHistory (s : State) : Bool :=
  decide (s.timeMode = .holdover) && decide (s.trunk.lossGm.isSome) && decide (s.trunk.lossGm = s.trunk.gm)
    && decide (s.now - s.syn.timeHoldSince ≤ s.fget LYD_SERVO2_HIST_S * nsPerSec)

/-- No acquisition runs any more (09 R288, R294). -/
def State.acquireEnds (s : State) : State :=
  let t := (s.fset LYD_STATUS_ACQ_PHASE 0).foff LYD_STATUS_HISTORY
  { t with trunk := { t.trunk with acqCount := 0 } }

/-- The selected source delivers a valid measurement: FREE and HOLDOVER lead to ACQUIRING (08 R249). -/
def State.sourceDelivers (s : State) (history : Bool) : State :=
  match s.timeMode with
  | .free => ((s.setTimeMode .acquiring).startAcquire history).refreshPos
  | .holdover => ((s.setTimeMode .acquiring).startAcquire history).refreshPos
  | _ => s

/-- The time core enters HOLDOVER: ERR_EST and the grandmaster followed are kept, the growth starts (09 R282, R287,
10 R316). -/
def State.toHoldover (s : State) : State :=
  let e := s.errEst
  let g := if s.trunkSteers && s.upstream.isSome then s.trunk.gm else none
  let t := ((s.setTimeMode .holdover).startGrowth).acquireEnds
  { t with trunk := { t.trunk with holdErr := e, lossGm := g, thetas := [], beyond := 0 } }

/-- The source is lost, or its master changes (08 R249, R250, 09 R286). The clock does not step, RATE keeps its value. -/
def State.sourceLost (s : State) (masterChange : Bool) : State :=
  match s.timeMode with
  | .free => s
  | .acquiring =>
    if s.time.everLocked || masterChange then s.toHoldover.refreshPos
    else
      let t := (s.setTimeMode .free).acquireEnds
      { t with trunk := { t.trunk with thetas := [] } }
  | .locked => s.toHoldover.refreshPos
  | .holdover => s

/-- The trunk source is lost (09 R286): with SRC 1 or 3 and not MANUAL only. -/
def State.trunkLost (s : State) : State :=
  if s.trunkSteers then ((s.fon LYD_EVENTS_UPSTREAM_LOST_SEEN).fcount LYD_EVENTS_LOST_CNT 1).sourceLost false else s

/-! ## Candidates (09 R280) -/

/-- The conditions 2 to 8 for a partner heard on a link. -/
def State.partnerConds (s : State) (l : LydLink) (p : Partner) : List (Nat × Bool) :=
  let me := s.fget LYD_NODE_NODE_ID
  [(2, decide (p.domain = s.fget LYD_NODE_DOMAIN)),
   (3, decide (p.node ≠ me)),
   (4, decide (p.hop ≤ 31)),
   (5, p.gmValid && (decide (p.state = 2) || p.gmSelf)),
   (6, decide (s.now - l.gmSeqAt ≤ 4096000)),
   (7, !p.upstream && (decide (p.gmId ≠ me) || p.gmSelf)),
   (8, l.rInRange)]

/-- The conditions of 09 R280 on link k by number. -/
def State.candidateConds (s : State) (k : Nat) : List (Nat × Bool) :=
  let l := s.lydLink k
  (1, s.fbit (LYD_LINK_CFG_TIME_EN k) && !s.fbit (LYD_LINK_CFG_NO_UPSTREAM k)) ::
    (match l.partner with | some p => s.partnerConds l p | none => []) ++
    [(9, decide (l.missing < 8) && l.partner.isSome && s.fbit (LYD_LINK_STATUS_RUNNING k))]

/-- The lowest condition that link k fails; 0 where it is a candidate. -/
def State.candReason (s : State) (k : Nat) : Nat := ((s.candidateConds k).find? fun c => !c.2).elim 0 fun c => c.1

/-- Link k is a candidate. -/
def State.candidate (s : State) (k : Nat) : Bool := decide (s.candReason k = 0)

/-- The status of link k is shown and the flags of failed conditions are set (09 R280, R295). -/
def State.judgeLink (s : State) (k : Nat) : State :=
  let l := s.lydLink k
  let r := s.candReason k
  let fails := fun n => (s.candidateConds k).any fun c => decide (c.1 = n) && !c.2
  let t := ((s.fset (LYD_LINK_STATUS_REASON k) r).fput (LYD_LINK_STATUS_CANDIDATE k) (decide (r = 0))).fput
    (LYD_LINK_STATUS_PARTNER_VALID k) (decide (l.missing < 8) && s.fbit (LYD_LINK_STATUS_RUNNING k))
  let t := t.fput (LYD_LINK_STATUS_IS_UPSTREAM k) (decide (s.upstream = some k))
  let t := if fails 2 then t.fon LYD_EVENTS_DOMAIN_MISMATCH_SEEN else t
  let t := if fails 3 then t.fon LYD_EVENTS_DUP_ID_SEEN else t
  if fails 4 then t.fon LYD_EVENTS_HOP_LIMIT_SEEN else t

/-! ## The choice (09 R283, R284) -/

/-- The numbers that the comparison takes in order (09 R283). -/
def datasetOf (g : GmSet) (err node pg : Nat) : List Nat :=
  [g.priority1, g.cls, g.accuracy, g.variance, g.priority2, g.err, g.id, g.hop, err, node, pg]

/-- The first list wins: lower at the first difference. -/
def lowerList : List Nat → List Nat → Bool
  | a :: r, b :: q => if a < b then true else if b < a then false else lowerList r q
  | _, _ => false

/-- The better of two results: link number, 16 for the own dataset, and dataset. -/
def better (x y : Nat × List Nat) : Nat × List Nat := if lowerList y.2 x.2 then y else x

/-- The result of an evaluation: link number, or 16 for the own dataset, and the grandmaster it names (09 R283). -/
def State.bmcaResult (s : State) : Option (Nat × Nat) :=
  let own := s.ownGm
  let mine := if s.fbit LYD_NODE_GM_CAPABLE then [(16, datasetOf own 0 own.id 16)] else []
  let links := (List.range 16).filterMap fun k =>
    match (s.lydLink k).partner with
    | some p =>
      if s.candidate k then
        some (k, datasetOf { partnerGm p with hop := p.hop } p.errEst p.node k)
      else none
    | none => none
  match mine ++ links with
  | [] => none
  | x :: r =>
    let b := r.foldl better x
    some (b.1, b.2.getD 6 0)

/-- The result in force: link or 16, and grandmaster. -/
def State.bmcaNow (s : State) : Option (Nat × Nat) :=
  if s.gmSelf then some (16, s.fget LYD_NODE_NODE_ID) else s.upstream.map fun k => (k, s.trunk.gm.getD 0)

/-- What a change of the result does to the time core (08 R249, 09 R286, R287): another grandmaster, or the trunk in
place of an edge instance, is another master; a change that keeps the grandmaster is none. -/
def State.sourceChanges (s : State) (r : Nat × Nat) : State :=
  if !s.trunkSteers then s
  else match s.bmcaNow with
    | some c =>
      if c.2 ≠ r.2 then s.servoStop.sourceLost true
      else if r.1 = 16 ∧ s.upstream.isSome then s.sourceLost false
      else s
    | none => if s.edgeSource.isSome ∧ r.1 ≠ 16 then s.servoStop.sourceLost true else s

/-- The node follows link k, or itself where it is 16. -/
def State.follow (s : State) (r : Nat × Nat) : State :=
  let t := if r.1 = 16 then (s.fon LYD_STATUS_GM_SELF).foff LYD_STATUS_UP_VALID
    else ((s.foff LYD_STATUS_GM_SELF).fon LYD_STATUS_UP_VALID).fset LYD_STATUS_UPSTREAM_PG r.1
  { t with trunk := { t.trunk with
      rival := none, thetas := [], gm := some r.2
      upLast := if r.1 = 16 then none else (s.lydLink r.1).partner } }

/-- LYD_OFFSET reads 0 until the new upstream has an average (09 R294). -/
def State.clearOffset (s : State) : State := (s.setReg LYD_OFFSET_LO 0).setReg LYD_OFFSET_HI 0

/-- The links, the followed reference and the status registers after a change of upstream. -/
def State.upstreamShown (s : State) : State :=
  ((List.range 16).foldl (fun u k => u.judgeLink k) s).upstreamMoved.refreshLyd

/-- A result is applied (09 R284, R287): flags, what it does to the time core, upstream or grandmaster. -/
def State.applyBmca (s : State) (r : Nat × Nat) : State :=
  let was := s.bmcaNow
  let moved := decide (was.map (·.1) ≠ some r.1)
  let t := if moved then s.fon LYD_EVENTS_UPSTREAM_CHANGE_SEEN else s
  let t := if was.map (·.2) = some r.2 then t else t.fon LYD_EVENTS_GM_CHANGE_SEEN
  let t := (t.sourceChanges r).follow r
  let t := if t.trunkSteers && decide (r.1 ≠ 16) then t.sourceDelivers t.hasHistory else t
  (if moved then t.clearOffset else t).upstreamShown

/-- The node has no upstream any more (09 R284, R286). -/
def State.noUpstream (s : State) : State := (s.foff LYD_STATUS_UP_VALID).clearOffset.upstreamShown

/-- The trunk source is lost and the upstream with it (09 R286). -/
def State.dropUpstream (s : State) : State := s.trunkLost.noUpstream

/-- Some link is a candidate. -/
def State.linkRemains (s : State) : Bool := (List.range 16).any fun k => s.candidate k

/-- The current upstream is no candidate (09 R284, R286): where no candidate remains the trunk source is lost, then the
best remaining result is applied. -/
def State.replaceUpstream (s : State) : State :=
  let t := if s.linkRemains then s else s.trunkLost
  match t.bmcaResult with
  | some r => t.applyBmca r
  | none => t.noUpstream

/-- The current upstream has stopped being a candidate. -/
def State.upstreamFails (s : State) : Bool := s.upstream.elim false fun k => !s.candidate k

/-- The evaluation that this result has won in a row, counting this one (09 R284). -/
def State.winsOf (s : State) (r : Nat × Nat) : Nat :=
  match s.trunk.rival with
  | some (k, g, n) => if (k, g) = r then n + 1 else 1
  | none => 1

/-- An evaluation (09 R283, R284): at most one change, under the hold-off rules. -/
def State.evaluate (s : State) : State :=
  if s.upstreamFails then s.replaceUpstream
  else match s.bmcaResult with
    | none =>
      if s.gmSelf then ((s.foff LYD_STATUS_GM_SELF).fon LYD_EVENTS_GM_CHANGE_SEEN).refreshLyd else s
    | some r =>
      match s.bmcaNow with
      | none => s.applyBmca r
      | some c =>
        if c = r then { s with trunk := { s.trunk with rival := none } }
        else
          let n := s.winsOf r
          if (c.2 ≠ r.2 ∧ 16 ≤ n) ∨ 64 ≤ n then s.applyBmca r
          else { s with trunk := { s.trunk with rival := some (r.1, r.2, n) } }

/-- BMCA_EVALUATE (09 R280, R283, R284). -/
def execBmcaEvaluate (s : State) : Host.Outcome State Fault Refusal :=
  whenUp s (((List.range 16).foldl (fun u k => u.judgeLink k) s).evaluate.refreshLyd)

/-- TRUNK_SOURCE_LOST (09 R286): no candidate remains for the upstream in force. -/
def execTrunkSourceLost (s : State) : Host.Outcome State Fault Refusal :=
  whenUp s (if s.upstreamFails && !s.linkRemains then s.replaceUpstream else s)

/-! ## Trunks come and go (04 R125) -/

/-- The link engine of clock lane k starts (04 R125). -/
def State.lydStart (s : State) (k : Nat) : State :=
  ((s.setLydLink k { linkIdle with sendSeq := (s.lydLink k).sendSeq }).fon (LYD_LINK_STATUS_RUNNING k)).judgeLink k

/-- The link engine of clock lane k stops; an upstream on it is replaced within 1 µs (04 R125, 09 R284). -/
def State.lydStop (s : State) (k : Nat) : State :=
  let t := s.setLydLink k { linkIdle with sendSeq := (s.lydLink k).sendSeq }
  let t := (t.foff (LYD_LINK_STATUS_RUNNING k)).judgeLink k
  if t.upstreamFails then t.replaceUpstream else t

/-! ## Superframes (09 R269 to R273) -/

/-- A takeover runs at this node (09 R270, R291). -/
def State.takingOver (s : State) : Bool := s.fbit HRT_STATUS_TAKEOVER

/-- A takeover runs or the node has no holder (13 R363, R367). -/
def State.coasting (s : State) : Bool := s.takingOver || s.fbit HRT_STATUS_NO_HOLDER

/-- The superframe answered: the latest whose start arrived at least 2.000 µs before (09 R271). -/
def answered (l : LydLink) (tx : Nat) : Option Heard := l.heard.find? fun h => decide (h.rx + 2000 * 2 ^ 16 ≤ tx)

/-- The flags of a superframe on clock lane k (09 R270). -/
def State.sfFlags (s : State) (k : Nat) (echo : Bool) : Nat :=
  s.offersTime.toNat + s.gmSelf.toNat * 2 + (decide (s.upstream = some k)).toNat * 4
    + (s.heldGroup 2 || s.heldGroup 5).toNat * 8 + s.coasting.toNat * 16 + echo.toNat * 32

/-- The record of a superframe on clock lane k that starts at a time (09 R270). -/
def State.sfRecord (s : State) (k tx : Nat) : List Byte :=
  let l := s.lydLink k
  let e := answered l tx
  let g := { s.advertised with seq := if s.coasting then s.trunk.seqHeld else s.advertised.seq }
  let body := beBytes 1 1 ++ beBytes 1 (s.sfFlags k e.isSome) ++ beBytes 1 (s.fget LYD_NODE_DOMAIN)
    ++ beBytes 1 (timeModeCode s.timeMode) ++ beBytes 2 (s.fget LYD_NODE_NODE_ID) ++ beBytes 1 k ++ beBytes 1 g.hop
    ++ beBytes 2 l.sendSeq ++ beBytes 2 (e.elim 0 fun h => h.seq) ++ timeBytes tx
    ++ timeBytes (e.elim 0 fun h => h.tx) ++ timeBytes (e.elim 0 fun h => h.rx)
    ++ beBytes 2 g.id ++ beBytes 1 g.priority1 ++ beBytes 1 g.cls ++ beBytes 1 g.accuracy ++ beBytes 1 g.priority2
    ++ beBytes 2 g.variance ++ beBytes 2 g.seq ++ [0, 0] ++ beBytes 4 g.err ++ beBytes 4 s.errEst
  body ++ beBytes 4 (crc32c body)

/-- K28.5, which begins every block (09 R269). -/
def k285 : Symbol := ⟨true, 0xBC⟩
/-- K27.7, the start marker of a superframe (09 R269). -/
def k277 : Symbol := ⟨true, 0xFB⟩

/-- The symbols of blocks 1 on: K28.5, then 15 payload bytes, fewer in the last (09 R269). -/
def sfBlocks : Nat → List Byte → List Symbol
  | 0, _ => []
  | n + 1, bs => (k285 :: (bs.take 15).map fun b => ⟨false, b⟩) ++ sfBlocks n (bs.drop 15)

/-- The 4,125 symbols of a superframe with a record (04 R120, 09 R269): 3,866 payload bytes, 0xB5 after the record. -/
def superframe (record : List Byte) : List Symbol :=
  let bs := record ++ List.replicate (3866 - record.length) 0xB5
  (k285 :: k277 :: (bs.take 14).map fun b => ⟨false, b⟩) ++ sfBlocks 257 (bs.drop 14)

/-- The clock lane sends its superframes: it is in service, enabled and sends no pattern (03 R75, 04 R130, 09 R269). -/
def State.clklSends (s : State) (k : Nat) : Bool :=
  s.hasClkl k && s.fbit (CLKL_CTRL_ENABLE k) && s.inService && !s.fbit (CLKL_PRBS_CTRL_TX_EN k)

/-- The grandmaster's GM_SEQ advances once every 64 of its superframes, counted on its lowest clock lane that sends
(09 R281); it is frozen while the node coasts (13 R363, R367). -/
def State.countGmSeq (s : State) (k : Nat) : State :=
  if s.gmSelf && !s.coasting && decide ((List.range 16).find? (fun j => s.clklSends j) = some k) then
    if s.trunk.gmCount = 63 then
      { s with trunk := { s.trunk with gmCount := 0, gmSeq := (s.trunk.gmSeq + 1) % 2 ^ 16 } }
    else { s with trunk := { s.trunk with gmCount := s.trunk.gmCount + 1 } }
  else s

/-- The time at which a superframe that leaves the balls at `tx` crosses the reference plane: the transmit link delay
later (09 R271, 12 R348). Its rounding to 2^-16 ns is not stated (log entry 8). -/
def State.txPlane (s : State) (k tx : Nat) : Nat :=
  tx + s.psUnits (s.fget (CAL_CLKL_TX_DELAY_PS k))

/-- SUPERFRAME_SEND (09 R269 to R271, R281). `tx`: the local time at which its first bit leaves the balls. -/
def execSuperframeSend (clkl : Fin 16) (tx : Nat) (s : State) : Host.Outcome State Fault Refusal :=
  let k := clkl.val
  whenUp s (
    if s.clklSends k then
      let t := (s.useFree.emit (.superframe k (superframe (s.sfRecord k (s.txPlane k tx))))).countGmSeq k
      let l := t.lydLink k
      t.setLydLink k { l with sendSeq := (l.sendSeq + 1) % 2 ^ 16 }
    else s)

/-- The coefficient a of a clock lane in 10^-9, limited to its range (12 R350). -/
def State.asymmetry (s : State) (k : Nat) : Int := max (-10000000) (min 10000000 (s.fint (CAL_CLKL_ASYM_ASYM k)))

/-- A superframe that yields no sample (09 R273, R280): after 8 in a row the upstream is replaced within 1 µs. -/
def State.missSuperframe (s : State) (k : Nat) : State :=
  let l := s.lydLink k
  let t := (s.fwrap (LYD_LINK_CNT_SF_MISSING k)).setLydLink k { l with missing := min 8 (l.missing + 1) }
  let t := t.judgeLink k
  if t.upstream = some k ∧ (t.lydLink k).missing = 8 then t.replaceUpstream.refreshLyd else t

/-- A sample that steers nothing still counts in the average (09 R292, R294). -/
def State.keepTheta (s : State) (theta : Int) : State :=
  { s with trunk := { s.trunk with thetas := theta :: s.trunk.thetas } }

/-- A sample on the upstream link feeds the servo: the average takes it, and in LOCKED 16 samples in a row beyond
STEP_THR_NS lose the source (09 R288, R290). -/
def State.feedServo (s : State) (theta : Int) : State :=
  let t := s.sourceDelivers s.hasHistory
  let n := if max 1 (t.fget LYD_SERVO_STEP_THR_NS) * 2 ^ 16 < theta.natAbs then t.trunk.beyond + 1 else 0
  let t := { t with trunk := { t.trunk with thetas := theta :: t.trunk.thetas, beyond := if t.timeMode = .locked then n else 0 } }
  if t.timeMode = .locked ∧ 16 ≤ n then ((t.seen LYD_EVENTS_OFFSET_LIMIT_SEEN .time).trunkLost).refreshLyd else t

/-- The straight line of phase against bit index, fitted by least squares over the edges and taken at the first bit, in
0.1 ps (09 R272). Its rounding, and its value where the edges fix no line, are free values (log entry 8). -/
def State.fitPhase (s : State) (edges : List (Nat × Int)) : Int :=
  let n := edges.length
  let x := edges.foldl (fun a e => a + e.1) 0
  let xx := edges.foldl (fun a e => a + e.1 * e.1) 0
  let y := edges.foldl (fun a e => a + e.2) (0 : Int)
  let xy := edges.foldl (fun a e => a + (e.1 : Int) * e.2) (0 : Int)
  if n * xx = x * x then signedOf 16 s.freeVal else s.freeDiv (y * xx - x * xy) (n * xx - x * x)

/-- LYD_LINK_PHASE: a fitted phase within its bit of 12,800/33 ps, in 0.1 ps (09 R295). -/
def phaseInBit (p : Int) : Nat := ((33 * p).emod 128000 / 33).toNat

/-- The receive stamp at the reference plane (09 R271, R272): the local time of the spine cycle, the bit position with the
word boundary CLKL_SLIP.POS, the fitted phase, and the receive link delay, in 2^-16 ns. -/
def State.rxPlane (s : State) (k rx bit : Nat) (phase : Int) : Nat :=
  let bits : Int := 128000 * (bit + s.fget (CLKL_SLIP_POS k) : Nat)
  ((rx : Int) + s.freeDiv ((bits + 33 * phase - 330 * (s.fget (CAL_CLKL_RX_DELAY_PS k) : Int)) * 2 ^ 16) 330000).toNat

/-- What the node follows is refreshed where link k is its upstream (09 R281, R285). -/
def State.upstreamHeard (s : State) (k : Nat) (p : Partner) : State :=
  if s.upstream = some k then { s with trunk := { s.trunk with upLast := some p } }.refreshLyd else s

/-- A sample of link k from a record and its receive stamp (09 R273). -/
def State.takeSample (s : State) (k : Nat) (r : List Byte) (rx : Nat) (phase trip : Int) : State :=
  let p := parsePartner r
  let d := s.freeDiv (trip * (1000000000 + s.asymmetry k)) 2000000000
  let theta := (rx : Int) - recordTime r 12 - d
  let t := s.useFree.setLydLink k { s.lydLink k with missing := 0, rInRange := true }
  let t := t.setWide2 (LYD_LINK_RTT_LO k) (LYD_LINK_RTT_HI k) (wrapTo 48 trip)
  let t := t.setWide2 (LYD_LINK_DELAY_LO k) (LYD_LINK_DELAY_HI k) (wrapTo 48 d)
  let t := t.setWide2 (LYD_LINK_OFFSET_LO k) (LYD_LINK_OFFSET_HI k) (wrapTo 64 (satSigned 64 theta))
  let t := t.fset (LYD_LINK_PHASE_PHASE k) (phaseInBit phase)
  let t := (t.fset (LYD_LINK_STATUS_PARTNER_HOP k) p.hop).fset (LYD_LINK_STATUS_PARTNER_ID k) p.node
  let t := (t.judgeLink k).upstreamHeard k p
  if t.upstream = some k ∧ t.candidate k then ((if t.trunkSteers then t.feedServo theta else t.keepTheta theta).refreshLyd) else t

/-- A sample that is discarded is no missing superframe (09 R291). -/
def State.discardSample (s : State) (k : Nat) (r : List Byte) : State :=
  ((s.setLydLink k { s.lydLink k with missing := 0, rInRange := true }).judgeLink k).upstreamHeard k (parsePartner r)

/-- Samples taken now are discarded: a calibration or a takeover runs at this node (09 R291). -/
def State.discards (s : State) : Bool :=
  s.coasting || s.fbit CAL_STATUS_RUNNING || s.heldGroup 2 || s.heldGroup 5

/-- A superframe with a correct CHECK and VERSION is kept for the next answer and for the conditions of a candidate
(09 R271, R280). -/
def State.hear (s : State) (k : Nat) (r : List Byte) (rx : Nat) : State :=
  let l := s.lydLink k
  let p := parsePartner r
  s.setLydLink k { l with
    heard := (⟨beAt r 8 2, recordTime r 12, rx⟩ :: l.heard).take 3
    partner := some p
    gmSeqAt := if l.partner.map (fun o => o.gmSeq) = some p.gmSeq then l.gmSeqAt else s.now }

/-- A superframe with a correct CHECK and VERSION (09 R273, R275, R291). -/
def State.goodSuperframe (s : State) (k : Nat) (r : List Byte) (rx : Nat) (phase : Int) : State :=
  let t := s.hear k r rx
  let flags := beAt r 1 1
  let t1 := recordTime r 24
  let trip := ((rx : Int) - t1) - ((recordTime r 12 : Int) - recordTime r 36)
  if !bitOf flags 5 then t.missSuperframe k
  else if rx < t1 ∨ 2000000 * 2 ^ 16 < rx - t1 then t.missSuperframe k
  else if trip < 0 ∨ 1000000 * 2 ^ 16 < trip then (t.setLydLink k { t.lydLink k with rInRange := false }).missSuperframe k
  else if bitOf flags 3 || bitOf flags 4 || s.discards then t.discardSample k r
  else t.takeSample k r rx phase trip

/-- SUPERFRAME_RECEIVE (09 R271 to R275, R290, R291). `record`: the first 72 payload bytes, none where no superframe
arrived in its 16 µs; `rx`: the local time of the spine cycle; `samples`: the bit position at word boundary 0 and the
measured phases. -/
def execSuperframeReceive (clkl : Fin 16) (record : Option (List Byte)) (rx : Nat) (samples : LaneSamples) (s : State) :
    Host.Outcome State Fault Refusal :=
  let k := clkl.val
  whenUp s (
    if !s.fbit (LYD_LINK_STATUS_RUNNING k) then s
    else match record with
      | none => s.missSuperframe k
      | some r =>
        if beAt r 68 4 = recordCheck r ∧ beAt r 0 1 = 1 then
          let phase := s.fitPhase samples.edges
          let t := s.useFree
          t.useFree.goodSuperframe k r (t.rxPlane k rx samples.bit phase) phase
        else (s.fwrap (LYD_LINK_CNT_SF_BAD k)).missSuperframe k)

end Sys2Proof.Machine
end

