-- ==== Sys2Proof/Machine/Links.lean ====
section
/-! DEFINITION. Lanes and links (04): bring-up, rate search, loss, lane restarts, clock-lane alignment, trunks, test
patterns.

Choices (log entries): 7 DESIGN CHOICE, 51 DEDUCED, 52 DEDUCED, 71 DEDUCED, 80 DEDUCED, 81 DESIGN CHOICE. -/

namespace Sys2Proof.Machine

/-! ## Links of ports -/

/-- What follows when a port has lost its link (04 R117, R118, 06 R198, 07 R235); `finish` as for `State.linkDown`. -/
def State.portStops (s : State) (p : Nat) (finish : Bool) : State :=
  let t := (s.linkDown p finish).quillEgressDown p
  (t.lanesOf p).foldl (fun u n => if u.lget (LANE_STATUS_LSTATE n) = 4 then u.laneState n 3 else u) t

/-- A port loses its link. -/
def State.portFalls (s : State) (p : Nat) : State := s.portStops p false

/-- A lane has lost block lock: markers are not locked on every lane any more, auto-negotiation starts again, and no
Remote Fault is received (04 R108, R133). -/
def State.portUnlocked (s : State) (p : Nat) : State :=
  ((s.foff (PORT_STATUS_DESKEW_OK p)).foff (PORT_STATUS_AN_DONE p)).foff (PORT_STATUS_RF p)

/-- A data lane falls back to waiting, and its port loses the link with Local Fault detected (04 R115, R118, R133). -/
def State.laneFalls (s : State) (n : Nat) : State :=
  let p := s.portOf n
  let t := ((s.laneState n (s.waitState n)).portFalls p).portUnlocked p
  if t.fbit (PORT_MODE_ENABLE p) then t.fon (PORT_STATUS_LF p) else t

/-- Priority entries of a data lane's recovered clock follow its lock (10 R305). -/
def State.laneRef (s : State) (n : Nat) : State :=
  if s.sourceActive (0x40 + n) then s.sourceUp (0x40 + n) else s.sourceDown (0x40 + n)

/-- An enabled data lane of the part; all lanes are in electrical idle during kindling (03 R75) and while the lane
controller does not start (14 R386). -/
def State.laneOn (s : State) (n : Nat) : Bool :=
  s.hasLane n && s.fbit (LANE_CTRL_ENABLE n) && s.inService && !s.mgt.noBank.contains 2

/-- An enabled clock lane of the part; clock lanes are silent during kindling (03 R75). -/
def State.clklOn (s : State) (k : Nat) : Bool := s.hasClkl k && s.fbit (CLKL_CTRL_ENABLE k) && s.inService

/-- SIGNAL of a data lane becomes 0 (04 R131). -/
def State.signalGone (s : State) (n : Nat) : State :=
  if s.lbit (LANE_STATUS_SIGNAL n) then (s.ldecl (LANE_STATUS_SIGNAL n) 0).ldecl (LANE_STATUS_LOS_SEEN n) 1 else s

/-- A lane starts to wait for its link: the rate in use and the state follow LANE_CTRL (04 R112, R115, R131). A disabled
lane is without power and detects no signal. -/
def State.laneStarts (s : State) (n : Nat) : State :=
  let on := s.fbit (LANE_CTRL_ENABLE n)
  let t := if on then s else s.signalGone n
  let t := (t.ldecl (LANE_STATUS_RATE_FOUND n) (if on then s.fget (LANE_CTRL_RATE n) else 0)).setTried n 3
  (t.laneState n (t.waitState n)).laneRef n

/-! ## What the transmitters send (04 R113, R115, R120, R127, R130, 03 R75) -/

/-- What a lane's transmitter sends. -/
inductive LaneSends where
  /-- Electrical idle: a data lane without power, in kindling or in a restart; a silent clock lane. -/
  | idle
  /-- The PCS stream of the port type; `fault`: it signals Remote Fault until the receive side is up. -/
  | pcs (fault : Bool)
  /-- What a quill window or its guard band puts in its place (06 R190). -/
  | quill (x : QuillSends)
  /-- A test pattern. -/
  | pattern (p : Pattern)
  /-- The 8b/10b stream of the Lyide link protocol. -/
  | lyide
  deriving DecidableEq, Repr

/-- The receive side of a port is up: every lane has block lock without high bit error rate, and a four-lane port its
markers (04 R115, R117). -/
def State.receiveUp (s : State) (p : Nat) : Bool :=
  (s.lanesOf p).all (fun n => s.laneClock n && s.lbit (LANE_STATUS_BLOCK_LOCK n) && !s.lbit (LANE_STATUS_HI_BER n))
    && !s.fbit (PORT_STATUS_LF p)

/-- What a lane sends now: a pattern once the frame being sent is finished (04 R130). -/
def State.laneSends (s : State) (lane : AnyLane) : LaneSends :=
  match lane with
  | .data n =>
    if !s.laneOn n.val || s.links.restarting.contains n.val then .idle
    else if s.fbit (LANE_PRBS_CTRL_TX_EN n.val) && (s.txOf (s.portOf n.val)).isNone then .pattern (s.patternOf lane)
    else if s.portType (s.portOf n.val) = 0 then .idle
    else
      match s.quillSends (s.portOf n.val) with
      | some x => .quill x
      | none => .pcs !s.receiveUp (s.portOf n.val)
  | .clock k =>
    if !s.clklOn k.val then .idle
    else if s.fbit (CLKL_PRBS_CTRL_TX_EN k.val) then .pattern (s.patternOf lane)
    else .lyide

/-! ## Rate search (04 R112) -/

/-- A lane that has found no rate yet. -/
def State.seeking (s : State) (n : Nat) : Bool :=
  s.laneOn n && s.searches n && decide (s.lget (LANE_STATUS_RATE_FOUND n) = 0)

/-- The rate tried after another. -/
def nextRate : Nat → Nat
  | 3 => 2
  | 2 => 1
  | _ => 3

/-- RATE_SEARCH_DWELL (04 R112): the next rate is tried, from no lock. -/
def execRateSearchDwell (lane : Fin 64) (s : State) : Host.Outcome State Fault Refusal :=
  let n := lane.val
  whenUp s (
    if s.seeking n && !s.links.ctlRestart then (s.setTried n (nextRate (s.tried n))).ldecl (LANE_STATUS_BLOCK_LOCK n) 0
    else s)

/-- RATE_FOUND (04 R112). -/
def execRateFound (lane : Fin 64) (s : State) : Host.Outcome State Fault Refusal :=
  let n := lane.val
  whenUp s (
    if s.seeking n && s.lbit (LANE_STATUS_BLOCK_LOCK n) && !s.links.ctlRestart then
      ((s.ldecl (LANE_STATUS_RATE_FOUND n) (s.tried n)).laneState n 3).laneRef n
    else s)

/-- RATE_SEARCH_RESTART (04 R112): LINK has been 0 for 1 s, and the search starts again at the top. -/
def execRateSearchRestart (lane : Fin 64) (s : State) : Host.Outcome State Fault Refusal :=
  let n := lane.val
  whenUp s (
    if s.laneOn n && s.searches n && !s.link (s.portOf n) && !s.links.ctlRestart then
      (s.ldecl (LANE_STATUS_BLOCK_LOCK n) 0).laneStarts n
    else s)

/-! ## Bring-up (04 R115, R117) -/

/-- Writes that waited for the receive clock are carried into the receive domain (01 R27). -/
def State.carryLane (s : State) (n : Nat) : State :=
  let mine := s.bus.laneCarry.filter fun w => decide (w.1 = LANE_STATUS n)
  let t := { s with bus := { s.bus with laneCarry := s.bus.laneCarry.filter fun w => decide (w.1 ≠ LANE_STATUS n) } }
  mine.foldl (fun u w =>
    let u := if bitOf w.2.toNat 15 then u.lset (LANE_STATUS_LINK_DOWN_SEEN n) 0 else u
    if bitOf w.2.toNat 14 then u.lset (LANE_STATUS_LOS_SEEN n) 0 else u) t

/-- SIGNAL_PRESENT (04 R115). -/
def execSignalPresent (lane : AnyLane) (s : State) : Host.Outcome State Fault Refusal :=
  whenUp s (match lane with
    | .data n => if s.laneOn n.val then (s.ldecl (LANE_STATUS_SIGNAL n.val) 1).laneRef n.val else s
    | .clock k => if s.clklOn k.val then s.fon (CLKL_ALIGN_STATUS_SIGNAL k.val) else s)

/-- CDR_LOCK_ACQUIRED (04 R115): the receive clock of a data lane runs; the receive phase of a clock lane is tracked. -/
def execCdrLockAcquired (lane : AnyLane) (s : State) : Host.Outcome State Fault Refusal :=
  whenUp s (match lane with
    | .data n =>
      if s.laneOn n.val && s.lbit (LANE_STATUS_SIGNAL n.val) then
        let t := s.ldecl (LANE_STATUS_CDR_LOCK n.val) 1
        (if t.laneInvalid n.val then t else t.carryLane n.val).laneRef n.val
      else s
    | .clock k =>
      if s.clklOn k.val && s.fbit (CLKL_ALIGN_STATUS_SIGNAL k.val) then s.fon (CLKL_ALIGN_STATUS_RX_LOCK k.val) else s)

/-- BLOCK_LOCK_ACQUIRED (04 R115): block lock, or Clause 36 synchronization; a lane with a rate is LOCKED. A single-lane
port detects no Local Fault any more (04 R133; log entry 80). -/
def execBlockLockAcquired (lane : Fin 64) (s : State) : Host.Outcome State Fault Refusal :=
  let n := lane.val
  whenUp s (
    if s.laneOn n && s.laneClock n then
      let t := (s.ldecl (LANE_STATUS_BLOCK_LOCK n) 1).lset (LANE_STATUS_HI_BER n) 0
      let t := if s.group4 n then t else t.foff (PORT_STATUS_LF n)
      if t.seeking n || t.fbit (LANE_PRBS_CTRL_TX_EN n) then t else t.laneState n 3
    else s)

/-- A lane is ready for its port to come up (04 R117). -/
def State.laneReady (s : State) (n : Nat) : Bool :=
  s.laneOn n && s.laneClock n && s.lbit (LANE_STATUS_SIGNAL n) && s.lbit (LANE_STATUS_BLOCK_LOCK n)
    && (decide (s.lget (LANE_STATUS_LSTATE n) = 3) || decide (s.lget (LANE_STATUS_LSTATE n) = 4))
    && !s.fbit (LANE_PRBS_CTRL_TX_EN n)

/-- A port can come up. -/
def State.portReady (s : State) (p : Nat) : Bool :=
  s.hasPort p && s.fbit (PORT_MODE_ENABLE p) && decide (s.portType p ≠ 0) && (s.lanesOf p).all fun n => s.laneReady n

/-- LINK_UP (04 R108, R115, R117): no fault is received any more, markers and auto-negotiation are done. -/
def execLinkUp (port : Fin 64) (s : State) : Host.Outcome State Fault Refusal :=
  let p := port.val
  whenUp s (
    if s.portReady p then
      let t := (s.lanesOf p).foldl (fun u n => (u.laneState n 4).lset (LANE_STATUS_HI_BER n) 0) s
      let t := ((t.foff (PORT_STATUS_LF p)).foff (PORT_STATUS_RF p)).fon (PORT_STATUS_LINK p)
      let t := t.fput (PORT_STATUS_DESKEW_OK p) (s.group4 p)
      (t.fput (PORT_STATUS_AN_DONE p) (decide (s.portType p = 1) && s.fbit (PORT_MODE_AN37 p))).rejudge
    else s)

/-! ## Alignment of clock lanes (04 R121 to R125) -/

/-- The searches with one of a clock lane taken out. -/
def State.dropSearch (s : State) (k : Nat) : State :=
  { s with links := { s.links with
      searches := s.links.searches.filter fun x => decide (x.clkl ≠ k)
      retry := s.links.retry.filter fun x => decide (x ≠ k) } }

/-- Group k becomes a trunk (04 R125): its Lyide link starts and its clock lane becomes an active reference. -/
def State.trunkRises (s : State) (k : Nat) : State :=
  let t := s.fon (PORT_TRUNK_IS_TRUNK k)
  let t := { t with mgt := { t.mgt with trunkDown := t.mgt.trunkDown.filter fun g => decide (g ≠ k) } }
  (t.lydStart k).sourceUp (0x10 + k)

/-- Group k ceases to be a trunk (04 R125): its clock lane is disqualified and its link engine stops. -/
def State.trunkFalls (s : State) (k : Nat) : State :=
  if s.isTrunk k then
    let t := (s.foff (PORT_TRUNK_IS_TRUNK k)).fon (PORT_STATUS_TRUNK_LOST_SEEN (4 * k))
    ((t.sourceDown (0x10 + k)).lydStop k).upstreamMoved.refreshLyd
  else s

/-- ALIGNED becomes 1. -/
def State.align (s : State) (k : Nat) : State :=
  if s.fbit (CLKL_ALIGN_STATUS_ALIGNED k) then s else (s.fon (CLKL_ALIGN_STATUS_ALIGNED k)).trunkRises k

/-- ALIGNED becomes 0; `seen` where 04 R123 names the reason. -/
def State.unalign (s : State) (k : Nat) (seen : Bool) : State :=
  if s.fbit (CLKL_ALIGN_STATUS_ALIGNED k) then
    let t := s.foff (CLKL_ALIGN_STATUS_ALIGNED k)
    (if seen then t.fon (CLKL_ALIGN_STATUS_ALIGN_LOST_SEEN k) else t).trunkFalls k
  else s

/-- A slip of the word boundary; ignored while ALIGNED or CONFIRM is 1 (04 R121, R122). -/
def State.slip (s : State) (k : Nat) : State :=
  if !s.hasClkl k || s.fbit (CLKL_ALIGN_STATUS_ALIGNED k) || s.fbit (CLKL_SLIP_CONFIRM k) then s
  else s.fset (CLKL_SLIP_POS k) ((s.fget (CLKL_SLIP_POS k) + 1) % 10)

/-- A confirmation is asked for: the next window that starts is judged (04 R122). -/
def State.askConfirm (s : State) (k : Nat) : State :=
  if !s.hasClkl k || s.fbit (CLKL_SLIP_CONFIRM k) then s
  else
    let t := s.fon (CLKL_SLIP_CONFIRM k)
    { t with links := { t.links with confirm := mapSet (fun _ => 0) t.links.confirm k 2 } }

/-- CLKL_SLIP (04 R121). -/
def execClklSlip (q : Requester) (clkl : Fin 16) (s : State) : Host.Outcome State Fault Refusal :=
  whenTaken s q (s.slip clkl.val)

/-- CLKL_CONFIRM (04 R122). -/
def execClklConfirm (q : Requester) (clkl : Fin 16) (s : State) : Host.Outcome State Fault Refusal :=
  whenTaken s q (s.askConfirm clkl.val)

/-- The window's result passes (04 R122). -/
def State.windowPasses (s : State) (k : Nat) : Bool :=
  decide (51 ≤ s.fget (CLKL_ALIGN_STATUS_COMMA_CNT k)) && decide (s.fget (CLKL_ALIGN_STATUS_CODE_ERR k) = 0)

/-- Neither pattern enable of a clock lane is set (04 R130). -/
def State.clklQuiet (s : State) (k : Nat) : Bool :=
  !s.fbit (CLKL_PRBS_CTRL_TX_EN k) && !s.fbit (CLKL_PRBS_CTRL_RX_EN k)

/-- A pending confirmation at a window end: the window that ran at the write passes by, the next one is judged
(04 R122). -/
def State.judgeConfirm (s : State) (k : Nat) : State :=
  match mapGet (fun _ => 0) s.links.confirm k with
  | 0 => s
  | 1 =>
    let t := s.foff (CLKL_SLIP_CONFIRM k)
    let t := { t with links := { t.links with confirm := mapSet (fun _ => 0) t.links.confirm k 0 } }
    if t.windowPasses k && t.clklQuiet k && t.clklOn k then t.align k else t
  | n + 1 => { s with links := { s.links with confirm := mapSet (fun _ => 0) s.links.confirm k n } }

/-- The firmware's next try of a search: a slip, and after 20 tries the failure (04 R122, R124). -/
def State.nextTry (s : State) (x : ClkSearch) : State :=
  let t := (s.dropSearch x.clkl).slip x.clkl
  if x.tries + 1 < 20 then
    { t with links := { t.links with searches := ⟨x.clkl, x.tries + 1, .windows 2⟩ :: t.links.searches } }
  else
    let t := t.fon (CLKL_ALIGN_STATUS_SEARCH_FAIL_SEEN x.clkl)
    { t with links := { t.links with retry := x.clkl :: t.links.retry } }

/-- A search at a window end (04 R122). -/
def State.advanceSearch (s : State) (k : Nat) : State :=
  match s.links.searches.find? fun x => decide (x.clkl = k) with
  | none => s
  | some x =>
    let put := fun (u : State) (p : SearchPhase) =>
      { u.dropSearch k with links := { (u.dropSearch k).links with searches := ⟨k, x.tries, p⟩ :: (u.dropSearch k).links.searches } }
    match x.phase with
    | .windows n =>
      if 1 < n then put s (.windows (n - 1))
      else if s.windowPasses k then (put s .confirm).askConfirm k
      else s.nextTry x
    | .confirm =>
      if s.fbit (CLKL_SLIP_CONFIRM k) then s
      else if s.fbit (CLKL_ALIGN_STATUS_ALIGNED k) then s.dropSearch k
      else s.nextTry x

/-- CLKL_WINDOW_END (04 R122): the window's result, a pending confirmation, the firmware's search. `commas`: K28.5 on
the boundary; `codeErr`: code and disparity errors; `errBits`: bit errors the checker found (R128). -/
def execClklWindowEnd (clkl : Fin 16) (commas : Fin 1025) (codeErr errBits : Nat) (s : State) :
    Host.Outcome State Fault Refusal :=
  let k := clkl.val
  whenUp s (
    if s.clklOn k then
      let t := (s.fset (CLKL_ALIGN_STATUS_COMMA_CNT k) commas.val).fset (CLKL_ALIGN_STATUS_CODE_ERR k) (min 1023 codeErr)
      let t := t.fwrap (CLKL_ALIGN_STATUS_WIN_SEQ k)
      let t := if t.fbit (CLKL_PRBS_CTRL_LOCK k) then t.fcount (CLKL_PRBS_ERRCNT_ERRCNT k) errBits else t
      (t.judgeConfirm k).advanceSearch k
    else s)

/-- ALIGN_LOST (04 R123). -/
def execAlignLost (clkl : Fin 16) (s : State) : Host.Outcome State Fault Refusal := whenUp s (s.unalign clkl.val true)

/-- The firmware may search on a clock lane (04 R124, R130). -/
def State.maySearch (s : State) (k : Nat) : Bool :=
  s.clklOn k && !s.fbit (CLKL_CTRL_MANUAL k) && s.fbit (CLKL_ALIGN_STATUS_RX_LOCK k)
    && !s.fbit (CLKL_ALIGN_STATUS_ALIGNED k) && s.clklQuiet k && s.hrt.holder.isSome

/-- A search starts from the present position (04 R122, R124). -/
def State.startSearch (s : State) (k : Nat) : State :=
  let t := s.dropSearch k
  { t with links := { t.links with searches := ⟨k, 0, .windows 2⟩ :: t.links.searches } }

/-- CLKL_ALIGN_SEARCH (04 R124): the active hearth's firmware starts a search; one that runs or waits goes on. -/
def execClklAlignSearch (clkl : Fin 16) (s : State) : Host.Outcome State Fault Refusal :=
  let k := clkl.val
  whenUp s (
    if s.maySearch k && !(s.links.searches.any fun x => decide (x.clkl = k)) && !s.links.retry.contains k then s.startSearch k
    else s)

/-- CLKL_SEARCH_RETRY (04 R124): RETRY_MS after a failed search. -/
def execClklSearchRetry (clkl : Fin 16) (s : State) : Host.Outcome State Fault Refusal :=
  let k := clkl.val
  whenUp s (if s.links.retry.contains k && s.maySearch k then s.startSearch k else s)

/-- A takeover ends every search; the new active hearth searches from the present position (04 R124). -/
def State.dropSearches (s : State) : State := { s with links := { s.links with searches := [], retry := [] } }

/-- TRUNK_DOWN_ALARM (04 R126, 16 R428). -/
def execTrunkDownAlarm (group : Fin 16) (s : State) : Host.Outcome State Fault Refusal :=
  let k := group.val
  whenUp s (
    if s.life = .running ∧ s.fbit (PORT_TRUNK_REQUIRED k) ∧ !s.isTrunk k ∧ !s.mgt.trunkDown.contains k then
      { s with mgt := { s.mgt with trunkDown := k :: s.mgt.trunkDown } }
    else s)

/-! ## Faults and loss (04 R118) -/

/-- SIGNAL_LOSS (04 R118, R123). -/
def execSignalLoss (lane : AnyLane) (s : State) : Host.Outcome State Fault Refusal :=
  whenUp s (match lane with
    | .data n =>
      if s.lbit (LANE_STATUS_SIGNAL n.val) then
        ((s.signalGone n.val).laneFalls n.val).laneRef n.val
      else s
    | .clock k =>
      ((s.foff (CLKL_ALIGN_STATUS_SIGNAL k.val)).dropSearch k.val).unalign k.val true)

/-- The checker of a data lane loses lock (04 R128, R131). -/
def State.checkerLoses (s : State) (n : Nat) : State :=
  if s.fbit (LANE_PRBS_CTRL_LOCK n) then (s.foff (LANE_PRBS_CTRL_LOCK n)).fon (LANE_PRBS_CTRL_LOCK_LOST_SEEN n) else s

/-- Clock recovery of a data lane is lost: no receive clock, no block lock, no offset, and the checker loses lock
(01 R32, 04 R111, R118, R131). -/
def State.clockGone (s : State) (n : Nat) : State :=
  let t := (s.ldecl (LANE_STATUS_CDR_LOCK n) 0).ldecl (LANE_STATUS_BLOCK_LOCK n) 0
  ((t.ldecl (LANE_STATUS_FREQ_OFS n) 0x8000).checkerLoses n).sourceGone n

/-- CDR_UNLOCK (04 R118, R123). -/
def execCdrUnlock (lane : AnyLane) (s : State) : Host.Outcome State Fault Refusal :=
  whenUp s (match lane with
    | .data n =>
      if s.lbit (LANE_STATUS_CDR_LOCK n.val) then ((s.clockGone n.val).laneFalls n.val).laneRef n.val else s
    | .clock k =>
      ((s.foff (CLKL_ALIGN_STATUS_RX_LOCK k.val)).dropSearch k.val).unalign k.val true)

/-- BLOCK_LOCK_LOSS (04 R118). -/
def execBlockLockLoss (lane : Fin 64) (s : State) : Host.Outcome State Fault Refusal :=
  whenUp s (
    if s.lbit (LANE_STATUS_BLOCK_LOCK lane.val) then
      (s.ldecl (LANE_STATUS_BLOCK_LOCK lane.val) 0).laneFalls lane.val
    else s)

/-- HI_BER (04 R117, R118). -/
def execHiBer (lane : Fin 64) (s : State) : Host.Outcome State Fault Refusal :=
  let n := lane.val
  whenUp s (
    if s.laneOn n && s.laneClock n then
      let t := (s.lset (LANE_STATUS_HI_BER n) 1).portFalls (s.portOf n)
      if t.fbit (PORT_MODE_ENABLE (s.portOf n)) then t.fon (PORT_STATUS_LF (s.portOf n)) else t
    else s)

/-- FAULT_RECEIVED (04 R117, R118). `remote`: Remote Fault, otherwise Local Fault; the one received ends the other (log
entry 80). -/
def execFaultReceived (port : Fin 64) (remote : Bool) (s : State) : Host.Outcome State Fault Refusal :=
  let p := port.val
  whenUp s (
    if s.hasPort p && s.fbit (PORT_MODE_ENABLE p) && !(s.lanesOf p).isEmpty then
      let t := (s.fput (PORT_STATUS_RF p) remote).fput (PORT_STATUS_LF p) !remote
      t.portFalls p
    else s)

/-! ## Lane restarts (04 R116, R119) -/

/-- A lane restart begins: a frame partly received is cut off, the link falls, both sides are reset
(01 R29, 04 R116, R119). -/
def State.beginRestart (s : State) (n : Nat) (crossed : List Byte) : State :=
  let p := s.portOf n
  let t := s.truncateFrame p crossed
  let t := (t.quillIngressLost p crossed).clockGone n
  let t := (t.laneFalls n).fset (LANE_ERR_INJECT_INJ_CNT n) 0
  let t := t.fon (LANE_CMD_RESTART n)
  { t with links := { t.links with restarting := n :: t.links.restarting.filter fun m => decide (m ≠ n) } }

/-- LANE_RESTART (04 R119): the lane controller restarts a lane in CROSSING_INVALID whose signal is present. -/
def execLaneRestart (lane : Fin 64) (crossed : List Byte) (s : State) : Host.Outcome State Fault Refusal :=
  let n := lane.val
  whenUp s (
    if s.laneOn n && s.laneInvalid n && s.lbit (LANE_STATUS_SIGNAL n) && !s.links.ctlRestart
        && !s.links.restarting.contains n then s.beginRestart n crossed
    else s)

/-- LANE_CMD_RESTART (04 R119): ignored while a restart runs. -/
def execLaneCmdRestart (q : Requester) (lane : Fin 64) (crossed : List Byte) (s : State) :
    Host.Outcome State Fault Refusal :=
  let n := lane.val
  whenTaken s q (if s.laneOn n && !s.fbit (LANE_CMD_RESTART n) then s.beginRestart n crossed else s)

/-- LANE_RESTART_DONE (04 R119): CROSSING_INVALID clears and bring-up continues; TXPH starts anew (06 R186). `arrival`:
the arrival phase in ps of the lane's phase source, where it is known. -/
def execLaneRestartDone (lane : Fin 64) (arrival : Option Nat) (s : State) : Host.Outcome State Fault Refusal :=
  let n := lane.val
  whenUp s (
    if s.links.restarting.contains n && !s.links.ctlRestart then
      let t := { s with links := { s.links with restarting := s.links.restarting.filter fun m => decide (m ≠ n) } }
      let t := ((t.foff (xingLane n)).ldecl (LANE_STATUS_CROSSING_INVALID n) 0).foff (LANE_CMD_RESTART n)
      let t := (t.carryLane n).restartTxph n arrival
      t.laneState n (t.waitState n)
    else s)

/-- FREQ_OFS_UPDATE (04 R111): in 0.01 ppm, saturating; the copy follows at a refresh. -/
def execFreqOfsUpdate (lane : Fin 64) (ofs : Int) (s : State) : Host.Outcome State Fault Refusal :=
  let n := lane.val
  whenUp s (
    if s.laneOn n && s.laneClock n then s.lset (LANE_STATUS_FREQ_OFS n) (wrapTo 16 (max (-32767) (min 32767 ofs)))
    else s)

/-! ## Test patterns and error injection (04 R127 to R130) -/

/-- PRBS_CHECKER_LOCK (04 R128). -/
def execPrbsCheckerLock (lane : AnyLane) (s : State) : Host.Outcome State Fault Refusal :=
  whenUp s (match lane with
    | .data n =>
      if s.laneOn n.val && s.fbit (LANE_PRBS_CTRL_RX_EN n.val) && s.laneClock n.val then s.fon (LANE_PRBS_CTRL_LOCK n.val)
      else s
    | .clock k =>
      if s.clklOn k.val && s.fbit (CLKL_PRBS_CTRL_RX_EN k.val) && s.fbit (CLKL_ALIGN_STATUS_RX_LOCK k.val) then
        s.fon (CLKL_PRBS_CTRL_LOCK k.val)
      else s)

/-- PRBS_LOCK_LOST (04 R128). -/
def execPrbsLockLost (lane : AnyLane) (s : State) : Host.Outcome State Fault Refusal :=
  whenUp s (match lane with
    | .data n => s.checkerLoses n.val
    | .clock k =>
      if s.fbit (CLKL_PRBS_CTRL_LOCK k.val) then
        (s.foff (CLKL_PRBS_CTRL_LOCK k.val)).fon (CLKL_PRBS_CTRL_LOCK_LOST_SEEN k.val)
      else s)

/-- The error counter of a lane is cleared (04 R128). -/
def State.clearErrors (s : State) (lane : AnyLane) : State :=
  match lane with
  | .data n => if s.hasLane n.val then s.ldecl (LANE_PRBS_ERRCNT_ERRCNT n.val) 0 else s
  | .clock k => if s.hasClkl k.val then s.fset (CLKL_PRBS_ERRCNT_ERRCNT k.val) 0 else s

/-- PRBS_CLR (04 R128). -/
def execPrbsClr (q : Requester) (lane : AnyLane) (s : State) : Host.Outcome State Fault Refusal :=
  whenTaken s q (s.clearErrors lane)

/-- TX_EN of a lane is written (04 R130): on a data lane of an enabled port LINK becomes 0, once the frame being sent is
finished; on a clock lane ALIGNED is cleared. -/
def State.setTxEn (s : State) (lane : AnyLane) (on : Bool) : State :=
  match lane with
  | .data n =>
    let m := n.val
    if !s.hasLane m then s
    else
      let t := s.fput (LANE_PRBS_CTRL_TX_EN m) on
      let st := if t.laneOn m && t.lbit (LANE_STATUS_BLOCK_LOCK m) && !t.seeking m then 3 else t.waitState m
      if on = s.fbit (LANE_PRBS_CTRL_TX_EN m) then t
      else if on then (if s.fbit (PORT_MODE_ENABLE (s.portOf m)) then t.portStops (s.portOf m) true else t).laneState m st
      else t.laneState m st
  | .clock k =>
    if !s.hasClkl k.val then s
    else
      let t := s.fput (CLKL_PRBS_CTRL_TX_EN k.val) on
      if on then (t.dropSearch k.val).unalign k.val false else t

/-- RX_EN of a lane is written (04 R128, R130): on a clock lane ALIGNED is cleared; a checker that is stopped is unlocked,
which is no loss of lock (DESIGN CHOICE, log entry 81). -/
def State.setRxEn (s : State) (lane : AnyLane) (on : Bool) : State :=
  match lane with
  | .data n =>
    if !s.hasLane n.val then s
    else
      let t := s.fput (LANE_PRBS_CTRL_RX_EN n.val) on
      if on then t else t.foff (LANE_PRBS_CTRL_LOCK n.val)
  | .clock k =>
    if !s.hasClkl k.val then s
    else
      let t := s.fput (CLKL_PRBS_CTRL_RX_EN k.val) on
      if on then (t.dropSearch k.val).unalign k.val false else t.foff (CLKL_PRBS_CTRL_LOCK k.val)

/-- PRBS_TX_EN (04 R130). -/
def execPrbsTxEn (q : Requester) (lane : AnyLane) (on : Bool) (s : State) : Host.Outcome State Fault Refusal :=
  whenTaken s q (s.setTxEn lane on)

/-- The burst length of a LEN field (04 R129). -/
def burst (len : Nat) : Nat := clampNat 1 64 len

/-- An error burst is injected; a lane in electrical idle or a silent clock lane injects nothing, and INJ_CNT does not
count that GO (04 R129; that it does not is a DESIGN CHOICE, log entry 81). Clock lane k is lane 64 + k of the output. -/
def State.injectErrors (s : State) (lane : AnyLane) : State :=
  match lane with
  | .data n =>
    if s.laneOn n.val then
      (s.emit (.injected n.val (burst (s.fget (LANE_ERR_INJECT_LEN n.val))))).fcount (LANE_ERR_INJECT_INJ_CNT n.val) 1
    else s
  | .clock k =>
    if s.clklOn k.val then s.emit (.injected (64 + k.val) (burst (s.fget (CLKL_PRBS_CTRL_INJ_LEN k.val)))) else s

/-- ERR_INJECT_GO (04 R129). -/
def execErrInjectGo (q : Requester) (lane : AnyLane) (s : State) : Host.Outcome State Fault Refusal :=
  whenTaken s q (s.injectErrors lane)

end Sys2Proof.Machine
end

