-- ==== Sys2Proof/Machine/Counters.lean ====
section
/-! DEFINITION. Snapshot, freeze and clear of the counters (15 R401 to R404), bandwidth windows' ends (R407), the capture
ring's pops and mirror (R412, R413).

Choices (log entries): 7 DESIGN CHOICE, 60 DEDUCED, 69 DEDUCED, 90 DEDUCED. -/

namespace Sys2Proof.Machine

/-! ## Actions (15 R401 to R404) -/

/-- The wrap words of every port, by 2 n and 2 n + 1. -/
def State.wrapWords (s : State) : SMap Nat :=
  (List.range 64).foldl (fun m n =>
    mapSet (fun _ => 0) (mapSet (fun _ => 0) m (2 * n) (s.getReg (CNT_WRAP0 n))) (2 * n + 1) (s.getReg (CNT_WRAP1 n))) []

/-- Every counter and wrap bit is copied into the snapshot bank (15 R402). -/
def State.snapshotAt (s : State) (ns : Nat) : State :=
  let t := { s with cnt := { s.cnt with snap := s.cnt.vals, snapWrap := s.wrapWords } }
  let t := (t.fwrap CNT_SNAP_SEQ_SEQ).fon CNT_STATUS_SNAP_SEEN
  (t.setReg CNT_SNAP_TIME_NS (ns % nsPerSec)).setReg CNT_SNAP_TIME_SEC_LO (ns / nsPerSec)

/-- Every counter is 0 and its wrap bit cleared (15 R401). -/
def State.clearCounters (s : State) : State :=
  (List.range 64).foldl (fun t n => (t.setReg (CNT_WRAP0 n) 0).setReg (CNT_WRAP1 n) 0)
    { s with cnt := { s.cnt with vals := [] } }

/-- An action is performed at an instant in ns (15 R401, R402). -/
def State.cntAction (s : State) (op ns : Nat) : State :=
  match op with
  | 1 => s.snapshotAt ns
  | 2 => s.fon CNT_STATUS_FROZEN
  | 3 => s.foff CNT_STATUS_FROZEN
  | 4 => (s.snapshotAt ns).clearCounters
  | _ => s

/-- The pending timed action is set or discarded; PEND_OP follows (15 R404). -/
def State.setTimed (s : State) (a : Option (Nat × Nat)) : State :=
  { s with cnt := { s.cnt with timed := a } }.fset CNT_STATUS_PEND_OP (a.elim 0 fun x => x.1)

/-- CNT_ACT_TIME in ns. -/
def State.actTime (s : State) : Nat :=
  (s.fget CNT_ACT_TIME_SEC_HI_SEC_HI * 2 ^ 32 + s.fget CNT_ACT_TIME_SEC_LO_SEC_LO) * nsPerSec + s.fget CNT_ACT_TIME_NS_NS

/-- The lowest code under which a GO is refused; 0 where it is taken (15 R404). -/
def State.cntRefuse (s : State) (op : Nat) (timed : Bool) : Nat :=
  if timed && s.cnt.timed.isSome then 1
  else if timed && decide (nsPerSec ≤ s.fget CNT_ACT_TIME_NS_NS) then 2
  else if timed && decide (s.actTime * unitsPerNs < s.time.clock + 10000 * unitsPerNs) then 3
  else if timed && decide (s.time.clock + 3600 * nsPerSec * unitsPerNs < s.actTime * unitsPerNs) then 4
  else if op = 0 ∨ 5 ≤ op then 5
  else 0

/-- GO: refused, performed, or made pending (15 R404). -/
def State.cntGo (s : State) (op : Nat) (timed : Bool) : State :=
  let r := s.cntRefuse op timed
  if r ≠ 0 then (s.fon CNT_STATUS_REFUSED_SEEN).fset CNT_STATUS_REFUSE r
  else if timed then s.setTimed (some (op, s.actTime))
  else s.cntAction op s.timeNs

/-- OP and TIMED of a write to CNT_CMD are held, and its GO is judged. -/
def State.cntCmd (s : State) (op : Nat) (timed : Bool) : State :=
  ((s.fset CNT_CMD_OP op).fput CNT_CMD_TIMED timed).cntGo op timed

/-- CNT_SNAPSHOT (15 R401). -/
def execCntSnapshot (q : Requester) (timed : Bool) (s : State) : Host.Outcome State Fault Refusal :=
  whenTaken s q (s.cntCmd 1 timed)

/-- CNT_FREEZE (15 R401). -/
def execCntFreeze (q : Requester) (timed : Bool) (s : State) : Host.Outcome State Fault Refusal :=
  whenTaken s q (s.cntCmd 2 timed)

/-- CNT_THAW (15 R401). -/
def execCntThaw (q : Requester) (timed : Bool) (s : State) : Host.Outcome State Fault Refusal :=
  whenTaken s q (s.cntCmd 3 timed)

/-- CNT_SNAPSHOT_CLEAR (15 R401). -/
def execCntSnapshotClear (q : Requester) (timed : Bool) (s : State) : Host.Outcome State Fault Refusal :=
  whenTaken s q (s.cntCmd 4 timed)

/-- CNT_ABORT (15 R404). -/
def execCntAbort (q : Requester) (s : State) : Host.Outcome State Fault Refusal := whenTaken s q (s.setTimed none)

/-- CNT_TIMED_ACTION (15 R402, R404): the pending action is performed at its instant. -/
def execCntTimedAction (s : State) : Host.Outcome State Fault Refusal :=
  whenUp s (match s.cnt.timed with
    | some a => if a.2 * unitsPerNs ≤ s.time.clock then (s.setTimed none).cntAction a.1 a.2 else s
    | none => s)

/-- A step has moved time: a pending action whose instant it reached or passed is performed with the time after the step
(15 R402, R404). -/
def State.cntStep (s : State) : State :=
  match s.cnt.timed with
  | some a =>
    if a.2 * unitsPerNs ≤ s.time.clock then ((s.setTimed none).cntAction a.1 s.timeNs).fon CNT_STATUS_LATE_SEEN else s
  | none => s

/-! ## Bandwidth windows (15 R405, R407) -/

/-- The number of the next result: it wraps from 65,535 to 1 (15 R414). -/
def nextResult (n : Nat) : Nat := if n = 65535 then 1 else n + 1

/-- The result of a period is written (15 R407). -/
def State.bwWrite (s : State) (w : Nat) (b : BwWin) : State :=
  let t := (s.setReg (CNT_BW_BYTES_LO w) b.bytes).setReg (CNT_BW_BYTES_HI w) (b.bytes / 2 ^ 32 % 2 ^ 16)
  let t := t.setReg (CNT_BW_FRAMES w) (satCount 32 b.frames)
  let t := (t.fset (CNT_BW_RES_SEQ w) (nextResult (t.fget (CNT_BW_RES_SEQ w)))).fput (CNT_BW_RES_COAST w) b.coast
  let t := (t.fput (CNT_BW_RES_STALE w) b.stale).fput (CNT_BW_RES_STEPPED w) b.stepped
  t.setReg (CNT_BW_START w) (b.start % 2 ^ 32)

/-- The period in progress has reached its end, or a step has moved time inside it (15 R405, R407). -/
def State.bwDue (s : State) (w : Nat) : Bool :=
  let b := s.bwOf w
  !b.running || b.stepped || decide (b.start + max 1 (s.fget (CNT_BW_LEN_LEN_US w)) ≤ s.stampNow / 2 ^ 16 / 1000)

/-- BW_PERIOD_END (15 R405, R407): a period boundary of a window; the first one starts its first period. -/
def execBwPeriodEnd (window : Fin 64) (s : State) : Host.Outcome State Fault Refusal :=
  let w := window.val
  whenUp s (
    if s.fbit (CNT_BW_CFG_ENABLE w) && s.bwDue w then
      let b := s.bwOf w
      let t := if b.running then s.bwWrite w b else s
      t.setBw w ⟨true, s.bwPeriod w s.stampNow, 0, 0, false, false, s.coasting⟩
    else s)

/-- A step has moved time: the periods in progress are marked (15 R407). -/
def State.bwStep (s : State) : State :=
  (List.range 64).foldl (fun t w =>
    if (t.bwOf w).running then t.setBw w { t.bwOf w with stepped := true } else t) s

/-- A takeover runs: the periods in progress are marked (15 R407). -/
def State.bwCoast (s : State) : State :=
  (List.range 64).foldl (fun t w =>
    if (t.bwOf w).running then t.setBw w { t.bwOf w with coast := true } else t) s

/-! ## Capture (15 R412, R413) -/

/-- The oldest unread record moves into a requester's record buffer (15 R411, R412). -/
def State.capPop (s : State) (q : Requester) : State :=
  match s.cnt.ring with
  | [] => s.setCapBuf q { s.capBufOf q with valid := false }
  | r :: rest =>
    let t := s.setCapBuf q ⟨true, 0, r.bytes⟩
    { t with cnt := { t.cnt with ring := rest } }.ringState

/-- CNT_CAP_POP (15 R412). -/
def execCntCapPop (q : Requester) (s : State) : Host.Outcome State Fault Refusal := whenTaken s q (s.capPop q)

/-- A requester's word index advances, modulo 40 (15 R412). -/
def State.capAdvance (s : State) (q : Requester) : State :=
  s.setCapBuf q { s.capBufOf q with index := ((s.capBufOf q).index + 1) % 40 }

/-- CNT_CAP_DATA_READ (15 R412). -/
def execCntCapDataRead (q : Requester) (s : State) : Host.Outcome State Fault Refusal :=
  let b := s.capBufOf q
  whenUp s ((s.emit (.answer q (CNT_CAP_DATA (reqIx q) % 2 ^ 32) (BitVec.ofNat 32 (capWord b b.index)))).capAdvance q)

/-- A mirror frame of records (15 R413). -/
def State.mirrorFrame (s : State) (rs : List CapRec) : List Byte :=
  withFcs (beBytes 6 (s.fget CNT_CAP_MIRROR_DMAC_HI_DMAC_HI * 2 ^ 32 + s.fget CNT_CAP_MIRROR_DMAC_LO_DMAC_LO)
    ++ beBytes 4 0x02554B00 ++ beBytes 2 (s.fget LYD_NODE_NODE_ID) ++ beBytes 2 (s.fget CNT_CAP_MIRROR_MIRROR_ETYPE)
    ++ beBytes 2 rs.length ++ [0, 0] ++ beBytes 4 ((rs.head?).elim 0 fun r => r.seq) ++ (rs.map fun r => r.bytes).flatten)

/-- MIRROR_FRAME_SEND (15 R413): up to 9 records that were written with MIRROR_EN 1; a frame refused at admission is counted. -/
def execMirrorFrameSend (s : State) : Host.Outcome State Fault Refusal :=
  whenUp s (
    if s.cnt.mirror.isEmpty then s
    else
      let t := { s with cnt := { s.cnt with mirror := s.cnt.mirror.drop 9 } }
      let r := t.inject (s.fget CNT_CAP_MIRROR_MIRROR_PORT) (min 9 (s.fget CNT_CAP_MIRROR_MIRROR_TC)) 0
        (s.mirrorFrame (s.cnt.mirror.take 9))
      if r.2 then r.1 else r.1.fcount CNT_CAP_MIRROR_MIRROR_LOST_CNT 1)

end Sys2Proof.Machine
end

