-- ==== Sys2Proof/Machine/Nib.lean ====
section
/-! DEFINITION. Nib inputs (11): stamps, the stamp buffer, interval measurements, frequency gates. Times count bins of
0.5 ps of network time.

Choices (log entries): 7 DESIGN CHOICE, 8 DESIGN CHOICE, 16 DEDUCED, 59 DEDUCED, 60 DEDUCED, 61 DEDUCED. -/

namespace Sys2Proof.Machine

/-- Bins in a nanosecond (11 R324). -/
def binsPerNs : Nat := 2000

/-- An input with nothing stored. -/
def inputIdle : NibInput := ⟨[], none, false, false, false, 0, none, [], 0, false, false, none, []⟩

/-- Input n. -/
def State.nibIn (s : State) (n : Nat) : NibInput := mapGet (fun _ => inputIdle) s.nib.ins n

/-- The state with input n replaced. -/
def State.setNibIn (s : State) (n : Nat) (v : NibInput) : State :=
  { s with nib := { s.nib with ins := mapSet (fun _ => inputIdle) s.nib.ins n v } }

/-- Network time in bins. -/
def State.binsNow (s : State) : Nat := s.time.clock * binsPerNs / unitsPerNs

/-- MODE is 1: the input is the stop input of an interval engine. -/
def State.nibIntervals (s : State) (n : Nat) : Bool := s.fbit (NIB_CFG_MODE n)

/-- MSTATE: 0 IDLE, 1 WAIT_START, 2 COLLECT, 3 DONE. -/
def State.mstate (s : State) (n : Nat) : Nat := s.fget (NIB_STATUS_MSTATE n)

/-- The edge has a selected polarity; EDGE 3 acts as 0 (11 R328). -/
def State.edgeSelected (s : State) (n : Nat) (falling : Bool) : Bool :=
  match s.fget (NIB_CFG_EDGE n) with
  | 1 => falling
  | 2 => true
  | _ => !falling

/-- The edge has the polarity of the frequency engine: rising with EDGE 0 or 2, falling with EDGE 1 (11 R335). -/
def State.edgeUsed (s : State) (n : Nat) (falling : Bool) : Bool :=
  if s.fget (NIB_CFG_EDGE n) = 1 then falling else !falling

/-! ## The stamp buffer (11 R329, R330) -/

/-- An entry is stored with the marks that wait for it; a full buffer discards it (11 R326, R330, R338). -/
def State.storeEntry (s : State) (n : Nat) (e : NibEntry) : State :=
  let v := s.nibIn n
  if v.entries.length < 4096 then
    let e := { e with deadBefore := v.deadMark, gapBefore := v.gapMark, stepped := e.stepped || v.stepMark }
    s.setNibIn n { v with entries := v.entries ++ [e], deadMark := false, gapMark := false, stepMark := false }
  else
    ((s.fcount (NIB_CNT_OVF_CNT n) 1).seen (NIB_STATUS_OVF_SEEN n) .overflow).setNibIn n { v with gapMark := true }

/-- The entry words of a requester (11 R329, R339). -/
def State.loadNib (s : State) (q : Requester) (n : Nat) (e : Option NibEntry) : State :=
  let r := reqIx q
  match e with
  | none => (((s.setReg (NIB_ENTRY r n) 0).setReg (NIB_ENTRY_NS r n) 0).setReg (NIB_ENTRY_SEC_LO r n) 0).setReg
      (NIB_ENTRY_SEC_HI r n) 0
  | some e =>
    let ns := e.value / binsPerNs
    let head := 2 ^ 31 + e.type * 2 ^ 29 + e.falling.toNat * 2 ^ 28 + e.stale.toNat * 2 ^ 27 + e.locked.toNat * 2 ^ 26
      + e.coast.toNat * 2 ^ 25 + e.deadBefore.toNat * 2 ^ 24 + e.gapBefore.toNat * 2 ^ 23 + e.stepped.toNat * 2 ^ 22
      + e.near.toNat * 2 ^ 21 + e.neg.toNat * 2 ^ 20 + e.overrange.toNat * 2 ^ 19 + e.value % binsPerNs
    let t := s.setReg (NIB_ENTRY r n) head
    if e.type = 2 then
      ((t.setReg (NIB_ENTRY_NS r n) ns).setReg (NIB_ENTRY_SEC_LO r n) (ns / 2 ^ 32 % 2 ^ 8)).setReg (NIB_ENTRY_SEC_HI r n) 0
    else
      ((t.setReg (NIB_ENTRY_NS r n) (ns % nsPerSec)).setReg (NIB_ENTRY_SEC_LO r n) (ns / nsPerSec)).setReg
        (NIB_ENTRY_SEC_HI r n) (ns / nsPerSec / 2 ^ 32 % 2 ^ 16)

/-- A pop removes the head entry into a requester's entry words (11 R329). -/
def State.nibPop (s : State) (q : Requester) (n : Nat) : State :=
  let v := s.nibIn n
  (s.loadNib q n v.entries.head?).setNibIn n { v with entries := v.entries.tail }

/-- NIB_POP (11 R329). -/
def execNibPop (q : Requester) (input : Fin 16) (s : State) : Host.Outcome State Fault Refusal :=
  whenTaken s q (if s.hasEvent input.val && !s.fbit GLB_XING_DOMAIN_NIB_INVALID then s.nibPop q input.val else s)

/-! ## Interval measurements (11 R331 to R334) -/

/-- The coincidence window W in bins (11 R332). -/
def coincidence : Nat := 20

/-- Coarse intervals count modulo 2^40 ns (11 R334). -/
def coarseMod : Nat := 2 ^ 40 * binsPerNs

/-- Stops of a measurement (11 R339). -/
def State.stopMax (s : State) (n : Nat) : Nat := max 1 (s.fget (NIB_CFG_STOP_MAX n))

/-- A stop is stored with its interval; the last one ends the measurement (11 R332 to R334). -/
def State.storeStop (s : State) (n : Nat) (e : NibEntry) (size : Nat) (neg : Bool) : State :=
  let far := !neg && decide (coarseMod < size)
  let t := if far then s.fon (NIB_STATUS_OVERRANGE_SEEN n) else s
  let t := t.storeEntry n { e with
    type := 2, near := decide (size ≤ coincidence), neg := neg, overrange := far, value := size % coarseMod }
  let t := t.setNibIn n { t.nibIn n with stops := (t.nibIn n).stops + 1 }
  if t.stopMax n ≤ (t.nibIn n).stops then t.fset (NIB_STATUS_MSTATE n) 3 else t

/-- A stop edge is judged by its stamp against the start stamp (11 R332). -/
def State.judgeStop (s : State) (n ts : Nat) (e : NibEntry) : State :=
  if s.mstate n ≠ 2 then s
  else if e.value + coincidence < ts then (s.fcount (NIB_STATUS_EARLY_CNT n) 1).fon (NIB_STATUS_EARLY_SEEN n)
  else if e.value < ts then s.storeStop n e (ts - e.value) true
  else s.storeStop n e (e.value - ts) false

/-- A measurement takes its start: entry 0, then the stop edges that waited for it (11 R331, R332). -/
def State.takeStart (s : State) (n : Nat) (e : NibEntry) : State :=
  let t := (s.storeEntry n { e with type := 1 }).fset (NIB_STATUS_MSTATE n) 2
  let v := t.nibIn n
  let t := t.setNibIn n { v with start := some e.value, waiting := [] }
  v.waiting.foldl (fun u x => u.judgeStop n e.value x) t

/-- An edge of input n offered to the interval engine of input m as its start (11 R331). -/
def State.offerStart (s : State) (n m : Nat) (e : NibEntry) : State :=
  if s.nibIntervals m && decide (s.mstate m = 1) && decide (s.fget (NIB_CFG_START_SRC m) = n)
      && decide ((s.nibIn m).armAt + 100 * binsPerNs ≤ e.value) then
    s.takeStart m { e with stale := e.stale || (s.nibIn m).measStale, stepped := false }
  else s

/-- An edge of input n as a stop of its own engine (11 R332). -/
def State.offerStop (s : State) (n : Nat) (e : NibEntry) : State :=
  let v := s.nibIn n
  let e := { e with stale := e.stale || v.measStale, stepped := v.measStepped }
  match s.mstate n, v.start with
  | 1, _ => if v.armAt ≤ e.value then s.setNibIn n { v with waiting := v.waiting ++ [e] } else s
  | 2, some ts => s.judgeStop n ts e
  | _, _ => s

/-! ## Frequency gates (11 R335 to R337) -/

/-- GATE_US in force. -/
def State.gateUs (s : State) (n : Nat) : Nat := max 1 (s.fget (NIB_GATE_GATE_US n))

/-- A gate starts at a time in µs, with the marks of this moment. -/
def State.newGate (s : State) (start : Nat) : NibGate :=
  ⟨start, 0, 0, [], false, false, s.heldGroup 0 || s.heldGroup 5, s.coasting⟩

/-- Kept edges at which D doubles (11 R336). -/
def keepLimit : Nat := 1048576

/-- An edge enters a gate: every D-th is kept, and a full set doubles D (11 R336). -/
def gateEdge (g : NibGate) (stamp : Nat) : NibGate :=
  let k := g.count
  let kept := if k % 2 ^ g.dexp = 0 then (k, stamp) :: g.kept else g.kept
  if kept.length < keepLimit then { g with count := k + 1, kept := kept }
  else { g with count := k + 1, dexp := g.dexp + 1, kept := kept.filter fun e => decide (e.1 % 2 ^ (g.dexp + 1) = 0) }

/-- An edge goes to the gate in which it lies, where one that the dead time took disturbs the gate; an edge beyond the
gate waits for the next one (11 R335 to R337). -/
def State.freqEdge (s : State) (n stamp : Nat) (lost : Bool) : State :=
  let v := s.nibIn n
  match v.gate with
  | none => s
  | some g =>
    let us := stamp / binsPerNs / 1000
    if us < g.start then s
    else if us < g.start + s.gateUs n then
      s.setNibIn n { v with gate := some (if lost then { g with disturbed := true } else gateEdge g stamp) }
    else s.setNibIn n { v with late := v.late ++ [(stamp, lost)] }

/-- N of a list of kept edges times a sum: the sums of the fit (11 R336). -/
structure FitSums where
  n : Nat
  k : Nat
  t : Nat
  kk : Nat
  kt : Nat
  tt : Nat
  deriving DecidableEq, Repr

/-- The sums over the kept edges. -/
def fitSums (es : List (Nat × Nat)) : FitSums :=
  es.foldl (fun a e => ⟨a.n + 1, a.k + e.1, a.t + e.2, a.kk + e.1 * e.1, a.kt + e.1 * e.2, a.tt + e.2 * e.2⟩)
    ⟨0, 0, 0, 0, 0, 0⟩

/-- N times the sum of the products of the deviations of k and t. -/
def FitSums.cov (f : FitSums) : Int := (f.n : Int) * f.kt - (f.k : Int) * f.t
/-- N times the sum of the squared deviations of k. -/
def FitSums.varK (f : FitSums) : Nat := f.n * f.kk - f.k * f.k
/-- N times the sum of the squared deviations of t. -/
def FitSums.varT (f : FitSums) : Nat := f.n * f.tt - f.t * f.t

/-- P in 2^-24 ns, not rounded by the spec (11 R336, R339). -/
def State.fitPeriod (s : State) (f : FitSums) : Nat := (s.freeDiv (f.cov * 2 ^ 24) (binsPerNs * f.varK)).toNat

/-- The RMS of the residuals in 0.01 ps, not rounded by the spec, saturating (11 R339). -/
def State.fitRms (s : State) (f : FitSums) : Nat :=
  let num := 2500 * ((f.varT : Int) * f.varK - f.cov * f.cov).toNat
  let den := f.varK * f.n * f.n
  let q := num / max 1 den
  let r := isqrt q
  satCount 16 (if r * r * den = num then r else r + s.freeVal % 2)

/-- The lowest reason that applies to a gate; 0 where it carries a period (11 R337). -/
def gateReason (g : NibGate) : Nat :=
  if g.kept.length < 3 then 1 else if g.stepped then 2 else if g.disturbed then 3 else 0

/-- The result of a gate is written (11 R336, R337, R339). -/
def State.writeGate (s : State) (n : Nat) (g : NibGate) : State :=
  let f := fitSums g.kept
  let reason := gateReason g
  let p := if reason = 0 then s.fitPeriod f else 0
  let rms := if reason = 0 then s.fitRms f else s.freeVal % 2 ^ 16
  let t := s.useFree.setWide2 (NIB_FREQ_P_LO n) (NIB_FREQ_P_HI n) p
  let t := (t.fset (NIB_FREQ_INFO_REASON n) reason).fput (NIB_FREQ_INFO_STALE n) g.stale
  let t := (t.fput (NIB_FREQ_INFO_COAST n) g.coast).fset (NIB_FREQ_INFO_DEXP n) g.dexp
  let t := (t.fset (NIB_FREQ_INFO_N n) g.kept.length).fset (NIB_FREQ_RES_RMS_RES n) rms
  let t := t.fset (NIB_FREQ_RES_SEQ n) (nextResult (t.fget (NIB_FREQ_RES_SEQ n)))
  t.setReg (NIB_FREQ_T n) (g.start % 2 ^ 32)

/-- The gate boundary at or before the network time of now, in µs (11 R335). -/
def State.gateHere (s : State) (n : Nat) : Nat :=
  let us := s.timeNs / 1000
  us - us % s.gateUs n

/-- FREQ_GATE_END (11 R335, R336): a gate boundary of an input; the first one starts its first gate. -/
def execFreqGateEnd (input : Fin 16) (s : State) : Host.Outcome State Fault Refusal :=
  let n := input.val
  whenUp s (
    if s.hasEvent n && s.fbit (NIB_CFG_FREQ_EN n) && !s.fbit GLB_XING_DOMAIN_NIB_INVALID && !s.fbit NIB_CTRL_RESTART then
      let v := s.nibIn n
      match v.gate with
      | none => s.setNibIn n { v with gate := some (s.newGate (s.gateHere n)), late := [] }
      | some g =>
        let start := if g.stepped then s.gateHere n else max (s.gateHere n) (g.start + s.gateUs n)
        let t := s.writeGate n g
        let t := t.setNibIn n { v with gate := some (s.newGate start), late := [] }
        v.late.foldl (fun u x => u.freqEdge n x.1 x.2) t
    else s)

/-! ## Edges (11 R324 to R328) -/

/-- An edge lost to the dead time (11 R326, R337). -/
def State.deadEdge (s : State) (n : Nat) (falling : Bool) (stamp : Nat) : State :=
  let t := (s.fcount (NIB_CNT_DEAD_CNT n) 1).fon (NIB_STATUS_DEAD_SEEN n)
  let t := t.setNibIn n { t.nibIn n with deadMark := true }
  if t.fbit (NIB_CFG_FREQ_EN n) && t.edgeUsed n falling then t.freqEdge n stamp true else t

/-- What an edge carries at its stamp (11 R338, R339). -/
def State.rawEntry (s : State) (falling : Bool) (stamp : Nat) : NibEntry :=
  ⟨0, falling, s.heldGroup 0 || s.heldGroup 5, decide (s.timeMode = .locked), s.coasting, false, false, false, false,
    false, false, stamp⟩

/-- A stamped edge reaches its consumers: its own buffer or engine, the engines that name it as their start, its
frequency engine (11 R328). -/
def State.stampEdge (s : State) (n : Nat) (falling : Bool) (stamp : Nat) : State :=
  let e := s.rawEntry falling stamp
  let t := s.setNibIn n { s.nibIn n with last := some stamp }
  let waited := decide (t.mstate n = 1)
  let t := (List.range 16).foldl (fun u m => u.offerStart n m e) t
  let own := waited && decide (t.mstate n ≠ 1) && decide (t.fget (NIB_CFG_START_SRC n) = n)
  let t := if !t.nibIntervals n then t.storeEntry n e else if own then t else t.offerStop n e
  if t.fbit (NIB_CFG_FREQ_EN n) && t.edgeUsed n falling then t.freqEdge n stamp false else t

/-- The dead time in bins (11 R326). -/
def deadBins : Nat := 3200

/-- NIB_EDGE (11 R324, R326). `stamp`: the time of the edge in bins of 0.5 ps of network time. -/
def execNibEdge (input : Fin 16) (falling : Bool) (stamp : Nat) (s : State) : Host.Outcome State Fault Refusal :=
  let n := input.val
  whenUp s (
    if s.hasEvent n && s.fbit (NIB_CFG_ENABLE n) && s.edgeSelected n falling
        && !s.fbit GLB_XING_DOMAIN_NIB_INVALID && !s.fbit NIB_CTRL_RESTART then
      match (s.nibIn n).last with
      | some l => if l ≤ stamp ∧ stamp < l + deadBins then s.deadEdge n falling stamp else s.stampEdge n falling stamp
      | none => s.stampEdge n falling stamp
    else s)

/-! ## Commands -/

/-- The engine of an input ends with its entries kept (11 R333, R338). -/
def State.endMeasure (s : State) (n : Nat) : State :=
  let v := s.nibIn n
  (s.setNibIn n { v with start := none, waiting := [], stops := 0, measStepped := false, measStale := false }).fset
    (NIB_STATUS_MSTATE n) 0

/-- ARM (11 R331). -/
def State.nibArm (s : State) (n : Nat) : State :=
  if s.nibIntervals n && (decide (s.mstate n = 0) || decide (s.mstate n = 3)) then
    let v := s.nibIn n
    let t := if v.entries.isEmpty then s else s.fon (NIB_STATUS_FLUSHED_SEEN n)
    (t.setNibIn n { v with
      entries := [], armAt := s.binsNow, start := none, waiting := [], stops := 0, measStepped := false
      measStale := false }).fset (NIB_STATUS_MSTATE n) 1
  else s

/-- FLUSH (11 R329). -/
def State.nibFlush (s : State) (n : Nat) : State := s.setNibIn n { s.nibIn n with entries := [] }

/-- A write to NIB_CMD reaches its input (01 R435, 03 R103). -/
def State.nibReach (s : State) (n : Nat) : Bool := s.hasEvent n && !s.fbit GLB_XING_DOMAIN_NIB_INVALID

/-- NIB_ARM (11 R331). -/
def execNibArm (q : Requester) (input : Fin 16) (s : State) : Host.Outcome State Fault Refusal :=
  whenTaken s q (if s.nibReach input.val then s.nibArm input.val else s)

/-- NIB_ABORT (11 R333). -/
def execNibAbort (q : Requester) (input : Fin 16) (s : State) : Host.Outcome State Fault Refusal :=
  whenTaken s q (if s.nibReach input.val then s.endMeasure input.val else s)

/-- NIB_FLUSH (11 R329). -/
def execNibFlush (q : Requester) (input : Fin 16) (s : State) : Host.Outcome State Fault Refusal :=
  whenTaken s q (if s.nibReach input.val then s.nibFlush input.val else s)

/-- The nib block restarts: every buffer, measurement and gate is discarded (11 R338); the marks that wait for the next
stored entry stay. -/
def State.nibRestart (s : State) : State :=
  ((List.range 16).foldl (fun u n =>
    let v := u.nibIn n
    (u.setNibIn n { inputIdle with deadMark := v.deadMark, gapMark := v.gapMark, stepMark := v.stepMark }).fset
      (NIB_STATUS_MSTATE n) 0) s).fon NIB_CTRL_RESTART

/-- NIB_RESTART (11 R338); ignored while one runs (00 R8). -/
def execNibRestart (q : Requester) (s : State) : Host.Outcome State Fault Refusal :=
  whenTaken s q (if s.fbit NIB_CTRL_RESTART then s else s.nibRestart)

/-- NIB_RESTART_DONE (11 R338). -/
def execNibRestartDone (s : State) : Host.Outcome State Fault Refusal :=
  whenUp s (
    if s.fbit NIB_CTRL_RESTART then (s.foff NIB_CTRL_RESTART).foff GLB_XING_DOMAIN_NIB_INVALID else s)

/-- A time moved by a step, in bins; not below 0. -/
def shiftBins (v : Nat) (d : Int) : Nat := ((v : Int) + d).toNat

/-- Every input of the part changed by a function. -/
def State.mapNib (s : State) (f : NibInput → NibInput) : State :=
  (List.range (resCount s.part .event)).foldl (fun t n => t.setNibIn n (f (t.nibIn n))) s

/-- A step has moved time by d bins: the intervals that span it carry STEPPED (11 R338). -/
def State.nibStep (s : State) (d : Int) : State :=
  s.mapNib fun v => { v with
    last := v.last.map fun x => shiftBins x d
    stepMark := true, armAt := shiftBins v.armAt d, measStepped := v.start.isSome
    waiting := v.waiting.map fun e => { e with stepped := true }
    gate := v.gate.map fun g => { g with stepped := true } }

/-- How many of the latest stamps of a buffer may not have crossed when the clock is declared absent: those of at most
200 ns before the clock stopped, 128 ns ago (01 R30, 11 R329). -/
def State.uncrossed (s : State) (es : List NibEntry) : Nat :=
  (es.reverse.takeWhile fun e => decide (e.type = 0) && decide (s.binsNow ≤ e.value + 328 * binsPerNs)).length

/-- The stamps of an input that have not crossed are discarded and counted as overflow (01 R35, 11 R338); how many they
are among those that may not have crossed is a free value (log entry 16). -/
def State.discardStamps (s : State) (n : Nat) : State :=
  let v := s.nibIn n
  let k := s.freeVal % (s.uncrossed v.entries + 1)
  let t := s.useFree
  if k = 0 then t
  else ((t.fcount (NIB_CNT_OVF_CNT n) k).seen (NIB_STATUS_OVF_SEEN n) .overflow).setNibIn n { v with
    entries := v.entries.take (v.entries.length - k), gapMark := true }

/-- The TDC clock is lost (01 R35, 11 R338): stamps that have not crossed are discarded, a measurement in progress and
its entries are STALE, and so is a gate in progress. -/
def State.nibClockLost (s : State) : State :=
  (List.range (resCount s.part .event)).foldl (fun t n =>
    let t := t.discardStamps n
    let v := t.nibIn n
    let busy := decide (t.mstate n = 1) || decide (t.mstate n = 2)
    t.setNibIn n { v with
      measStale := v.measStale || busy
      entries := if busy then v.entries.map fun x => if x.type = 0 then x else { x with stale := true } else v.entries
      gate := v.gate.map fun g => { g with stale := true } }) s

/-- A takeover or a calibration marks the gates in progress (11 R338). -/
def State.nibMark (s : State) (coast stale : Bool) : State :=
  s.mapNib fun v => { v with
    gate := v.gate.map fun g => { g with coast := g.coast || coast, stale := g.stale || stale } }

/-- What a commit of new settings does to an input: `old` is the state before it (11 R338). -/
def State.nibCommit (old s : State) (n : Nat) : State :=
  let changed := fun f => decide (old.fget (f n) ≠ s.fget (f n))
  let shape := changed NIB_CFG_EDGE || changed NIB_CFG_MODE || changed NIB_CFG_START_SRC
  let off := old.fbit (NIB_CFG_ENABLE n) && !s.fbit (NIB_CFG_ENABLE n)
  let t := if (shape || off) && decide (s.mstate n ≠ 0) then s.endMeasure n else s
  let v := t.nibIn n
  let t := if shape || off then t.setNibIn n { v with gate := v.gate.map fun g => { g with disturbed := true } } else t
  let drop := changed NIB_GATE_GATE_US || (old.fbit (NIB_CFG_FREQ_EN n) && !s.fbit (NIB_CFG_FREQ_EN n))
  if drop then t.setNibIn n { t.nibIn n with gate := none, late := [] } else t

end Sys2Proof.Machine
end

