-- ==== Sys2Proof/Machine/Calib.lean ====
section
/-! DEFINITION. Calibration (12): values in force, the run of a calibration, what it holds, its end and its abort.

Choices (log entries): 8 DESIGN CHOICE, 13 DEDUCED, 62 DEDUCED. -/

namespace Sys2Proof.Machine

/-! ## Values (12 R340 to R342) -/

/-- Instances of a group (12 R340, R350). -/
def State.calCount (s : State) (g : Nat) : Nat :=
  match g with
  | 0 => 2000 * resCount s.part .event
  | 1 => 2 * resCount s.part .lane
  | 2 => 2 * resCount s.part .clockLane
  | 3 => 8
  | 4 => 4
  | _ => 17

/-- An instance of a group that the part has: the port groups and the nib tree of DIST (12 R340, R350). -/
def State.calHas (s : State) (g i : Nat) : Bool :=
  decide (i < s.calCount g) && (decide (g ≠ 5) || decide (i = 16) || s.hasClkl i)

/-- The offset O of an instance (12 R342). -/
def State.calOffset (s : State) (g i : Nat) : Int := mapGet (fun _ => 0) s.cal.offsets (g * 2 ^ 16 + i)

/-- The factory value of an instance at one of the five temperatures, or the nominal value where the record is lost
(12 R341). -/
def State.factoryVal (s : State) (g i pt : Nat) : Int :=
  if s.fbit CAL_STATUS_FACTORY_LOST then Config.nominalValue g i else Config.factoryValue g i pt

/-- Slices of the part. -/
def State.slices (s : State) : Nat := match s.part with | .ulk6416 => 4 | .ulk3208 => 2

/-- The sensors that serve an instance (12 R340). -/
def State.calSensors (s : State) (g i : Nat) : List Nat :=
  match g with
  | 1 => [i / 2 / 16]
  | 2 => [i / 2 / 4]
  | _ => List.range s.slices

/-- The temperature of an instance as a sum and a number of sensors: its own, or the mean of the valid ones among
GLB_TEMP0 to 5 (12 R340, R342). -/
def State.calTemp (s : State) (ws : List Nat) (g i : Nat) : Int × Nat :=
  let own := validSum ws (s.calSensors g i)
  if own.2 = 0 then validSum ws (List.range 6) else own

/-- The temperatures of the factory sets in 1/16 degree: -40, 0, 50, 100, 150 (12 R341). -/
def calPoints : List Int := [-640, 0, 800, 1600, 2400]

/-- The segment of the factory temperatures in which T, a sum over n, lies: its lower point; none outside. -/
def segmentOf (sum : Int) (n : Nat) : Nat :=
  if sum < 0 then 0 else if sum < 800 * n then 1 else if sum < 1600 * n then 2 else 3

/-- I(T) as a numerator and a denominator in 0.01 ps (12 R342). -/
def State.calInterp (s : State) (ws : List Nat) (g i : Nat) : Int × Nat :=
  let (sum, n) := s.calTemp ws g i
  if n = 0 then (s.factoryVal g i 2, 1)
  else if sum ≤ -640 * (n : Int) then (s.factoryVal g i 0, 1)
  else if 2400 * (n : Int) ≤ sum then (s.factoryVal g i 4, 1)
  else
    let p := segmentOf sum n
    let lo := calPoints.getD p 0
    let hi := calPoints.getD (p + 1) 0
    let a := s.factoryVal g i p
    let b := s.factoryVal g i (p + 1)
    (a * ((hi - lo) * n) + (sum - lo * n) * (b - a), ((hi - lo) * n).toNat)

/-- V of an instance in 0.01 ps: I(T) + O, at the temperatures of the start of a calibration that holds its group; not
rounded by the spec (12 R342, R346). -/
def State.calInForce (s : State) (g i : Nat) : Int :=
  let ws := if s.heldGroup g then s.cal.temps else s.tempWords
  let (num, den) := s.calInterp ws g i
  s.freeDiv num den + s.calOffset g i

/-- The factory values are loaded: from kindling step 7 on (03 R74, 12 R341). -/
def State.factoryIn (s : State) : Bool := decide (s.life ≠ .reset) && (decide (s.life ≠ .kindling) || decide (s.phase = 7))

/-- CAL_VAL for the selection (12 R350); 0 until the factory values are loaded (00 R10). -/
def State.calVal (s : State) : Int :=
  let g := s.fget CAL_VAL_SEL_GROUP
  let i := s.fget CAL_VAL_SEL_INDEX
  if 6 ≤ g || !s.calHas g i || !s.factoryIn then 0
  else match s.fget CAL_VAL_SEL_POINT with
    | 5 => s.calOffset g i
    | 6 => s.calInForce g i
    | p => if p < 5 then s.factoryVal g i p else 0

/-- SENSOR_SUBST: a sensor that the table of R340 names is invalid, of a slice or of the ember (12 R342). -/
def State.sensorSubst (s : State) : State :=
  s.fput CAL_STATUS_SENSOR_SUBST ((7 :: List.range s.slices).any fun i => !tempValid (s.getReg (GLB_TEMP i)))

/-! ## Runs (12 R343 to R347) -/

/-- The marks of outputs follow the held groups: PO, OSYN, the outer loop (12 R346). -/
def State.calMarks (s : State) : State :=
  let out := s.heldGroup 3
  let t := (List.range 8).foldl (fun u n => u.fput (SYN_PO_STATUS_STALE n) out) s
  let t := (List.range 4).foldl (fun u j => u.fput (SYN_OSYN_STATUS_STALE j) out) t
  (t.fput SYN_SEL_STATUS_STALE s.loopHeld).fput CAL_STATUS_STALE (!s.cal.held.isEmpty)

/-- The groups of a mask in ascending order. -/
def groupsOf (mask : Nat) : List Nat := (List.range 6).filter fun g => bitOf mask g

/-- A calibration starts: its groups are held (12 R343, R346). -/
def State.calBegin (s : State) (gs : List Nat) (powerUp : Bool) : State :=
  let t := { s with cal := { s.cal with groups := gs, powerUp := powerUp, held := gs, temps := s.tempWords } }
  let t := (t.fon CAL_STATUS_RUNNING).calMarks
  if gs.contains 0 || gs.contains 5 then t.nibMark false true else t

/-- START with GROUPS (12 R343): the ULK-3208 completes at once with RESULT 4, whatever GROUPS holds. -/
def State.calStart (s : State) (mask : Nat) : State :=
  let t := s.fset CAL_CMD_GROUPS mask
  if s.life = .kindling || s.life = .reset || s.fbit CAL_STATUS_RUNNING then t
  else match s.part with
    | .ulk3208 => t.fset CAL_STATUS_RESULT 4
    | .ulk6416 => if groupsOf mask = [] then t else t.calBegin (groupsOf mask) false

/-- CAL_START (12 R343). -/
def execCalStart (q : Requester) (groups : BitVec 6) (s : State) : Host.Outcome State Fault Refusal :=
  whenTaken s q (s.calStart groups.toNat)

/-- The measured offset of an instance; one that is not listed measures its present offset. -/
def State.measuredOf (s : State) (m : List (Nat × Nat × Int)) (g i : Nat) : Int :=
  match m.find? fun e => decide (e.1 = g ∧ e.2.1 = i) with
  | some e => e.2.2
  | none => s.calOffset g i

/-- An offset passes the plausibility test (12 R344). -/
def State.plausible (s : State) (g i : Nat) (o : Int) : Bool :=
  if s.cal.powerUp then decide (o.natAbs ≤ 2500) else decide ((o - s.calOffset g i).natAbs ≤ 500)

/-- The listed measurements of a group that exist. -/
def State.listedOf (s : State) (m : List (Nat × Nat × Int)) (g : Nat) : List (Nat × Nat × Int) :=
  m.filter fun e => decide (e.1 = g) && s.calHas g e.2.1

/-- A group passes: every measured offset is plausible (12 R344). -/
def State.groupPasses (s : State) (m : List (Nat × Nat × Int)) (g : Nat) : Bool :=
  (s.listedOf m g).all fun e => s.plausible g e.2.1 (s.measuredOf m g e.2.1)

/-- GROUP_FAIL of a group. -/
def groupFail (g : Nat) : Fld := ⟨CAL_STATUS, 10 + g, 1⟩

/-- A group's outcome: its offsets take effect, or it keeps the ones it had (12 R344, R345). -/
def State.settleGroup (s t : State) (m : List (Nat × Nat × Int)) (g : Nat) : State :=
  if s.groupPasses m g then
    let o := (s.listedOf m g).foldl (fun o e => mapSet (fun _ => 0) o (g * 2 ^ 16 + e.2.1) (s.measuredOf m g e.2.1)) t.cal.offsets
    { t with cal := { t.cal with offsets := o } }.foff (groupFail g)
  else (t.fon (groupFail g)).seen CAL_STATUS_FAIL_SEEN .calibration

/-- Nothing is held any more: marks clear and what the outer loop deferred is applied (10 R311, 12 R346). -/
def State.calRelease (s : State) : State :=
  ({ s with cal := { s.cal with groups := [], held := [], temps := [] } }.calMarks).applyDeferred

/-- The last group is measured: all groups that passed take effect together (12 R345). -/
def State.calApply (s : State) (m : List (Nat × Nat × Int)) : State :=
  let gs := s.cal.groups
  let t := gs.foldl (fun u g => s.settleGroup u m g) s
  let all := gs.all fun g => s.groupPasses m g
  let t := ((t.foff CAL_STATUS_RUNNING).fset CAL_STATUS_RESULT (if all then 1 else 2)).fwrap CAL_STATUS_RUN_CNT
  ((t.fon CAL_STATUS_DONE_SEEN).fset CAL_LAST_END_SEC s.secLo).calRelease

/-- CAL_APPLY (12 R344, R345). `measured`: group, instance and offset in 0.01 ps. -/
def execCalApply (measured : List (Nat × Nat × Int)) (s : State) : Host.Outcome State Fault Refusal :=
  whenUp s (if s.fbit CAL_STATUS_RUNNING then s.calApply measured else s)

/-- A takeover meets a calibration (12 R347): one on command is aborted, its groups stay held until the takeover ends;
the power-up one starts again. -/
def State.calTakeover (s : State) : State :=
  if s.fbit CAL_STATUS_RUNNING && !s.cal.powerUp then
    (((s.foff CAL_STATUS_RUNNING).fset CAL_STATUS_RESULT 3).seen CAL_STATUS_FAIL_SEEN .calibration)
  else s

/-- The takeover has ended: what an aborted calibration held is released (12 R347). -/
def State.calTakeoverEnd (s : State) : State :=
  if s.fbit CAL_STATUS_RUNNING || s.cal.held.isEmpty then s else s.calRelease

/-- The factory record is loaded in kindling step 7 (12 R341). -/
def State.loadFactory (s : State) (copy0 copy1 : Bool) : State :=
  ((s.fput CAL_FACTORY_COPY0_OK copy0).fput CAL_FACTORY_COPY1_OK copy1).fput CAL_STATUS_FACTORY_LOST (!copy0 && !copy1)

end Sys2Proof.Machine
end

