-- ==== Sys2Proof/Machine/Firmware.lean ====
section
/-! DEFINITION. Firmware parts and their banks (14): what an image's header says, the boot-attempt counts, which bank a
part starts from, the verification at a start, and the anti-rollback counter.

Choices (log entries): 34 DEDUCED, 66 DEDUCED. -/

namespace Sys2Proof.Machine

/-! ## Images (14 R378) -/

/-- Little-endian number of `count` bytes from an offset. -/
def leAt (bs : List Byte) (off count : Nat) : Nat := leNat (slice bs off count)

/-- KIND of an image. -/
def imgKind (b : List Byte) : Nat := leAt b 6 1
/-- PART_CODE of an image. -/
def imgPart (b : List Byte) : Nat := leAt b 8 2
/-- SVN of an image; a value above 64 acts as 64 (14 R381). -/
def imgSvn (b : List Byte) : Nat := min 64 (leAt b 10 1)
/-- VERSION of an image. -/
def imgVersion (b : List Byte) : Nat := leAt b 12 4
/-- LENGTH of an image. -/
def imgLength (b : List Byte) : Nat := leAt b 16 4
/-- IFACE of an image. -/
def imgIface (b : List Byte) : Nat := leAt b 20 2
/-- The lowest and highest IFACE of a kind that an image accepts alongside. -/
def imgAccept (b : List Byte) (kind : Nat) : Nat × Nat := (leAt b (28 + 4 * kind) 2, leAt b (30 + 4 * kind) 2)

/-- The code of the part in an image (14 R378). -/
def partCode : Variant → Nat
  | .ulk6416 => 0x6416
  | .ulk3208 => 0x3208

/-- The kind of a part's images (14 R378). -/
def partKind (p : Nat) : Nat := match p with | 0 => 1 | 1 => 1 | 2 => 2 | _ => 3

/-- The size of a part's banks in bytes (14 R376). -/
def bankBytes (p : Nat) : Nat := if p < 2 then 33554432 else 8388608

/-- MAGIC, FORMAT, KIND and LENGTH of a clear header (14 R384). -/
def headerForm (b : List Byte) (kind length : Nat) : Bool :=
  decide (64 ≤ b.length) && decide (leAt b 0 4 = 0x57464C55) && decide (leAt b 4 2 = 1) && decide (imgKind b = kind)
    && decide (imgLength b = length)

/-- PART_CODE of a clear header (14 R384). -/
def State.headerPart (s : State) (b : List Byte) : Bool :=
  decide (imgPart b = 0) || decide (imgPart b = partCode s.part)

/-- Each of two images accepts the other's IFACE for its kind (14 R387). -/
def compatible (a b : List Byte) : Bool :=
  let x := imgAccept b (imgKind a)
  let y := imgAccept a (imgKind b)
  decide (x.1 ≤ imgIface a) && decide (imgIface a ≤ x.2) && decide (y.1 ≤ imgIface b) && decide (imgIface b ≤ y.2)

/-! ## Parts -/

/-- A part: 0 Hearth A, 1 Hearth B, 2 lane controller, 3 peat-bank controller. -/
def State.fw (s : State) (p : Nat) : FwPart := s.upd.parts.getD p partNew

/-- The state with a part replaced. -/
def State.setFw (s : State) (p : Nat) (v : FwPart) : State :=
  { s with upd := { s.upd with parts := s.upd.parts.set p v } }

/-- A bank of a part. -/
def FwPart.bank (v : FwPart) (b : Nat) : FwBank := if b = 0 then v.bank0 else v.bank1

/-- A part with a bank replaced. -/
def FwPart.setBank (v : FwPart) (b : Nat) (k : FwBank) : FwPart := if b = 0 then { v with bank0 := k } else { v with bank1 := k }

/-- A part with the status of a bank replaced. -/
def FwPart.setStatus (v : FwPart) (b st : Nat) : FwPart := v.setBank b { v.bank b with status := st }

/-- The bank that is not the active one. -/
def FwPart.inactive (v : FwPart) : Nat := 1 - v.active

/-- The TRIAL bank of a part. -/
def FwPart.trial (v : FwPart) : Option Nat :=
  if v.bank0.status = 4 then some 0 else if v.bank1.status = 4 then some 1 else none

/-- The bytes in a bank. -/
def bankImage (p : Nat) (k : FwBank) : List Byte :=
  match k.image with
  | .erased => []
  | .factory => Config.factoryImage p
  | .written b => b

/-- VERSION of a bank; 0 while the bank is EMPTY or WRITING (14 R398). -/
def bankVersion (p : Nat) (k : FwBank) : Nat := if k.status < 2 then 0 else imgVersion (bankImage p k)

/-- The image a part runs. -/
def State.runImage (s : State) (p : Nat) : Option (List Byte) :=
  (s.fw p).running.map fun b => bankImage p ((s.fw p).bank b)

/-- The part runs its TRIAL bank. -/
def State.runsTrial (s : State) (p : Nat) : Bool := (s.fw p).running.isSome && decide ((s.fw p).running = (s.fw p).trial)

/-- The part in TRIAL (14 R388: one at a time). -/
def State.trialPart (s : State) : Option Nat := (List.range 4).find? fun p => (s.fw p).trial.isSome

/-- UPD_STATUS.MIXED (14 R390): both hearths run, with different VERSIONs. -/
def State.mixed (s : State) : Bool :=
  match s.runImage 0, s.runImage 1 with
  | some a, some b => decide (imgVersion a ≠ imgVersion b)
  | _, _ => false

/-- FUSE_CNT (14 R380). -/
def State.fuseCnt (s : State) : Nat := s.upd.fuse.getD (min 64 Config.fuseCount.toNat)

/-- An image is compatible with the running images it is judged against (14 R387). -/
def State.compatOk (s : State) (p : Nat) (b : List Byte) : Bool :=
  (if p < 2 then [1 - p, 2, 3] else [0, 1]).all fun o =>
    match s.runImage o with
    | some r => compatible b r
    | none => true

/-! ## The boot-attempt count (14 R395) -/

/-- The VBAT crossings are held invalid (01 R36). -/
def State.vbatInvalid (s : State) : Bool := s.fbit GLB_XING_DOMAIN_VBAT_INVALID

/-- The boot-attempt count: the larger of the two copies where it is kept in VBAT. -/
def State.attempts (s : State) (p : Nat) : Nat :=
  if (s.fw p).inVbat then max (s.vbat.attempts.getD p 0) (s.fw p).attempts else (s.fw p).attempts

/-- The count takes a value in the copy that it is kept in: in flash while the VBAT crossings are invalid. -/
def State.setAttempts (s : State) (p n : Nat) : State :=
  if (s.fw p).inVbat && !s.vbatInvalid then { s with vbat := { s.vbat with attempts := s.vbat.attempts.set p n } }
  else s.setFw p { s.fw p with attempts := n }

/-- Both copies of the count are cleared; from here on it is kept in VBAT or in flash. -/
def State.clearAttempts (s : State) (p : Nat) : State :=
  let home := s.fbit GLB_VBAT_STATUS_PRESENT && !s.vbatInvalid && !s.fbit UPD_CFG_COUNT_IN_FLASH
  let t := s.setFw p { s.fw p with attempts := 0, inVbat := home }
  if home then { t with vbat := { t.vbat with attempts := t.vbat.attempts.set p 0 } } else t

/-! ## Fallback, start, verification -/

/-- A trial ends: nothing is allowed any more. -/
def State.endTrial (s : State) : State := { s with upd := { s.upd with allowed := false } }

/-- The TRIAL bank of a part becomes REJECTED (14 R386, R393). -/
def State.rejectTrial (s : State) (p reason : Nat) : State :=
  match (s.fw p).trial with
  | none => s
  | some b => (s.setFw p { (s.fw p).setStatus b 5 with reason := reason }).endTrial

/-- A fallback under 14 R393 up to the restart: the bank is REJECTED, the flag set, the alarm raised. -/
def State.rejectFallback (s : State) (p reason : Nat) : State :=
  (s.rejectTrial p reason).seen UPD_EVENTS_FALLBACK_SEEN .firmware

/-- A part begins a start (14 R377, R392, R393, R395): from its TRIAL bank while the count is below 3, which counts an
attempt; otherwise from its GOOD bank. -/
def State.beginStart (s : State) (p : Nat) : State :=
  let t := s.setFw p { s.fw p with running := none }
  match (s.fw p).trial with
  | some b =>
    if s.attempts p < 3 then
      let t := t.setAttempts p (s.attempts p + 1)
      t.setFw p { t.fw p with starting := some b, windowAt := t.now }
    else
      let t := t.rejectFallback p 7
      t.setFw p { t.fw p with starting := some (s.fw p).active }
  | none => t.setFw p { t.fw p with starting := some (s.fw p).active }

/-- A part stops running. -/
def State.stopPart (s : State) (p : Nat) : State := s.setFw p { s.fw p with running := none, starting := none }

/-- The verification of a bank at a start (14 R385): 0, or the reason of the first check that fails. -/
def State.verifyBank (s : State) (p b : Nat) (readErr : Bool) : Nat :=
  let i := bankImage p ((s.fw p).bank b)
  if !headerForm i (partKind p) i.length then 1
  else if !s.headerPart i then 2
  else if imgSvn i < s.fuseCnt then 5
  else if readErr then 10
  else if !Config.signatureOk i then 3
  else if !Config.tagOk i then 4
  else if !s.compatOk p i then 6
  else 0

/-- The counter advances to the lowest SVN of the running images (14 R381). -/
def State.fuseAdvance (s : State) : State :=
  let good := (List.range 4).all fun p =>
    match (s.fw p).running with
    | some b => decide (((s.fw p).bank b).status = 3)
    | none => false
  let svns := (List.range 4).filterMap fun p => (s.runImage p).map imgSvn
  let low := svns.foldl min 64
  if good && s.trialPart.isNone && !s.mixed && decide (s.fuseCnt < low) then
    ({ s with upd := { s.upd with fuse := some low } }).fon UPD_EVENTS_FUSE_SEEN
  else s

/-- The part runs a bank. -/
def State.runBank (s : State) (p b : Nat) : State :=
  ({ s.setFw p { s.fw p with starting := none, running := some b } with
      mgt := { s.mgt with noBank := s.mgt.noBank.filter fun x => decide (x ≠ p) } }).fuseAdvance

/-- No bank of the part starts; its reason is shown (14 R386). -/
def State.startFails (s : State) (p reason : Nat) : State :=
  let t := s.setFw p { s.fw p with starting := none, running := none, reason := reason }
  { t with mgt := { t.mgt with noBank := if p < 2 || t.mgt.noBank.contains p then t.mgt.noBank else t.mgt.noBank ++ [p] } }

/-- A part verifies and starts a GOOD bank, or stays down (14 R386). -/
def State.startGood (s : State) (p b : Nat) (readErr : Bool) : State :=
  if ((s.fw p).bank b).status ≠ 3 then s.startFails p 1
  else
    let r := s.verifyBank p b readErr
    if r = 0 then s.runBank p b else s.startFails p r

/-- A part ends its verification: it starts the bank, or its GOOD bank within the same start (14 R385, R386). -/
def State.verified (s : State) (p : Nat) (err0 err1 : Bool) : State :=
  match (s.fw p).starting with
  | none => s
  | some b =>
    let err := fun (x : Nat) => if x = 0 then err0 else err1
    if ((s.fw p).bank b).status = 4 then
      let r := s.verifyBank p b (err b)
      if r = 0 then s.runBank p b else (s.rejectTrial p r).startGood p (s.fw p).active (err (s.fw p).active)
    else s.startGood p b (err b)

end Sys2Proof.Machine
end

