-- ==== Sys2Proof/Machine/Hearth.lean ====
section
/-! DEFINITION. The hearth pair (13): the lease token, leaving service, the takeover, the handover, restarts, the
synthesizer test, and the loss of a synthesizer's lock (10 R302).

Choices (log entries): 7 DESIGN CHOICE, 11 DEDUCED, 37 DEDUCED, 63 DEDUCED, 64 DEDUCED, 65 DEDUCED. -/

namespace Sys2Proof.Machine

/-- The code of a hearth in HRT registers: 1 A, 2 B (13 R375). -/
def hearthCode (h : Hearth) : Nat := hearthIx h + 1

/-- The firmware of a hearth as a requester. -/
def fwOf : Hearth → Requester
  | .a => .hearthA
  | .b => .hearthB

/-- One hearth. -/
def State.hearth (s : State) (h : Hearth) : HearthUnit :=
  match h with
  | .a => s.hrt.a
  | .b => s.hrt.b

/-- The state with a hearth replaced. -/
def State.setHearth (s : State) (h : Hearth) (u : HearthUnit) : State :=
  match h with
  | .a => { s with hrt := { s.hrt with a := u } }
  | .b => { s with hrt := { s.hrt with b := u } }

/-- The hearth in STANDBY. -/
def State.standby (s : State) : Option Hearth :=
  if s.hrt.a.st = .standby then some .a else if s.hrt.b.st = .standby then some .b else none

/-- HRT_STATUS.IN_STEP: a hearth in STANDBY runs in step (13 R375). -/
def State.inStep (s : State) : Bool :=
  match s.standby with
  | some h => (s.hearth h).inStep
  | none => false

/-- The code of a state of a hearth (13 R375). -/
def hStateCode : HState → Nat
  | .offline => 0
  | .standby => 1
  | .active => 2
  | .cinder => 3

/-! ## The session of a hearth's firmware (03 R94) -/

/-- A session ends: its shadow and pending copies are discarded (03 R93, R105). -/
def State.endSession (s : State) : State :=
  let t := s.foff CFG_STAGE_CTRL_READ_SHADOW
  { t with cfg := { t.cfg with sess := .idle, owner := none, records := [], overflow := false } }

/-- A session is lost (03 R94); the flag raises the CONFIG alarm (16 R428). -/
def State.loseSession (s : State) : State := s.endSession.seen CFG_COMMIT_STATUS_SESSION_LOST .config

/-- The session is still being edited. -/
def State.editing (s : State) : Bool :=
  decide (s.cfg.sess = .opened) || decide (s.cfg.sess = .checking) || decide (s.cfg.sess = .checked)
    || decide (s.cfg.sess = .failed)

/-- A hearth gives up the token or leaves service: what its firmware is editing is lost (03 R94). -/
def State.hearthSession (s : State) (h : Hearth) : State :=
  if s.cfg.owner = some (fwOf h) ∧ s.editing then s.loseSession else s

/-- A hearth gives up the token: an armed session of its firmware loses its owner (03 R94). -/
def State.orphanSession (s : State) (h : Hearth) : State :=
  if s.cfg.owner = some (fwOf h) ∧ s.cfg.sess ≠ .idle then { s with cfg := { s.cfg with owner := none } } else s

/-- A hearth claims the token: an armed session without owner becomes its firmware's (03 R94). -/
def State.adoptSession (s : State) (h : Hearth) : State :=
  if s.cfg.owner = none ∧ s.cfg.sess ≠ .idle then { s with cfg := { s.cfg with owner := some (fwOf h) } } else s

/-! ## The saved state (13 R362) -/

/-- The store takes the state of a hearth's synthesizer. -/
def State.takeSnapshot (s : State) (h : Hearth) : State :=
  let y := s.synthOf h
  let x := hearthIx h
  let v : Snapshot := ⟨s.now, y.word, y.integrator, s.fget (SYN_SPINE_STATUS_BAND x),
    s.fbit (SYN_SPINE_STATUS_FACTORY_BAND x), y.aligner, s.nextMode, s.syn.pull⟩
  let t := s.fwrap HRT_SNAP_SEQ
  { t with hrt := { t.hrt with snap := some v } }

/-- A synthesizer is powered from the snapshot: band, FREQ_WORD, integrator, aligner (13 R364, R371). -/
def State.powerFromSnapshot (s : State) (h : Hearth) : State :=
  match s.hrt.snap with
  | none => (s.setSynth h ⟨nominalWord, 0, 0⟩).startSpine h false
  | some v =>
    let x := hearthIx h
    let t := s.setSynth h ⟨v.word, v.integrator, v.aligner⟩
    (((t.fon (SYN_SPINE_STATUS_POWERED x)).foff (SYN_SPINE_STATUS_INNER_LOCK x)).fset (SYN_SPINE_STATUS_BAND x) v.band).fput
      (SYN_SPINE_STATUS_FACTORY_BAND x) v.factoryBand

/-- SNAPSHOT_TAKE (13 R362). -/
def execSnapshotTake (s : State) : Host.Outcome State Fault Refusal :=
  whenUp s (match s.hrt.holder with | some h => s.takeSnapshot h | none => s)

/-! ## The lease (13 R354 to R356) -/

/-- L in ns. -/
def State.leaseNs (s : State) : Nat := s.fget HRT_LEASE_CFG_PERIOD_US * 1000

/-- The lease is renewed: the new L counts from here (13 R355, R356). -/
def State.renewLease (s : State) : State := { s with hrt := { s.hrt with leaseEnd := s.now + s.leaseNs } }

/-- HRT_LEASE.REMAIN_US; 0 with no holder (13 R375). -/
def State.leaseRemain (s : State) : Nat := if s.hrt.holder.isSome then min 131071 ((s.hrt.leaseEnd - s.now) / 1000) else 0

/-- A write of RENEW (13 R355). -/
def State.renew (s : State) (q : Requester) : State :=
  if s.isHolder q then (if s.now < s.hrt.leaseEnd then s.renewLease else s) else s.fon HRT_EVENTS_GATE_VIOL_SEEN

/-- LEASE_RENEW (13 R355). -/
def execLeaseRenew (q : Requester) (s : State) : Host.Outcome State Fault Refusal := whenUp s (s.renew q)

/-! ## The handover's flags (13 R369) -/

/-- HANDOVER clears. -/
def State.endHandover (s : State) : State :=
  let t := s.foff HRT_CMD_HANDOVER
  { t with hrt := { t.hrt with handover := .none } }

/-- A handover is refused with a reason. -/
def State.refuseHandover (s : State) (r : Nat) : State :=
  ((s.fset HRT_HANDOVER_REASON r).fon HRT_EVENTS_HANDOVER_REFUSED_SEEN).endHandover

/-- A hearth leaves its state while a handover is under way (13 R369, R366). -/
def State.meetHandover (s : State) (h : Hearth) : State :=
  match s.hrt.handover with
  | .none => s
  | .testing => s.refuseHandover (if s.hrt.holder = some h then 5 else 1)
  | .waiting => if s.hrt.holder = some h then s.endHandover else s
  | .taking => s.endHandover

/-! ## The token becomes free (13 R358, R363 to R367) -/

/-- The takeover registers are written: the hearth that holds the token, 0 for none (13 R364, R367). -/
def State.writeTakeover (s : State) (code : Nat) : State :=
  match s.hrt.takeover with
  | none => s
  | some k =>
    let t := ((s.fset HRT_TAKEOVER_CAUSE k.cause).fset HRT_TAKEOVER_FROM (hearthCode k.source)).fset HRT_TAKEOVER_TO code
    (t.fset HRT_TAKEOVER_DUR_NS (satCount 23 (s.now - k.since))).fset HRT_TAKEOVER_SEC_START_SEC k.startSec

/-- The spine coasts on the ember: what the snapshot holds of mode and pull comes back later (10 R297, R311, 13 R363). -/
def State.coast (s : State) : State :=
  if s.spineMode = 4 then s
  else
    let m := match s.hrt.snap with | some v => v.mode | none => s.spineMode
    let p := match s.hrt.snap with | some v => v.pull | none => s.syn.pull
    let t := (s.fset SYN_SEL_STATUS_MODE 4).foff SYN_SEL_STATUS_LOCK
    { t with syn := { t.syn with pendMode := some m, pull := p, inRun := 0, outRun := 0 } }

/-- A hearth that has released the token by handover is a standby when no handover goes on (13 R352). -/
def HearthUnit.released (u : HearthUnit) : HearthUnit := if u.st = .active then { u with st := .standby, inStep := false } else u

/-- The device has no holder (13 R367). -/
def State.noHolder (s : State) : State :=
  let t := (s.fon HRT_STATUS_NO_HOLDER).fon HRT_EVENTS_NO_HOLDER_SEEN
  let t := if s.takingOver then (t.writeTakeover 0).fon HRT_EVENTS_TAKEOVER_SEEN else t
  let t := ((t.foff HRT_STATUS_TAKEOVER).foff HRT_STATUS_LONG_TAKEOVER).endHandover
  let k := t.hrt.takeover.map fun k => { k with stage := .free }
  let t := { t with hrt := { t.hrt with a := t.hrt.a.released, b := t.hrt.b.released, resync := none, takeover := k } }
  t.calTakeoverEnd

/-- The record of the takeover: one that meets a failure of its new holder keeps its cause and its start (13 R367). -/
def State.takeoverRecord (s : State) (h : Hearth) (cause : Nat) : Takeover :=
  match s.hrt.takeover with
  | some k => if s.takingOver then { k with stage := .free } else ⟨cause, h, s.now, s.secLo, .free⟩
  | none => ⟨cause, h, s.now, s.secLo, .free⟩

/-- What a takeover suspends and marks (13 R363, R366). -/
def State.takeoverMarks (s : State) : State :=
  let t := if s.coasting then s else { s with trunk := { s.trunk with seqHeld := s.advertised.seq } }
  (((t.fon HRT_STATUS_TAKEOVER).suspendWindows.dropSearches.calTakeover).bwCoast).nibMark true false

/-- The token becomes free while a hearth holds it (13 R362 to R364, R367). -/
def State.freeToken (s : State) (cause : Nat) : State :=
  match s.hrt.holder with
  | none => s
  | some h =>
    let t := if cause = 2 || cause = 8 || cause = 9 then s else s.takeSnapshot h
    let t := (((t.hearthSession h).orphanSession h).coast).stopSpine h
    let t := { t with hrt := { t.hrt with
      holder := none, takeover := some (s.takeoverRecord h cause), resync := none, diagnosis := false } }
    if t.inStep then t.takeoverMarks else t.takeoverMarks.noHolder

/-- HEARTH_x_INVALID. -/
def hearthInvalid : Hearth → Fld
  | .a => GLB_XING_DOMAIN_HEARTH_A_INVALID
  | .b => GLB_XING_DOMAIN_HEARTH_B_INVALID

/-- HEARTH_x_ENTERED. -/
def hearthEntered : Hearth → Fld
  | .a => GLB_XING_DOMAIN_HEARTH_A_ENTERED
  | .b => GLB_XING_DOMAIN_HEARTH_B_ENTERED

/-- An event of 13 R372 calls for a health report while HEALTH_EN is 1 (16 R430). -/
def State.healthEvent (s : State) : State :=
  { s with mgt := { s.mgt with healthDue := s.mgt.healthDue || s.fbit MGT_NOTIFY_CFG_HEALTH_EN } }

/-- The cause of a hearth and its time (13 R358, R375). -/
def State.recordCause (s : State) (h : Hearth) (cause : Nat) : State :=
  (s.fset (HRT_CAUSE_CAUSE (hearthIx h)) cause).fset (HRT_CAUSE_SEC_CAUSE_SEC (hearthIx h)) s.secLo

/-- The flags and alarm of an entry into CINDER or OFFLINE (13 R352, R375, 01 R38). -/
def State.leaveFlags (s : State) (h : Hearth) (off : Bool) : State :=
  let t := if off then (if s.inService then s.fon HRT_EVENTS_OFFLINE_SEEN else s) else s.fon HRT_EVENTS_CINDER_SEEN
  let t := if s.inService then t.raise .hearth else t
  if off then ((t.fon (hearthInvalid h)).fon (hearthEntered h)).fcount GLB_XING_DOMAIN_ENTER_CNT 1 else t

/-- The lowest of a cause and of the one recorded in the same spine cycle (13 R358). -/
def State.lowestCause (s : State) (h : Hearth) (cause : Nat) : Nat :=
  if (s.hearth h).outAt = some s.now then min cause (s.fget (HRT_CAUSE_CAUSE (hearthIx h))) else cause

/-- A cause of a hearth that is out of service already: within the spine cycle of its entry the lowest code is recorded
(13 R358), in the record of the takeover as well. -/
def State.lateCause (s : State) (h : Hearth) (cause : Nat) : State :=
  if (s.hearth h).outAt = some s.now then
    let old := s.fget (HRT_CAUSE_CAUSE (hearthIx h))
    let low := min cause old
    let t := s.fset (HRT_CAUSE_CAUSE (hearthIx h)) low
    match t.hrt.takeover with
    | some k =>
      if k.source = h ∧ k.since = s.now ∧ k.cause = old then
        let t := { t with hrt := { t.hrt with takeover := some { k with cause := low } } }
        if t.fbit HRT_STATUS_NO_HOLDER then t.fset HRT_TAKEOVER_CAUSE low else t
      else t
    | none => t
  else s

/-- A hearth leaves service with a cause of 13 R358: into OFFLINE from code 8 on, into CINDER below. -/
def State.leaveService (s : State) (h : Hearth) (cause : Nat) : State :=
  let u := s.hearth h
  let off := decide (8 ≤ cause)
  if u.st = .offline || (u.st = .cinder && !off) then s.lateCause h cause
  else
    let t := (s.meetHandover h).recordCause h (s.lowestCause h cause)
    let t := ((t.fcount (HRT_CAUSE_OUT_CNT (hearthIx h)) 1).leaveFlags h off).healthEvent
    let t := t.setHearth h { u with
      st := if off then .offline else .cinder
      inStep := false, testing := false, restarting := false, autoDue := !off
      causeHolds := decide (cause = 8) || decide (cause = 9), outAt := some s.now }
    let t := t.hearthSession h
    let t := if off then t.stopPart (hearthIx h) else t
    if s.hrt.holder = some h then t.freeToken cause
    else
      let t := t.stopSpine h
      { t with hrt := { t.hrt with
        diagnosis := false, resync := if t.hrt.resync = some h then none else t.hrt.resync } }

/-- A hearth is ACTIVE or STANDBY. -/
def State.serves (s : State) (h : Hearth) : Bool :=
  decide ((s.hearth h).st = .active) || decide ((s.hearth h).st = .standby)

/-- A cause that makes a hearth in service a cinder. -/
def State.cinder (s : State) (h : Hearth) (cause : Nat) : State :=
  if s.serves h then s.leaveService h cause else s.lateCause h cause

/-- LEASE_EXPIRED (13 R355): the lease has run out. -/
def execLeaseExpired (s : State) : Host.Outcome State Fault Refusal :=
  whenUp s (
    match s.hrt.holder, s.hrt.takeover with
    | some h, _ => if s.hrt.leaseEnd ≤ s.now then s.leaveService h 1 else s
    | none, some k => if k.since = s.now ∧ s.hrt.leaseEnd ≤ s.now then s.lateCause k.source 1 else s
    | none, none => s)

/-- HEARTH_MEM_UNCORR (13 R358). -/
def execHearthMemUncorr (h : Hearth) (s : State) : Host.Outcome State Fault Refusal := whenUp s (s.cinder h 3)

/-- HEARTH_WATCHDOG (13 R358). -/
def execHearthWatchdog (h : Hearth) (s : State) : Host.Outcome State Fault Refusal := whenUp s (s.cinder h 4)

/-- HRT_CINDER (13 R370). -/
def execHrtCinder (q : Requester) (h : Hearth) (s : State) : Host.Outcome State Fault Refusal := whenTaken s q (s.cinder h 7)

/-- An island's power or clock fails (13 R358, R370): a hearth that is OFFLINE already ends its restart, and where its clock
is absent its crossings become invalid, an entry of its own with its alarm (01 R31, R37, R38). -/
def State.islandFails (s : State) (h : Hearth) (cause : Nat) : State :=
  if (s.hearth h).st = .offline then
    let t := ((s.setHearth h { s.hearth h with
      causeHolds := true, restarting := false, autoDue := false, verified := false }).stopPart (hearthIx h)).lateCause h cause
    if cause = 9 then t.domainEnters (hearthInvalid h) (hearthEntered h) else t
  else s.leaveService h cause

/-- ISLAND_POWER_FAIL (13 R358). -/
def execIslandPowerFail (h : Hearth) (s : State) : Host.Outcome State Fault Refusal := whenUp s (s.islandFails h 8)

/-- ISLAND_CAUSE_CLEARED (13 R370): the delay before the automatic restart starts. -/
def execIslandCauseCleared (h : Hearth) (s : State) : Host.Outcome State Fault Refusal :=
  whenUp s (
    if (s.hearth h).causeHolds then s.setHearth h { s.hearth h with causeHolds := false, autoDue := true } else s)

/-- SYNTH_LOCK_LOSS (10 R302, R303, 13 R358, R359). -/
def execSynthLockLoss (synth : Fin 6) (s : State) : Host.Outcome State Fault Refusal :=
  whenUp s (
    if synth.val < 2 then
      let h : Hearth := if synth.val = 0 then .a else .b
      if s.fbit (SYN_SPINE_STATUS_INNER_LOCK synth.val) then
        let t := (s.foff (SYN_SPINE_STATUS_INNER_LOCK synth.val)).seen SYN_EVENTS_LOCK_LOST_SEEN .reference
        if s.hrt.holder = some h then t.leaveService h 2 else t.lateCause h 2
      else s.lateCause h 2
    else s.osynLost (synth.val - 2))

/-! ## Claim and takeover (13 R357, R364, R365, R368) -/

/-- A hearth may claim the free token: in STANDBY, in step or with no hearth to follow, its test not failed, no restart
in progress (13 R357, R368). -/
def State.mayClaim (s : State) (h : Hearth) : Bool :=
  decide ((s.hearth h).st = .standby) && ((s.hearth h).inStep || s.fbit HRT_STATUS_NO_HOLDER)
    && decide (s.fget (HRT_HEALTH_TEST_RESULT (hearthIx h)) ≠ 2) && !(s.hearth h).restarting

/-- The servo goes on from RATE as it stands, with no integrator history (13 R368). -/
def State.freshServo (s : State) : State :=
  { s with trunk := { s.trunk with integrator := s.rate, thetas := [], beyond := 0 } }

/-- A hearth becomes the holder (13 R352, R355, 03 R94). -/
def State.hold (s : State) (h : Hearth) : State :=
  let t := s.setHearth h { s.hearth h with st := .active, inStep := false, testing := false, autoDue := false }
  ({ t with hrt := { t.hrt with holder := some h } }).renewLease.adoptSession h

/-- The claim of a free token is granted: the new holder powers its synthesizer from the snapshot (13 R357, R364, R368);
a power-up calibration starts again (12 R347). -/
def State.claim (s : State) (h : Hearth) : State :=
  let t := if s.fbit HRT_STATUS_NO_HOLDER then (s.foff HRT_STATUS_NO_HOLDER).freshServo else s
  let t := ((t.fon HRT_STATUS_TAKEOVER).hold h).powerFromSnapshot h
  let t := { t with hrt := { t.hrt with takeover := t.hrt.takeover.map fun k => { k with stage := .claimed } } }
  if t.fbit CAL_STATUS_RUNNING && t.cal.powerUp then t.calBegin t.cal.groups true else t

/-- A takeover stands at a stage. -/
def State.stageIs (s : State) (g : TakeoverStage) : Bool := decide (s.hrt.takeover.map (·.stage) = some g)

/-- The state with the stage of the takeover. -/
def State.setStage (s : State) (g : TakeoverStage) : State :=
  { s with hrt := { s.hrt with takeover := s.hrt.takeover.map fun k => { k with stage := g } } }

/-- The token became free at least so many ns ago. -/
def State.freeFor (s : State) (ns : Nat) : Bool := s.hrt.takeover.any fun k => decide (k.since + ns ≤ s.now)

/-- TOKEN_CLAIM (13 R357, R364, R368). -/
def execTokenClaim (s : State) : Host.Outcome State Fault Refusal :=
  whenUp s (
    if s.hrt.holder.isNone && s.stageIs .free then
      if s.mayClaim .a then s.claim .a else if s.mayClaim .b then s.claim .b else s
    else s)

/-- TAKEOVER_INNER_LOCK (13 R364). -/
def execTakeoverInnerLock (s : State) : Host.Outcome State Fault Refusal :=
  whenUp s (
    match s.hrt.holder with
    | some h => if s.stageIs .claimed then (s.fon (SYN_SPINE_STATUS_INNER_LOCK (hearthIx h))).setStage .innerLocked else s
    | none => s)

/-- TAKEOVER_ALIGNER_MATCH (13 R364). -/
def execTakeoverAlignerMatch (s : State) : Host.Outcome State Fault Refusal :=
  whenUp s (if s.stageIs .innerLocked then s.setStage .matched else s)

/-- The mode that waited for a synthesizer to carry the spine takes effect (10 R297, 13 R364). -/
def State.modeBack (s : State) : State :=
  let t := s.fset SYN_SEL_STATUS_MODE (s.syn.pendMode.getD 0)
  { t with syn := { t.syn with pendMode := none, inRun := 0, outRun := 0 } }

/-- TAKEOVER_MUX_MOVE (13 R364, 06 R199). -/
def execTakeoverMuxMove (s : State) : Host.Outcome State Fault Refusal :=
  whenUp s (
    match s.hrt.holder with
    | some h =>
      if s.stageIs .matched then
        ((s.fon (SYN_SPINE_STATUS_CARRIES_SPINE (hearthIx h))).modeBack.resumeWindows).setStage .moved
      else s
    | none => s)

/-- TAKEOVER_LOCK_MISS (13 R365): no inner lock 120 µs after the token became free, or at the end of a retry. -/
def execTakeoverLockMiss (s : State) : Host.Outcome State Fault Refusal :=
  whenUp s (
    match s.hrt.holder with
    | some h =>
      if s.stageIs .claimed && s.freeFor 120000 then
        let t := if s.fbit HRT_STATUS_LONG_TAKEOVER then s
          else (s.fon HRT_STATUS_LONG_TAKEOVER).seen HRT_EVENTS_LONG_TAKEOVER_SEEN .hearth
        t.startSpine h true
      else s
    | none => s)

/-- LONG_TAKEOVER_TIMEOUT (13 R365). -/
def execLongTakeoverTimeout (s : State) : Host.Outcome State Fault Refusal :=
  whenUp s (
    match s.hrt.holder with
    | some h => if s.fbit HRT_STATUS_LONG_TAKEOVER && !s.stageIs .moved && s.freeFor 5000000 then s.leaveService h 2 else s
    | none => s)

/-- NO_HOLDER (13 R367). -/
def execNoHolder (s : State) : Host.Outcome State Fault Refusal :=
  whenUp s (
    if s.hrt.holder.isNone && s.takingOver && s.stageIs .free && s.freeFor 150000 then s.noHolder else s)

/-! ## Resynchronization, restart, test (13 R361, R370, R371) -/

/-- A hearth is being resynchronized (13 R361): a handover that waits for its test is refused (13 R369). -/
def State.startResync (s : State) (h : Hearth) : State :=
  let t := if s.hrt.handover = .testing && decide (s.standby = some h) then s.refuseHandover 2 else s
  let t := t.setHearth h { t.hearth h with inStep := false }
  { t with hrt := { t.hrt with resync := some h } }

/-- RESYNC_DONE (13 R352, R361, R369). -/
def execResyncDone (s : State) : Host.Outcome State Fault Refusal :=
  whenUp s (
    match s.hrt.resync with
    | none => s
    | some h =>
      if s.hrt.holder.isSome && decide (s.hrt.holder ≠ some h) && (s.serves h || (s.hearth h).verified) then
        let t := s.setHearth h { s.hearth h with st := .standby, inStep := true }
        let t := { t with hrt := { t.hrt with resync := none } }
        let t := t.fcount (HRT_LOCKSTEP_RESYNC_CNT (hearthIx h)) 1
        if t.hrt.handover = .taking then t.endHandover else t
      else s)

/-- A hearth restarts (13 R370): its island is reset with its crossings, and it begins a start (14 R389). -/
def State.hearthRestart (s : State) (h : Hearth) : State :=
  if s.hrt.holder = some h then s
  else
    let t := if (s.hearth h).st = .offline then s.recordCause h (s.lowestCause h 10) else s.leaveService h 10
    let t := t.setHearth h { t.hearth h with
      verified := false, restarting := true, autoDue := false, testing := false, inStep := false, fails := 0 }
    let t := if (t.hearth h).causeHolds then t else t.foff (hearthInvalid h)
    (t.setTsq (hearthIx h) []).beginStart (hearthIx h)

/-- HRT_RESTART (13 R370). -/
def execHrtRestart (q : Requester) (h : Hearth) (s : State) : Host.Outcome State Fault Refusal := whenTaken s q (s.hearthRestart h)

/-- AUTO_RESTART (13 R370). -/
def execAutoRestart (h : Hearth) (s : State) : Host.Outcome State Fault Refusal :=
  whenUp s (
    if !(s.hearth h).autoDue then s
    else if s.fbit HRT_LEASE_CFG_AUTO_RESTART && decide (0 < s.fget (HRT_CAUSE_AUTO_LEFT (hearthIx h))) then
      (s.fset (HRT_CAUSE_AUTO_LEFT (hearthIx h)) (s.fget (HRT_CAUSE_AUTO_LEFT (hearthIx h)) - 1)).hearthRestart h
    else s.setHearth h { s.hearth h with autoDue := false })

/-- AUTO_LEFT_REPLENISH (13 R370). -/
def execAutoLeftReplenish (h : Hearth) (s : State) : Host.Outcome State Fault Refusal :=
  whenUp s (s.fset (HRT_CAUSE_AUTO_LEFT (hearthIx h)) (min 3 (s.fget (HRT_CAUSE_AUTO_LEFT (hearthIx h)) + 1)))

/-- The outcome of a synthesizer test is shown: the time to the phase match in µs, above 1,000 where none was reached
(13 R371, R375). -/
def State.testResult (s : State) (h : Hearth) (lockUs : Nat) : State :=
  let x := hearthIx h
  let t := s.fset (HRT_HEALTH_TEST_RESULT x) (if lockUs ≤ 133 then 1 else 2)
  let t := t.fset (HRT_HEALTH_LOCK_US x) (if lockUs ≤ 1000 then lockUs else 0x1FFF)
  let t := (t.fwrap (HRT_HEALTH_TEST_CNT x)).fset (HRT_TEST_SEC_TEST_SEC x) t.secLo
  let t := (t.stopSpine h).setHearth h { t.hearth h with
    testing := false, fails := if lockUs ≤ 133 then 0 else (t.hearth h).fails + 1 }
  if lockUs ≤ 133 then t else (t.seen HRT_EVENTS_TEST_FAIL_SEEN .hearth).healthEvent

/-- The standby's synthesizer is powered for a test (13 R371). -/
def State.startTest (s : State) : State :=
  match s.standby with
  | none => s
  | some h =>
    if (s.hearth h).testing then s
    else (s.powerFromSnapshot h).setHearth h { s.hearth h with testing := true }

/-- HRT_TEST (13 R371). -/
def execHrtTest (q : Requester) (s : State) : Host.Outcome State Fault Refusal := whenTaken s q s.startTest

/-- SELF_TEST_PERIODIC (13 R371). -/
def execSelfTestPeriodic (s : State) : Host.Outcome State Fault Refusal := whenUp s s.startTest

/-- SELF_TEST_RETRY (13 R371). -/
def execSelfTestRetry (s : State) : Host.Outcome State Fault Refusal :=
  whenUp s (
    match s.standby with
    | some h => if (s.hearth h).fails = 0 then s else s.startTest
    | none => s)

/-- A handover learns the result of its test (13 R369). -/
def State.handoverTested (s : State) (passed : Bool) : State :=
  if s.hrt.handover = .testing then
    if passed then { s with hrt := { s.hrt with handover := .waiting } } else s.refuseHandover 3
  else s

/-- SELF_TEST_DONE (13 R369, R371). -/
def execSelfTestDone (lockUs : Nat) (s : State) : Host.Outcome State Fault Refusal :=
  whenUp s (
    match s.standby with
    | none => s
    | some h =>
      if (s.hearth h).testing then
        let t := (s.testResult h lockUs).handoverTested (decide (lockUs ≤ 133))
        if 2 ≤ (t.hearth h).fails then t.leaveService h 6 else t
      else s)

/-- A firmware part has ended its verification (14 R385, R386): a hearth whose banks fail stays OFFLINE with FW_LOAD
(13 R358). -/
def State.hearthVerified (s : State) (h : Hearth) (err0 err1 : Bool) : State :=
  let x := hearthIx h
  if (s.fw x).starting.isNone then s
  else
    let t := s.verified x err0 err1
    if (t.fw x).running.isSome then t.setHearth h { t.hearth h with verified := true }
    else (t.setHearth h { t.hearth h with verified := false, restarting := false }).recordCause h 12

/-- HEARTH_RESTART_DONE (13 R352, R368, R370): in step, tested, in STANDBY. -/
def execHearthRestartDone (h : Hearth) (lockUs : Nat) (s : State) : Host.Outcome State Fault Refusal :=
  whenUp s (
    let r := s.hearthVerified h false false
    let u := r.hearth h
    if u.restarting && u.verified && !u.causeHolds then
      let t := (r.foff (hearthInvalid h)).testResult h lockUs
      let t := t.setHearth h { t.hearth h with st := .standby, restarting := false, inStep := true }
      if s.hrt.holder.isSome then t.fcount (HRT_LOCKSTEP_RESYNC_CNT (hearthIx h)) 1 else t
    else r)

/-! ## The end of a takeover (13 R364, R369) -/

/-- The hearth that released the token by handover is resynchronized; any other handover is over. -/
def State.afterHandover (s : State) (h : Hearth) : State :=
  if s.hrt.handover = .taking && decide ((s.hearth h).st = .active) && decide (s.hrt.holder ≠ some h) then s.startResync h
  else s.endHandover

/-- The takeover ends (13 R364). -/
def State.endTakeover (s : State) (h : Hearth) : State :=
  let t := ((s.writeTakeover (hearthCode h)).foff HRT_STATUS_TAKEOVER).foff HRT_STATUS_LONG_TAKEOVER
  let t := (t.fwrap HRT_EVENTS_TAKEOVER_CNT).fon HRT_EVENTS_TAKEOVER_SEEN
  let t := ({ t with hrt := { t.hrt with takeover := none } }).calTakeoverEnd
  match s.hrt.takeover with
  | some k => t.afterHandover k.source
  | none => t

/-- TAKEOVER_END (13 R364). -/
def execTakeoverEnd (s : State) : Host.Outcome State Fault Refusal :=
  whenUp s (
    match s.hrt.holder with
    | some h => if s.stageIs .moved then s.endTakeover h else s
    | none => s)

/-! ## Handover on command (13 R369) -/

/-- The lowest reason to refuse a handover at the write; 0 for none. -/
def State.handoverReason (s : State) : Nat :=
  if s.standby.isNone then 1
  else if !s.inStep then 2
  else if s.hrt.holder.any (fun h => decide (s.cfg.owner = some (fwOf h))) && s.editing then 4
  else if s.takingOver || decide (s.hrt.handover ≠ .none) then 5
  else if s.life = .kindling then 6
  else 0

/-- A write of 1 to HANDOVER with the key; ignored while the bit is 1 (00 R8). -/
def State.startHandover (s : State) : State :=
  if s.fbit HRT_CMD_HANDOVER then s
  else if s.handoverReason = 0 then
    ({ s.fon HRT_CMD_HANDOVER with hrt := { s.hrt with handover := .testing } }).startTest
  else s.refuseHandover s.handoverReason

/-- HRT_HANDOVER (13 R369). -/
def execHrtHandover (q : Requester) (s : State) : Host.Outcome State Fault Refusal := whenTaken s q s.startHandover

/-- HANDOVER_TOKEN_RELEASE (13 R369). -/
def execHandoverTokenRelease (s : State) : Host.Outcome State Fault Refusal :=
  whenUp s (
    if s.hrt.handover = .waiting then ({ s with hrt := { s.hrt with handover := .taking } }).freeToken 11 else s)

/-! ## Lockstep (13 R360, R361) -/

/-- LOCKSTEP_MISMATCH (13 R360, R361, 14 R390). -/
def execLockstepMismatch (s : State) : Host.Outcome State Fault Refusal :=
  whenUp s (
    match s.standby with
    | some h =>
      if s.hrt.holder.isSome && (s.hearth h).inStep && !s.mixed then
        let t := (s.fcount (HRT_LOCKSTEP_MISMATCH_CNT (hearthIx h)) 1).fon HRT_EVENTS_MISMATCH_SEEN
        ({ t with hrt := { t.hrt with diagnosis := true } }).healthEvent
      else s
    | none => s)

/-- Sixty seconds in spine cycles. -/
def minuteNs : Nat := 60 * nsPerSec

/-- Both hearths passed: the standby is resynchronized, or is a cinder at the second such mismatch within 60 s
(13 R361). -/
def State.bothPassed (s : State) (h : Hearth) : State :=
  let again := match s.hrt.lastPass with | some n => decide (s.now ≤ n + minuteNs) | none => false
  let t := { s with hrt := { s.hrt with lastPass := some s.now } }
  if again then t.leaveService h 5 else t.startResync h

/-- DIAGNOSIS_DONE (13 R361). -/
def execDiagnosisDone (activePasses standbyPasses : Bool) (s : State) : Host.Outcome State Fault Refusal :=
  whenUp s (
    if !s.hrt.diagnosis then s
    else
      let t := { s with hrt := { s.hrt with diagnosis := false } }
      match t.hrt.holder, t.standby with
      | some act, some sby =>
        let t := if standbyPasses then t else t.leaveService sby 4
        if !activePasses then t.leaveService act 4
        else if standbyPasses then t.bothPassed sby else t
      | _, _ => t)

end Sys2Proof.Machine
end

