-- ==== Sys2Proof/Machine/Power.lean ====
section
/-! DEFINITION. The device reset (03 R72, R73), the power stage, the sensors and the VBAT store (02).

Choices (log entries): 15 DEDUCED, 32 DEDUCED, 33 DEDUCED, 34 DEDUCED, 35 DEDUCED, 36 DEDUCED, 75 DESIGN CHOICE, 76
DESIGN CHOICE, 77 DESIGN CHOICE. -/

namespace Sys2Proof.Machine

/-! ## Device reset -/

/-- The registers of the VBAT domain, which a device reset leaves as they are (02 R56, R71). -/
def vbatKeys : List Nat := [GLB_RESET_CAUSE, GLB_VBAT_CTRL, GLB_VBAT_STATUS, GLB_VBAT_LOG_SEL]

/-- A flash write that is under way is aborted: its bank is left as a free value decides (03 R89). -/
def abortFlash (s : State) : CfgState :=
  let c := match s.cfg.persist with
    | some p =>
      let d := BankData.tornSnapshot s.freeCtr p.seq p.recs
      if p.target = 0 then { s.cfg with bank0 := d } else { s.cfg with bank1 := d }
    | none => s.cfg
  match s.cfg.updateBank, s.cfg.updateImage with
  | some b, x :: r =>
    let d := BankData.tornRaw s.freeCtr (x :: r)
    if b = 0 then { c with bank0 := d } else { c with bank1 := d }
  | _, _ => c

/-- A firmware part that stops with the device. -/
def FwPart.stopped (v : FwPart) : FwPart := { v with running := none, starting := none, windowAt := 0 }

/-- Every block but the power stage and the VBAT store takes its Reset state; the flash keeps its contents and its
bad-block tables (03 R72, R73, R81), and the scan port its instruction and its boundary register (16 R426). -/
def State.resetBlocks (s : State) : State :=
  let c := abortFlash s
  { State.resetOf s.part with
    pending := s.pending
    out := s.out
    freeCtr := s.freeCtr + 1
    regs := s.regs.filter fun e => vbatKeys.contains e.1
    causes := s.causes
    resetFresh := s.resetFresh
    fromDormant := s.fromDormant
    power := s.power
    vbat := s.vbat
    cfg := { cfgNew with
      bank0 := c.bank0, bank1 := c.bank1, updateBank := c.updateBank, good0 := c.good0, good1 := c.good1 }
    links := { (State.resetOf s.part).links with cageInt := s.links.cageInt }
    upd := { updNew with parts := s.upd.parts.map FwPart.stopped, fuse := s.upd.fuse }
    mgt := { mgtNew with ir := s.mgt.ir, boundary := s.mgt.boundary } }

/-- The reset of the blocks: VBAT crossings that are invalid stay so until kindling finds their clock (01 R36, 03 R73). -/
def State.clearBlocks (s : State) : State :=
  if s.vbatInvalid then s.resetBlocks.fset GLB_XING_DOMAIN_VBAT_INVALID 1 else s.resetBlocks

/-- Causes that wait with a new one: those of the reset that runs, of the same management cycle (03 R73). -/
def State.waitingCauses (s : State) : List Nat := if s.life = .reset ∧ s.resetFresh = true then s.causes else []

/-- A device reset with a cause (03 R73). -/
def State.deviceReset (s : State) (cause : Nat) : State :=
  { s.clearBlocks with causes := s.waitingCauses ++ [cause], resetFresh := true }

/-- RST_N_ASSERT (03 R72): a power-down goes on. -/
def execRstNAssert (s : State) : Host.Outcome State Fault Refusal :=
  let t := { s with power := { s.power with rstLow := true } }
  done s (
    if s.life = .dormant || s.power.down then t
    else { t.clearBlocks with causes := if s.life = .reset then s.causes else [] })

/-- RST_N_RELEASE (03 R72, R73). -/
def execRstNRelease (s : State) : Host.Outcome State Fault Refusal :=
  let t := { s with power := { s.power with rstLow := false } }
  done s (if !s.power.rstLow || s.life = .dormant || s.power.down then t else t.deviceReset 2)

/-- The cause of a reset on command (03 R104); a write by the agent counts as its reset message. -/
def resetCause : Requester → Nat
  | .hearthA => 3
  | .hearthB => 3
  | .agent => 4
  | .uart => 5

/-- A write to GLB_RESET_CTRL (03 R104). -/
def State.resetCtrl (s : State) (q : Requester) (v : Nat) : State :=
  if fieldOf v 16 16 = 0xC3A5 ∧ bitOf v 0 then s.deviceReset (resetCause q) else s

/-- RESET_CTRL_WRITE (03 R104). -/
def execResetCtrlWrite (q : Requester) (value : Word) (s : State) : Host.Outcome State Fault Refusal :=
  whenTaken s q (s.resetCtrl q value.toNat)

/-! ## The event log (02 R58, R59) -/

/-- An entry is written to the log; none while the VBAT crossings are invalid (01 R36). -/
def State.pushLog (s : State) (code detail hi : Nat) : State :=
  if s.vbatInvalid then s
  else
    { s with vbat := { s.vbat with
      log := ((⟨code, s.vbat.nextSeq, detail % 2 ^ 16, hi % 2 ^ 32⟩ : VbatEntry) :: s.vbat.log).take 16
      nextSeq := (s.vbat.nextSeq + 1) % 256 } }

/-- The store takes its Reset values and STORE_LOST is set (02 R56); a count of boot attempts kept there counts as 3
(14 R395). SEQ of the next entry is 0: the spec gives none (DESIGN CHOICE, log entry 75). -/
def State.loseStore (s : State) : State :=
  let t := { s with
    regs := s.regs.filter fun e => !vbatKeys.contains e.1
    vbat := ⟨[], 0, 0, false, [3, 3, 3, 3]⟩ }
  t.seen GLB_VBAT_STATUS_STORE_LOST .supply

/-- VBAT_MV and PRESENT (02 R54, R71). -/
def State.vbatLevel (s : State) (mv : Nat) : State :=
  (s.fset GLB_VBAT_STATUS_VBAT_MV mv).fput GLB_VBAT_STATUS_PRESENT (decide (1900 ≤ mv))

/-- VBAT is below 2.2 V: LOW, LOW_SEEN and an entry 0x03 (02 R58). -/
def State.vbatLow (s : State) (mv : Nat) : State :=
  (((s.vbatLevel mv).fon GLB_VBAT_STATUS_LOW).seen GLB_VBAT_STATUS_LOW_SEEN .supply).pushLog 3 mv s.secLo

/-- VBAT_LOW (02 R58): while LOW is 1 already, only the level shown moves (02 R71). -/
def execVbatLow (mv : BitVec 12) (s : State) : Host.Outcome State Fault Refusal :=
  whenUp s (
    if s.vbatInvalid then s
    else if s.fbit GLB_VBAT_STATUS_LOW then s.vbatLevel mv.toNat
    else s.vbatLow mv.toNat)

/-- VBAT_RECOVER (02 R58): while LOW is 0 already, VBAT rises above 2.3 V once more. -/
def execVbatRecover (mv : BitVec 12) (s : State) : Host.Outcome State Fault Refusal :=
  whenUp s (
    if s.vbatInvalid then s
    else ((s.vbatLevel mv.toNat).foff GLB_VBAT_STATUS_LOW).pushLog 4 mv.toNat s.secLo)

/-! ## The power stage (02 R45 to R52, R436) -/

/-- SOFT_START (02 R46, R60): after a thermal shutdown only once ENABLE went low and high or VIN went and returned, and
GLB_TEMP8 reads below 140 degrees. -/
def execSoftStart (returned : Bool) (temp8 : BitVec 16) (s : State) : Host.Outcome State Fault Refusal :=
  let cool := decide (signedOf 16 temp8.toNat < 2240)
  let free := !s.power.thermalLatch || ((s.power.enableCycled || returned) && cool)
  done s (
    if s.life = .dormant ∧ free then
      { s with power := { s.power with enable := true, softStart := true, thermalLatch := false, enableCycled := false } }
    else s)

/-- SOFT_START_COMPLETE (02 R46): the device enters RESET from DORMANT. -/
def execSoftStartComplete (s : State) : Host.Outcome State Fault Refusal :=
  done s (
    if s.power.softStart then
      { s.clearBlocks with
        causes := [1], resetFresh := true, fromDormant := true, power := { s.power with softStart := false } }
    else s)

/-- A cause stops a soft start, starts a power-down, or joins the mask of one that runs (02 R50, R51, R59, R436). Only an
ENABLE that goes low after a thermal shutdown counts for the restart of 02 R60, not one that went low before it in the
same power-down: the spec leaves it open (DESIGN CHOICE, log entry 76). -/
def State.powerCause (s : State) (bit : Nat) (early : Bool) : State :=
  let thermal := decide (bit = 4)
  let t := if thermal then { s with power := { s.power with thermalLatch := true, enableCycled := false } } else s
  if s.power.softStart then { t with power := { t.power with softStart := false } }
  else if s.life = .dormant then s
  else if s.power.down then
    if early ∧ !s.power.stored then { t with power := { t.power with mask := withBit t.power.mask bit true } } else t
  else
    { t with power := { t.power with down := true, mask := 2 ^ bit, stored := false, downSec := s.secLo } }

/-- ENABLE_LOW (02 R45, R50). -/
def execEnableLow (early : Bool) (s : State) : Host.Outcome State Fault Refusal :=
  let t := s.powerCause 5 early
  done s { t with power := { t.power with enable := false, enableCycled := t.power.enableCycled || t.power.thermalLatch } }

/-- VIN_BELOW_WARNING (02 R50). -/
def execVinBelowWarning (early : Bool) (s : State) : Host.Outcome State Fault Refusal := done s (s.powerCause 0 early)

/-- REVERSE_CURRENT_TRIP (02 R48, R50). -/
def execReverseCurrentTrip (early : Bool) (s : State) : Host.Outcome State Fault Refusal := done s (s.powerCause 1 early)

/-- OVERVOLTAGE_TIMEOUT (02 R50). -/
def execOvervoltageTimeout (early : Bool) (s : State) : Host.Outcome State Fault Refusal := done s (s.powerCause 2 early)

/-- CURRENT_LIMIT_TIMEOUT (02 R50). -/
def execCurrentLimitTimeout (early : Bool) (s : State) : Host.Outcome State Fault Refusal := done s (s.powerCause 3 early)

/-- THERMAL_SHUTDOWN (02 R60). -/
def execThermalShutdown (early : Bool) (s : State) : Host.Outcome State Fault Refusal := done s (s.powerCause 4 early)

/-- POWER_DOWN_RECORD_STORED (02 R51, R58, R59). -/
def execPowerDownRecordStored (s : State) : Host.Outcome State Fault Refusal :=
  done s (
    if s.power.down ∧ !s.power.stored then
      ({ s with power := { s.power with stored := true } }).pushLog 1 s.power.mask s.power.downSec
    else s)

/-- DORMANT_REACHED (02 R51, R57). -/
def execDormantReached (s : State) : Host.Outcome State Fault Refusal :=
  done s (
    if s.power.down ∧ s.power.stored then
      let t := s.resetBlocks
      { t with
        life := .dormant, causes := [], phase := 0, mgt := mgtNew
        power := { t.power with down := false, mask := 0, stored := false, scanHold := false }
        vbat := { t.vbat with dormantSec := 0, oscRan := s.fbit GLB_VBAT_CTRL_DORMANT_OSC } }
    else s)

/-- DORMANT_SECOND (02 R57). -/
def execDormantSecond (s : State) : Host.Outcome State Fault Refusal :=
  done s (
    if s.life = .dormant ∧ s.fbit GLB_VBAT_CTRL_DORMANT_OSC then
      { s with vbat := { s.vbat with dormantSec := (s.vbat.dormantSec + 1) % 2 ^ 32 } }
    else s)

/-- OV_WARN (02 R50, R71). -/
def execOvWarn (s : State) : Host.Outcome State Fault Refusal :=
  whenUp s (
    if s.fbit GLB_PWR_STATUS_OV_WARN then s
    else ((s.fon GLB_PWR_STATUS_OV_WARN).foff GLB_PWR_STATUS_VIN_OK).seen GLB_PWR_STATUS_OV_WARN_SEEN .supply)

/-- OV_WARN_END (02 R50, R71). -/
def execOvWarnEnd (s : State) : Host.Outcome State Fault Refusal :=
  whenUp s ((s.foff GLB_PWR_STATUS_OV_WARN).fon GLB_PWR_STATUS_VIN_OK)

/-- ILIM_REACHED (02 R50). -/
def execIlimReached (s : State) : Host.Outcome State Fault Refusal :=
  whenUp s (s.seen GLB_PWR_STATUS_ILIM_SEEN .supply)

/-! ## Sensors (02 R60) -/

/-- The word of a sensor for a reading in 1/16 degree: VALID within -60 to 200 degrees. -/
def tempWord (r : BitVec 16) : Nat :=
  let x := signedOf 16 r.toNat
  r.toNat + (decide (-960 ≤ x) && decide (x ≤ 3200)).toNat * 2 ^ 31

/-- The sensors the part has (02 R60). -/
def State.sensors (s : State) : List Nat := (List.range 9).filter (hasSensor s.part)

/-- The readings are shown (a sensor of a slice the part lacks reads zero, 00 R5); a sensor that becomes invalid sets the
flag. -/
def State.showTemps (s : State) (rs : List (BitVec 16)) : State :=
  s.sensors.foldl (fun t i =>
    let w := tempWord (rs.getD i 0)
    let fell := tempValid (t.getReg (GLB_TEMP i)) && !tempValid w
    let t := t.setReg (GLB_TEMP i) w
    if fell then t.fon GLB_PWR_STATUS_SENSOR_FAULT_SEEN else t) s

/-- The words of the sensors the part has. -/
def State.sensorWords (s : State) : List Nat := s.sensors.map fun i => s.getReg (GLB_TEMP i)

/-- The highest valid reading. -/
def highest : List Nat → Option Int
  | [] => none
  | w :: r =>
    if tempValid w then
      match highest r with
      | some x => some (max x (tempOf w))
      | none => some (tempOf w)
    else highest r

/-- TEMP_ALARM follows the highest valid reading; with no valid sensor it keeps its value, which the spec leaves open
(DESIGN CHOICE, log entry 77). -/
def State.judgeTemp (s : State) : State :=
  match highest s.sensorWords with
  | none => s
  | some x =>
    let thr := min 2400 (s.fint GLB_TEMP_CFG_ALARM_THR)
    if s.fbit GLB_PWR_STATUS_TEMP_ALARM then
      if x < thr - s.fget GLB_TEMP_CFG_HYST then s.foff GLB_PWR_STATUS_TEMP_ALARM else s
    else if thr ≤ x then (s.fon GLB_PWR_STATUS_TEMP_ALARM).fon GLB_PWR_STATUS_TEMP_ALARM_SEEN
    else s

/-- The excursion of the ember's temperature since the time core entered HOLDOVER (10 R315, R316). -/
def State.growExcursion (s : State) : State :=
  if s.timeMode = .holdover then
    { s with syn := { s.syn with excursion := max s.syn.excursion (s.emberTemp - s.syn.timeHoldTemp).natAbs } }
  else s

/-- TEMP_SENSOR_UPDATE (02 R60, R71, 10 R312, 12 R342): a sensor that is not listed reads 0. -/
def execTempSensorUpdate (readings : List (BitVec 16)) (vinMv iinMa : BitVec 16) (s : State) :
    Host.Outcome State Fault Refusal :=
  whenUp s (
    let t := s.showTemps readings
    let fault := t.sensorWords.any fun w => !tempValid w
    let t := if fault && !s.fbit GLB_PWR_STATUS_SENSOR_FAULT then t.fon GLB_PWR_STATUS_SENSOR_FAULT_SEEN else t
    let t := t.fput GLB_PWR_STATUS_SENSOR_FAULT fault
    let t := t.judgeTemp.setReg GLB_PWR_MON (iinMa.toNat * 2 ^ 16 + vinMv.toNat)
    t.sensorSubst.growExcursion.emberCorrect)

end Sys2Proof.Machine
end

