-- ==== Sys2Proof/Machine/Image.lean ====
section
/-! DEFINITION. The configuration image (03 R78 to R80): its header, directory and sections; and what a staged record
does to the configuration a state holds.

Choices (log entries): 79 DESIGN CHOICE. -/

namespace Sys2Proof.Machine

/-! ## The image (03 R78, R79) -/

/-- SEQ of an image. -/
def cfgSeq (b : List Byte) : Nat := leAt b 12 4
/-- LENGTH of an image. -/
def cfgLength (b : List Byte) : Nat := leAt b 16 4

/-- MAGIC, FORMAT, LENGTH and SEQ are in range (03 R78, R82). -/
def cfgHeader (b : List Byte) : Bool :=
  decide (leAt b 0 4 = 0x4B434C55) && decide (leAt b 4 2 = 1) && decide (72 ≤ cfgLength b) && decide (cfgLength b ≤ 4194304)
    && decide (cfgLength b % 4 = 0) && decide (1 ≤ cfgSeq b) && decide (cfgSeq b ≤ 0xFFFFFFFE)

/-- The image's bytes, LENGTH of them. -/
def cfgBytes (b : List Byte) : List Byte := b.take (cfgLength b)

/-- The check word verifies (03 R80). -/
def cfgCrc (b : List Byte) : Bool :=
  decide (cfgLength b ≤ b.length) && decide (crc32c (b.take (cfgLength b - 4)) = leAt b (cfgLength b - 4) 4)

/-- A list cut into pieces of a size, as many as fit. -/
def pieces {α : Type} (size : Nat) : Nat → List α → List (List α)
  | 0, _ => []
  | fuel + 1, l => if l.length < size ∨ size = 0 then [] else l.take size :: pieces size fuel (l.drop size)

/-- The pieces of a section of records of one size; none where they do not fill it. -/
def sectionPieces (size : Nat) (b : List Byte) : Option (List (List Byte)) :=
  if b.length % size = 0 then some (pieces size (b.length / size) b) else none

/-- The words of a record from an offset. -/
def recWords (b : List Byte) (off count : Nat) : List Word := (List.range count).map fun i => BitVec.ofNat 32 (leAt b (off + 4 * i) 4)

/-- A register record of section type 1. -/
def regRecord (b : List Byte) : StagedRec := .reg (leAt b 0 4) 0xFFFFFFFF (leAt b 4 4) false

/-- A masked register record of section type 2. -/
def maskedRecord (b : List Byte) : StagedRec := .reg (leAt b 0 4) (leAt b 4 4) (leAt b 8 4) true

/-- A table entry of section type 3. -/
def tableRecord (b : List Byte) : StagedRec := .table (leAt b 0 2) (leAt b 4 4) (stagedForm (leAt b 0 2) (recWords b 8 8))

/-- Records that stand together: a port block of section type 4 replaces what came before for its port (06 R202). -/
abbrev Chunk := Option Nat × List StagedRec

/-- The port blocks of section type 4; none where the section is malformed (06 R202). That a PORT of 64 or more makes it
malformed is the model's choice (DESIGN CHOICE, log entry 79). -/
def windowBlocks : Nat → List Byte → Option (List Chunk)
  | _, [] => some []
  | 0, _ => none
  | fuel + 1, b =>
    let port := leAt b 0 2
    let count := leAt b 8 4
    if b.length < 12 + 20 * count ∨ 1024 < count ∨ 64 ≤ port then none
    else
      let es := (List.range count).map fun i => StagedRec.window port i (recWords b (12 + 20 * i) 5)
      (windowBlocks fuel (b.drop (12 + 20 * count))).map fun r =>
        (some port, StagedRec.reg (QW_CYCLE_NS port) 0xFFFFFFFF (leAt b 4 4) false :: es) :: r

/-- The records of a block of section type 5 (10 R301). -/
def bandBlock (b : List Byte) : Option (List StagedRec) :=
  if 5 < leAt b 0 1 then none
  else some ((List.range 64).map fun i =>
    StagedRec.band (leAt b 0 1) i (leAt b (4 + 8 * i) 4) (leAt b (8 + 8 * i) 4))

/-- A record of section type 6 (12 R349). -/
def linkRecord (b : List Byte) : Option StagedRec :=
  let kind := leAt b 0 1
  let i := leAt b 1 1
  if (kind = 0 ∧ i < 16) ∨ (kind = 1 ∧ i < 64) then some (.link kind i (leAt b 4 4) (leAt b 8 4) (leAt b 12 4)) else none

/-- A record of section type 7 (16 R422). -/
def keyRecord (b : List Byte) : Option StagedRec :=
  if leAt b 0 1 < 8 ∧ leAt b 1 1 < 2 then some (.key (leAt b 0 1) (leAt b 1 1) (BitVec.ofNat 256 (beAt b 4 32))) else none

/-- The values of a list where every one is there. -/
def allSome {α : Type} : List (Option α) → Option (List α)
  | [] => some []
  | none :: _ => none
  | some a :: r => (allSome r).map fun t => a :: t

/-- A section's records as one chunk. -/
def oneChunk (rs : List StagedRec) : List Chunk := [(none, rs)]

/-- The records of a section of a type; none where it is malformed or of an unknown type that is REQUIRED
(03 R79). -/
def sectionRecords (type flags : Nat) (b : List Byte) : Option (List Chunk) :=
  match type with
  | 1 => (sectionPieces 8 b).map fun ps => oneChunk (ps.map regRecord)
  | 2 => (sectionPieces 12 b).map fun ps => oneChunk (ps.map maskedRecord)
  | 3 => (sectionPieces 40 b).map fun ps => oneChunk (ps.map tableRecord)
  | 4 => windowBlocks b.length b
  | 5 => (sectionPieces 516 b).bind fun ps => (allSome (ps.map bandBlock)).map fun rs => oneChunk rs.flatten
  | 6 => (sectionPieces 16 b).bind fun ps => (allSome (ps.map linkRecord)).map oneChunk
  | 7 => (sectionPieces 40 b).bind fun ps => (allSome (ps.map keyRecord)).map oneChunk
  | _ => if flags % 2 = 1 then none else some []

/-- The records of a directory entry's section; none where entry or section is malformed. -/
def entryRecords (img : List Byte) (e : List Byte) : Option (List Chunk) :=
  let off := leAt e 4 4
  let size := leAt e 8 4
  let dirEnd := 32 + 16 * leAt img 6 2
  if leAt e 12 4 ≠ 0 ∨ 2 ≤ leAt e 2 2 ∨ off % 4 ≠ 0 ∨ off < dirEnd ∨ cfgLength img < off + size + 4 then none
  else sectionRecords (leAt e 0 2) (leAt e 2 2) (slice img off size)

/-- The record is a window entry of a port. -/
def ofPort (p : Nat) : StagedRec → Bool
  | .window a _ _ => decide (a = p)
  | _ => false

/-- A chunk joins the records before it. -/
def joinChunk (rs : List StagedRec) (c : Chunk) : List StagedRec :=
  (match c.1 with | some p => rs.filter fun r => !ofPort p r | none => rs) ++ c.2

/-- The records of an image in order, and how many parts of it are malformed: header and directory, then each section
(03 R78, R79, R96). -/
def imageRecords (img : List Byte) : List StagedRec × Nat :=
  let n := leAt img 6 2
  if n = 0 ∨ 64 < n ∨ leAt img 10 2 ≠ 0 ∨ leAt img 20 4 ≠ 0 ∨ cfgLength img < 36 + 16 * n then ([], 1)
  else
    let es := (List.range n).map fun i => entryRecords img (slice img (32 + 16 * i) 16)
    ((es.filterMap id).flatten.foldl joinChunk [], (es.filter fun e => e.isNone).length)

/-! ## Configuration as records -/

/-- A register word as it is stored: an alarm threshold above 150 degrees is stored as 150 degrees (02 R71). -/
def storedWord (addr v : Nat) : Nat :=
  if addr = GLB_TEMP_CFG ∧ 2400 < signedOf 16 v then withField v 0 16 0x0960 else v

/-- The mask of the fields of a register that a configuration writes: staged fields and RW fields (03 R79). -/
def configMask (d : RegDef) : Nat := stagedMask d + plainMask d

/-- A register takes a record's bits in the fields a configuration writes (03 R79, R91). -/
def State.applyReg (s : State) (addr mask v : Nat) : State :=
  match findReg addr with
  | some (d, ix) =>
    if absentAt s.part d ix then s
    else s.setReg addr (storedWord addr (maskWord (s.getReg addr) (mask &&& configMask d &&& liveBits d ix) v))
  | none => s

/-- A window entry of the active bank of a port is written. -/
def State.setWindow (s : State) (bank port index : Nat) (e : List Word) : State :=
  { s with qw := { s.qw with entries := mapSet (fun _ => zeroWindow) s.qw.entries (winKey bank port index) e } }

/-- The link values of an instance (12 R348, R349): a delay above its field's range is the largest one. -/
def State.applyLink (s : State) (kind i tx rx asym : Nat) : State :=
  if kind = 0 then
    if s.hasClkl i then
      ((s.setReg (CAL_CLKL_TX i) (min tx 65535)).setReg (CAL_CLKL_RX i) (min rx 65535)).setReg (CAL_CLKL_ASYM i) asym
    else s
  else if s.hasPort i then
    ((s.setReg (CAL_PORT_TX i) (min tx 65535)).setReg (CAL_PORT_RX i) (min rx 65535)).setReg (CAL_PORT_ASYM i) asym
  else s

/-- The records of management keys, one a slot, the later one in force (16 R422). -/
def putKey (slot role : Nat) (key : BitVec 256) (rs : List StagedRec) : List StagedRec :=
  (rs.filter fun r => match r with | .key a _ _ => decide (a ≠ slot) | _ => true) ++ [.key slot role key]

/-- A record is written into the configuration a state holds, with no effect beside. -/
def State.applyRec (s : State) (r : StagedRec) : State :=
  match r with
  | .reg addr mask v _ => s.applyReg addr mask v
  | .table t i d => if inTable t i then s.setEntry t i d else s
  | .window p i d => s.setWindow (s.bankOf p) p i d
  | .band x i d0 d1 => s.setBand x i (bandForm (d0, d1))
  | .link kind i tx rx asym => s.applyLink kind i tx rx asym
  | .key slot role key => { s with mgt := { s.mgt with staged := putKey slot role key s.mgt.staged } }

/-- The records are written in order. -/
def State.applyRecs (s : State) (rs : List StagedRec) : State := rs.foldl State.applyRec s

/-- A state whose pending window banks and gate control lists have taken over: what a commit builds on
(06 R201, 07 R233). -/
def State.pendingIn (s : State) : State :=
  let t := (List.range 64).foldl (fun t p =>
    if s.fbit (QW_ACTIVE_BANK_PENDING p) then
      (t.fset (QW_ACTIVE_BANK_BANK p) (1 - s.bankOf p)).fset (QW_CYCLE_NS_CYCLE_NS p) (mapGet (fun _ => 0) s.qw.cycle p)
    else t) s
  (List.range 64).foldl (fun t p =>
    match mapGet (fun _ => none) s.buf.gates p with
    | some (g : GatePend) => g.words.foldl (fun u w => u.setReg w.1 w.2) t
    | none => t) t

/-- The configuration that a set of records would make active. -/
def State.candidateCfg (s : State) (rs : List StagedRec) : State := s.pendingIn.applyRecs rs

end Sys2Proof.Machine
end

