-- ==== Sys2Proof/Machine/Update.lean ====
section
/-! DEFINITION. Field update (14): downloads, activation, confirmation, fallback, the controllers' restarts, and the
rewriting of the configuration banks.

Choices (log entries): 7 DESIGN CHOICE, 8 DESIGN CHOICE, 38 DEDUCED, 43 DEDUCED, 66 DEDUCED, 67 DEDUCED, 68 DEDUCED.
-/

namespace Sys2Proof.Machine

/-! ## Downloads (14 R382, R383) -/

/-- The targets of a download as parts; bit 4 of the mask is CONFIG. -/
def targetParts (m : Nat) : List Nat := (List.range 4).filter fun p => bitOf m p

/-- The largest length of an image for a set of targets (14 R378, R382). -/
def targetSize (m : Nat) : Nat :=
  if bitOf m 4 then 4194304 + 176 else (targetParts m).foldl (fun n p => min n (bankBytes p)) 33554432

/-- A download session is open. -/
def State.downOpen (s : State) : Bool :=
  decide (s.upd.down = .erasing) || decide (s.upd.down = .receiving) || decide (s.upd.down = .closing)

/-- The state with UPD_XFER_STATUS.RESULT. -/
def State.xferResult (s : State) (code : Nat) : State := s.fset UPD_XFER_STATUS_RESULT code

/-- The reason to refuse BEGIN; 0 for none (14 R382). -/
def State.beginReason (s : State) (m len : Nat) : Nat :=
  if s.downOpen then 1
  else if m = 0 || (bitOf m 4 && decide (m ≠ 16)) || (targetParts m).any (fun p => (s.fw p).trial.isSome) then 4
  else if len < 176 || decide (len % 4 ≠ 0) || decide (targetSize m < len) then 5
  else 0

/-- The inactive banks of the targets take a status and contents. -/
def State.setTargets (s : State) (m st : Nat) (i : FwImage) : State :=
  (targetParts m).foldl (fun t p => t.setFw p ((t.fw p).setBank (t.fw p).inactive ⟨st, i⟩)) s

/-- A write of BEGIN (14 R382, R383). -/
def State.updBegin (s : State) (q : Requester) (m : Nat) : State :=
  let len := s.fget UPD_LENGTH_LENGTH
  let r := s.beginReason m len
  if r = 0 then
    let t := (s.setTargets m 1 .erased).xferResult 0
    { t with upd := { t.upd with down := .erasing, owner := some q, targets := m, length := len, data := [] } }
  else s.xferResult r

/-- UPD_BEGIN (14 R382, R383): the write carries TARGET. -/
def execUpdBegin (q : Requester) (target : BitVec 5) (s : State) : Host.Outcome State Fault Refusal :=
  whenTaken s q ((s.fset UPD_SESSION_TARGET target.toNat).updBegin q target.toNat)

/-- A session fails with a code (14 R383); the flag raises the firmware alarm (16 R428). -/
def State.downFails (s : State) (code : Nat) : State :=
  let t := (s.xferResult code).seen UPD_EVENTS_XFER_FAIL_SEEN .firmware
  { t with upd := { t.upd with down := .failed, owner := none } }

/-- UPD_ERASE_DONE (14 R383). -/
def execUpdEraseDone (flashFails : Bool) (s : State) : Host.Outcome State Fault Refusal :=
  whenUp s (
    if s.upd.down = .erasing then
      if flashFails then s.downFails 7 else { s with upd := { s.upd with down := .receiving } }
    else s)

/-- A write of UPD_DATA (14 R383): four bytes are appended, or the session fails. -/
def State.updData (s : State) (q : Requester) (data : Word) (full flashFails : Bool) : State :=
  if !s.downOpen || decide (s.upd.down = .closing) then s.xferResult 3
  else if s.upd.owner ≠ some q then s.xferResult 2
  else if s.upd.length < s.upd.data.length + 4 then s.downFails 5
  else if full || decide (s.upd.down = .erasing) then s.downFails 8
  else if flashFails then s.downFails 7
  else { s with upd := { s.upd with data := s.upd.data ++ leBytes 4 data.toNat } }

/-- UPD_DATA_WRITE (14 R383). -/
def execUpdDataWrite (q : Requester) (data : Word) (full flashFails : Bool) (s : State) :
    Host.Outcome State Fault Refusal := whenTaken s q (s.updData q data full flashFails)

/-- UPD_ABORT (14 R383): the banks stay WRITING. -/
def State.updAbort (s : State) (q : Requester) : State :=
  if !s.downOpen || decide (s.upd.down = .closing) then s.xferResult 3
  else if s.upd.owner ≠ some q then s.xferResult 2
  else
    let t := s.fon UPD_EVENTS_XFER_FAIL_SEEN |>.raise .firmware
    { t with upd := { t.upd with down := .failed, owner := none } }

/-- UPD_ABORT (14 R383). -/
def execUpdAbort (q : Requester) (s : State) : Host.Outcome State Fault Refusal := whenTaken s q (s.updAbort q)

/-- UPD_SESSION_TIMEOUT (14 R383). -/
def execUpdSessionTimeout (s : State) : Host.Outcome State Fault Refusal :=
  whenUp s (if s.downOpen && decide (s.upd.down ≠ .closing) then s.downFails 9 else s)

/-! ## END (14 R384, R397) -/

/-- The kind that a set of targets takes; 0 where the targets differ in kind. -/
def targetKind (m : Nat) : Nat :=
  if m = 16 then 4
  else
    match targetParts m with
    | [] => 0
    | p :: r => if r.all fun x => decide (partKind x = partKind p) then partKind p else 0

/-- The result of the header's checks: 0, or the reason FORMAT or PART (14 R384). -/
def State.headerReason (s : State) (b : List Byte) : Nat :=
  if targetKind s.upd.targets = 0 || !headerForm b (targetKind s.upd.targets) s.upd.length then 1
  else if !s.headerPart b then 2
  else 0

/-- The session is over. -/
def State.downIdle (s : State) : State := { s with upd := { s.upd with down := .idle, owner := none } }

/-- The image fails a check of END: RESULT 6. -/
def State.endFails (s : State) : State :=
  ((s.xferResult 6).seen UPD_EVENTS_XFER_FAIL_SEEN .firmware).downIdle

/-- The configuration image in a kind 4 image. -/
def cfgPayload (b : List Byte) : List Byte := Config.decrypt (slice b 64 (b.length - 176))

/-- The bank that did not supply CFG_ACTIVE_SEQ; bank 0 in DEFAULTED before any persist (03 R87, 14 R397). -/
def State.cfgTarget (s : State) : Nat :=
  if s.fget CFG_ACTIVE_SEQ_SEQ = 0 then 0 else 1 - s.fget CFG_BANK_STATUS_LOADED_BANK

/-- The contents of a configuration bank. -/
def State.cfgBank (s : State) (b : Nat) : BankData := if b = 0 then s.cfg.bank0 else s.cfg.bank1

/-- The good blocks of a configuration bank (03 R81). -/
def State.goodBlocks (s : State) (b : Nat) : Nat := if b = 0 then s.cfg.good0 else s.cfg.good1

/-- Blocks of a bank join its bad-block table (03 R81). -/
def State.loseBlocks (s : State) (b n : Nat) : State :=
  { s with cfg := if b = 0 then { s.cfg with good0 := s.cfg.good0 - n } else { s.cfg with good1 := s.cfg.good1 - n } }

/-- The state with the contents of a configuration bank. -/
def State.setCfgBank (s : State) (b : Nat) (d : BankData) : State :=
  if b = 0 then { s with cfg := { s.cfg with bank0 := d } } else { s with cfg := { s.cfg with bank1 := d } }

/-- The status and SEQ shown of a configuration bank. -/
def State.showBank (s : State) (b st seq : Nat) : State :=
  (s.fset (if b = 0 then CFG_BANK_STATUS_BANK0 else CFG_BANK_STATUS_BANK1) st).fset (CFG_BANK_SEQ_SEQ b) seq

/-- END of a configuration image (14 R397): every check of R385 but ROLLBACK and COMPAT, then the image's check word and
header, whose PART_CODE stands where a firmware image has it (03 R78, R82); the marker is written and the rewriting
starts. -/
def State.endConfig (s : State) : State :=
  let b := s.upd.data
  let c := cfgPayload b
  if Config.signatureOk b && Config.tagOk b && cfgHeader c && s.headerPart c && cfgCrc c then
    { s with
      upd := { s.upd with down := .closing }
      cfg := { s.cfg with updateBank := some s.cfgTarget, updateImage := cfgBytes c, locked := true } }
  else s.endFails

/-- END with the byte count of UPD_LENGTH (14 R384): the banks are WRITTEN, or REJECTED with a reason. -/
def State.endImage (s : State) : State :=
  let r := s.headerReason s.upd.data
  let m := s.upd.targets
  if r ≠ 0 then
    let t := (s.setTargets m 5 (.written s.upd.data)).endFails
    (targetParts m).foldl (fun u p => u.setFw p { u.fw p with reason := r }) t
  else if m = 16 then s.endConfig
  else ((s.setTargets m 2 (.written s.upd.data)).xferResult 0).downIdle

/-- A write of END. -/
def State.updEnd (s : State) (q : Requester) : State :=
  if s.upd.down ≠ .receiving then s.xferResult 3
  else if s.upd.owner ≠ some q then s.xferResult 2
  else if s.upd.data.length ≠ s.upd.length then s.downFails 5
  else s.endImage

/-- UPD_END (14 R384, R397). -/
def execUpdEnd (q : Requester) (s : State) : Host.Outcome State Fault Refusal := whenTaken s q (s.updEnd q)

/-- The marker clears. -/
def State.clearMarker (s : State) : State := { s with cfg := { s.cfg with updateBank := none, updateImage := [] } }

/-- CONFIG_REWRITE_DONE (14 R397): `write`: the target bank is programmed and read back; `erase`: the other bank is
erased; their blocks that failed join the bad-block tables (03 R81). -/
def execConfigRewriteDone (write erase : BankOp) (s : State) : Host.Outcome State Fault Refusal :=
  whenUp s (
    match s.upd.down, s.cfg.updateBank with
    | .closing, some b =>
      let s := s.loseBlocks b write.bad
      let img := s.cfg.updateImage
      if !write.ok then (((s.setCfgBank b (.tornRaw s.freeCtr img)).useFree).clearMarker).downFails 7
      else
        let t := (s.setCfgBank b (.raw img)).loseBlocks (1 - b) erase.bad
        if !erase.ok then t.clearMarker.downFails 7
        else
          let t := (t.setCfgBank (1 - b) .erased).clearMarker
          (((t.showBank b 0 (cfgSeq img)).showBank (1 - b) 1 0xFFFFFFFF).xferResult 0).downIdle
    | _, _ => s)

/-! ## Activation (14 R388, R389) -/

/-- The hearth of a part below 2. -/
def partHearth (p : Nat) : Hearth := if p = 0 then .a else .b

/-- The lane controller begins a restart (14 R389). -/
def State.startLaneCtl (s : State) : State :=
  ({ s with links := { s.links with ctlRestart := true } }).beginStart 2

/-- The peat-bank controller begins a restart (07 R227, 14 R389). -/
def State.startPeatCtl (s : State) : State := s.startPeatRestart.beginStart 3

/-- A part is started anew (14 R389). -/
def State.startPart (s : State) (p : Nat) : State :=
  if p < 2 then s.hearthRestart (partHearth p) else if p = 2 then s.startLaneCtl else s.startPeatCtl

/-- The reason to refuse ACTIVATE; 0 for none (14 R388). -/
def State.activateReason (s : State) (p : Nat) : Nat :=
  let k := (s.fw p).bank (s.fw p).inactive
  let i := bankImage p k
  if s.trialPart.any (fun x => decide (x ≠ p)) then 1
  else if k.status ≠ 2 then 2
  else if p < 2 && decide (s.hrt.holder = some (partHearth p)) then 3
  else if !s.compatOk p i then 4
  else if imgSvn i < s.fuseCnt then 5
  else if 2 ≤ p && s.mixed then 6
  else if s.life = .kindling then 7
  else 0

/-- Data lanes that are UP. -/
def State.lanesUp (s : State) : List Nat := (List.range 64).filter fun n => decide (s.lget (LANE_STATUS_LSTATE n) = 4)

/-- The inactive bank becomes the TRIAL bank and the part starts from it (14 R388). -/
def State.activate (s : State) (p : Nat) : State :=
  let t := (s.setFw p ((s.fw p).setStatus (s.fw p).inactive 4)).clearAttempts p
  let t := { t with upd := { t.upd with allowed := false, upLanes := s.lanesUp, uncorr := s.fget BUF_ECC_PEAT_UNCORR } }
  t.startPart p

/-- A write of ACTIVATE with the key (14 R388). -/
def State.updActivate (s : State) (p : Nat) : State :=
  let r := s.activateReason p
  if r = 0 then s.activate p else (s.fset UPD_STATUS_ACT_REFUSE r).fon UPD_EVENTS_ACT_REFUSED_SEEN

/-- UPD_ACTIVATE (14 R388). -/
def execUpdActivate (q : Requester) (part : Fin 4) (s : State) : Host.Outcome State Fault Refusal :=
  whenTaken s q (s.updActivate part.val)

/-! ## Fallback and confirmation (14 R391 to R394) -/

/-- A part falls back (14 R393). -/
def State.fallback (s : State) (p reason : Nat) : State :=
  let t := s.rejectFallback p reason
  if p < 2 then
    if t.hrt.holder = some (partHearth p) then
      if t.inStep then (t.freeToken 11).hearthRestart (partHearth p) else t.deviceReset 7
    else t.hearthRestart (partHearth p)
  else t.startPart p

/-- A write of REJECT with the key (14 R393). -/
def State.updReject (s : State) (p : Nat) : State := if (s.fw p).trial.isSome then s.fallback p 9 else s

/-- UPD_REJECT (14 R393). -/
def execUpdReject (q : Requester) (part : Fin 4) (s : State) : Host.Outcome State Fault Refusal :=
  whenTaken s q (s.updReject part.val)

/-- A write of ALLOW with the key (14 R391). -/
def State.updAllow (s : State) : State :=
  if s.trialPart.isSome then { s with upd := { s.upd with allowed := true } } else s

/-- UPD_ALLOW (14 R391). -/
def execUpdAllow (q : Requester) (s : State) : Host.Outcome State Fault Refusal := whenTaken s q s.updAllow

/-- The other hearth runs the same VERSION from a GOOD bank. -/
def State.otherConfirmed (s : State) (p : Nat) : Bool :=
  match s.runImage p, s.runImage (1 - p), (s.fw (1 - p)).running with
  | some a, some b, some k => decide (imgVersion a = imgVersion b) && decide (((s.fw (1 - p)).bank k).status = 3)
  | _, _, _ => false

/-- UPD_CFG.WINDOW_S as it acts (14 R398). -/
def State.windowS (s : State) : Nat := clampNat 60 3600 (s.fget UPD_CFG_WINDOW_S)

/-- SOAK_S in ns: outside its range or not below WINDOW_S it acts as half of WINDOW_S (14 R398). -/
def State.soakNs (s : State) : Nat :=
  let v := s.fget UPD_CFG_SOAK_S
  if 10 ≤ v ∧ v ≤ 3600 ∧ v < s.windowS then v * nsPerSec else s.windowS * nsPerSec / 2

/-- The conditions of a part in TRIAL (14 R391). -/
def State.mayConfirm (s : State) (p : Nat) : Bool :=
  s.runsTrial p && (!s.fbit UPD_CFG_HOST_GATE || s.upd.allowed) &&
    (if p < 2 then
      let u := s.hearth (partHearth p)
      decide (u.st = .active) ||
        (decide (u.st = .standby) && u.inStep && (!s.fbit UPD_CFG_NEED_ACTIVE || s.otherConfirmed p))
    else if p = 2 then
      !s.links.ctlRestart && s.upd.upLanes.all fun n => decide (s.lget (LANE_STATUS_LSTATE n) = 4)
    else s.fbit BUF_PEAT_STATUS_READY && decide (s.fget BUF_ECC_PEAT_UNCORR ≤ s.upd.uncorr))

/-- The TRIAL bank becomes GOOD and active, the former bank WRITTEN (14 R391). -/
def State.confirm (s : State) (p b : Nat) : State :=
  let v := ((s.fw p).setStatus b 3).setStatus (1 - b) 2
  ((s.setFw p { v with active := b }).fon UPD_EVENTS_CONFIRM_SEEN).endTrial.fuseAdvance

/-- TRIAL_CONFIRM (14 R391): the soak has lasted its time, which is not before that time has passed since the start. -/
def execTrialConfirm (s : State) : Host.Outcome State Fault Refusal :=
  whenUp s (
    match s.trialPart with
    | none => s
    | some p =>
      match (s.fw p).trial with
      | none => s
      | some b => if s.mayConfirm p && decide ((s.fw p).windowAt + s.soakNs ≤ s.now) then s.confirm p b else s)

/-- TRIAL_WINDOW_EXPIRED (14 R392, R393). -/
def execTrialWindowExpired (s : State) : Host.Outcome State Fault Refusal :=
  whenUp s (
    match s.trialPart with
    | some p => if (s.fw p).windowAt + s.windowS * nsPerSec ≤ s.now then s.fallback p 8 else s
    | none => s)

/-! ## The controllers (14 R385, R386, R389, R394, 07 R227) -/

/-- Every lane goes to electrical idle (14 R386). -/
def State.lanesIdle (s : State) : State :=
  (List.range 64).foldl (fun t n => if t.fbit (LANE_CTRL_ENABLE n) then t.laneFalls n else t) s

/-- A controller has ended its verification; lanes go down where the lane controller does not start (14 R386). -/
def State.ctlVerified (s : State) (p : Nat) (err0 err1 : Bool) : State :=
  if (s.fw p).starting.isNone then s
  else
    let t := s.verified p err0 err1
    if (t.fw p).running.isSome then t else if p = 2 then t.lanesIdle else t.foff BUF_PEAT_STATUS_READY

/-- FIRMWARE_VERIFIED (14 R385, R386): `err0` and `err1`: reading the bank meets an uncorrectable error. -/
def execFirmwareVerified (part : Fin 4) (err0 err1 : Bool) (s : State) : Host.Outcome State Fault Refusal :=
  let p := part.val
  whenUp s (if p < 2 then s.hearthVerified (partHearth p) err0 err1 else s.ctlVerified p err0 err1)

/-- CONTROLLER_WATCHDOG (14 R394). -/
def execControllerWatchdog (peat : Bool) (s : State) : Host.Outcome State Fault Refusal :=
  let p := if peat then 3 else 2
  whenUp s (if (s.fw p).running.isSome || (s.fw p).starting.isSome then s.startPart p else s)

/-- LANE_CONTROLLER_RESTART_DONE (14 R389). -/
def execLaneControllerRestartDone (s : State) : Host.Outcome State Fault Refusal :=
  whenUp s (
    if s.links.ctlRestart then
      let t := s.ctlVerified 2 false false
      { t with links := { t.links with ctlRestart := false } }
    else s)

/-- PEAT_RESTART (07 R227). A write while a restart runs is ignored (00 R8). -/
def execPeatRestart (q : Requester) (s : State) : Host.Outcome State Fault Refusal :=
  whenTaken s q (if s.buf.peatRestart then s else s.startPeatCtl)

/-- PEAT_RESTART_DONE (07 R227, 01 R33): the controller runs, the DRAM is trained. -/
def execPeatRestartDone (s : State) : Host.Outcome State Fault Refusal :=
  whenUp s (
    if s.buf.peatRestart then
      let t := s.ctlVerified 3 false false
      let t := { t with buf := { t.buf with peatRestart := false } }
      let t := (t.foff BUF_PEAT_CMD_RESTART).foff GLB_XING_DOMAIN_PEAT_INVALID
      if (t.fw 3).running.isSome then t.fon BUF_PEAT_STATUS_READY else t
    else s)

end Sys2Proof.Machine
end

