-- ==== Sys2Proof/Machine/Check.lean ====
section
/-! DEFINITION. The consistency check (03 R96): the conditions of its codes over a configuration, which records and
fields fail, and the result.

Choices (log entries): 15 DEDUCED, 40 DESIGN CHOICE, 45 DEDUCED, 46 DEDUCED. -/

namespace Sys2Proof.Machine

/-! ## Items and failures -/

/-- What a condition is judged on. -/
inductive CfgItem where
  | fld (f : Fld)
  | table (table index : Nat)
  | window (port index : Nat)
  | band (synth index : Nat)
  deriving DecidableEq, Repr

/-- A failed condition: its code and the items it is judged on, the one that fails while nothing is staged first. -/
structure Failure where
  code : Nat
  items : List CfgItem
  deriving DecidableEq, Repr

/-- A record writes an item. -/
def writesItem (r : StagedRec) : CfgItem → Bool
  | .fld f => match r with | .reg a m _ _ => decide (a = f.key) && decide (fieldOf m f.lo f.width ≠ 0) | _ => false
  | .table t i => match r with | .table a b _ => decide (a = t ∧ b = i) | _ => false
  | .window p i => match r with | .window a b _ => decide (a = p ∧ b = i) | _ => false
  | .band x i => match r with | .band a b _ _ => decide (a = x ∧ b = i) | _ => false

/-- The address shown for a record that fails (03 R96; for windows, bands, link values and keys log entry 40). -/
def recAddr : StagedRec → Nat
  | .reg a _ _ _ => a
  | .table _ _ _ => 0x400000
  | .window _ _ _ => 0x500000
  | .band _ _ _ _ => 0x800080
  | .link kind i _ _ _ => if kind = 0 then CAL_CLKL_TX i else CAL_PORT_TX i
  | .key _ _ _ => MGT_CFG

/-- The address shown for an active item that fails. -/
def itemAddr : CfgItem → Nat
  | .fld f => f.key
  | .table _ _ => 0x400000
  | .window _ _ => 0x500000
  | .band _ _ => 0x800080

/-- A failure where a condition holds. -/
def failIf (b : Bool) (code : Nat) (items : List CfgItem) : List Failure := if b then [⟨code, items⟩] else []

/-! ## Conditions on one record: codes 0x01, 0x02, 0x06, 0x20 -/

/-- Mask of a field in its word. -/
def fieldMask (f : FieldDef) : Nat := (2 ^ f.width - 1) * 2 ^ f.lo

/-- Mask of the defined bits of a register. -/
def definedMask (d : RegDef) : Nat := d.fields.foldl (fun m f => m + fieldMask f) 0

/-- The defined bits of a table's words (05 R144 to R147, R157, R170). -/
def entryMasks : Nat → List Nat
  | 1 => [0xFFFFFFFF, 0xFFFFFFFF, 0x3F, 0xFFFFFFFF, 0xFFFFFFFF, 0, 0, 0]
  | 2 => [0xFFFFFFFF, 0xFFFFFFFF, 0xFFFFFFFF, 0xFFFFFFFF, 0x80000007, 0, 0, 0]
  | 3 => [0xFFFFFFFF, 0xFFFFFFFF, 0xFFFFFFFF, 0x8000000F, 0xFFFFCFFF, 0xFFFFFFFF, 0xFFFFFFFF, 0xFFFF]
  | 4 => [0xFFFFFFFF, 0xFFFFFFFF, 0x7F, 0xFFFFFFFF, 0xFFFFFFFF, 0x7F, 0xFFFFF800, 0]
  | 5 => [0x801F3FFF, 0xFFFFFFFF, 0xFFFFFF, 0xFFFFFFFF, 0xFFFFFF, 0, 0, 0]
  | 6 => [0xFFFFFFFF, 0xFFFFFFFF, 0xE0000000, 0, 0, 0, 0, 0]
  | _ => []

/-- The defined bits of a window entry's words (06 R200). -/
def windowMasks : List Nat := [0xBFFFFFFF, 0x3FFFFFFF, 0xFFFFFFFF, 0xFFFFFFF, 0x33F]

/-- Some word has a bit outside its mask. -/
def outside (masks : List Nat) (d : List Word) : Bool :=
  (List.range d.length).any fun i => decide ((masks.getD i 0) &&& entryWord d i ≠ entryWord d i)

/-- Code 0x01: no defined field, or a reserved bit set to 1. -/
def undefinedRec : StagedRec → Bool
  | .reg a m v _ =>
    match findReg a with
    | none => true
    | some (d, _) => decide (m &&& definedMask d = 0) || decide (m &&& v &&& (definedMask d ^^^ 0xFFFFFFFF) ≠ 0)
  | .table t _ d => decide (tableSize t = 0) || outside (entryMasks t) d
  | .window _ _ d => outside windowMasks d
  | .band _ _ d0 d1 => decide (bandForm (d0, d1) ≠ (d0, d1))
  | _ => false

/-- A source of a priority entry of an absent resource of the ULK-3208. -/
def absentSource (x : Nat) : Bool := (decide (0x18 ≤ x) && decide (x < 0x20)) || decide (0x60 ≤ x)

/-- A word written to a register names an absent resource of the ULK-3208 (03 R96, 05 R146, 06 R181, 10 R304, 11 R339,
15 R407). -/
def namesAbsent (d : RegDef) (w : Nat) : Bool :=
  if d.name = "QW_PORT_CFG" then decide (32 ≤ fieldOf w 8 6)
  else if d.name = "TIME_INST_PORTS_HI" || d.name = "CNT_CAP_PORTS_HI" || d.name = "MGT_PORT_EN_HI"
    || d.name = "MGT_AUTH_HI" then decide (w ≠ 0)
  else if d.name = "SYN_PRIO" then bitOf w 31 && absentSource (fieldOf w 0 7)
  else if d.name = "NIB_CFG" then decide (8 ≤ fieldOf w 16 4)
  else if d.name = "CNT_CAP_MIRROR" || d.name = "MGT_NOTIFY_CFG" then decide (32 ≤ fieldOf w 24 6)
  else if d.name = "CNT_BW_FILTER" then !bitOf w 6 && decide (32 ≤ fieldOf w 0 6)
  else false

/-- A table entry names a port of P32 to P63 (03 R96). -/
def entryNamesAbsent (t : Nat) (e : List Word) : Bool :=
  match t with
  | 1 => decide (entryField e 1 28 2 = 0) && decide (entryWord e 4 ≠ 0)
  | 2 => decide (entryWord e 1 ≠ 0) || decide (entryWord e 3 ≠ 0)
  | 3 => (entryBit e 4 26 && decide (entryWord e 6 ≠ 0)) || (entryBit e 4 25 && decide (32 ≤ entryField e 4 19 6))
  | 4 => entryBit e 2 5 && entryBit e 5 5
  | 6 => decide (entryWord e 1 ≠ 0)
  | _ => false

/-- Code 0x02: the record enables, configures or names an absent resource. -/
def State.absentRec (c : State) (r : StagedRec) : Bool :=
  decide (c.part = .ulk3208) &&
    match r with
    | .reg a m v _ =>
      match findReg a with
      | none => false
      | some (d, ix) =>
        if absentAt c.part d ix then decide (m &&& v ≠ 0) else namesAbsent d (maskWord (c.getReg a) m v)
    | .table t _ e => entryNamesAbsent t e
    | .window p _ e => e.any (fun w => decide (w ≠ 0)) && (decide (32 ≤ p) || decide (32 ≤ entryField e 4 0 6))
    | .link kind i tx rx asym => decide ((if kind = 0 then 8 else 32) ≤ i) && decide (tx ≠ 0 ∨ rx ≠ 0 ∨ asym ≠ 0)
    | _ => false

/-- Code 0x06, for images: a covered command field, or a bit of a read-only field. -/
def commandRec : StagedRec → Bool
  | .reg a m v _ =>
    match findReg a with
    | none => false
    | some (d, _) =>
      d.fields.any fun f =>
        let k := m &&& fieldMask f
        match f.acc with
        | .rw => false
        | .ro => decide (k &&& v ≠ 0)
        | .rl => decide (k &&& v ≠ 0)
        | _ => decide (k ≠ 0)
  | _ => false

/-- Code 0x20: an index beyond its table. -/
def indexRec : StagedRec → Bool
  | .table t i _ => decide (tableSize t ≠ 0) && decide (tableSize t ≤ i)
  | _ => false

/-- The codes with which a record fails on its own. -/
def State.recCodes (c : State) (image : Bool) (r : StagedRec) : List Nat :=
  (if undefinedRec r then [0x01] else []) ++ (if c.absentRec r then [0x02] else [])
    ++ (if image && commandRec r then [0x06] else []) ++ (if indexRec r then [0x20] else [])

/-! ## Lanes and ports: codes 0x10 to 0x14 (04 R107, R109, R126, 05 R156) -/

/-- Ports of the part. -/
def State.portList (c : State) : List Nat := List.range (resCount c.part .port)

/-- The rate that LANE_CTRL fixes; 0 where the lane searches. -/
def State.laneRate (c : State) (n : Nat) : Nat := c.fget (LANE_CTRL_RATE n)

/-- The item of a port's group mode. -/
def groupItem (p : Nat) : CfgItem := .fld (PORT_MODE_GROUP4 (4 * groupOf p))

/-- Code 0x10. -/
def State.failPortGroup (c : State) : List Failure :=
  c.portList.flatMap fun p =>
    failIf (decide (p % 4 ≠ 0) && c.fbit (PORT_MODE_GROUP4 p)) 0x10 [.fld (PORT_MODE_GROUP4 p)]
      ++ failIf (decide (p % 4 ≠ 0) && c.group4 p && c.fbit (PORT_MODE_ENABLE p)) 0x10
        [.fld (PORT_MODE_ENABLE p), groupItem p]
      ++ (c.lanesOf p).flatMap fun n =>
        failIf (c.fbit (PORT_MODE_ENABLE p) && !c.fbit (LANE_CTRL_ENABLE n)) 0x10
          [.fld (PORT_MODE_ENABLE p), .fld (LANE_CTRL_ENABLE n), groupItem p]

/-- Code 0x11. -/
def State.failLaneRate (c : State) : List Failure :=
  c.portList.flatMap fun p =>
    let rs := (c.lanesOf p).map c.laneRate
    failIf (decide (4 = rs.length) && (rs.any (fun r => decide (r ≠ rs.headD 0)) || rs.contains 0 || rs.contains 1)) 0x11
      ((c.lanesOf p).map (fun n => CfgItem.fld (LANE_CTRL_RATE n)) ++ [groupItem p])

/-- The FEC modes of a port: lanes and rate (04 R109). -/
def fecModes (lanes rate : Nat) : List Nat :=
  if lanes = 4 then (match rate with | 2 => [0, 1] | 3 => [0, 2] | _ => [0])
  else match rate with | 2 => [0, 1] | 3 => [0, 1, 2] | _ => [0]

/-- Code 0x12. -/
def State.failFec (c : State) : List Failure :=
  c.portList.flatMap fun p =>
    match c.lanesOf p with
    | [] => failIf (decide (c.fget (PORT_MODE_FEC p) = 3)) 0x12 [.fld (PORT_MODE_FEC p)]
    | n :: r =>
      failIf (!(fecModes (r.length + 1) (c.laneRate n)).contains (c.fget (PORT_MODE_FEC p))) 0x12
        [.fld (PORT_MODE_FEC p), .fld (LANE_CTRL_RATE n), groupItem p]

/-- Code 0x13. -/
def State.failTrunk (c : State) : List Failure :=
  (List.range (resCount c.part .clockLane)).flatMap fun k =>
    failIf (c.fbit (PORT_TRUNK_REQUIRED k) && !c.fbit (CLKL_CTRL_ENABLE k)) 0x13
      [.fld (PORT_TRUNK_REQUIRED k), .fld (CLKL_CTRL_ENABLE k)]

/-- The port type that a configuration fixes (04 R109); 0 where the lane searches or there is no port. -/
def State.fixedType (c : State) (p : Nat) : Nat :=
  match c.lanesOf p with
  | [] => 0
  | n :: r =>
    if r.length = 3 then (match c.laneRate n with | 2 => 4 | 3 => 5 | _ => 0) else c.laneRate n

/-- The entries of a table. -/
def tableEntries (m : SMap (List Word)) (t : Nat) : List (Nat × List Word) :=
  m.filterMap fun e => if e.1 / 2 ^ 20 = t then some (e.1 % 2 ^ 20, e.2) else none

/-- The items of a port's type. -/
def State.typeItems (c : State) (p : Nat) : List CfgItem :=
  (c.lanesOf p).map (fun n => CfgItem.fld (LANE_CTRL_RATE n)) ++ [groupItem p]

/-- Code 0x14. -/
def State.failLag (c : State) : List Failure :=
  (tableEntries c.fwd.tables 6).flatMap fun (g, e) =>
    let ms := (portsOf (entryPorts e 0)).filter fun p => c.hasPort p && decide (lagOf c.fwd.tables p = some g)
    let ts := (ms.map c.fixedType).filter fun t => decide (t ≠ 0)
    failIf (entryBit e 2 31 && !entryBit e 2 30 && ts.any fun t => decide (t ≠ ts.headD 0)) 0x14
      (.table 6 g :: ms.flatMap c.typeItems)

/-! ## Tables: codes 0x21, 0x22 (05 R144 to R147, R170) -/

/-- A port that is enabled and exists in its group's mode. -/
def State.portEnabled (c : State) (p : Nat) : Bool := !(c.lanesOf p).isEmpty && c.fbit (PORT_MODE_ENABLE p)

/-- A table entry names ports that are disabled. -/
def State.failPorts (c : State) (t i m : Nat) : List Failure :=
  let bad := (portsOf m).filter fun p => c.hasPort p && !c.portEnabled p
  failIf (!bad.isEmpty) 0x21 (.table t i :: bad.flatMap fun p => [.fld (PORT_MODE_ENABLE p), groupItem p])

/-- A table entry names an entry that is not VALID. -/
def State.failRef (c : State) (t i t2 i2 : Nat) : List Failure :=
  failIf (!entryValid t2 (c.entry t2 i2)) 0x21 [.table t i, .table t2 i2]

/-- The failures of an entry of a table under 0x21 and 0x22, where it takes part. -/
def State.failEntry (c : State) (t i : Nat) (e : List Word) : List Failure :=
  if !entryValid t e then []
  else match t with
  | 1 =>
    if entryBit e 1 30 then []
    else c.failRef 1 i 2 (entryField e 1 16 12)
      ++ (if entryField e 1 28 2 = 0 then c.failPorts 1 i (entryPorts e 3) else [])
  | 2 => if i = 0 ∨ i = 4095 then [] else c.failPorts 2 i (entryPorts e 0 ||| entryPorts e 2)
  | 3 =>
    (if entryField e 3 0 4 = 1 ∨ entryField e 3 0 4 = 2 then c.failRef 3 i 2 (entryField e 1 16 12) else [])
      ++ (if entryBit e 4 31 then c.failRef 3 i 5 (entryField e 4 0 12) else [])
      ++ (if entryBit e 4 25 then c.failPorts 3 i (2 ^ entryField e 4 19 6) else [])
      ++ (if entryBit e 4 26 then
          c.failPorts 3 i (entryPorts e 5)
            ++ failIf (decide (entryPorts e 5 = 0)
                || (entryBit e 4 25 && decide (entryPorts e 5 = 2 ^ entryField e 4 19 6))) 0x22 [.table 3 i]
        else [])
  | 4 =>
    (if entryBit e 6 24 then c.failRef 4 i 5 (entryField e 6 12 12) else [])
      ++ (if entryField e 5 0 6 = 63 then c.failPorts 4 i (2 ^ entryField e 2 0 6) else [])
  | 6 => c.failPorts 6 i (entryPorts e 0)
  | _ => []

/-- Codes 0x21 and 0x22. -/
def State.failTables (c : State) : List Failure :=
  c.fwd.tables.flatMap fun e => c.failEntry (e.1 / 2 ^ 20) (e.1 % 2 ^ 20) e.2

/-! ## Quill windows: codes 0x21, 0x28 to 0x2B (06 R181, R192, R200) -/

/-- A port that a window or a phase source names, judged against the egress port. -/
def State.failJoin (c : State) (p x : Nat) (item : CfgItem) : List Failure :=
  if !c.hasPort x then []
  else
    failIf (!c.portEnabled x) 0x21 [item, .fld (PORT_MODE_ENABLE x), groupItem x]
      ++ failIf (decide (c.fixedType x ≠ c.fixedType p) || decide (c.fget (PORT_MODE_FEC x) ≠ 0)
          || decide (c.fget (PORT_MODE_FEC p) ≠ 0) || decide (c.fixedType x = 1) || decide (c.fixedType p = 1)) 0x28
        ([item, .fld (PORT_MODE_FEC x), .fld (PORT_MODE_FEC p)] ++ c.typeItems x ++ c.typeItems p)

/-- OPEN_NS of a window. -/
def winOpens (e : List Word) : Nat := entryField e 0 0 30
/-- CLOSE_NS of a window. -/
def winCloses (e : List Word) : Nat := entryField e 1 0 30

/-- Code 0x2A for one port: cycle, ends, order. -/
def State.failWinCycle (c : State) (p : Nat) : List Failure :=
  let cyc := c.fget (QW_CYCLE_NS_CYCLE_NS p)
  failIf (decide (cyc = 0) || decide (nsPerSec < cyc)) 0x2A [.fld (QW_CYCLE_NS_CYCLE_NS p), .fld (QW_PORT_CFG_ENABLE p)]
    ++ (c.windows p).flatMap fun i =>
      let e := c.win p i
      failIf (decide (winCloses e ≤ winOpens e) || decide (cyc < winCloses e)
          || (decide (0 < i) && decide (winOpens e ≤ winOpens (c.win p (i - 1))))) 0x2A
        [.window p i, .fld (QW_CYCLE_NS_CYCLE_NS p), .fld (QW_PORT_CFG_ENABLE p)]

/-- Code 0x29 for one egress port: a window runs into the next one, or the last into the next cycle's first. -/
def State.failWinEgress (c : State) (p : Nat) : List Failure :=
  let ws := c.windows p
  let post := c.fget (QW_GUARD_POST_NS p)
  ws.flatMap fun i =>
    let last := decide (i + 1 = ws.length)
    let nextOpen := if last then c.fget (QW_CYCLE_NS_CYCLE_NS p) + winOpens (c.win p 0) else winOpens (c.win p (i + 1))
    failIf (decide (nextOpen < winCloses (c.win p i) + post)) 0x29
      [.window p (if last then 0 else i + 1), .window p i, .fld (QW_GUARD_POST_NS p), .fld (QW_CYCLE_NS_CYCLE_NS p)]

/-- Two windows of different egress ports that share an ingress port overlap. -/
def State.winsClash (c : State) (p i r j : Nat) : Bool :=
  let a := c.win p i
  let b := c.win r j
  decide (winIn a = winIn b) &&
    (decide (c.fget (QW_CYCLE_NS_CYCLE_NS p) ≠ c.fget (QW_CYCLE_NS_CYCLE_NS r))
      || (decide (winOpens a < winCloses b) && decide (winOpens b < winCloses a)))

/-- Ports with quill windows enabled. -/
def State.quillPorts (c : State) : List Nat := c.portList.filter fun p => c.fbit (QW_PORT_CFG_ENABLE p)

/-- Code 0x29 for pairs of egress ports. -/
def State.failWinIngress (c : State) : List Failure :=
  c.quillPorts.flatMap fun p => (c.quillPorts.filter fun r => decide (p < r)).flatMap fun r =>
    (c.windows p).flatMap fun i => (c.windows r).flatMap fun j =>
      failIf (c.winsClash p i r j) 0x29 [.window p i, .window r j]

/-- The least guard time in ns: two blocks (06 R192; 5.12 ns where the rate is not 10.3125 Gbaud). -/
def State.guardLeast (c : State) (p : Nat) : Nat :=
  match c.lanesOf p with
  | n :: _ => if c.laneRate n = 2 then 13 else 6
  | [] => 6

/-- Codes of one port with windows enabled. -/
def State.failQuill (c : State) (p : Nat) : List Failure :=
  (c.windows p).flatMap (fun i => c.failJoin p (winIn (c.win p i)) (.window p i))
    ++ c.failJoin p (c.fget (QW_PORT_CFG_PHASE_SRC p)) (.fld (QW_PORT_CFG_PHASE_SRC p))
    ++ c.failWinCycle p ++ c.failWinEgress p
    ++ failIf (decide (c.fget (QW_GUARD_PRE_NS p) < c.guardLeast p)) 0x2B [.fld (QW_GUARD_PRE_NS p)]
    ++ failIf (decide (c.fget (QW_GUARD_POST_NS p) < c.guardLeast p)) 0x2B [.fld (QW_GUARD_POST_NS p)]

/-! ## Buffers and queues: codes 0x30 to 0x34 (07 R206, R218, R223, R230 to R232) -/

/-- The sizes of the four pools in units of 64 KiB. -/
def State.poolSizes (c : State) : List Nat :=
  [c.fget BUF_POOL_CFG0_SIZE, c.fget BUF_POOL_CFG1_SIZE, c.fget BUF_POOL_CFG2_SIZE, c.fget BUF_POOL_CFG3_SIZE]

/-- Code 0x30. -/
def State.failPools (c : State) : List Failure :=
  failIf (decide (c.poolSizes.sum ≠ if c.part = .ulk6416 then 768 else 384)) 0x30
    [.fld BUF_POOL_CFG0_SIZE, .fld BUF_POOL_CFG1_SIZE, .fld BUF_POOL_CFG2_SIZE, .fld BUF_POOL_CFG3_SIZE]

/-- An exponent outside -4 to +4. -/
def badExponent (k : Nat) : Bool := decide (signedOf 4 k < -4) || decide (4 < signedOf 4 k)

/-- Code 0x31. -/
def State.failExponents (c : State) : List Failure :=
  failIf ((List.range 8).any fun q => badExponent (fieldOf (c.fget BUF_DT_K_K) (4 * q) 4)) 0x31 [.fld BUF_DT_K_K]
    ++ failIf (badExponent (c.fget BUF_DT_K_SYS_K_TIME)) 0x31 [.fld BUF_DT_K_SYS_K_TIME]
    ++ failIf (badExponent (c.fget BUF_DT_K_SYS_K_MGMT)) 0x31 [.fld BUF_DT_K_SYS_K_MGMT]

/-- Code 0x32 for one queue. -/
def State.failSpill (c : State) (p q : Nat) : List Failure :=
  failIf (decide (8 ≤ q) && c.fbit (BUF_SPILL_EN p q)) 0x32 [.fld (BUF_SPILL_EN p q)]
    ++ failIf (decide (c.fget (BUF_QUOTA_QUOTA p q) < c.fget (BUF_SPILL_MARK p q))) 0x32
      [.fld (BUF_SPILL_MARK p q), .fld (BUF_QUOTA_QUOTA p q)]

/-- The data rate that a configuration fixes for a port in kb/s. -/
def State.fixedKbps (c : State) (p : Nat) : Nat :=
  match c.fixedType p with | 1 => 1000000 | 2 => 10000000 | 3 => 25000000 | 4 => 40000000 | 5 => 100000000 | _ => 0

/-- Code 0x33 for one port. -/
def State.failSched (c : State) (p : Nat) : List Failure :=
  let group := (List.range 8).filter fun q => decide (c.algOf p q = 2)
  let cbs := (List.range 8).filter fun q => decide (c.algOf p q = 1)
  failIf (!group.isEmpty && group.all fun q => decide (c.fget (BUF_SCHED_WEIGHT p q) = 0)) 0x33
      (group.flatMap fun q => [.fld (BUF_SCHED_WEIGHT p q), .fld (BUF_SCHED_ALG p q)])
    ++ failIf (decide (c.fixedKbps p ≠ 0)
        && decide (c.fixedKbps p < (cbs.map fun q => c.fget (BUF_CBS_IDLE_IDLE_KBPS p q)).sum)) 0x33
      (cbs.flatMap (fun q => [CfgItem.fld (BUF_CBS_IDLE_IDLE_KBPS p q), CfgItem.fld (BUF_SCHED_ALG p q)])
        ++ c.typeItems p)

/-- The entries of a port's gate list, up to the first with VALID 0 (07 R232). -/
def State.gateEntries (c : State) (p : Nat) : List Nat :=
  (List.range 256).takeWhile fun i => c.fbit (BUF_GCL_STATE_VALID p i)

/-- Code 0x34 for one port. -/
def State.failGates (c : State) (p : Nat) : List Failure :=
  let cyc := c.fget (BUF_GATE_CYCLE_NS_CYCLE_NS p)
  let sum := ((c.gateEntries p).map fun i => c.fget (BUF_GCL_INTERVAL_INTERVAL_NS p i)).sum
  failIf (decide (cyc = 0) || decide (nsPerSec < cyc)) 0x34 [.fld (BUF_GATE_CYCLE_NS_CYCLE_NS p)]
    ++ failIf (decide (cyc ≤ c.fget (BUF_GATE_PHASE_NS_PHASE_NS p))) 0x34
      [.fld (BUF_GATE_PHASE_NS_PHASE_NS p), .fld (BUF_GATE_CYCLE_NS_CYCLE_NS p)]
    ++ failIf (decide (cyc < sum)) 0x34
      (.fld (BUF_GATE_CYCLE_NS_CYCLE_NS p) :: (c.gateEntries p).flatMap fun i =>
        [.fld (BUF_GCL_INTERVAL_INTERVAL_NS p i), .fld (BUF_GCL_STATE_VALID p i)])

/-- Codes 0x30 to 0x34. -/
def State.failBuffers (c : State) : List Failure :=
  c.failPools ++ c.failExponents
    ++ c.portList.flatMap fun p => (List.range 10).flatMap (c.failSpill p) ++ c.failSched p ++ c.failGates p

/-! ## Time, references, outputs: codes 0x38 to 0x3C (08 R257, R262, 10 R299, R304, R318) -/

/-- Codes 0x38 and 0x39. -/
def State.failTime (c : State) : List Failure :=
  let on := (List.range 8).filter fun i => c.fbit (TIME_INST_CFG_ENABLE i)
  failIf (decide (4 < on.length)) 0x38 (on.map fun i => .fld (TIME_INST_CFG_ENABLE i))
    ++ failIf (decide (4 < c.hostPorts.length)) 0x39 (c.hostPorts.map fun n => .fld (TIME_PORT_CFG_HOST n))

/-- A source of a priority entry that exists (10 R304). -/
def State.goodSource (c : State) (x : Nat) : Bool :=
  if x < 4 || decide (x = 0x20) then true
  else if x < 0x10 then false
  else if x < 0x20 then c.hasClkl (x - 0x10) && c.fbit (CLKL_CTRL_ENABLE (x - 0x10))
  else if x < 0x40 then false
  else c.hasLane (x - 0x40) && c.fbit (LANE_CTRL_ENABLE (x - 0x40))

/-- The item that enables a source. -/
def sourceItems (x : Nat) : List CfgItem :=
  if 0x10 ≤ x ∧ x < 0x20 then [.fld (CLKL_CTRL_ENABLE (x - 0x10))]
  else if 0x40 ≤ x then [.fld (LANE_CTRL_ENABLE (x - 0x40))] else []

/-- Code 0x3A. -/
def State.failRefs (c : State) : List Failure :=
  let on := (List.range 32).filter c.refValid
  on.flatMap fun i =>
    failIf (!c.goodSource (c.refSource i)) 0x3A
        ([.fld (SYN_PRIO_SOURCE i), .fld (SYN_PRIO_VALID i)] ++ sourceItems (c.refSource i))
      ++ (on.filter fun j => decide (j < i)).flatMap fun j =>
        failIf (decide (c.refSource j = c.refSource i)) 0x3A [.fld (SYN_PRIO_SOURCE i), .fld (SYN_PRIO_SOURCE j)]

/-- Code 0x3B for one synthesizer. -/
def State.failBands (c : State) (x : Nat) : List Failure :=
  let on := (List.range 64).filter fun i => bitOf (c.bandEntry x i).1 31
  on.flatMap fun i =>
    let lo := fieldOf (c.bandEntry x i).1 0 14
    let hi := fieldOf (c.bandEntry x i).1 16 14
    let before := (on.filter fun j => decide (j < i)).getLast?
    failIf (decide (lo < 9000) || decide (10400 < hi) || decide (hi ≤ lo)
        || before.any (fun j => decide (lo ≤ fieldOf (c.bandEntry x j).1 0 14))) 0x3B
      (.band x i :: before.toList.map fun j => .band x j)

/-- Code 0x3C. -/
def State.failOutputs (c : State) : List Failure :=
  (List.range 8).flatMap fun n =>
    let j := c.poOsyn n
    failIf (c.poOn n && (!c.fbit (SYN_OSYN_CFG_ENABLE j)
        || decide (200000000 * 2 ^ 16 * max 1 (c.fget (SYN_PO_CFG_DIV n)) < c.osynFreq j))) 0x3C
      [.fld (SYN_PO_CFG_ENABLE n), .fld (SYN_PO_CFG_OSYN n), .fld (SYN_PO_CFG_DIV n), .fld (SYN_OSYN_CFG_ENABLE j),
        .fld (SYN_OSYN_FREQ_FREQ_HZ j)]

/-! ## The rest: codes 0x3E to 0x44 -/

/-- Code 0x3E (11 R335). -/
def State.failNib (c : State) : List Failure :=
  (List.range (resCount c.part .event)).flatMap fun n =>
    let g := c.fget (NIB_GATE_GATE_US n)
    failIf (c.fbit (NIB_CFG_FREQ_EN n) && (decide (g < 10) || decide (1000000000 < g))) 0x3E
      [.fld (NIB_CFG_FREQ_EN n), .fld (NIB_GATE_GATE_US n)]

/-- Code 0x3F (13 R355). -/
def State.failLease (c : State) : List Failure :=
  let l := c.fget HRT_LEASE_CFG_PERIOD_US
  failIf (decide (l < 100) || decide (100000 < l)) 0x3F [.fld HRT_LEASE_CFG_PERIOD_US]

/-- Codes 0x40 to 0x42 (16 R422, R432). -/
def State.failMgmt (c : State) : List Failure :=
  let e := c.fget MGT_CFG_ETHERTYPE
  let ports := c.pair MGT_PORT_EN_LO MGT_PORT_EN_HI % 2 ^ resCount c.part .port
  failIf (decide (ports = 0) && !c.fbit MGT_UART_CFG_EN) 0x40
      [.fld MGT_PORT_EN_LO_PORTS, .fld MGT_PORT_EN_HI_PORTS, .fld MGT_UART_CFG_EN]
    ++ failIf (decide (c.pair MGT_AUTH_LO MGT_AUTH_HI ≠ 0) && c.mgt.staged.isEmpty) 0x41
      [.fld MGT_AUTH_LO_PORTS, .fld MGT_AUTH_HI_PORTS]
    ++ failIf (decide (e < 0x600) || decide (e = 0x88F7)) 0x42 [.fld MGT_CFG_ETHERTYPE]

/-- Code 0x43 (15 R408, R413). -/
def State.failCapture (c : State) : List Failure :=
  let m := c.fget CNT_CAP_CFG_SIZE_MIB
  let e := c.fget CNT_CAP_MIRROR_MIRROR_ETYPE
  failIf (c.fbit CNT_CAP_CFG_PLACE && (decide (m = 0) || decide (1024 < m) || !c.fbit BUF_PEAT_CFG_ENABLE)) 0x43
      [.fld CNT_CAP_CFG_PLACE, .fld CNT_CAP_CFG_SIZE_MIB, .fld BUF_PEAT_CFG_ENABLE]
    ++ failIf (decide (e < 0x600) || decide (e = 0x88F7) || decide (e = c.fget MGT_CFG_ETHERTYPE)) 0x43
      [.fld CNT_CAP_MIRROR_MIRROR_ETYPE, .fld MGT_CFG_ETHERTYPE]

/-- Code 0x44 (15 R405). -/
def State.failWindows (c : State) : List Failure :=
  (List.range 64).flatMap fun w =>
    let l := c.fget (CNT_BW_LEN_LEN_US w)
    failIf (decide (l < 1) || decide (4290000 < l)) 0x44 [.fld (CNT_BW_LEN_LEN_US w)]

/-- Every failed condition of a configuration (03 R96). -/
def State.failures (c : State) : List Failure :=
  c.failPortGroup ++ c.failLaneRate ++ c.failFec ++ c.failTrunk ++ c.failLag ++ c.failTables
    ++ c.quillPorts.flatMap c.failQuill ++ c.failWinIngress ++ c.failBuffers ++ c.failTime ++ c.failRefs
    ++ (List.range 6).flatMap c.failBands ++ c.failOutputs ++ c.failNib ++ c.failLease ++ c.failMgmt ++ c.failCapture
    ++ c.failWindows

/-! ## The result (03 R96) -/

/-- The outcome of a check. -/
structure CheckResult where
  code : Nat
  count : Nat
  addr : Nat
  deriving DecidableEq, Repr

/-- The lowest number of a list; 0 for none. -/
def lowest : List Nat → Nat
  | [] => 0
  | x :: r => r.foldl min x

/-- The check of a set of records on top of a configuration; `whole` lists the codes of the image as a whole. -/
def State.checkSet (s : State) (rs : List StagedRec) (image : Bool) (whole : List Nat) : CheckResult :=
  let c := s.candidateCfg rs
  let fs := c.failures
  let staged := fs.filter fun f => f.items.any fun i => rs.any fun r => writesItem r i
  let idle := fs.filter fun f => !(f.items.any fun i => rs.any fun r => writesItem r i)
  let recs : List (Nat × List Nat) := rs.map fun r =>
    (recAddr r, c.recCodes image r ++ (staged.filter fun f => f.items.any (writesItem r)).map (·.code))
  let active := (idle.filterMap fun f => f.items.head?.map fun i => (f.code, i)).eraseDups
  let bad := recs.filter fun r => !r.2.isEmpty
  let code := lowest (whole ++ bad.flatMap (·.2) ++ active.map (·.1))
  let count := min 255 (bad.length + (active.map (·.2)).eraseDups.length + whole.length)
  let addr :=
    match bad.find? fun r => r.2.contains code with
    | some r => r.1
    | none => lowest ((active.filter fun a => decide (a.1 = code)).map fun a => itemAddr a.2)
  ⟨code, count, if whole.contains code && !(bad.any fun r => r.2.contains code) then 0 else addr⟩

/-- The result of a check is shown. -/
def State.showCheck (s : State) (r : CheckResult) : State :=
  ((s.fset CFG_CHECK_RESULT_CODE r.code).fset CFG_CHECK_RESULT_FAIL_CNT r.count).setReg CFG_CHECK_ADDR r.addr

end Sys2Proof.Machine
end

