-- ==== Sys2Proof/Machine/Commit.lean ====
section
/-! DEFINITION. What a configuration does when it becomes active (03 R100): the registers and tables it writes, the
banks and lists it prepares, and its effects in every chapter.

Choices (log entries): 47 DEDUCED, 52 DEDUCED. -/

namespace Sys2Proof.Machine

/-! ## What a set of records touches -/

/-- The name and instance of the register at an address. -/
def regName (addr : Nat) : String × List Nat :=
  match findReg addr with
  | some (d, ix) => (d.name, ix)
  | none => ("", [])

/-- The port whose gate list a register belongs to (07 R233). -/
def gatePort (addr : Nat) : Option Nat :=
  let r := regName addr
  if r.1 = "BUF_GATE_CYCLE_NS" || r.1 = "BUF_GATE_PHASE_NS" || r.1 = "BUF_GCL_STATE" || r.1 = "BUF_GCL_INTERVAL" then r.2.head?
  else none

/-- The port whose window cycle a register holds (06 R201). -/
def cyclePort (addr : Nat) : Option Nat :=
  let r := regName addr
  if r.1 = "QW_CYCLE_NS" then r.2.head? else none

/-- The addresses of the register records. -/
def recRegs (rs : List StagedRec) : List Nat :=
  (rs.filterMap fun r => match r with | .reg a _ _ _ => some a | _ => none).eraseDups

/-- The forwarding table entries of the records. -/
def recEntries (rs : List StagedRec) : List (Nat × Nat) :=
  (rs.filterMap fun r => match r with | .table t i _ => if inTable t i then some (t, i) else none | _ => none).eraseDups

/-- The ports of the window entries of the records. -/
def recWindows (rs : List StagedRec) : List Nat :=
  (rs.filterMap fun r => match r with | .window p _ _ => some p | .reg a _ _ _ => cyclePort a | _ => none).eraseDups

/-- The bands of the records. -/
def recBands (rs : List StagedRec) : List (Nat × Nat) :=
  (rs.filterMap fun r => match r with | .band x i _ _ => some (x, i) | _ => none).eraseDups

/-- The link values of the records (12 R348). -/
def recLinks (rs : List StagedRec) : List Nat :=
  (rs.filterMap fun r => match r with
    | .link kind i _ _ _ =>
      some (if kind = 0 then [CAL_CLKL_TX i, CAL_CLKL_RX i, CAL_CLKL_ASYM i]
        else [CAL_PORT_TX i, CAL_PORT_RX i, CAL_PORT_ASYM i])
    | _ => none).flatten.eraseDups

/-! ## Registers and tables -/

/-- Registers take the words of the configuration `n`; gate lists and window cycles wait (03 R100). -/
def State.commitRegs (s n : State) (rs : List StagedRec) : State :=
  ((recRegs rs).filter (fun a => (gatePort a).isNone && (cyclePort a).isNone) ++ recLinks rs).foldl
    (fun t a => t.setReg a (n.getReg a)) s

/-- A static entry removes the DYNAMIC entries with its key in its bucket (05 R150). -/
def State.dropDynamic (s : State) (i : Nat) : State :=
  let e := s.entry 1 i
  if entryBit e 1 31 then
    (List.range 4).foldl (fun t w =>
      let j := i / 4 * 4 + w
      let d := t.entry 1 j
      if j ≠ i && entryBit d 1 31 && entryBit d 1 30 && sameKey 1 d e then t.setEntry 1 j zeroEntry else t) s
  else s

/-- The words of a STREAM entry whose change resets its state (05 R175). -/
def streamShape (e : List Word) : List Nat :=
  [entryWord e 0, entryWord e 1, entryWord e 2, entryField e 3 0 4, entryField e 4 19 6, entryField e 4 27 1,
    entryField e 4 14 5]

/-- The state of a STREAM entry after a commit (05 R175): `o` is its entry before. -/
def State.commitStream (s : State) (i : Nat) (o : List Word) : State :=
  let e := s.entry 3 i
  if streamShape o ≠ streamShape e || (!entryBit o 3 31 && entryBit e 3 31) then s.setStream i streamReset else s

/-- The buckets of a FILTER entry after a commit (05 R159): `o` is its entry before. -/
def State.commitFilter (s : State) (i : Nat) (o : List Word) : State :=
  let e := s.entry 5 i
  if !entryBit o 0 31 && entryBit e 0 31 then
    s.setFilter i { s.filterOf i with committed := filterCbs e, excess := filterEbs e, last := s.now }
  else
    let f := fillBuckets o (s.filterOf i) s.now
    s.setFilter i { f with committed := min f.committed (filterCbs e), excess := min f.excess (filterEbs e) }

/-- The tables take the entries of the configuration, with their effects on state (05 R150, R159, R175). -/
def State.commitTables (s n : State) (rs : List StagedRec) : State :=
  let es := recEntries rs
  let t := es.foldl (fun t e => t.setEntry e.1 e.2 (n.entry e.1 e.2)) s
  es.foldl (fun u e =>
    match e.1 with
    | 1 => u.dropDynamic e.2
    | 3 => u.commitStream e.2 (s.entry 3 e.2)
    | 5 => u.commitFilter e.2 (s.entry 5 e.2)
    | _ => u) t

/-- Band tables, link values and keys of the configuration (10 R300, 12 R348, 16 R422). -/
def State.commitRest (s n : State) (rs : List StagedRec) : State :=
  let t := (recBands rs).foldl (fun t b => t.setBand b.1 b.2 (n.bandEntry b.1 b.2)) s
  { t with mgt := { t.mgt with staged := n.mgt.staged } }

/-! ## Window banks and gate lists (06 R201, 07 R233) -/

/-- The entries of a port in a bank. -/
def State.bankEntries (s : State) (bank port : Nat) : List (Nat × List Word) :=
  s.qw.entries.filterMap fun e =>
    if e.1 / 2 ^ 10 = bank * 2 ^ 6 + port then some (e.1 % 2 ^ 10, e.2) else none

/-- A bank of a port takes a table. -/
def State.fillBank (s : State) (bank port : Nat) (es : List (Nat × List Word)) : State :=
  let m := s.qw.entries.filter fun e => decide (e.1 / 2 ^ 10 ≠ bank * 2 ^ 6 + port)
  { s with qw := { s.qw with
      entries := es.foldl (fun m e => mapSet (fun _ => zeroWindow) m (winKey bank port e.1) e.2) m } }

/-- CYCLE_NS that a commit builds on: the pending one or the active one. -/
def State.baseCycle (s : State) (port : Nat) : Nat :=
  if s.fbit (QW_ACTIVE_BANK_PENDING port) then mapGet (fun _ => 0) s.qw.cycle port
  else s.fget (QW_CYCLE_NS_CYCLE_NS port)

/-- A port's window table of the configuration `n` goes to the inactive bank, and the swap is scheduled (06 R201). -/
def State.commitWindows (s n : State) (at_ : Nat) (port : Nat) : State :=
  let es := n.bankEntries (n.bankOf port) port
  let c := n.fget (QW_CYCLE_NS_CYCLE_NS port)
  if es = s.bankEntries (s.bankBase port) port && decide (c = s.baseCycle port) then s
  else
    let pending := s.fbit (QW_ACTIVE_BANK_PENDING port)
    let t := (s.fillBank (1 - s.bankOf port) port es).fon (QW_ACTIVE_BANK_PENDING port)
    { t with qw := { t.qw with
        cycle := mapSet (fun _ => 0) t.qw.cycle port c
        swapAt := if pending then t.qw.swapAt
          else mapSet (fun _ => none) t.qw.swapAt port (some (nextCycle c at_)) } }

/-- The first cycle start of a cycle and phase at or after a time (07 R232). -/
def nextStart (cycle phase t : Nat) : Nat :=
  let c := max 1 cycle
  t + (c - (t + c - phase % c) % c) % c

/-- A port's gate list of the configuration `n` waits for its cycle start (07 R233). -/
def State.commitGates (s n : State) (rs : List StagedRec) (at_ : Nat) (port : Nat) : State :=
  let words := ((recRegs rs).filter fun a => decide (gatePort a = some port)).map fun a => (a, n.getReg a)
  let base := s.pendingIn
  if words.all fun w => decide (base.getReg w.1 = w.2) then s
  else
    let old := mapGet (fun _ => none) s.buf.gates port
    let g : GatePend := match old with
      | some g => g
      | none => ⟨nextStart (n.fget (BUF_GATE_CYCLE_NS_CYCLE_NS port)) (n.fget (BUF_GATE_PHASE_NS_PHASE_NS port)) at_, []⟩
    let g := { g with words := words.foldl (fun m w => mapIns m w.1 w.2) g.words }
    let t := s.fon (BUF_GATE_STATUS_PENDING port)
    { t with buf := { t.buf with gates := mapSet (fun _ => none) t.buf.gates port (some g) } }

/-- The ports whose gate lists the records touch. -/
def recGates (rs : List StagedRec) : List Nat := ((recRegs rs).filterMap gatePort).eraseDups

/-! ## Effects: lanes, ports, cages (04 R114, R116, R126) -/

/-- A lane restarts between two configurations (04 R116). -/
def laneChanged (s t : State) (n : Nat) : Bool :=
  let lane := fun (u : State) => [u.fget (LANE_CTRL_RATE n), u.fget (LANE_CTRL_ENABLE n), u.fget (LANE_CTRL_TX_INV n),
    u.fget (LANE_CTRL_RX_INV n)]
  let port := fun (u : State) (p : Nat) => [u.fget (PORT_MODE_ENABLE p), u.fget (PORT_MODE_FEC p)]
  decide (lane s ≠ lane t) || decide (s.group4 n ≠ t.group4 n) || decide (port s (s.portOf n) ≠ port t (s.portOf n))
    || decide (port s (t.portOf n) ≠ port t (t.portOf n))

/-- The lanes that restart. -/
def lanesChanged (s t : State) : List Nat := (List.range (resCount s.part .lane)).filter fun n => laneChanged s t n

/-- Lanes begin their restart and the queues of their ports are flushed (04 R116, 07 R235). -/
def State.stopLanes (s : State) (ns : List Nat) (crossed : List (Nat × List Byte)) : State :=
  ns.foldl (fun t n =>
    let bs := ((crossed.find? fun c => decide (c.1 = n)).map (·.2)).getD []
    (t.beginRestart n bs).flushPort (t.portOf n)) s

/-- A clock lane is switched off: it loses its signal and its alignment (04 R120, R123). -/
def State.clklOff (s : State) (k : Nat) : State :=
  let t := (s.foff (CLKL_ALIGN_STATUS_SIGNAL k)).foff (CLKL_ALIGN_STATUS_RX_LOCK k)
  (t.unalign k true).dropSearch k

/-- What new clock-lane settings do: `s` is the state before. -/
def State.commitClkl (t s : State) (k : Nat) : State :=
  let u := if s.fbit (CLKL_CTRL_ENABLE k) && !t.fbit (CLKL_CTRL_ENABLE k) then t.clklOff k else t
  let u := if u.fbit (CLKL_CTRL_MANUAL k) && !s.fbit (CLKL_CTRL_MANUAL k) then u.dropSearch k else u
  if u.fbit (PORT_TRUNK_REQUIRED k) then u
  else { u with mgt := { u.mgt with trunkDown := u.mgt.trunkDown.filter fun g => decide (g ≠ k) } }

/-- Something of a port group is enabled (04 R114). -/
def State.groupUsed (s : State) (k : Nat) : Bool :=
  s.fbit (CLKL_CTRL_ENABLE k) || (List.range 4).any fun i => s.fbit (LANE_CTRL_ENABLE (4 * k + i))

/-- CG_RST of every port group follows its lanes (04 R114). -/
def State.refreshCages (s : State) : State :=
  { s with links := { s.links with cageUp := (List.range (resCount s.part .clockLane)).filter s.groupUsed } }

/-! ## Effects: queues and windows (06 R198, 07 R233, R234) -/

/-- What new settings of a port's queues and windows do. -/
def State.commitPort (t s : State) (p : Nat) : State :=
  let t := (List.range 8).foldl (fun u q => if s.algOf p q = 2 && decide (u.algOf p q ≠ 2) then u.setDeficit p q 0 else u) t
  let t := if s.fbit (BUF_GATE_CFG_ENABLE p) = t.fbit (BUF_GATE_CFG_ENABLE p) then t else t.gateNow p
  let steer := fun (u : State) => (u.fget (QW_PORT_CFG_PHASE_SRC p), u.fbit (QW_PORT_CFG_SRC_EN p), u.fbit (QW_PORT_CFG_MINIMUM p))
  let t := if steer s = steer t then t else (t.steerStops p).relock p
  if s.getReg (QW_PORT_CFG p) = t.getReg (QW_PORT_CFG p) && decide (s.getReg (QW_GUARD p) = t.getReg (QW_GUARD p)) then t
  else t.closeBoundary p

/-! ## Effects: time (08 R249, R266, 09 R293) -/

/-- The source of the time core that a configuration selects: trunk, instance, none. -/
def State.sourceNow (s : State) : Nat :=
  if s.trunkSteers && s.fbit LYD_STATUS_UP_VALID then 100 else match s.edgeSource with | some i => i | none => 101

/-- What new time settings do. -/
def State.commitTime (t s : State) : State :=
  let stop := fun (u : State) => u.fbit TIME_CTRL_MANUAL || decide (u.fget TIME_CTRL_SRC = 0)
  let t := t.assignTsq
  let t :=
    if stop t then
      if stop s && decide (s.timeMode = .free) then t else (t.setTimeMode .free).acquireEnds.servoStop
    else if s.sourceNow ≠ 101 && decide (t.sourceNow ≠ s.sourceNow) then t.servoStop.sourceLost true
    else t
  let t := (List.range 16).foldl (fun u k => u.judgeLink k) t
  let t := if t.upstreamFails && !s.upstreamFails then t.dropUpstream else t
  t.refreshLyd

/-! ## Effects: references and outputs (10 R303, R306, R309, R320, R322) -/

/-- Monitors follow the settings: a source that is no longer monitored, or was not, starts ABSENT (10 R305, R306). -/
def State.commitMonitors (t s : State) : State :=
  { t with syn := { t.syn with
      mons := t.syn.mons.filter fun e => t.monitored e.1 && s.monitored e.1
      deferred := t.syn.deferred.filter fun d => t.monitored d.1 && s.monitored d.1 } }

/-- An electrical input whose settings change is ABSENT until it is active again (10 R322). -/
def State.commitRefin (t s : State) (x : Nat) : State :=
  if s.getReg (SYN_REFIN_CFG x) = t.getReg (SYN_REFIN_CFG x) && decide (s.nomHz x = t.nomHz x) then t
  else (t.undefer x).setMon x { t.monOf x with st := .absent, left := 0, window := [], calm := 0 }

/-- An entry that was VALID and is takes the state of its source, with the flags of that move (10 R306). -/
def State.commitEntry (t s : State) (i : Nat) : State :=
  if t.refValid i then t.moveFlags (s.refState i) (t.refState i) else t

/-- What new settings of an OSYN do (10 R303). -/
def State.commitOsyn (t s : State) (j : Nat) : State :=
  let on := fun (u : State) => u.fbit (SYN_OSYN_CFG_ENABLE j)
  if on t then (if !on s || decide (s.osynFreq j ≠ t.osynFreq j) then t.startOsyn j else t)
  else if on s then t.stopOsyn j else t

/-- A PO of an OSYN has been aligned. -/
def State.osynAligned (s : State) (j : Nat) : Bool :=
  (List.range 8).any fun n => s.poOn n && decide (s.poOsyn n = j) && (s.syn.poAligned.getD n false || s.fbit (SYN_PO_STATUS_ALIGNING n))

/-- A PO that is first enabled is aligned (10 R320). -/
def State.commitPo (t s : State) (n : Nat) : State :=
  if t.poOn n && !s.poOn n then
    let t := if s.osynAligned (t.poOsyn n) then t else t.setBase (t.poOsyn n) 0
    t.realignPo n
  else t

/-- What new settings of references and outputs do. -/
def State.commitSyn (t s : State) : State :=
  let t := t.commitMonitors s
  let t := (List.range 4).foldl (fun u x => u.commitRefin s x) t
  let t := ((List.range 32).foldl (fun u i => u.commitEntry s i) t).noteUp
  let moved := (List.range 32).any (fun i => decide (s.getReg (SYN_PRIO i) ≠ t.getReg (SYN_PRIO i)))
    || (List.range 4).any (fun x => decide (s.getReg (SYN_REFIN_CFG x) ≠ t.getReg (SYN_REFIN_CFG x)) || decide (s.nomHz x ≠ t.nomHz x))
    || decide (s.getReg SYN_CTRL ≠ t.getReg SYN_CTRL)
  let t := if moved then (if t.loopHeld then t.reselect else t.reselect.followChanged) else t
  let t := (List.range 4).foldl (fun u j => u.commitOsyn s j) t
  let t := (List.range 8).foldl (fun u n => u.commitPo s n) t
  t.refreshPos.refreshAligns

/-! ## Effects: measurement (11 R338, 15 R407) -/

/-- The registers of a bandwidth window. -/
def bwRegs (w : Nat) : List Nat :=
  [CNT_BW_CFG w, CNT_BW_FILTER w, CNT_BW_LEN w] ++ (List.range 4).map fun i => CNT_BW_PFX w i

/-- What new settings of event inputs and bandwidth windows do. -/
def State.commitMeasure (t s : State) : State :=
  let t := (List.range (resCount t.part .event)).foldl (fun u n => State.nibCommit s u n) t
  (List.range 64).foldl (fun u w =>
    if (bwRegs w).any fun a => decide (s.getReg a ≠ u.getReg a) then u.bwDiscard w else u) t.ringState

/-! ## The whole -/

/-- Every effect of new settings, but lanes and what waits for a cycle start: `s` is the state before. -/
def State.commitEffects (t s : State) : State :=
  let t := (List.range (resCount t.part .clockLane)).foldl (fun u k => u.commitClkl s k) t
  let t := t.refreshCages
  let t := t.portList.foldl (fun u p => u.commitPort s p) t
  let t := ((t.commitTime s).commitSyn s).commitMeasure s
  t.rejudge

/-- The records become active at an instant (03 R100): lanes that change restart, tables keep their old version until
their frames have finished (05 R153), windows and gate lists wait for their cycle starts. -/
def State.applyCommit (s : State) (rs : List StagedRec) (at_ : Nat) (crossed : List (Nat × List Byte)) : State :=
  let n := s.candidateCfg rs
  let lanes := lanesChanged s n
  let b := s.portList.foldl (fun u p => u.credit p) s
  let b := b.stopLanes lanes crossed
  let keep := FWD_HASH_CFG :: (List.range 64).map PORT_FWD_MODE
  let t := { b with fwd := { b.fwd with old := some b.fwd.tables, oldRegs := b.regs.filter fun e => keep.contains e.1 } }
  let t := ((t.commitRegs n rs).commitTables n rs).commitRest n rs
  let t := (recWindows rs).foldl (fun u p => u.commitWindows n at_ p) t
  let t := (recGates rs).foldl (fun u p => u.commitGates n rs at_ p) t
  let t := lanes.foldl (fun u m => u.laneStarts m) t
  (((t.commitEffects s).fwrap FWD_EPOCH_EPOCH).fon FWD_EPOCH_DRAINING)

end Sys2Proof.Machine
end

