-- ==== Sys2Proof/Machine/Session.lean ====
section
/-! DEFINITION. Staging sessions (03 R91 to R102) and the persist (03 R86 to R90).

Choices (log entries): 7 DESIGN CHOICE, 38 DEDUCED, 41 DEDUCED, 78 DESIGN CHOICE. -/

namespace Sys2Proof.Machine

/-! ## Session commands (03 R92, R93, R98, R99) -/

/-- The commit lead L in ns (03 R98). -/
def State.commitLead (s : State) : Nat := 100000 + 20 * s.cfg.records.length

/-- The time held in CFG_COMMIT_TIME, in ns (03 R98). -/
def State.commitTimeNs (s : State) : Nat :=
  (s.fget CFG_COMMIT_TIME_SEC_HI_SEC_HI * 2 ^ 32 + s.fget CFG_COMMIT_TIME_SEC_LO_SEC_LO) * nsPerSec
    + s.fget CFG_COMMIT_TIME_NS_NS

/-- The instant of an immediate commit armed now: the first commit tick at least L ahead (03 R98). -/
def State.nextTick (s : State) : Nat :=
  let t := s.commitLead * unitsPerNs + s.time.clock
  let tick := 1000000 * unitsPerNs
  (t + tick - 1) / tick * 1000000

/-- A session is ARMING, ARMED or APPLYING. -/
def State.armedUp (s : State) : Bool :=
  decide (s.cfg.sess = .arming) || decide (s.cfg.sess = .armed) || decide (s.cfg.sess = .applying)

/-- The session's state takes ABORT (03 R92). -/
def State.takesAbort (s : State) : Bool :=
  match s.cfg.sess with
  | .opened => true
  | .checked => true
  | .failed => true
  | .arming => true
  | .armed => true
  | _ => false

/-- The refusal of a requester that is not the owner (03 R93). -/
def State.notOwner (s : State) (q : Requester) : List Nat :=
  if s.cfg.sess ≠ .idle ∧ s.cfg.owner ≠ some q then [0x51] else []

/-- Refusals of OPEN. -/
def State.openRefusals (s : State) (q : Requester) : List Nat :=
  if s.cfg.sess = .idle then [] else [0x50, 0x52] ++ s.notOwner q

/-- Refusals of CHECK. -/
def State.checkRefusals (s : State) (q : Requester) : List Nat :=
  s.notOwner q ++ (if s.cfg.sess = .opened ∨ s.cfg.sess = .checked ∨ s.cfg.sess = .failed then [] else [0x52])

/-- Refusals of a timed ARM (03 R99). -/
def State.timedRefusals (s : State) : List Nat :=
  let t := s.commitTimeNs * unitsPerNs
  (if nsPerSec ≤ s.fget CFG_COMMIT_TIME_NS_NS then [0x54] else [])
    ++ (if t < s.time.clock + s.commitLead * unitsPerNs then [0x55] else [])
    ++ (if s.time.clock + 3600 * nsPerSec * unitsPerNs < t then [0x56] else [])
    ++ (if (s.timeMode = .free ∨ s.timeMode = .acquiring) ∧ s.fbit CFG_STAGE_CTRL_FORCE_LOCAL = false then [0x57] else [])

/-- Refusals of ARM (03 R97, R99). -/
def State.armRefusals (s : State) (q : Requester) : List Nat :=
  s.notOwner q ++ (if s.cfg.sess = .checked then [] else [0x52])
    ++ (if s.fbit CFG_STAGE_CTRL_TIMED then s.timedRefusals else []) ++ (if s.hrt.holder.isNone then [0x58] else [])

/-- Refusals of ABORT (03 R93, R99): the firmware of the holder may write it for any owner. -/
def State.abortRefusals (s : State) (q : Requester) : List Nat :=
  (if s.isHolder q && s.takesAbort then [] else s.notOwner q) ++ (if s.takesAbort then [] else [0x52])
    ++ (if (s.cfg.sess = .arming ∨ s.cfg.sess = .armed) ∧ s.cfg.instant * unitsPerNs < s.time.clock + 10000 * unitsPerNs
        then [0x59] else [])

/-- The refusals of the commands that a word carries: OPEN bit 0, CHECK bit 1, ARM bit 2, ABORT bit 3 (03 R93). -/
def State.refusals (s : State) (q : Requester) (v : Nat) : List Nat :=
  (if (bitOf v 0).toNat + (bitOf v 1).toNat + (bitOf v 2).toNat + (bitOf v 3).toNat ≤ 1 then [] else [0x53])
    ++ (if bitOf v 0 then s.openRefusals q else []) ++ (if bitOf v 1 then s.checkRefusals q else [])
    ++ (if bitOf v 2 then s.armRefusals q else []) ++ (if bitOf v 3 then s.abortRefusals q else [])

/-- ARM is taken: the session distributes its records towards its instant (03 R98). -/
def State.arm (s : State) : State :=
  let at_ := if s.fbit CFG_STAGE_CTRL_TIMED then s.commitTimeNs else s.nextTick
  { s with cfg := { s.cfg with sess := .arming, instant := at_ } }

/-- The one command that a word carries is taken. -/
def State.stageTake (s : State) (q : Requester) (v : Nat) : State :=
  if bitOf v 0 then { s with cfg := { s.cfg with sess := .opened, owner := some q, records := [], overflow := false } }
  else if bitOf v 1 then { s with cfg := { s.cfg with sess := .checking } }
  else if bitOf v 2 then s.arm
  else if bitOf v 3 then s.endSession
  else s

/-- The commands of a word: refused with the lowest code that applies, or taken; ignored before RUNNING or DEFAULTED
(03 R75, R93). -/
def State.stageCommand (s : State) (q : Requester) (v : Nat) : State :=
  if s.inService then
    match s.refusals q v with
    | [] => s.stageTake q v
    | x :: r => (s.fon CFG_COMMIT_STATUS_REFUSED).fset CFG_COMMIT_STATUS_REFUSE_CODE (lowest (x :: r))
  else s

/-- TIMED and FORCE_LOCAL of a word written to CFG_STAGE_CTRL (03 R98, R99). -/
def State.stageFlags (s : State) (v : Nat) : State :=
  let t := if s.armedUp then s else s.fput CFG_STAGE_CTRL_TIMED (bitOf v 5)
  t.fput CFG_STAGE_CTRL_FORCE_LOCAL (bitOf v 4)

/-- READ_SHADOW of a word: only the owner's writes take effect (03 R105). -/
def State.shadowFlag (s : State) (q : Requester) (v : Nat) : State :=
  if s.cfg.owner = some q ∧ s.cfg.sess ≠ .idle then s.fput CFG_STAGE_CTRL_READ_SHADOW (bitOf v 8) else s

/-- A write to CFG_STAGE_CTRL. -/
def State.stageCtrl (s : State) (q : Requester) (v : Nat) : State :=
  ((s.stageFlags v).stageCommand q v).shadowFlag q v

/-- A word with one command bit and the flags of a word. -/
def stageWord (bit : Nat) (flags : Word) : Nat := flags.toNat &&& 0x130 ||| 2 ^ bit

/-- STAGE_OPEN (03 R92, R93). -/
def execStageOpen (q : Requester) (flags : Word) (s : State) : Host.Outcome State Fault Refusal :=
  whenTaken s q (s.stageCtrl q (stageWord 0 flags))

/-- STAGE_CHECK (03 R96). -/
def execStageCheck (q : Requester) (flags : Word) (s : State) : Host.Outcome State Fault Refusal :=
  whenTaken s q (s.stageCtrl q (stageWord 1 flags))

/-- STAGE_ARM (03 R98, R99). -/
def execStageArm (q : Requester) (flags : Word) (s : State) : Host.Outcome State Fault Refusal :=
  whenTaken s q (s.stageCtrl q (stageWord 2 flags))

/-- STAGE_ABORT (03 R93, R99). -/
def execStageAbort (q : Requester) (flags : Word) (s : State) : Host.Outcome State Fault Refusal :=
  whenTaken s q (s.stageCtrl q (stageWord 3 flags))

/-- A bus write to a register of staged fields (03 R91, R95, R103). -/
def State.stageWrite (s : State) (q : Requester) (addr v : Nat) : State :=
  match findReg addr with
  | some (d, ix) =>
    if absentAt s.part d ix || decide (stagedMask d = 0) then s
    else s.stageRec q (.reg addr (stagedMask d &&& liveBits d ix) v false)
  | none => s

/-- STAGED_WRITE (03 R91). -/
def execStagedWrite (q : Requester) (addr value : Word) (s : State) : Host.Outcome State Fault Refusal :=
  whenTaken s q (s.stageWrite q addr.toNat value.toNat)

/-- CHECK_DONE (03 R96): an overflowed session fails with code 0x05 (03 R95). -/
def execCheckDone (s : State) : Host.Outcome State Fault Refusal :=
  whenUp s (
    if s.cfg.sess = .checking then
      let r := s.checkSet s.cfg.records false (if s.cfg.overflow then [0x05] else [])
      let t := s.showCheck r
      { t with cfg := { t.cfg with sess := if r.code = 0 then .checked else .failed } }
    else s)

/-- ARM_DISTRIBUTED (03 R98). -/
def execArmDistributed (s : State) : Host.Outcome State Fault Refusal :=
  whenUp s (if s.cfg.sess = .arming then { s with cfg := { s.cfg with sess := .armed } } else s)

/-- CFG_COMMIT_TIME holds a time in ns (03 R98). -/
def State.setCommitTime (s : State) (t : Nat) : State :=
  ((s.fset CFG_COMMIT_TIME_SEC_HI_SEC_HI (t / nsPerSec / 2 ^ 32)).setReg CFG_COMMIT_TIME_SEC_LO
    (t / nsPerSec % 2 ^ 32)).fset CFG_COMMIT_TIME_NS_NS (t % nsPerSec)

/-- What a commit leaves beside the configuration (03 R85, R86, R88, R100, R101). -/
def State.commitMarks (s : State) (late : Bool) : State :=
  let t := if s.fbit CFG_STAGE_CTRL_TIMED then s else s.setCommitTime s.cfg.instant
  let t := if late then t.seen CFG_COMMIT_STATUS_LATE .config else t
  let t := ((t.fwrap CFG_COMMIT_STATUS_COMMIT_CNT).fon CFG_COMMIT_STATUS_APPLIED).fon CFG_BANK_STATUS_DIRTY
  let t := match t.cfg.persist with
    | some p => { t.fon CFG_PERSIST_SNAPSHOT_STALE with cfg := { t.cfg with persist := some { p with stale := true } } }
    | none => t
  let t := if t.life = .defaulted then { t with life := .running } else t
  t.endSession

/-- The commit applies: at its instant, or late in the spine cycle of a time step (03 R100, R101). -/
def State.commitNow (s : State) (late : Bool) (crossed : List (Nat × List Byte)) : State :=
  (s.applyCommit s.cfg.records (if late then s.timeNs else s.cfg.instant) crossed).commitMarks late

/-- The instant of an armed commit has come on the network time in force (03 R100, R101). -/
def State.instantCome (s : State) : Bool := decide (s.cfg.instant * unitsPerNs ≤ s.time.clock)

/-- COMMIT_APPLY (03 R100): nothing before the instant, also after a step back (03 R101). `crossed` as LANE_RESTART_CMD
gives it, for each lane that restarts. -/
def execCommitApply (crossed : List (Nat × List Byte)) (s : State) : Host.Outcome State Fault Refusal :=
  whenUp s (if s.cfg.sess = .armed ∧ s.instantCome = true then s.commitNow false crossed else s)

/-- SESSION_TIMEOUT (03 R94). -/
def execSessionTimeout (s : State) : Host.Outcome State Fault Refusal :=
  whenUp s (if s.editing && decide (s.cfg.sess ≠ .checking) then s.loseSession else s)

/-! ## Persist (03 R86 to R90) -/

/-- The SEQ of a bank whose header is in range; a torn bank is what its free value says (03 R82, R89). -/
def bankSeq : BankData → Option Nat
  | .erased => none
  | .raw b => if cfgHeader b then some (cfgSeq b) else none
  | .snapshot q _ => some q
  | .badSnapshot q _ => some q
  | .tornRaw n b => if 2 ≤ (Config.tornStatus n).toNat ∧ cfgHeader b then some (cfgSeq b) else none
  | .tornSnapshot n q _ => if 2 ≤ (Config.tornStatus n).toNat then some q else none

/-- The highest SEQ of the banks' valid headers; 0 with none (03 R87). -/
def State.topSeq (s : State) : Nat := max ((bankSeq s.cfg.bank0).getD 0) ((bankSeq s.cfg.bank1).getD 0)

/-- The registers of every block. -/
def everyReg : List RegDef :=
  glbRegs ++ cfgRegs ++ laneRegs ++ clklRegs ++ portRegs ++ fwdRegs ++ qwRegs ++ bufRegs ++ timeRegs ++ lydRegs ++ synRegs
    ++ nibRegs ++ calRegs ++ hrtRegs ++ updRegs ++ cntRegs ++ mgtRegs

/-- The instances of a register that a part has. -/
def instanceCount (p : Variant) (d : RegDef) : Nat :=
  match d.dims with
  | [] => 1
  | (n, _) :: r => (if d.res = .all then n else resCount p d.res) * (r.map (·.1)).foldl (· * ·) 1

/-- How many registers with staged fields a part has. -/
def stagedCount (p : Variant) : Nat := (everyReg.map fun d => if stagedMask d = 0 then 0 else instanceCount p d).sum

/-- The words of the agent's own address, whose factory default is the device's and not the map's (16 R432). -/
def macRegs : List Nat := [MGT_MAC_LO, MGT_MAC_HI]

/-- The register records of a snapshot: every register of staged fields whose word is not the factory default, and the
agent's address. -/
def State.snapRegs (s : State) : List StagedRec :=
  (s.regs.filterMap fun e =>
    match findReg e.1 with
    | some (d, ix) =>
      if stagedMask d = 0 || absentAt s.part d ix || macRegs.contains e.1 then none
      else some (.reg e.1 0xFFFFFFFF (e.2.toNat &&& stagedMask d) false)
    | none => none) ++ macRegs.map fun a => .reg a 0xFFFFFFFF (s.getReg a) false

/-- The table records of a snapshot: every entry that is not a DYNAMIC MAC entry (03 R87). -/
def State.snapTables (s : State) : List StagedRec :=
  s.fwd.tables.filterMap fun e =>
    let t := e.1 / 2 ^ 20
    if t = 1 ∧ entryBit e.2 1 31 ∧ entryBit e.2 1 30 then none else some (.table t (e.1 % 2 ^ 20) e.2)

/-- The window records of a snapshot: the active bank of every port. -/
def State.snapWindows (s : State) : List StagedRec :=
  (List.range 64).flatMap fun p => (s.bankEntries (s.bankOf p) p).map fun e => .window p e.1 e.2

/-- The band records of a snapshot. -/
def State.snapBands (s : State) : List StagedRec :=
  s.syn.bands.filterMap fun e => e.2.map fun v => .band (e.1 / 64) (e.1 % 64) v.1 v.2

/-- The snapshot of the active configuration (03 R87); windows and gate lists that wait for a cycle start belong to
it. -/
def State.snapshotRecs (s : State) : List StagedRec :=
  let c := s.pendingIn
  c.snapRegs ++ c.snapTables ++ c.snapWindows ++ c.snapBands ++ c.mgt.staged

/-- How many records of a list satisfy a test. -/
def countRecs (f : StagedRec → Bool) (rs : List StagedRec) : Nat := (rs.filter f).length

/-- The size in bytes of the image of a snapshot (03 R78, R79; log entry 41): one record for every register of staged
fields, one block for every port with windows and for every synthesizer with a changed band, one record for every table
entry and key. -/
def State.snapshotSize (s : State) (rs : List StagedRec) : Nat :=
  let tables := countRecs (fun r => match r with | .table _ _ _ => true | _ => false) rs
  let windows := countRecs (fun r => match r with | .window _ _ _ => true | _ => false) rs
  let keys := countRecs (fun r => match r with | .key _ _ _ => true | _ => false) rs
  let ports := ((rs.filterMap fun r => match r with | .window p _ _ => some p | _ => none).eraseDups).length
  let synths := ((rs.filterMap fun r => match r with | .band x _ _ _ => some x | _ => none).eraseDups).length
  let sections := 1 + (decide (tables ≠ 0)).toNat + (decide (windows ≠ 0)).toNat + (decide (synths ≠ 0)).toNat
    + (decide (keys ≠ 0)).toNat
  36 + 16 * sections + 8 * stagedCount s.part + 40 * tables + 12 * ports + 20 * windows + 516 * synths + 40 * keys

/-- The reason to refuse a persist; 0 for none (03 R87, R90). The spec puts 7 before 3; that 6 and 5 come before both is
the model's choice (DESIGN CHOICE, log entry 78). -/
def State.persistReason (s : State) (size good : Nat) : Nat :=
  if s.cfg.locked then 6
  else if 0xFFFFFFFE ≤ s.topSeq then 5
  else if 4194304 < size then 7
  else if good < (size + 131071) / 131072 then 3
  else 0

/-- A persist fails with a result (03 R87); it raises the CONFIG alarm (16 R428). -/
def State.persistFails (s : State) (code : Nat) : State := (s.fset CFG_PERSIST_RESULT code).raise .config

/-- A write of 1 to START (03 R87, R88). Before RUNNING the spec is silent: ignored in RESET, taken in KINDLING (DESIGN
CHOICE, log entry 78). -/
def State.persistStart (s : State) : State :=
  if s.cfg.persist.isSome || decide (s.life = .reset) then s
  else
    let rs := s.snapshotRecs
    let r := s.persistReason (s.snapshotSize rs) (s.goodBlocks s.cfgTarget)
    if r = 0 then
      let t := s.fon CFG_PERSIST_START
      { t with cfg := { t.cfg with persist := some ⟨s.cfgTarget, s.topSeq + 1, rs, false⟩ } }
    else s.persistFails r

/-- A flag that a write acknowledges clears, unless hardware has set it in this cycle (00 R6, R7). -/
def State.ackFlag (s : State) (v : Nat) (f : Fld) : State :=
  if bitOf v f.lo && !bitOf (s.hotBits f.key) f.lo then s.foff f else s

/-- PERSIST_START (03 R87): a write of `value` with START; the flags that it acknowledges clear. -/
def execPersistStart (q : Requester) (value : Word) (s : State) : Host.Outcome State Fault Refusal :=
  whenTaken s q ((s.persistStart.ackFlag value.toNat CFG_PERSIST_DONE).ackFlag value.toNat CFG_PERSIST_SNAPSHOT_STALE)

/-- A persist has been programmed and read back with a result (03 R87 to R89); `bad`: blocks of the target bank that
failed and join its bad-block table. -/
def State.persistEnd (s : State) (p : Persist) (result bad : Nat) : State :=
  let t := (s.loseBlocks p.target bad).foff CFG_PERSIST_START
  let t := { t with cfg := { t.cfg with persist := none } }
  let torn := (t.setCfgBank p.target (.tornSnapshot s.freeCtr p.seq p.recs)).useFree
  match result with
  | 0 =>
    let t := ((t.setCfgBank p.target (.snapshot p.seq p.recs)).fset CFG_PERSIST_RESULT 0).fon CFG_PERSIST_DONE
    let t := (t.setReg CFG_ACTIVE_SEQ p.seq).fset CFG_BANK_STATUS_LOADED_BANK p.target
    (t.fput CFG_BANK_STATUS_DIRTY p.stale).showBank p.target 0 p.seq
  | 2 => torn.persistFails 2
  | 4 => ((t.setCfgBank p.target (.badSnapshot p.seq p.recs)).persistFails 4).showBank p.target 3 p.seq
  | 8 => (torn.persistFails 4).showBank p.target 2 p.seq
  | _ => s

/-- PERSIST_DONE (03 R87). -/
def execPersistDone (outcome : PersistEnd) (s : State) : Host.Outcome State Fault Refusal :=
  whenUp s (match s.cfg.persist with | some p => s.persistEnd p outcome.result outcome.bad | none => s)

end Sys2Proof.Machine
end

