-- ==== Sys2Proof/Machine/Kindling.lean ====
section
/-! DEFINITION. Kindling (03 R74 to R85): from RESET to RUNNING or DEFAULTED.

Choices (log entries): 32 DEDUCED, 33 DEDUCED, 34 DEDUCED, 35 DEDUCED, 37 DEDUCED. -/

namespace Sys2Proof.Machine

/-! ## Step 1: the VBAT store and the cause (01 R36, 02 R56, R58, 03 R73, R74) -/

/-- The reset cause is written: the lowest of those that wait (03 R73). -/
def State.writeCause (s : State) : State :=
  if s.vbatInvalid then s
  else
    let t := s.fset GLB_RESET_CAUSE_PREV (s.fget GLB_RESET_CAUSE_CAUSE)
    (t.fset GLB_RESET_CAUSE_CAUSE (lowest s.causes)).fcount GLB_RESET_CAUSE_COUNT 1

/-- HI of a power-up entry (02 R57, R58): dormant seconds, or all ones. -/
def State.dormantWord (s : State) (kept : Bool) : Nat := if kept && s.vbat.oscRan then s.vbat.dormantSec else 0xFFFFFFFF

/-- The VBAT store at an entry into RESET from DORMANT: its check, the first measurement, the power-up entry
(02 R54, R56, R58); LOW lasts until VBAT is above 2.3 V (02 R71). -/
def State.checkStore (s : State) (mv : Nat) (checkOk : Bool) : State :=
  let kept := checkOk && decide (1900 ≤ mv)
  let t := if kept then s else s.loseStore
  let t := if 2300 < mv then t.foff GLB_VBAT_STATUS_LOW else t
  let t := (t.vbatLevel mv).pushLog 2 mv (s.dormantWord kept)
  if mv < 2200 then t.vbatLow mv else t

/-- The VBAT crossings after a device reset: released where the VBAT clock runs (01 R36). -/
def State.vbatKindled (s : State) (mv : Nat) (checkOk clockRuns : Bool) : State :=
  if clockRuns then
    let t := s.foff GLB_XING_DOMAIN_VBAT_INVALID
    if s.fromDormant then t.checkStore mv checkOk else t.vbatLevel mv
  else s.fon GLB_XING_DOMAIN_VBAT_INVALID

/-- KINDLING_BEGIN (03 R73, R74): STATE becomes KINDLING and both hearths are released. -/
def execKindlingBegin (vbatMv : BitVec 12) (checkOk clockRuns : Bool) (bootId : Word) (s : State) :
    Host.Outcome State Fault Refusal :=
  whenUp s (
    if s.life = .reset then
      let t := (s.vbatKindled vbatMv.toNat checkOk clockRuns).writeCause.setReg MGT_BOOT_ID bootId.toNat
      let t := { t with life := .kindling, phase := 2, causes := [], fromDormant := false }
      (t.beginStart 0).beginStart 1
    else s)

/-- VBAT_CROSSING_RESTART (01 R36): the crossings are released and the store's check word is verified. -/
def execVbatCrossingRestart (checkOk : Bool) (s : State) : Host.Outcome State Fault Refusal :=
  whenUp s (
    if s.vbatInvalid then
      let t := s.foff GLB_XING_DOMAIN_VBAT_INVALID
      if checkOk then t else t.loseStore
    else s)

/-! ## Step 3: the first holder (13 R353) -/

/-- A hearth claims the token in kindling and its synthesizer starts; the controllers begin their starts (14 R386). -/
def State.firstClaim (s : State) (h : Hearth) : State :=
  let t := (s.hold h).setSynth h ⟨nominalWord, 0, 0⟩
  let o := (match h with | .a => .b | .b => .a : Hearth)
  let t := if (t.hearth o).verified then t.startResync o else t
  (({ t with phase := 4 }).beginStart 2).beginStart 3

/-- KINDLING_LEASE_CLAIM (13 R353): hearths that have not ended their verification end it now. -/
def execKindlingLeaseClaim (s : State) : Host.Outcome State Fault Refusal :=
  whenUp s (
    if s.life = .kindling ∧ s.phase < 4 then
      let t := (s.hearthVerified .a false false).hearthVerified .b false false
      if (t.hearth .a).verified then t.firstClaim .a
      else if (t.hearth .b).verified then t.firstClaim .b
      else { t with phase := 3 }
    else s)

/-! ## Steps 4 and 5: the configuration (03 R81, R82, R84, R85) -/

/-- The status of a bank's header: 0 in range, 1 EMPTY, 4 FORMAT, 7 WORN; `good`: its good blocks (03 R81, R82, R89). -/
def State.headStatus (s : State) (d : BankData) (good : Nat) : Nat :=
  let worn := fun (len : Nat) => if good < (len + 131071) / 131072 then 7 else 0
  let raw := fun (b : List Byte) => if leAt b 12 4 = 0xFFFFFFFF then 1 else if !cfgHeader b then 4 else worn (cfgLength b)
  let torn := fun (n : Nat) (st : Nat) => match (Config.tornStatus n).toNat with | 0 => 1 | 1 => 4 | _ => st
  match d with
  | .erased => 1
  | .raw b => raw b
  | .snapshot _ rs => worn (s.snapshotSize rs)
  | .badSnapshot _ rs => worn (s.snapshotSize rs)
  | .tornRaw n b => torn n (raw b)
  | .tornSnapshot n _ rs => torn n (worn (s.snapshotSize rs))

/-- SEQ in a bank's header as it is read; a page that an aborted write left undefined reads a free value (03 R89,
R105). -/
def headSeq (d : BankData) : Nat :=
  let torn := fun (n seq : Nat) => match (Config.tornStatus n).toNat with
    | 0 => 0xFFFFFFFF
    | 1 => (Config.freeWord n).toNat % 2 ^ 32
    | _ => seq
  match d with
  | .erased => 0xFFFFFFFF
  | .raw b => cfgSeq b
  | .snapshot q _ => q
  | .badSnapshot q _ => q
  | .tornRaw n b => torn n (cfgSeq b)
  | .tornSnapshot n q _ => torn n q

/-- The check word of a bank's image verifies (03 R80, R89). -/
def bankCrc : BankData → Bool
  | .erased => false
  | .raw b => cfgCrc b
  | .snapshot _ _ => true
  | .badSnapshot _ _ => false
  | .tornRaw n b => decide ((Config.tornStatus n).toNat = 3) && cfgCrc b
  | .tornSnapshot n _ _ => decide ((Config.tornStatus n).toNat = 3)

/-- The PART_CODE of a bank's image serves the part (03 R78). -/
def State.bankPart (s : State) (d : BankData) : Bool :=
  let ok := fun (b : List Byte) => decide (leAt b 8 2 = 0) || decide (leAt b 8 2 = partCode s.part)
  match d with
  | .raw b => ok b
  | .tornRaw _ b => ok b
  | _ => true

/-- The records of a bank's image, and how many parts of it are malformed. -/
def bankRecords : BankData → List StagedRec × Nat
  | .erased => ([], 0)
  | .raw b => imageRecords (cfgBytes b)
  | .snapshot _ rs => (rs, 0)
  | .badSnapshot _ rs => (rs, 0)
  | .tornRaw _ b => imageRecords (cfgBytes b)
  | .tornSnapshot _ _ rs => (rs, 0)

/-- The configuration that kindling builds on: the factory defaults, with the device's own address (12 R341, 03 R84). -/
def State.kindlingBase (s : State) : State :=
  (s.setReg MGT_MAC_LO (Config.deviceMac.toNat % 2 ^ 32)).setReg MGT_MAC_HI (Config.deviceMac.toNat / 2 ^ 32)

/-- The keys of the configuration take effect (16 R422). -/
def State.applyKeys (s : State) : State :=
  let slot := fun (i : Nat) => lastRec (fun r => match r with
    | .key a role k => if a = i then some (⟨k, decide (role = 1), none, []⟩ : KeySlot) else none
    | _ => none) s.mgt.staged
  { s with mgt := { s.mgt with slots := (List.range 8).map slot, keysApplied := true } }

/-- What is taken at the kindling commit only: the partition of the inkwell and the capture ring's place (07 R206,
15 R408). -/
def State.takeSizes (s : State) : State :=
  let sizes := [s.fget BUF_POOL_CFG0_SIZE, s.fget BUF_POOL_CFG1_SIZE, s.fget BUF_POOL_CFG2_SIZE, s.fget BUF_POOL_CFG3_SIZE]
  let t := (((s.partition sizes).fset BUF_POOL_CFG0_RUN_SIZE (sizes.getD 0 0)).fset BUF_POOL_CFG1_RUN_SIZE
    (sizes.getD 1 0)).fset BUF_POOL_CFG2_RUN_SIZE (sizes.getD 2 0) |>.fset BUF_POOL_CFG3_RUN_SIZE (sizes.getD 3 0)
  let place := s.fbit CNT_CAP_CFG_PLACE
  (t.fput CNT_CAP_STATUS_RUN_PLACE place).fset CNT_CAP_STATUS_RUN_SIZE_MIB (if place then s.fget CNT_CAP_CFG_SIZE_MIB else 0)

/-- The kindling commit: records are applied to the factory defaults and the device's own address at once (03 R74,
R84, 12 R341). -/
def State.kindlingCommit (s : State) (rs : List StagedRec) : State :=
  let t := s.kindlingBase.applyRecs rs
  let t := (recEntries rs).foldl (fun u e =>
    match e.1 with
    | 3 => u.commitStream e.2 zeroEntry
    | 5 => u.commitFilter e.2 zeroEntry
    | _ => u) t
  t.takeSizes.applyKeys.commitEffects s

/-- The outcome of a candidate bank: its status and, where it was checked, the result (03 R82). -/
def State.judgeBank (s : State) (b : Nat) (ecc : Bool) : Nat × Option CheckResult :=
  let d := s.cfgBank b
  if ecc then (2, none)
  else if !bankCrc d then (3, none)
  else if !s.bankPart d then (5, none)
  else
    let p := bankRecords d
    let whole := List.replicate p.2 0x04 ++ (if shadowBytes < recsCharge p.1 then [0x05] else [])
    let r := s.checkSet p.1 true whole
    (if r.code = 0 then 0 else 6, some r)

/-- The pending-configuration marker after the choice: where its bank loaded, the other one is erased (14 R397). -/
def State.settleMarker (s : State) (loaded : Option Nat) : State :=
  let t := match s.cfg.updateBank with
    | some p => if loaded = some p then (s.setCfgBank (1 - p) .erased).showBank (1 - p) 1 0xFFFFFFFF else s
    | none => s
  { t with cfg := { t.cfg with updateBank := none } }

/-- The banks are tried in order; the first that checks is applied, and with none the defaults are (03 R82, R84, R85);
`shown`: a failed check is shown already. -/
def State.loadFrom (s : State) (ecc : Nat → Bool) (shown : Bool) : List Nat → State
  | [] =>
    let t := (s.kindlingCommit []).fon GLB_STATUS_CFG_DEFAULTED
    (t.setReg CFG_ACTIVE_SEQ 0).settleMarker none
  | b :: r =>
    let j := s.judgeBank b (ecc b)
    let seq := (bankSeq (s.cfgBank b)).getD 0
    if j.1 = 0 then
      let t := (s.kindlingCommit (bankRecords (s.cfgBank b)).1).showBank b 0 seq
      ((t.setReg CFG_ACTIVE_SEQ seq).fset CFG_BANK_STATUS_LOADED_BANK b).settleMarker (some b)
    else
      let t := s.showBank b j.1 seq
      let t := match j.2 with | some c => if shown then t else t.showCheck c | none => t
      t.loadFrom ecc (shown || j.2.isSome) r

/-- The candidates in the order in which they are tried (03 R82, 14 R397). -/
def State.candidates (s : State) (ok0 ok1 : Bool) : List Nat :=
  let seq := fun b => (bankSeq (s.cfgBank b)).getD 0
  let cands := (if ok0 then [0] else []) ++ (if ok1 then [1] else [])
  let cands := if cands = [0, 1] ∧ seq 0 < seq 1 then [1, 0] else cands
  match s.cfg.updateBank with
  | some p => if cands.contains p then p :: cands.filter (fun b => decide (b ≠ p)) else cands
  | none => cands

/-- The peat bank at kindling step 5 (07 R222): ready when its controller runs and the DRAM trains. -/
def State.trainPeat (s : State) (trained : Bool) : State :=
  if (s.fw 3).running.isSome && trained && !s.fbit GLB_XING_DOMAIN_PEAT_INVALID then s.fon BUF_PEAT_STATUS_READY else s

/-- The holder's spine synthesizer starts its lock, with the band table that was loaded (03 R74, 10 R300). -/
def State.startHolder (s : State) : State := match s.hrt.holder with | some h => s.startSpine h false | none => s

/-- Status and SEQ of a bank after its header is read (03 R82): a page that cannot be read makes it READ_ERROR, and the
SEQ last read stays. -/
def State.readHead (s : State) (b : Nat) (fails : Bool) : Nat × Nat :=
  if fails then (2, s.fget (CFG_BANK_SEQ_SEQ b)) else (s.headStatus (s.cfgBank b) (s.goodBlocks b), headSeq (s.cfgBank b))

/-- CONFIG_IMAGE_LOAD (03 R82, 07 R222): kindling steps 4 and 5; the two controllers have ended their verification
(14 R386), and step 6 begins. -/
def execConfigImageLoad (heads : Bool × Bool) (ecc0 ecc1 trained : Bool) (s : State) : Host.Outcome State Fault Refusal :=
  whenUp s (
    if s.life = .kindling ∧ s.phase = 4 then
      let h0 := s.readHead 0 heads.1
      let h1 := s.readHead 1 heads.2
      let t := (s.showBank 0 h0.1 h0.2).showBank 1 h1.1 h1.2
      let t := t.loadFrom (fun b => if b = 0 then ecc0 else ecc1) false
        (s.candidates (decide (h0.1 = 0)) (decide (h1.1 = 0)))
      let t := ((t.ctlVerified 2 false false).ctlVerified 3 false false).trainPeat trained
      { t.startHolder with phase := 6 }
    else s)

/-! ## Steps 6 and 7, and the end (03 R74 to R77) -/

/-- SPINE_FIRST_LOCK (03 R74, 01 R14, 10 R297, 12 R343): the spine leaves COAST, and the ULK-6416 begins its power-up calibration. -/
def execSpineFirstLock (s : State) : Host.Outcome State Fault Refusal :=
  whenUp s (
    match s.hrt.holder with
    | some h =>
      if s.life = .kindling ∧ s.phase = 6 then
        let t := (s.fon (SYN_SPINE_STATUS_INNER_LOCK (hearthIx h))).fon (SYN_SPINE_STATUS_CARRIES_SPINE (hearthIx h))
        let t := t.modeBack
        let t := { t with phase := 7 }
        match s.part with
        | .ulk6416 => t.calBegin (groupsOf 63) true
        | .ulk3208 => t
      else s
    | none => s)

/-- A configuration's records cover a register. -/
def coversReg (rs : List StagedRec) (addr : Nat) : Bool :=
  rs.any fun r => match r with | .reg a _ _ _ => decide (a = addr) | _ => false

/-- Where both copies of the factory record are lost, an agent address that no image gave is 0 (12 R341). -/
def State.loseMac (s : State) : State :=
  if s.fbit CAL_STATUS_FACTORY_LOST then
    let rs := if s.fbit GLB_STATUS_CFG_DEFAULTED then []
      else (bankRecords (s.cfgBank (s.fget CFG_BANK_STATUS_LOADED_BANK))).1
    let t := if coversReg rs MGT_MAC_LO then s else s.setReg MGT_MAC_LO 0
    if coversReg rs MGT_MAC_HI then t else t.setReg MGT_MAC_HI 0
  else s

/-- Enabled lanes begin their bring-up (03 R74, R75). -/
def State.startLanes (s : State) : State :=
  (List.range (resCount s.part .lane)).foldl (fun t n => if t.fbit (LANE_CTRL_ENABLE n) then t.laneStarts n else t) s

/-- KINDLING_COMPLETE (03 R74, R85, 12 R341, 14 R386): `copy0`, `copy1`: the copies of the factory record verify. -/
def execKindlingComplete (copy0 copy1 : Bool) (s : State) : Host.Outcome State Fault Refusal :=
  whenUp s (
    if s.life = .kindling ∧ s.phase = 7 ∧ s.fbit CAL_STATUS_RUNNING = false then
      let t := (s.loadFactory copy0 copy1).loseMac
      let t := { t with life := if t.fbit GLB_STATUS_CFG_DEFAULTED then .defaulted else .running, phase := 0 }
      t.startWindows.startLanes
    else s)

/-- KINDLING_WATCHDOG (03 R77). -/
def execKindlingWatchdog (s : State) : Host.Outcome State Fault Refusal :=
  whenUp s (if s.life = .kindling then s.deviceReset 6 else s)

end Sys2Proof.Machine
end

