-- ==== Sys2Proof/Machine/TimeStep.lean ====
section
/-! DEFINITION. The commands that move time (08 R245 to R250), the trunk servo (09 R288 to R290), and the end of a received
frame (05 R165) with what an edge instance learns from it.

Choices (log entries): 8 DESIGN CHOICE, 42 DESIGN CHOICE, 54 DEDUCED, 55 DEDUCED, 71 DEDUCED. -/

namespace Sys2Proof.Machine

/-! ## Wide writes of the time core (01 R26) -/

/-- The word that a requester has shadowed for a high word (01 R26). -/
def State.shadowOf (s : State) (q : Requester) (addr : Nat) : Nat :=
  (mapGet (fun _ => (0 : Word)) s.bus.shadows (reqKey q addr)).toNat

/-- A low-word write of TIME_RATE (08 R245, R246). -/
def State.rateWrite (s : State) (q : Requester) (low : Nat) : State :=
  if s.timeGate q then s.writeRate (s.shadowOf q TIME_RATE_HI % 2 ^ 16 * 2 ^ 32 + low) else s.gateRefused q

/-- TIME_RATE_WRITE (08 R245, R246). -/
def execTimeRateWrite (q : Requester) (low : Word) (s : State) : Host.Outcome State Fault Refusal :=
  whenUp s (s.rateWrite q low.toNat)

/-- A write of TIME_SLEW (08 R245, R248). -/
def State.slewWrite (s : State) (q : Requester) (amount : Nat) : State :=
  if s.timeGate q then s.addSlew (signedOf 32 amount) else s.gateRefused q

/-- TIME_SLEW (08 R248). -/
def execTimeSlew (q : Requester) (amount : Word) (s : State) : Host.Outcome State Fault Refusal :=
  whenUp s (s.slewWrite q amount.toNat)

/-- TSQ_POP (08 R265). -/
def execTsqPop (q : Requester) (queue : Fin 6) (s : State) : Host.Outcome State Fault Refusal :=
  whenTaken s q (s.tsqPop q queue.val)

/-! ## Steps (08 R247, 03 R101, 06 R198, 07 R234, 10 R320, 11 R338, 15 R402, R407) -/

/-- A phase in ps on the new time after a step of d units; the rounding is not stated. -/
def State.movePs (s : State) (lane ps : Nat) (d : Int) : Nat :=
  ((s.freeDiv ((ps : Int) * unitsPerNs + d * 1000) unitsPerNs).emod (s.blockPs (s.portOf lane))).toNat

/-- The transmit and arrival phases move with network time at a TIME_STEP (06 R186, R198). -/
def State.phasesStep (s : State) (d : Int) : State :=
  let t := (List.range 64).foldl (fun u n => if s.laneOn n then u.setTxph n (s.movePs n (s.txphOf n) d) else u) s
  { t with qw := { t.qw with
      arrive := s.qw.arrive.filterMap fun (e : Nat × Option Nat) => e.2.map fun a => (e.1, some (s.movePs e.1 a d)) } } |>.useFree

/-- What a TIME_STEP does to the windows (06 R198, R199). -/
def State.windowsStep (s old : State) : State :=
  let t := s.phasesStep ((s.time.laneCopy : Int) - old.time.laneCopy)
  { t with qw := { t.qw with resume := t.restart old t.qw.resume, firstAt := t.restart old t.qw.firstAt } }

/-- Every port's gates and windows meet a step. -/
def State.portsStep (s : State) : State :=
  s.portList.foldl (fun t p =>
    let t := if t.fbit (BUF_GATE_CFG_ENABLE p) then t.gateNow p else t
    t.closeBoundary p) s

/-- The time bases of the outputs keep their phase while the clock moves by d units. -/
def State.basesStep (s : State) (d : Int) : State :=
  ({ s with syn := { s.syn with bases := s.syn.bases.map fun b => b - d } }).refreshAligns

/-- A commit whose instant the step reached or passed applies at once, late (03 R101). -/
def State.commitStep (s : State) : State :=
  if (s.cfg.sess = .arming ∨ s.cfg.sess = .armed) ∧ s.cfg.instant * unitsPerNs ≤ s.time.clock then s.commitNow true []
  else s

/-- The clock is set to a value in one spine cycle, with every effect of a step that is taken. -/
def State.stepClock (s : State) (c : Nat) : State :=
  let t := s.moveClock c
  let t := (t.cntStep.bwStep).nibStep ((t.binsNow : Int) - s.binsNow)
  (((t.basesStep ((c : Int) - s.time.clock)).portsStep).windowsStep s).commitStep

/-- A write of 1 to GO with a MODE: taken, or refused with ERR_SEEN (08 R247, R268). -/
def State.timeStep (s : State) (q : Requester) (mode : Nat) : State :=
  if s.timeGate q then
    let t := s.fset TIME_STEP_MODE mode
    match t.stepTarget mode with
    | some c => t.stepClock c
    | none => t.fon TIME_STEP_ERR_SEEN
  else s.gateRefused q

/-- TIME_STEP (08 R247). -/
def execTimeStep (q : Requester) (mode : Fin 4) (s : State) : Host.Outcome State Fault Refusal :=
  whenUp s (s.timeStep q mode.val)

/-! ## The servo (09 R288 to R290) -/

/-- BW in 0.1 Hz (09 R294). -/
def State.servoBw (s : State) : Nat := clampNat 1 100 (s.fget LYD_SERVO_BW)

/-- STEP_THR_NS in 2^-16 ns; 0 acts as 1 (09 R294). -/
def State.stepThreshold (s : State) : Nat := max 1 (s.fget LYD_SERVO_STEP_THR_NS) * 2 ^ 16

/-- RATE takes a value, limited to its range (08 R246). -/
def State.setRate (s : State) (r : Int) : State :=
  let t := s.setWide2 TIME_RATE TIME_RATE_HI (wrapTo 48 (clampRate r))
  if clampRate r = r then t else t.fon TIME_STATE_RATE_CLAMP_SEEN

/-- The phase slope limit PULL_NS_S in units of RATE (09 R288, R294). -/
def State.pullLimit (s : State) : Int := ((clampNat 1 10000 (s.fget LYD_SERVO2_PULL_NS_S) * 2 ^ 48 / nsPerSec : Nat) : Int)

/-- One turn of the loop at a bandwidth with an average (09 R288): the proportional part is limited to PULL_NS_S. -/
def State.runLoop (s : State) (bw : Nat) (avg : Int) : State :=
  let (p, i) := Config.timeLoop bw avg s.trunk.integrator
  let p := max (-s.pullLimit) (min s.pullLimit p)
  ({ s with trunk := { s.trunk with integrator := i } }).setRate (i + p)

/-- The state with ACQ_PHASE and the count of its averages. -/
def State.acqTo (s : State) (phase count : Nat) : State :=
  let t := s.fset LYD_STATUS_ACQ_PHASE phase
  { t with trunk := { t.trunk with acqCount := count } }

/-- The sum of 64 samples, newest first, each weighted by 2 i - 63 with i its place from the oldest. -/
def slopeSum (ths : List Int) : Int :=
  (ths.mapIdx fun j x => (63 - 2 * (j : Int)) * x).foldl (· + ·) 0

/-- θ0 of the fit at a sample position, as a numerator over 87,360 (09 R288). -/
def fitOffset (ths : List Int) (pos : Nat) : Int := 1365 * ths.foldl (· + ·) 0 + slopeSum ths * (2 * (pos : Int) - 63)

/-- The frequency offset of the fit in units of RATE, rounded to the nearest (09 R288; log entry 42): samples are
`interval` ns apart, a numerator and a denominator. -/
def fitFreq (ths : List Int) (interval : Nat × Nat) : Int :=
  roundDivAway (slopeSum ths * 2 ^ 32 * interval.2) (43680 * interval.1)

/-- One step of -θ0 in whole ns, in mode 0 or 1 (09 R288, 08 R247). -/
def State.servoStep (s : State) (theta0 : Int) : State :=
  let ns := s.freeDiv theta0 (2 ^ 16)
  let d := ns.natAbs * unitsPerNs
  if ns < 0 then s.useFree.stepClock ((s.time.clock + d) % clockMod)
  else if s.time.clock < d then s.useFree.fon TIME_STEP_ERR_SEEN
  else s.useFree.stepClock (s.time.clock - d)

/-- COLLECT ends with 64 samples: FREQ and STEP follow, then PULL (09 R288, R289). Where in the samples θ0 is taken is
not stated: a free value (log entry 42). -/
def State.collectEnds (s : State) (ths : List Int) (interval : Nat × Nat) : State :=
  let theta0 := s.useFree.freeDiv (fitOffset ths (s.freeVal % 65)) 87360
  let t := s.useFree.useFree
  let t := if s.fbit LYD_STATUS_HISTORY then t
    else
      let u := t.setRate (t.rate - fitFreq ths interval)
      { u with trunk := { u.trunk with integrator := u.rate } }
  let t := if s.stepThreshold ≤ theta0.natAbs then t.servoStep theta0 else t
  t.acqTo 4 0

/-- An average of the acquisition or of LOCKED (09 R288, R290). Of VERIFY it counts the averages in the window. -/
def State.servoAverage (s : State) (avg : Int) : State :=
  let bw := s.servoBw
  let n := s.trunk.acqCount
  match s.fget LYD_STATUS_ACQ_PHASE with
  | 0 => s.runLoop bw avg
  | 4 =>
    let t := s.runLoop (16 * bw) avg
    let n := if avg.natAbs < 2 ^ 16 then n + 1 else 0
    if 16 ≤ n then t.acqTo 5 0 else t.acqTo 4 n
  | 5 =>
    let t := s.runLoop (16 * bw / 2 ^ (n / 64)) avg
    if 256 ≤ n + 1 then t.acqTo 6 0 else t.acqTo 5 (n + 1)
  | 6 =>
    let t := s.runLoop bw avg
    t.acqTo 6 (if avg.natAbs * 1000 ≤ max 1 (s.fget LYD_SERVO_LOCK_WIN_PS) * 2 ^ 16 then n + 1 else 0)
  | _ => s

/-- The state without the samples of the average. -/
def State.dropThetas (s : State) : State := { s with trunk := { s.trunk with thetas := [] } }

/-- The average of the latest 64 samples, rounded as a free value says (log entry 8). -/
def State.thetaAvg (s : State) : Int :=
  let ths := s.trunk.thetas.take 64
  s.freeDiv (ths.foldl (· + ·) 0) (max 1 ths.length)

/-- The time core is LOCKED (08 R249). -/
def State.locks (s : State) : State := (s.acquireEnds.setTimeMode .locked).refreshPos

/-- The average steers the time core (09 R288, R290, R292); VERIFY ends with 64 averages in the window. -/
def State.steer (s : State) (avg : Int) : State :=
  if s.fget LYD_STATUS_ACQ_PHASE = 1 then
    (if 64 ≤ s.trunk.thetas.length then (s.collectEnds (s.trunk.thetas.take 64) (16000, 1)).dropThetas else s)
  else
    let t := (s.servoAverage avg).dropThetas
    if t.fget LYD_STATUS_ACQ_PHASE = 6 ∧ 64 ≤ t.trunk.acqCount then t.locks else t

/-- The average may steer: the trunk is the source (09 R292). -/
def State.steers (s : State) : Bool :=
  s.trunkSteers && (decide (s.timeMode = .acquiring) || decide (s.timeMode = .locked))

/-- OFFSET_AVERAGE (09 R288 to R291): an average without samples, or while samples are discarded, changes nothing. -/
def execOffsetAverage (s : State) : Host.Outcome State Fault Refusal :=
  whenUp s (
    if s.trunk.thetas.isEmpty || s.upstream.isNone || s.discards then s
    else
      let avg := s.thetaAvg
      let t := s.useFree.setWide2 LYD_OFFSET_LO LYD_OFFSET_HI (wrapTo 64 (satSigned 64 avg))
      let t := if t.steers then t.steer avg else t.dropThetas
      t.refreshLyd)

/-! ## Edge instances as the time source (08 R249, R250) -/

/-- MASTER_LOST (08 R250). -/
def execMasterLost (inst : Fin 8) (s : State) : Host.Outcome State Fault Refusal :=
  let i := inst.val
  whenUp s (
    if s.fbit (TIME_INST_CFG_ENABLE i) && s.fbit (TIME_INST_STATUS_PARENT_VALID i) then
      let t := (s.fon (TIME_INST_STATUS_MASTER_LOST_SEEN i)).foff (TIME_INST_STATUS_PARENT_VALID i)
      if s.isTimeSource i then (t.servoStop.sourceLost false).refreshLyd else t
    else s)

/-- MASTER_CHANGE (08 R250): the first parent of an instance replaces none and is no change. -/
def execMasterChange (inst : Fin 8) (parentPort : Fin 64) (stepsRemoved : Nat) (s : State) :
    Host.Outcome State Fault Refusal :=
  let i := inst.val
  whenUp s (
    if s.fbit (TIME_INST_CFG_ENABLE i) then
      let t := ((s.fon (TIME_INST_STATUS_PARENT_VALID i)).fset (TIME_INST_STATUS_PARENT_PORT i) parentPort.val).fset
        (TIME_INST_STATUS_STEPS_REMOVED i) (min 255 stepsRemoved)
      if s.fbit (TIME_INST_STATUS_PARENT_VALID i) then
        let t := t.fon (TIME_INST_STATUS_MASTER_CHANGE_SEEN i)
        if s.isTimeSource i then (t.servoStop.sourceLost true).refreshLyd else t
      else t
    else s)

/-- The Sync interval of an edge instance in ns, as a numerator and a denominator (08 R268). -/
def State.syncInterval (s : State) (i : Nat) : Nat × Nat :=
  let l := s.fint (TIME_INST_INTV_LOG_SYNC i)
  (nsPerSec * 2 ^ l.toNat, 2 ^ (-l).toNat)

/-- 64 offsets of an edge instance make an average, which steers as one of the trunk does (08 R249, 09 R288). -/
def State.edgeSteer (s : State) (i : Nat) : State :=
  let ths := s.time.edgeThetas
  if ths.length < 64 then s
  else
    let t := { s.useFree with time := { s.time with edgeThetas := [] } }
    if s.fget LYD_STATUS_ACQ_PHASE = 1 then t.collectEnds (ths.take 64) (s.syncInterval i)
    else t.servoAverage (s.freeDiv (ths.foldl (· + ·) 0) ths.length)

/-- An edge instance that is the time source delivers a measurement (08 R249): the offset that the firmware measures is
a free value in 2^-16 ns. It runs the sequence of the trunk with a Sync exchange for a superframe; 16 in a row within
10 ns lock. -/
def State.edgeMeasures (s : State) (i : Nat) : State :=
  let theta := signedOf 64 s.freeVal
  let t := s.useFree.sourceDelivers false
  let n := if theta.natAbs ≤ 10 * 2 ^ 16 then t.time.syncRun + 1 else 0
  let t := { t with time := { t.time with syncRun := n, edgeThetas := theta :: t.time.edgeThetas } }
  if t.timeMode = .acquiring ∧ 16 ≤ n then t.locks.refreshLyd else (t.edgeSteer i).refreshLyd

/-- The frame is a Sync of the parent of the edge instance that is the time source, and a hearth runs its servo. -/
def State.isSync (s : State) (f : RxFrame) : Bool :=
  match s.edgeSource with
  | none => false
  | some i =>
    let p := parseFrame f.window
    s.hrt.holder.isSome && !s.coasting && decide (f.verdict = 12) && decide (p.ptpType f.window = 0) && decide (s.instOf f.info.src = some i)
      && s.fbit (TIME_INST_STATUS_PARENT_VALID i) && decide (s.fget (TIME_INST_STATUS_PARENT_PORT i) = f.info.src)

/-- FRAME_END (05 R165): the frame of a source ends; a good Sync of the time source is a measurement. -/
def execFrameEnd (src : Fin 66) (rest : List Byte) (kind : FrameEnd) (reads : InkReads) (s : State) :
    Host.Outcome State Fault Refusal :=
  whenUp s (
    match s.rxOf src.val with
    | none => s
    | some f =>
      let t := ((s.endFrame f rest kind reads.nextBad).inkCorr reads.corrected).rejudge
      match s.edgeSource with
      | some i => if s.isSync f && (endJudge (f.window ++ rest) kind).isNone then t.edgeMeasures i else t
      | none => t)

end Sys2Proof.Machine
end

