-- ==== Sys2Proof/Machine/BusRead.lean ====
section
/-! DEFINITION. Register reads (01 R24 to R27, 03 R103, 16 R431): which register answers at an address, the word it shows,
and the latches of wide registers.

Choices (log entries): 8 DESIGN CHOICE, 14 DEDUCED, 17 DEDUCED, 51 DEDUCED, 68 DEDUCED, 72 DESIGN CHOICE. -/

namespace Sys2Proof.Machine

/-- A register that answers: its definition, its instance numbers and the key of its word. -/
structure BusReg where
  d : RegDef
  ix : List Nat
  key : Nat
  deriving DecidableEq, Repr

/-- The domain of a register is held invalid (01 R36, R435, 03 R103). The copies of lane registers answer (01 R27). -/
def State.domainOff (s : State) (d : RegDef) : Bool :=
  match d.dom with
  | .vbat => s.vbatInvalid
  | .nib => s.fbit GLB_XING_DOMAIN_NIB_INVALID
  | _ => false

/-- The register that answers a requester at an address; none where 03 R103 makes it read as zero. -/
def State.busReg (s : State) (q : Requester) (addr : Nat) : Option BusReg :=
  match findReg addr with
  | none => none
  | some (d, ix) =>
    if absentAt s.part d ix || s.domainOff d then none else some ⟨d, ix, if d.perReq then reqKey q addr else addr⟩

/-- The register is an instance of the one at a base address. -/
def BusReg.is (b : BusReg) (base : Nat) : Bool := decide (b.d.addr = base % 0x100000000)

/-- An instance number of the register. -/
def BusReg.i (b : BusReg) (n : Nat) : Nat := b.ix.getD n 0

/-- A word with a field replaced. -/
def putField (w : Nat) (f : Fld) (v : Nat) : Nat := withField w f.lo f.width v

/-- A word with a field replaced by a signed number. -/
def putInt (w : Nat) (f : Fld) (v : Int) : Nat := withField w f.lo f.width (wrapTo f.width v)

/-! ## Fields that are read from other state -/

/-- GLB_STATUS.STATE (03 R104). -/
def lifeCode : Life → Nat
  | .dormant => 0
  | .reset => 1
  | .kindling => 2
  | .running => 3
  | .defaulted => 4

/-- Block GLB. -/
def State.showGlb (s : State) (b : BusReg) (w : Nat) : Nat :=
  if b.is GLB_ID then
    putField (putField w GLB_ID_STEP_LETTER Config.stepLetter.toNat) GLB_ID_STEP_DIGIT Config.stepDigit.toNat
  else if b.is GLB_STATUS then putField (putField w GLB_STATUS_PHASE s.phase) GLB_STATUS_STATE (lifeCode s.life)
  else if b.is GLB_VBAT_LOG_SEL then putField w GLB_VBAT_LOG_SEL_COUNT s.vbat.log.length
  else if b.is GLB_VBAT_LOG then
    (match s.vbat.log[s.fget GLB_VBAT_LOG_SEL_INDEX]? with
    | some e => e.detail * 2 ^ 16 + e.seq * 2 ^ 8 + e.code
    | none => 0)
  else if b.is GLB_VBAT_LOG_HI then (s.vbat.log[s.fget GLB_VBAT_LOG_SEL_INDEX]?).elim 0 fun e => e.hi
  else if b.is GLB_XING_DOMAIN then
    putField w GLB_XING_DOMAIN_LANE_ANY
      (decide (s.getReg GLB_XING_LANE_LO ≠ 0) || decide (s.getReg GLB_XING_LANE_HI ≠ 0)).toNat
  else w

/-- CFG_STAGE_CTRL.STATE (03 R92). -/
def sessCode : SessState → Nat
  | .idle => 0
  | .opened => 1
  | .checking => 2
  | .checked => 3
  | .failed => 4
  | .arming => 5
  | .armed => 6
  | .applying => 7

/-- Block CFG. -/
def State.showCfg (s : State) (b : BusReg) (w : Nat) : Nat :=
  if b.is CFG_STAGE_CTRL then
    putField (putField w CFG_STAGE_CTRL_OWNER (ownerCode s.cfg.owner)) CFG_STAGE_CTRL_STATE (sessCode s.cfg.sess)
  else w

/-- Block PORT: the level of the cage's interrupt pin (04 R114), TYPE and, for a port with a type, the FEC mode
(04 R109). -/
def State.showPort (s : State) (b : BusReg) (w : Nat) : Nat :=
  if b.is (PORT_STATUS 0) then
    let p := b.i 0
    let w := putField w (PORT_STATUS_CAGE_INT p) (decide (p % 4 = 0) && s.links.cageInt.contains (groupOf p)).toNat
    putField (putField w (PORT_STATUS_TYPE p) (s.portType p)) (PORT_STATUS_FEC_ACTIVE p)
      (if s.portType p = 0 then 0 else s.fget (PORT_MODE_FEC p))
  else w

/-- Block FWD. -/
def State.showFwd (s : State) (b : BusReg) (w : Nat) : Nat :=
  if b.is FWD_MC_STATUS then putField w FWD_MC_STATUS_PENDING s.fwd.residue.length else w

/-- Block QW. -/
def State.showQw (s : State) (b : BusReg) (w : Nat) : Nat :=
  let p := b.i 0
  if b.is (QW_STATUS 0) then
    putField (putField w (QW_STATUS_SYNT_OK p) (s.syntOk p).toNat) (QW_STATUS_SUSP_TAKEOVER p)
      (s.fbit (QW_PORT_CFG_ENABLE p) && s.suspendedPort p).toNat
  else if b.is (QW_PHASE 0) then s.phaseWord p w
  else w

/-- Block BUF (07 R238). -/
def State.showBuf (s : State) (b : BusReg) (w : Nat) : Nat :=
  if b.is (BUF_POOL_FREE 0) then putField w (BUF_POOL_FREE_FREE 0) (s.poolFree (b.i 0))
  else if b.is BUF_PEAT_STATUS then putField w BUF_PEAT_STATUS_USED_MIB s.usedMib
  else if b.is (BUF_Q_OCC_ON 0 0) then putField w (BUF_Q_OCC_ON_O_ON 0 0) (occOn (s.queueOf (b.i 0) (b.i 1)))
  else if b.is (BUF_Q_OCC_PEAT 0 0) then putField w (BUF_Q_OCC_PEAT_O_PEAT 0 0) (occPeat (s.queueOf (b.i 0) (b.i 1)))
  else w

/-- Block TIME (08 R241, R248, R264). -/
def State.showTime (s : State) (b : BusReg) (w : Nat) : Nat :=
  if b.is TIME_SEC_HI then s.timeSec / 2 ^ 32
  else if b.is TIME_SEC_LO then s.secLo
  else if b.is TIME_NS then s.timeNs % nsPerSec
  else if b.is TIME_FRAC then s.time.clock / 2 ^ 32 % 2 ^ 16
  else if b.is TIME_SLEW_REMAIN then putInt w TIME_SLEW_REMAIN_REMAIN s.slewRemain
  else if b.is (TSQ_STATUS 0) then putField w (TSQ_STATUS_COUNT 0) (s.tsqOf (b.i 0)).length
  else w

/-- Block LYD (09 R282). -/
def State.showLyd (s : State) (b : BusReg) (w : Nat) : Nat := if b.is LYD_ERR_EST then s.errEst else w

/-- The spine synthesizer of an instance number. -/
def synthHearth (i : Nat) : Hearth := if i = 0 then .a else .b

/-- SYN_REF_STATUS of an entry: the state of its source's monitor (10 R305 to R307, R322). -/
def State.refStatus (s : State) (i w : Nat) : Nat :=
  if s.refValid i then
    let src := s.actualSource i
    let w := putField (putField w (SYN_REF_STATUS_QUAL_LEFT_S 0) (s.monOf src).left) (SYN_REF_STATUS_STATE 0) (refCode (s.refState i))
    putField (putField w (SYN_REF_STATUS_BASIS_EMBER 0) (s.basisOf src).isEmpty.toNat) (SYN_REF_STATUS_WINDOW_FULL 0)
      (s.windowFull src).toNat
  else w

/-- SYN_REF_FREQ of an entry (10 R305, R307). -/
def State.refFreq (s : State) (i w : Nat) : Nat :=
  if s.refValid i then
    let m := s.monOf (s.actualSource i)
    putInt (putInt w (SYN_REF_FREQ_FREQ_OFS 0) m.ofs) (SYN_REF_FREQ_DRIFT 0) m.drift
  else w

/-- Block SYN (10 R310, R316, R320 to R322): ALIGN of a PO reads 1 while its alignment runs (00 R6). -/
def State.showSyn (s : State) (b : BusReg) (w : Nat) : Nat :=
  if b.is SYN_EMB_ERR then s.growthPs
  else if b.is SYN_PULL_REMAIN then putInt w SYN_PULL_REMAIN_REMAIN_PS s.pullRemain
  else if b.is (SYN_SPINE_WORD_LO 0) then s.freqWord (synthHearth (b.i 0)) % 2 ^ 32
  else if b.is (SYN_SPINE_WORD_HI 0) then s.freqWord (synthHearth (b.i 0)) / 2 ^ 32
  else if b.is (SYN_REF_STATUS 0) then s.refStatus (b.i 0) w
  else if b.is (SYN_REF_FREQ 0) then s.refFreq (b.i 0) w
  else if b.is (SYN_PO_STATUS 0) then putField w (SYN_PO_STATUS_RUNNING 0) (s.poRuns (b.i 0)).toNat
  else if b.is (SYN_PO_CTRL 0) then putField w (SYN_PO_CTRL_ALIGN 0) (s.fget (SYN_PO_STATUS_ALIGNING (b.i 0)))
  else if b.is (SYN_PO_ERR 0) then putInt w (SYN_PO_ERR_ERR_PS 0) (s.poErrPs (b.i 0))
  else w

/-- NIB_SUMMARY.ATTN: an input with a W1C flag set (11 R339). -/
def State.nibAttn (s : State) : Nat :=
  (List.range 16).foldl (fun m n => withBit m n (decide (fieldOf (s.getReg (NIB_STATUS n)) 18 5 ≠ 0))) 0

/-- Block NIB. -/
def State.showNib (s : State) (b : BusReg) (w : Nat) : Nat :=
  if b.is NIB_SUMMARY then s.nibAttn
  else if b.is (NIB_STATUS 0) then putField w (NIB_STATUS_COUNT 0) (s.nibIn (b.i 0)).entries.length
  else w

/-- Block CAL (12 R350): START reads 1 while the calibration it started runs (00 R6). -/
def State.showCal (s : State) (b : BusReg) (w : Nat) : Nat :=
  if b.is CAL_FACTORY then putField w CAL_FACTORY_FAC_VERSION Config.facVersion.toNat
  else if b.is CAL_VAL then putInt w CAL_VAL_VALUE s.calVal
  else if b.is CAL_CMD then putField w CAL_CMD_START (s.fbit CAL_STATUS_RUNNING && !s.cal.powerUp).toNat
  else w

/-- HRT_SNAP.AGE_US, not rounded by the spec; 0 before the first snapshot (13 R375). -/
def State.snapAge (s : State) : Nat :=
  match s.hrt.snap with
  | some v => satCount 8 (s.freeDiv ((s.now - v.takenAt : Nat) : Int) 1000).toNat
  | none => 0

/-- HRT_LEASE.REMAIN_US, not rounded by the spec (13 R375). -/
def State.leaseShown (s : State) : Nat :=
  if s.hrt.holder.isSome then satCount 17 (s.freeDiv ((s.hrt.leaseEnd - s.now : Nat) : Int) 1000).toNat else 0

/-- Block HRT. -/
def State.showHrt (s : State) (b : BusReg) (w : Nat) : Nat :=
  if b.is HRT_STATUS then
    let w := putField (putField w HRT_STATUS_STATE_A (hStateCode s.hrt.a.st)) HRT_STATUS_STATE_B (hStateCode s.hrt.b.st)
    putField (putField w HRT_STATUS_HOLDER (s.hrt.holder.elim 0 hearthCode)) HRT_STATUS_IN_STEP s.inStep.toNat
  else if b.is HRT_LEASE then putField w HRT_LEASE_REMAIN_US s.leaseShown
  else if b.is HRT_SNAP then putField w HRT_SNAP_AGE_US s.snapAge
  else w

/-- UPD_SESSION.STATE (14 R398). -/
def downCode : DownState → Nat
  | .idle => 0
  | .erasing => 1
  | .receiving => 2
  | .closing => 3
  | .failed => 4

/-- UPD_STATUS.WINDOW_LEFT_S, not rounded by the spec (14 R392, R398). -/
def State.windowLeft (s : State) : Nat :=
  match s.trialPart with
  | some p => (s.freeDiv (((s.fw p).windowAt + s.windowS * nsPerSec - s.now : Nat) : Int) nsPerSec).toNat
  | none => 0

/-- UPD_STATUS. -/
def State.updStatus (s : State) (w : Nat) : Nat :=
  let w := putField (putField w UPD_STATUS_FUSE_CNT s.fuseCnt) UPD_STATUS_MIXED s.mixed.toNat
  let w := putField (putField w UPD_STATUS_TRIAL_VALID s.trialPart.isSome.toNat) UPD_STATUS_TRIAL_PART (s.trialPart.getD 0)
  putField (putField w UPD_STATUS_ALLOWED s.upd.allowed.toNat) UPD_STATUS_WINDOW_LEFT_S s.windowLeft

/-- UPD_PART_STATE of a part: ACTIVE_BANK is the bank it runs, or its active bank while it does not run. -/
def State.partState (s : State) (p : Nat) (w : Nat) : Nat :=
  let v := s.fw p
  let w := putField (putField w (UPD_PART_STATE_REJ_REASON 0) v.reason) (UPD_PART_STATE_BANK1 0) v.bank1.status
  let w := putField (putField w (UPD_PART_STATE_BANK0 0) v.bank0.status) (UPD_PART_STATE_ATTEMPTS 0) (s.attempts p)
  putField (putField w (UPD_PART_STATE_TRIAL 0) (s.runsTrial p).toNat) (UPD_PART_STATE_ACTIVE_BANK 0)
    (v.running.getD v.active)

/-- Block UPD (14 R398). SPACE while RECEIVING is a free value of at most 2,048 (14 R383). In RESET every field reads its
reset value (00 R10), and FUSE_CNT the fuses, which no reset changes (14 R380). -/
def State.showUpd (s : State) (b : BusReg) (w : Nat) : Nat :=
  if s.life = .reset then (if b.is UPD_STATUS then putField w UPD_STATUS_FUSE_CNT s.fuseCnt else w)
  else if b.is UPD_SESSION then
    putField (putField w UPD_SESSION_OWNER (ownerCode s.upd.owner)) UPD_SESSION_STATE (downCode s.upd.down)
  else if b.is UPD_XFER_STATUS then
    putField w UPD_XFER_STATUS_SPACE (if s.upd.down = .receiving then s.freeVal % 2049 else 0)
  else if b.is UPD_RECEIVED then s.upd.data.length
  else if b.is UPD_STATUS then s.updStatus w
  else if b.is (UPD_PART_STATE 0) then s.partState (b.i 0) w
  else if b.is (UPD_PART_VER0 0) then bankVersion (b.i 0) (s.fw (b.i 0)).bank0
  else if b.is (UPD_PART_VER1 0) then bankVersion (b.i 0) (s.fw (b.i 0)).bank1
  else if b.is (UPD_PART_RUN 0) then
    (match s.runImage (b.i 0) with
    | some i => imgSvn i * 2 ^ 24 + imgIface i
    | none => 0)
  else w

/-- A counter as the bus shows it: the lane counters through their copies (01 R435, 15 R399). -/
def State.cntShown (s : State) (n i : Nat) : Nat :=
  if 46 ≤ i then mapGet (fun _ => 0) s.cnt.copies (cntKey n i) else s.cntVal n i

/-- A counter of the snapshot bank (15 R402). -/
def State.cntSnap (s : State) (n i : Nat) : Nat := mapGet (fun _ => 0) s.cnt.snap (cntKey n i)

/-- Block CNT. -/
def State.showCnt (s : State) (q : Requester) (b : BusReg) (w : Nat) : Nat :=
  if b.is (CNT_CAP_POP 0) then
    putField (putField w (CNT_CAP_POP_VALID 0) (s.capBufOf q).valid.toNat) (CNT_CAP_POP_UNREAD 0) s.cnt.ring.length
  else if b.is (CNT_CAP_DATA 0) then capWord (s.capBufOf q) (s.capBufOf q).index
  else if b.is (CNT_VAL_LO 0 0) then s.cntShown (b.i 0) (b.i 1) % 2 ^ 32
  else if b.is (CNT_VAL_HI 0 0) then s.cntShown (b.i 0) (b.i 1) / 2 ^ 32
  else if b.is (CNT_SNAPBANK_VAL_LO 0 0) then s.cntSnap (b.i 0) (b.i 1) % 2 ^ 32
  else if b.is (CNT_SNAPBANK_VAL_HI 0 0) then s.cntSnap (b.i 0) (b.i 1) / 2 ^ 32
  else if b.is (CNT_SNAPBANK_WRAP0 0) then mapGet (fun _ => 0) s.cnt.snapWrap (2 * b.i 0)
  else if b.is (CNT_SNAPBANK_WRAP1 0) then mapGet (fun _ => 0) s.cnt.snapWrap (2 * b.i 0 + 1)
  else w

/-- MGT_CFG.KEYS_VALID (16 R423, R432). -/
def State.keysValid (s : State) : Nat :=
  if s.mgt.keysApplied then
    (List.range 8).foldl (fun m i => withBit m i (s.mgt.slots.getD i none).isSome) 0
  else 0

/-- MGT_ALARM_CNTm: the counts of four alarm bits (16 R432). -/
def State.alarmCounts (s : State) (m : Nat) : Nat :=
  (List.range 4).foldl (fun w j => w + s.mgt.counts.getD (4 * m + j) 0 * 2 ^ (8 * j)) 0

/-- Block MGT. -/
def State.showMgt (s : State) (b : BusReg) (w : Nat) : Nat :=
  if b.is MGT_CFG then putField (putField w MGT_CFG_KEYS_VALID s.keysValid) MGT_CFG_OPEN_ACCESS s.openAccess.toNat
  else if b.is MGT_ALARM then s.alarmBits
  else if b.is (MGT_ALARM_CNT 0) then s.alarmCounts (b.i 0)
  else w

/-- The number of a block of 16 R433: its base divided by 0x8_0000. -/
def blockNo (addr : Nat) : Nat := addr / 0x80000

/-- A stored word with the fields that are read from other state. -/
def State.show (s : State) (q : Requester) (b : BusReg) (w : Nat) : Nat :=
  match blockNo b.d.addr with
  | 0 => s.showGlb b w
  | 2 => s.showCfg b w
  | 6 => s.showPort b w
  | 8 => s.showFwd b w
  | 10 => s.showQw b w
  | 12 => s.showBuf b w
  | 14 => s.showTime b w
  | 15 => s.showLyd b w
  | 16 => s.showSyn b w
  | 18 => s.showNib b w
  | 20 => s.showCal b w
  | 22 => s.showHrt b w
  | 24 => s.showUpd b w
  | 26 => s.showCnt q b w
  | 28 => s.showMgt b w
  | _ => w

/-! ## The read -/

/-- The current word of the register at an address, as a requester reads it; 0 where none answers (03 R91, R103). -/
def State.busWord (s : State) (q : Requester) (addr : Nat) : Nat :=
  match s.busReg q addr with
  | none => 0
  | some b => s.show q b (if s.readsShadow q && !b.d.perReq then s.shadowWord addr else s.getReg b.key)

/-- The word latched for a requester at a high word (01 R24, R25). -/
def State.latchOf (s : State) (q : Requester) (addr : Nat) : Nat :=
  (mapGet (fun _ => (0 : Word)) s.bus.latches (reqKey q addr)).toNat

/-- The state with a requester's latch of a high word loaded. -/
def State.setLatch (s : State) (q : Requester) (addr v : Nat) : State :=
  { s with bus := { s.bus with latches := mapSet (fun _ => (0 : Word)) s.bus.latches (reqKey q addr) (BitVec.ofNat 32 v) } }

/-- The address of a word at a distance. -/
def addrAt (addr : Nat) (d : Int) : Nat := ((addr : Int) + d).toNat

/-- The high words of a wide register are captured for a requester (01 R25). -/
def State.latchHighs (s : State) (q : Requester) (addr : Nat) (highs : List Int) : State :=
  highs.foldl (fun t d => t.setLatch q (addrAt addr d) (s.busWord q (addrAt addr d))) s

/-- What a read by a requester changes and returns (01 R25, 15 R412). A read uses one free value. -/
def State.busRead (s : State) (q : Requester) (addr : Nat) : State × Nat :=
  match s.busReg q addr with
  | none => (s, 0)
  | some b =>
    match b.d.wide with
    | .single => ((if b.is (CNT_CAP_DATA 0) then s.capAdvance q else s).useFree, s.busWord q addr)
    | .low highs => ((s.latchHighs q addr highs).useFree, s.busWord q addr)
    | .high _ => (s, s.latchOf q addr)

/-- A read is answered. -/
def State.answerRead (s : State) (q : Requester) (addr : Nat) : State :=
  (s.busRead q addr).1.emit (.answer q (BitVec.ofNat 32 addr).toNat (BitVec.ofNat 32 (s.busRead q addr).2))

/-- WIDE_LOW_READ (01 R25): a read of the bus; the address of any other register is read as that register. -/
def execWideLowRead (q : Requester) (addr : Word) (s : State) : Host.Outcome State Fault Refusal :=
  whenUp s (s.answerRead q addr.toNat)

end Sys2Proof.Machine
end

