-- ==== Sys2Proof/Machine/Bus.lean ====
section
/-! DEFINITION. Register writes (00 R6 to R9, 01 R26, R27, 03 R91, R103) and what each block does with them; the copies of
registers and of network time; clocks that are declared absent (01 R30 to R38).

Choices (log entries): 10 DEDUCED, 11 DEDUCED, 12 DEDUCED, 13 DEDUCED, 16 DEDUCED, 17 DEDUCED, 29 DEDUCED, 43 DEDUCED,
52 DEDUCED, 74 DESIGN CHOICE, 82 DEDUCED. -/

namespace Sys2Proof.Machine

/-! ## The write of a word -/

/-- The mask of the W1C fields of a register. -/
def w1cMask (d : RegDef) : Nat :=
  d.fields.foldl (fun m f => if f.acc = .w1c then m + (2 ^ f.width - 1) * 2 ^ f.lo else m) 0

/-- RW bits take the value and W1C bits that are written 1 clear, but those that hardware has set in this cycle; other
bits ignore the write (00 R6, R7, R9). Bits of `skip` are left to the block. -/
def State.plainWrite (s : State) (b : BusReg) (skip v : Nat) : State :=
  let w := maskWord (s.getReg b.key) (plainMask b.d &&& (skip ^^^ 0xFFFFFFFF)) v
  let cold := s.hotBits b.key ^^^ 0xFFFFFFFF
  s.setReg b.key (w &&& ((v &&& w1cMask b.d &&& cold) ^^^ 0xFFFFFFFF))

/-- The state with a field cleared to 0 when the write carries a 1 in a bit. -/
def State.clearOn (s : State) (v bit : Nat) (f : Fld) : State := if bitOf v bit then s.fset f 0 else s

/-- The state changed when the write carries a 1 in a bit. -/
def State.onBit (s : State) (v bit : Nat) (f : State → State) : State := if bitOf v bit then f s else s

/-- A wide value that a low word completes with a requester's shadowed high word (01 R26). -/
def State.carryHigh (s : State) (q : Requester) (addr : Nat) (d : Int) : State :=
  let a := addrAt addr d
  match findReg a with
  | some (r, _) => s.setReg a (maskWord 0 (plainMask r) (s.shadowOf q a))
  | none => s

/-- Low word and shadowed high words are carried into the owning domain together (01 R26). -/
def State.carryWide (s : State) (q : Requester) (b : BusReg) (addr : Nat) (highs : List Int) (v : Nat) : State :=
  highs.foldl (fun t d => t.carryHigh q addr d) (s.plainWrite b 0 v)

/-- A high word goes to the requester's shadow (01 R26). -/
def State.setShadow (s : State) (q : Requester) (addr v : Nat) : State :=
  { s with bus := { s.bus with shadows := mapSet (fun _ => (0 : Word)) s.bus.shadows (reqKey q addr) (BitVec.ofNat 32 v) } }

/-! ## What the blocks do -/

/-- Block GLB (01 R37, 03 R104). -/
def State.writeGlb (s : State) (q : Requester) (b : BusReg) (v : Nat) : State :=
  if b.is GLB_RESET_CTRL then s.resetCtrl q v
  else
    let t := s.plainWrite b 0 v
    if b.is GLB_XING_DOMAIN && decide (fieldOf v 8 5 ≠ 0) then t.fset GLB_XING_DOMAIN_ENTER_CNT 0 else t

/-- Block CFG (03 R93, R87). -/
def State.writeCfg (s : State) (q : Requester) (b : BusReg) (v : Nat) : State :=
  if b.is CFG_STAGE_CTRL then s.stageCtrl q v
  else if b.is CFG_PERSIST then (s.plainWrite b 0 v).onBit v 0 State.persistStart
  else s.plainWrite b 0 v

/-- A write to LANE_STATUS updates the copy and is carried into the receive domain: at once, or when the domain leaves
reset (01 R27). -/
def State.writeLaneStatus (s : State) (n : Nat) (b : BusReg) (v : Nat) : State :=
  let t := s.plainWrite b 0 v
  let t := { t with bus := { t.bus with laneCarry := t.bus.laneCarry ++ [(LANE_STATUS n, BitVec.ofNat 32 v)] } }
  if t.laneClock n then t.carryLane n else t

/-- The control bits of a pattern register: CLR bit 8, TX_EN bit 0, RX_EN bit 1 (04 R128, R130). -/
def State.writePattern (s : State) (lane : AnyLane) (b : BusReg) (v : Nat) : State :=
  let t := (s.onBit v 8 fun u => u.clearErrors lane).plainWrite b 3 v
  (t.setTxEn lane (bitOf v 0)).setRxEn lane (bitOf v 1)

/-- LANE_CMD.RESTART; ignored while a restart runs (04 R119, 00 R8). A frame being received ends with the bytes of its
parse window. -/
def State.restartWrite (s : State) (n : Nat) : State :=
  if s.laneOn n && !s.fbit (LANE_CMD_RESTART n) then s.beginRestart n [] else s

/-- Block LANE (04). -/
def State.writeLane (s : State) (n : Fin 64) (b : BusReg) (v : Nat) : State :=
  if b.is (LANE_STATUS 0) then s.writeLaneStatus n.val b v
  else if b.is (LANE_PRBS_CTRL 0) then s.writePattern (.data n) b v
  else if b.is (LANE_ERR_INJECT 0) then (s.plainWrite b 0 v).onBit v 31 fun t => t.injectErrors (.data n)
  else if b.is (LANE_CMD 0) then s.onBit v 0 fun t => t.restartWrite n.val
  else s.plainWrite b 0 v

/-- Block CLKL (04 R121, R122, R129). -/
def State.writeClkl (s : State) (k : Fin 16) (b : BusReg) (v : Nat) : State :=
  if b.is (CLKL_SLIP 0) then (s.onBit v 0 fun t => t.slip k.val).onBit v 1 fun t => t.askConfirm k.val
  else if b.is (CLKL_PRBS_CTRL 0) then (s.writePattern (.clock k) b v).onBit v 31 fun t => t.injectErrors (.clock k)
  else s.plainWrite b 0 v

/-- Block PORT (04 R133). -/
def State.writePort (s : State) (b : BusReg) (v : Nat) : State :=
  if b.is (PORT_STATUS 0) then (s.plainWrite b 0 v).clearOn v 16 (PORT_STATUS_DOWN_CNT (b.i 0)) else s.plainWrite b 0 v

/-- Block FWD (05 R142, R176). -/
def State.writeFwd (s : State) (q : Requester) (b : BusReg) (v : Nat) : State :=
  let t := s.plainWrite b 0 v
  if b.is (FWD_TBL_CMD 0) then t.onBit v 31 fun u => u.tblOp q (fieldOf v 16 4) (fieldOf v 0 4)
  else if b.is FWD_LEARN_CMD then t.onBit v 31 fun u => u.learnFlush (bitOf v 30) (fieldOf v 0 6)
  else if b.is FWD_LEARN_STATUS then t.clearOn v 1 FWD_LEARN_STATUS_LEARN_LOST
  else t

/-- Block QW (06 R204). -/
def State.writeQw (s : State) (q : Requester) (b : BusReg) (v : Nat) : State :=
  let t := s.plainWrite b 0 v
  if b.is (QW_TBL_CMD 0) then t.onBit v 31 fun u => u.qwOp q (fieldOf v 16 4) (bitOf v 8) else t

/-- BUF_PEAT_CMD.RESTART (07 R227, 00 R8). -/
def State.peatRestartWrite (s : State) : State := if s.buf.peatRestart then s else s.startPeatCtl

/-- Block BUF (07 R213, R227). -/
def State.writeBuf (s : State) (b : BusReg) (v : Nat) : State :=
  let t := s.plainWrite b 0 v
  if b.is BUF_PEAT_CMD then t.onBit v 0 State.peatRestartWrite
  else if b.is BUF_ECC then
    ((t.clearOn v 0 BUF_ECC_INK_CORR).clearOn v 1 BUF_ECC_INK_UNCORR).clearOn v 2 BUF_ECC_PEAT_UNCORR
  else t

/-- TIME_STEP: the gate holds for the whole register (08 R245, R247). -/
def State.writeStep (s : State) (q : Requester) (b : BusReg) (v : Nat) : State :=
  if s.timeGate q then (s.plainWrite b 0 v).onBit v 31 fun t => t.timeStep q (fieldOf v 0 2) else s.gateRefused q

/-- Block TIME (08 R245 to R248, R264, R265). -/
def State.writeTime (s : State) (q : Requester) (b : BusReg) (v : Nat) : State :=
  if b.is TIME_STEP then s.writeStep q b v
  else if b.is TIME_SLEW then s.slewWrite q v
  else if b.is (TSQ_STATUS 0) then (s.plainWrite b 0 v).clearOn v 31 (TSQ_STATUS_OVF_CNT (b.i 0))
  else if b.is (TSQ_POP 0 0) then s.onBit v 0 fun t => t.tsqPop q (b.i 0)
  else s.plainWrite b 0 v

/-- Block LYD (09 R294). -/
def State.writeLyd (s : State) (b : BusReg) (v : Nat) : State :=
  let t := s.plainWrite b 0 v
  if b.is LYD_EVENTS then t.clearOn v 0 LYD_EVENTS_LOST_CNT else t

/-- SYN_PO_CTRL.ALIGN; ignored while it runs (10 R320, 00 R8). -/
def State.alignWrite (s : State) (n : Nat) : State :=
  if s.fbit (SYN_PO_STATUS_ALIGNING n) then s else s.alignOsyn (s.poOsyn n)

/-- Block SYN (10 R301, R308, R320, R322). -/
def State.writeSyn (s : State) (q : Requester) (b : BusReg) (v : Nat) : State :=
  let t := s.plainWrite b 0 v
  if b.is SYN_CMD then t.onBit v 0 State.reeval
  else if b.is SYN_EVENTS then t.clearOn v 2 SYN_EVENTS_SWITCH_CNT
  else if b.is (SYN_BAND_CMD 0) then t.onBit v 31 fun u => u.bandOp q (fieldOf v 16 4) (fieldOf v 8 3) (fieldOf v 0 6)
  else if b.is (SYN_PO_CTRL 0) then t.onBit v 0 fun u => u.alignWrite (b.i 0)
  else t

/-- NIB_CTRL.RESTART; ignored while one runs (11 R338, 00 R8). -/
def State.nibRestartWrite (s : State) : State := if s.fbit NIB_CTRL_RESTART then s else s.nibRestart

/-- The flags of NIB_STATUS that clear counts (11 R339). -/
def State.clearNib (s : State) (n v : Nat) : State :=
  ((s.clearOn v 18 (NIB_CNT_OVF_CNT n)).clearOn v 19 (NIB_CNT_DEAD_CNT n)).clearOn v 20 (NIB_STATUS_EARLY_CNT n)

/-- NIB_CMD: FLUSH, ABORT and ARM in this order where one write carries several (11 R329, R331, R333). -/
def State.nibCmd (s : State) (n v : Nat) : State :=
  ((s.onBit v 2 fun t => t.nibFlush n).onBit v 1 fun t => t.endMeasure n).onBit v 0 fun t => t.nibArm n

/-- Block NIB (11). -/
def State.writeNib (s : State) (q : Requester) (b : BusReg) (v : Nat) : State :=
  if b.is NIB_CTRL then s.onBit v 0 State.nibRestartWrite
  else if b.is (NIB_CMD 0) then s.nibCmd (b.i 0) v
  else if b.is (NIB_STATUS 0) then (s.plainWrite b 0 v).clearNib (b.i 0) v
  else if b.is (NIB_POP 0 0) then s.onBit v 0 fun t => t.nibPop q (b.i 0)
  else s.plainWrite b 0 v

/-- Block CAL (12 R343). -/
def State.writeCal (s : State) (b : BusReg) (v : Nat) : State :=
  let t := s.plainWrite b 0 v
  if b.is CAL_CMD then t.onBit v 31 fun u => u.calStart (fieldOf v 0 6) else t

/-- HRT_CMD with its key: TEST, CINDER, RESTART and HANDOVER in this order where one write carries several
(13 R369 to R371, R375). -/
def State.hrtCmd (s : State) (v : Nat) : State :=
  if fieldOf v 16 16 = 0x5AE1 then
    let t := ((s.onBit v 5 State.startTest).onBit v 3 fun u => u.cinder .a 7).onBit v 4 fun u => u.cinder .b 7
    ((t.onBit v 1 fun u => u.hearthRestart .a).onBit v 2 fun u => u.hearthRestart .b).onBit v 0 State.startHandover
  else s

/-- Block HRT (13 R355, R375). -/
def State.writeHrt (s : State) (q : Requester) (b : BusReg) (v : Nat) : State :=
  if b.is HRT_LEASE then s.onBit v 31 fun t => t.renew q
  else if b.is HRT_CMD then s.hrtCmd v
  else s.plainWrite b 0 v

/-- UPD_SESSION: TARGET is set, then ABORT, END or BEGIN acts, the first of them that is written 1 (14 R382 to R384). -/
def State.updSession (s : State) (q : Requester) (v : Nat) : State :=
  if bitOf v 2 then s.updAbort q else if bitOf v 1 then s.updEnd q else if bitOf v 0 then s.updBegin q (fieldOf v 8 5) else s

/-- UPD_CMD with its key: ALLOW, REJECT and ACTIVATE in this order where one write carries several (14 R388, R391, R393,
R398). -/
def State.updCmd (s : State) (v : Nat) : State :=
  if fieldOf v 16 16 = 0x7C3E then
    let p := fieldOf v 4 2
    ((s.onBit v 2 State.updAllow).onBit v 1 fun t => t.updReject p).onBit v 0 fun t => t.updActivate p
  else s

/-- Block UPD (14 R398). A word of an image is taken: what does not fit or fails is shown by UPD_DATA_WRITE (log
entry 43). -/
def State.writeUpd (s : State) (q : Requester) (b : BusReg) (v : Nat) : State :=
  if b.is UPD_SESSION then (s.plainWrite b 0 v).updSession q v
  else if b.is UPD_DATA then s.updData q (BitVec.ofNat 32 v) false false
  else if b.is UPD_CMD then s.updCmd v
  else s.plainWrite b 0 v

/-- CNT_CMD: ABORT, then GO (15 R404). -/
def State.cntCmdWrite (s : State) (v : Nat) : State :=
  (s.onBit v 30 fun t => t.setTimed none).onBit v 31 fun t => t.cntGo (fieldOf v 0 3) (bitOf v 4)

/-- The counts that a write of LOST_SEEN clears (15 R414). -/
def State.clearLost (s : State) : State :=
  ((s.fset CNT_CAP_LOST_LOST_CNT 0).fset CNT_CAP_LOST_OVERWRITE_CNT 0).fset CNT_CAP_MIRROR_MIRROR_LOST_CNT 0

/-- Block CNT (15 R404, R412, R414). -/
def State.writeCnt (s : State) (q : Requester) (b : BusReg) (v : Nat) : State :=
  let t := s.plainWrite b 0 v
  if b.is CNT_CMD then t.cntCmdWrite v
  else if b.is CNT_CAP_STATUS then t.onBit v 17 State.clearLost
  else if b.is (CNT_CAP_POP 0) then t.onBit v 0 fun u => u.capPop q
  else t

/-- A write to MGT_ALARM (16 R428, R432): latched bits written 1 clear, but those raised in this cycle (00 R7), and so
do the counts; bit 11 clears the agent's counts. -/
def State.clearAlarms (s : State) (v : Nat) : State :=
  let t := { s with mgt := { s.mgt with
    latched := s.mgt.latched &&& ((v &&& (s.hotBits MGT_ALARM ^^^ 0xFFFFFFFF)) ^^^ 0xFFFFFFFF)
    counts := s.mgt.counts.mapIdx fun i c => if bitOf v i then 0 else c } }
  if bitOf v 11 then t.setReg MGT_AGENT_CNT 0 else t

/-- A cage answers no transaction: the part lacks it, or its reset is held low (16 R425). -/
def State.cageOff (s : State) (k : Nat) : Bool := !s.hasClkl k || !s.links.cageUp.contains k

/-- MGT_I2C_CMD.GO: the transaction waits for its cage, or completes at once with RESULT 3; ignored while one of the
requester's runs (16 R425, 00 R8). -/
def State.i2cGo (s : State) (q : Requester) : State :=
  let k := s.fget (MGT_I2C_CMD_CAGE (reqIx q))
  if s.fbit (MGT_I2C_CMD_GO (reqIx q)) then s
  else if s.cageOff k then s.fset (MGT_I2C_CMD_RESULT (reqIx q)) 3
  else
    let t := s.fon (MGT_I2C_CMD_GO (reqIx q))
    let x : I2cOp := ⟨q, k, !s.fbit (MGT_I2C_CMD_OP (reqIx q)), s.fget (MGT_I2C_CMD_LEN_M1 (reqIx q)) + 1⟩
    { t with mgt := { t.mgt with i2c := t.mgt.i2c ++ [x] } }

/-- Block MGT (16 R425, R428). -/
def State.writeMgt (s : State) (q : Requester) (b : BusReg) (v : Nat) : State :=
  if b.is MGT_ALARM then s.clearAlarms v
  else if b.is (MGT_I2C_CMD 0) then (s.plainWrite b 0 v).onBit v 31 fun t => t.i2cGo q
  else s.plainWrite b 0 v

/-- A write to a register with no staged field and no high word (00 R6, 16 R433). -/
def State.writeBlock (s : State) (q : Requester) (b : BusReg) (v : Nat) : State :=
  match blockNo b.d.addr with
  | 0 => s.writeGlb q b v
  | 2 => s.writeCfg q b v
  | 4 => s.writeLane (Fin.ofNat 64 (b.i 0)) b v
  | 5 => s.writeClkl (Fin.ofNat 16 (b.i 0)) b v
  | 6 => s.writePort b v
  | 8 => s.writeFwd q b v
  | 10 => s.writeQw q b v
  | 12 => s.writeBuf b v
  | 14 => s.writeTime q b v
  | 15 => s.writeLyd b v
  | 16 => s.writeSyn q b v
  | 18 => s.writeNib q b v
  | 20 => s.writeCal b v
  | 22 => s.writeHrt q b v
  | 24 => s.writeUpd q b v
  | 26 => s.writeCnt q b v
  | 28 => s.writeMgt q b v
  | _ => s.plainWrite b 0 v

/-- The register takes writes: some field is RW. A register whose words only read ignores them (01 R25, R26). -/
def writable (d : RegDef) : Bool := d.fields.any fun f => decide (f.acc = .rw)

/-- The register is a word of the commit time. -/
def BusReg.commitTime (b : BusReg) : Bool := b.is CFG_COMMIT_TIME_SEC_HI || b.is CFG_COMMIT_TIME_SEC_LO || b.is CFG_COMMIT_TIME_NS

/-- The low word of a writable wide register (01 R26): RATE and the step operand pass the gate of 08 R245. -/
def State.writeLow (s : State) (q : Requester) (b : BusReg) (addr : Nat) (highs : List Int) (v : Nat) : State :=
  if b.is TIME_RATE then s.rateWrite q v
  else if b.is TIME_STEP_NS then (if s.timeGate q then s.carryWide q b addr highs v else s.gateRefused q)
  else s.carryWide q b addr highs v

/-- A write that a register takes: staged fields go to the shadow copy (03 R91), and no register with one has a field
that a write reaches otherwise. The commit time ignores writes under an armed session (03 R99). -/
def State.busTake (s : State) (q : Requester) (b : BusReg) (addr v : Nat) : State :=
  if stagedMask b.d ≠ 0 then s.stageRec q (.reg addr (stagedMask b.d &&& liveBits b.d b.ix) v false)
  else if b.commitTime && s.armedUp then s
  else
    match b.d.wide with
    | .high _ => if writable b.d then s.setShadow q addr v else s
    | .low highs => if writable b.d then s.writeLow q b addr highs v else s
    | .single => s.writeBlock q b v

/-- The registers whose writes meet the gate of 08 R245, the high words that any requester loads under it, and HRT_LEASE,
which has the rule of 13 R355. -/
def BusReg.gated (b : BusReg) : Bool :=
  b.is TIME_RATE || b.is TIME_RATE_HI || b.is TIME_STEP || b.is TIME_STEP_SEC_HI || b.is TIME_STEP_SEC_LO
    || b.is TIME_STEP_NS || b.is TIME_SLEW || b.is HRT_LEASE

/-- A write that clears table state or flushes learned entries: functions of the holder (13 R354). -/
def clearsTables (b : BusReg) (v : Nat) : Bool :=
  bitOf v 31 && (b.is FWD_LEARN_CMD || ((b.is (FWD_TBL_CMD 0) || b.is (QW_TBL_CMD 0)) && decide (fieldOf v 16 4 = 4)))

/-- A register write of a requester; ignored where no register answers (03 R103). One of a hearth that is not the active
one is discarded (13 R360); to a function of the holder it sets GATE_VIOL_SEEN (13 R354). -/
def State.busWrite (s : State) (q : Requester) (addr v : Nat) : State :=
  match s.busReg q addr with
  | none => s
  | some b =>
    if s.takes q || b.gated then s.busTake q b addr v
    else if clearsTables b v then s.gateRefused q
    else s

/-- REGISTER_WRITE (00 R6). -/
def execRegisterWrite (q : Requester) (addr value : Word) (s : State) : Host.Outcome State Fault Refusal :=
  whenUp s (s.busWrite q addr.toNat value.toNat)

/-- WIDE_LOW_WRITE (01 R26). -/
def execWideLowWrite (q : Requester) (addr value : Word) (s : State) : Host.Outcome State Fault Refusal :=
  whenUp s (s.busWrite q addr.toNat value.toNat)

/-- WIDE_HIGH_WRITE (01 R26). -/
def execWideHighWrite (q : Requester) (addr value : Word) (s : State) : Host.Outcome State Fault Refusal :=
  whenUp s (s.busWrite q addr.toNat value.toNat)

/-! ## Copies (01 R22, R27) -/

/-- Bit errors and FEC codewords that the receive domain counted (01 R17, 04 R128, 15 R399). -/
def State.laneCounts (s : State) (n errBits fecCorr fecUncorr : Nat) : State :=
  let t :=
    if s.fbit (LANE_PRBS_CTRL_LOCK n) then
      s.lset (LANE_PRBS_ERRCNT_ERRCNT n) (satCount 32 (s.lget (LANE_PRBS_ERRCNT_ERRCNT n) + errBits))
    else s
  (t.cntAdd (s.portOf n) 50 fecCorr).cntAdd (s.portOf n) 51 fecUncorr

/-- LANE_COPY_REFRESH (01 R27, R435): while the receive clock runs, its domain counts what arrived and the copies take
its values; the copies of the transmit counters 48 and 49 follow while the transmit clock runs. -/
def execLaneCopyRefresh (lane : Fin 64) (errBits fecCorr fecUncorr : Nat) (s : State) :
    Host.Outcome State Fault Refusal :=
  let n := lane.val
  whenUp s (
    let t := if s.hasLane n && s.laneOn n then s.refreshCounters (s.portOf n) [48, 49] else s
    if s.hasLane n && s.laneClock n then
      ((t.laneCounts n errBits fecCorr fecUncorr).refreshLane n).refreshCounters (s.portOf n) [46, 47, 50, 51]
    else t)

/-- TIME_COPY_RELOAD (01 R22); in the same period the rate correction crosses to the output synthesizers (10 R317). -/
def execTimeCopyReload (s : State) : Host.Outcome State Fault Refusal :=
  whenUp s (
    if s.spineRuns then
      { s with
        time := { s.time with sliceCopy := s.time.clock, laneCopy := s.time.clock }
        syn := { s.syn with rho := s.rate + s.slewStep } }
    else s)

/-! ## Clocks declared absent (01 R30 to R38) -/

/-- A lane enters CROSSING_INVALID: its bits, its field and the alarm; `told`: the lane logic reports a link-down with it,
whose alarm stands for both (01 R37, R38; log entry 82). -/
def State.laneEnters (s : State) (n : Nat) (told : Bool) : State :=
  if s.laneInvalid n then s
  else
    let t := ((s.fon (xingLane n)).fon (xingEvent n)).ldecl (LANE_STATUS_CROSSING_INVALID n) 1
    if told then t else t.raise .crossing

/-- The receive clock of a lane is absent (01 R32): the frame that had partly crossed is truncated, quill windows blot,
and the lane logic declares the loss. -/
def State.laneAbsent (s : State) (n : Nat) (crossed : List Byte) : State :=
  let t := (s.truncateFrame (s.portOf n) crossed).quillIngressLost (s.portOf n) crossed
  (((t.clockGone n).laneFalls n).laneRef n).laneEnters n (s.link (s.portOf n))

/-- The clock of the peat bank controller is absent: what it holds is lost (01 R34). -/
def State.peatAbsent (s : State) : State :=
  ((s.losePeat.foff BUF_PEAT_STATUS_READY).rejudge).domainEnters GLB_XING_DOMAIN_PEAT_INVALID GLB_XING_DOMAIN_PEAT_ENTERED

/-- A watched clock is absent. `crossed`: bytes of a frame that had crossed into the slice core. -/
def State.clockAbsent (s : State) (c : WatchedClock) (crossed : List Byte) : State :=
  match c with
  | .laneRx n => if s.hasLane n.val then (s.laneAbsent n.val crossed).rejudge else s
  | .hearth h => s.islandFails h 9
  | .peat => s.peatAbsent
  | .nib => s.nibClockLost.domainEnters GLB_XING_DOMAIN_NIB_INVALID GLB_XING_DOMAIN_NIB_ENTERED
  | .vbat => s.domainEnters GLB_XING_DOMAIN_VBAT_INVALID GLB_XING_DOMAIN_VBAT_ENTERED

/-- CLOCK_ABSENT_DECLARED (01 R30 to R36). -/
def execClockAbsentDeclared (clock : WatchedClock) (crossed : List Byte) (s : State) :
    Host.Outcome State Fault Refusal := whenUp s (s.clockAbsent clock crossed)

end Sys2Proof.Machine
end

