-- ==== Sys2Proof/Machine/Mgmt.lean ====
section
/-! DEFINITION. Management (16): the in-band agent, unprompted frames, the console, the cage buses and the scan
port.

Choices (log entries): 7 DESIGN CHOICE, 44 DESIGN CHOICE, 48 DEDUCED, 49 DEDUCED, 50 DEDUCED, 71 DEDUCED. -/

namespace Sys2Proof.Machine

/-! ## Requests (16 R416 to R418) -/

/-- Where the management message of a frame starts: after the EtherType, with at most one 0x8100 tag. -/
def msgAt (bs : List Byte) : Nat := if winZero bs 12 2 = 0x8100 then 18 else 14

/-- The message of a request. -/
def AgentReq.msg (r : AgentReq) : List Byte := r.bytes.drop (msgAt r.bytes)

/-- VERSION. -/
def AgentReq.version (r : AgentReq) : Nat := winZero r.msg 0 1
/-- TYPE. -/
def AgentReq.type (r : AgentReq) : Nat := winZero r.msg 1 1
/-- AUTH. -/
def AgentReq.auth (r : AgentReq) : Bool := bitOf (winZero r.msg 2 1) 0
/-- KEY_ID: slots 0 to 7. -/
def AgentReq.keyId (r : AgentReq) : Nat := winZero r.msg 3 1
/-- BOOT_ID. -/
def AgentReq.bootId (r : AgentReq) : Nat := winZero r.msg 4 4
/-- SEQ. -/
def AgentReq.seq (r : AgentReq) : Nat := winZero r.msg 8 8
/-- REQ_ID. -/
def AgentReq.reqId (r : AgentReq) : Nat := winZero r.msg 18 2
/-- LENGTH. -/
def AgentReq.length (r : AgentReq) : Nat := winZero r.msg 20 2
/-- The body. -/
def AgentReq.body (r : AgentReq) : List Byte := slice r.msg 24 r.length
/-- Word i of the body. -/
def AgentReq.word (r : AgentReq) (i : Nat) : Nat := winZero r.body (4 * i) 4

/-- Header, body and tag lie in the frame (16 R417, R418). -/
def AgentReq.fits (r : AgentReq) : Bool := decide (24 + r.length + (if r.auth then 16 else 0) ≤ r.msg.length)

/-- VERSION, TYPE, and a body of the size that the TYPE has; RESET carries its key (16 R418). -/
def AgentReq.formed (r : AgentReq) : Bool :=
  decide (r.version = 1) && r.fits &&
    (match r.type with
    | 1 => decide (r.length % 4 = 0) && decide (4 ≤ r.length) && decide (r.length ≤ 1024)
    | 2 => decide (r.length % 8 = 0) && decide (8 ≤ r.length) && decide (r.length ≤ 1024)
    | 3 => decide (r.length % 4 = 0) && decide (8 ≤ r.length) && decide (r.length ≤ 1028)
    | 4 => decide (r.length = 8) && decide (1 ≤ r.word 1) && decide (r.word 1 ≤ 256)
    | 5 => decide (r.length = 2) && decide (winZero r.body 0 2 = 0xC3A5)
    | 6 => decide (r.length = 0)
    | _ => false)

/-- The command of the opcode table that serves a request: its TYPE where it is 2 to 6, else READ. -/
def AgentReq.served (r : AgentReq) : Nat := if decide (2 ≤ r.type) && decide (r.type ≤ 6) then r.type else 1

/-! ## Keys and sequence numbers (16 R420 to R423) -/

/-- A key slot. -/
def State.slot (s : State) (k : Nat) : Option KeySlot := s.mgt.slots.getD k none

/-- The tag of a frame under a key (16 R420): the IV is BOOT_ID and SEQ. -/
def tagOf (key : BitVec 256) (bootId seq : Nat) (data : List Byte) : BitVec 128 :=
  Config.gmac key (BitVec.ofNat 96 (bootId * 2 ^ 64 + seq)) data

/-- The tag of a request verifies under the key of its slot. -/
def State.tagGood (s : State) (r : AgentReq) : Bool :=
  match s.slot r.keyId with
  | none => false
  | some k =>
    r.fits && decide ((tagOf k.key r.bootId r.seq (r.bytes.take (msgAt r.bytes + 24 + r.length))).toNat
      = beAt r.msg (24 + r.length) 16)

/-- A slot accepts a SEQ: above the highest, or within the 64 below it and not accepted yet (16 R421). -/
def KeySlot.accepts (k : KeySlot) (seq : Nat) : Bool :=
  match k.high with
  | none => true
  | some h => decide (h < seq) || (decide (seq < h) && decide (h ≤ seq + 64) && !k.seen.contains seq)

/-- The record of a slot after it has accepted a SEQ: only the 64 values below the highest are kept. -/
def KeySlot.accept (k : KeySlot) (seq : Nat) : KeySlot :=
  match k.high with
  | none => { k with high := some seq, seen := [] }
  | some h =>
    if h < seq then { k with high := some seq, seen := (h :: k.seen).filter fun x => decide (seq ≤ x + 64) }
    else { k with seen := seq :: k.seen }

/-- The state with a SEQ accepted in a slot. -/
def State.acceptSeq (s : State) (k seq : Nat) : State :=
  { s with mgt := { s.mgt with slots := s.mgt.slots.modify k fun x => x.map fun v => v.accept seq } }

/-- A refused request is counted, and the count raises the MGMT alarm (16 R423, R428). -/
def State.agentRefuses (s : State) (f : Fld) : State := (s.fcount f 1).raise .mgmt

/-- The role of a request is read-only (16 R422, R423). -/
def State.readOnly (s : State) (r : AgentReq) : Bool :=
  if r.auth then (s.slot r.keyId).elim true fun k => k.readOnly else !s.openAccess

/-- A port requires authentication. -/
def State.mustAuth (s : State) (port : Nat) : Bool := bitOf (s.pair MGT_AUTH_LO MGT_AUTH_HI) port

/-- The rows of 16 R423 from BOOT_ID on, for a request whose tag and SEQ are good: none for no response, else STATUS. -/
def State.judgeRest (s : State) (r : AgentReq) : State × Option Nat :=
  if r.bootId ≠ s.getReg MGT_BOOT_ID then (s, some 2)
  else if !r.formed then (s, some 3)
  else if !r.auth && !s.openAccess && s.mustAuth r.port then (s.agentRefuses MGT_AGENT_CNT_AUTH_FAIL, none)
  else if (decide (r.type = 2) || decide (r.type = 3) || decide (r.type = 5)) && s.readOnly r then (s, some 4)
  else (s, some 0)

/-- A request is judged (16 R423): none for no response, else its STATUS. -/
def State.judgeReq (s : State) (r : AgentReq) : State × Option Nat :=
  if r.auth then
    if !s.tagGood r then (s.agentRefuses MGT_AGENT_CNT_AUTH_FAIL, none)
    else if !((s.slot r.keyId).elim false fun k => k.accepts r.seq) then (s.agentRefuses MGT_AGENT_CNT_REPLAY, none)
    else (s.acceptSeq r.keyId r.seq).judgeRest r
  else s.judgeRest r

/-! ## Frames of the device (16 R417, R419, R420) -/

/-- Bytes that the spec does not give. -/
def State.freeBytes (s : State) (n : Nat) : List Byte :=
  (List.range n).map fun i => BitVec.ofNat 8 (Config.freeWord (s.freeCtr + 1 + i)).toNat

/-- What a management frame of the device says beside its body. -/
structure MgmtHead where
  dst : Nat
  /-- The 0x8100 tag that the frame repeats, or nothing. -/
  tag : List Byte
  type : Nat
  response : Bool
  /-- The slot that tags it. -/
  slot : Option Nat
  reqId : Nat
  status : Nat
  deriving DecidableEq, Repr

/-- A frame up to the last byte of its body. DOMAIN, and KEY_ID where AUTH is 0, are given only for other frames: free
values (log entry 44). -/
def State.mgmtFrame (s : State) (h : MgmtHead) (body : List Byte) : List Byte :=
  let f := s.freeVal
  beBytes 6 h.dst ++ beBytes 6 (s.pair MGT_MAC_LO MGT_MAC_HI % 2 ^ 48) ++ h.tag ++ beBytes 2 (s.fget MGT_CFG_ETHERTYPE)
    ++ beBytes 1 1 ++ beBytes 1 h.type ++ beBytes 1 (h.slot.isSome.toNat + 2 * h.response.toNat)
    ++ beBytes 1 (h.slot.getD (f / 256)) ++ beBytes 4 (s.getReg MGT_BOOT_ID) ++ beBytes 8 (2 ^ 63 + s.mgt.nextSeq)
    ++ beBytes 2 (s.fget LYD_NODE_NODE_ID) ++ beBytes 2 h.reqId ++ beBytes 2 body.length ++ beBytes 1 h.status
    ++ beBytes 1 f ++ body

/-- The tag that follows the body: none where AUTH is 0. -/
def State.mgmtTag (s : State) (h : MgmtHead) (bs : List Byte) : List Byte :=
  match h.slot with
  | none => []
  | some k =>
    match s.slot k with
    | none => []
    | some v => beBytes 16 (tagOf v.key (s.getReg MGT_BOOT_ID) (2 ^ 63 + s.mgt.nextSeq) bs).toNat

/-- The whole frame with its FCS, filled up to 64 B (log entry 44). -/
def State.mgmtWhole (s : State) (h : MgmtHead) (body : List Byte) : List Byte :=
  let bs := s.mgmtFrame h body
  let bs := bs ++ s.mgmtTag h bs
  withFcs (bs ++ s.freeBytes (60 - bs.length))

/-- The state after a frame of the device was built: its SEQ and its free values are used. -/
def State.mgmtUsed (s : State) : State :=
  { s with freeCtr := s.freeCtr + 61, mgt := { s.mgt with nextSeq := (s.mgt.nextSeq + 1) % 2 ^ 63 } }

/-- A frame is queued on queue 9 of a port (16 R419, R430). -/
def State.mgmtSend (s : State) (port : Nat) (h : MgmtHead) (body : List Byte) : State :=
  (s.mgmtUsed.inject port 9 2 (s.mgmtWhole h body)).1

/-- The head of the response to a request. -/
def AgentReq.reply (r : AgentReq) (status : Nat) : MgmtHead :=
  ⟨beAt r.bytes 6 6, if winZero r.bytes 12 2 = 0x8100 then slice r.bytes 12 4 else [], r.type, true,
    if r.auth then some r.keyId else none, r.reqId, status⟩

/-- A response is sent. -/
def State.respond (s : State) (r : AgentReq) (status : Nat) (body : List Byte) : State :=
  s.mgmtSend r.port (r.reply status) body

/-! ## Requests of each type (16 R418, R419) -/

/-- The oldest request is taken when it is one for a command, and judged; `run` performs it and gives its body. -/
def State.serve (s : State) (type : Nat) (run : State → AgentReq → State × List Byte) : State :=
  match s.mgt.requests with
  | [] => s
  | r :: rest =>
    if s.inService && decide (r.served = type) then
      let j := ({ s with mgt := { s.mgt with requests := rest } }).judgeReq r
      match j.2 with
      | none => j.1
      | some 0 =>
        let x := run j.1 r
        if x.1.inService then x.1.respond r 0 x.2 else x.1
      | some st => j.1.respond r st []
    else s

/-- The agent reads a list of addresses. -/
def State.agentReads (s : State) (addrs : List Nat) : State × List Byte :=
  addrs.foldl (fun x a =>
    let y := x.1.busRead .agent a
    (y.1, x.2 ++ beBytes 4 y.2)) (s, [])

/-- The agent writes a list of addresses and values, in order; a write that resets the device ends them. -/
def State.agentWrites (s : State) (ws : List (Nat × Nat)) : State :=
  ws.foldl (fun t w => if t.inService then t.busWrite .agent w.1 w.2 else t) s

/-- MGMT_READ (16 R418); it also answers a request of unknown VERSION or TYPE. -/
def execMgmtRead (s : State) : Host.Outcome State Fault Refusal :=
  whenUp s (s.serve 1 fun t r => t.agentReads ((List.range (r.length / 4)).map r.word))

/-- MGMT_WRITE (16 R418). -/
def execMgmtWrite (s : State) : Host.Outcome State Fault Refusal :=
  whenUp s (s.serve 2 fun t r =>
    let n := r.length / 8
    (t.agentWrites ((List.range n).map fun i => (r.word (2 * i), r.word (2 * i + 1))), beBytes 4 n))

/-- MGMT_WRITE_REPEAT (16 R418). -/
def execMgmtWriteRepeat (s : State) : Host.Outcome State Fault Refusal :=
  whenUp s (s.serve 3 fun t r =>
    let n := r.length / 4 - 1
    (t.agentWrites ((List.range n).map fun i => (r.word 0, r.word (i + 1))), beBytes 4 n))

/-- MGMT_READ_REPEAT (16 R418). -/
def execMgmtReadRepeat (s : State) : Host.Outcome State Fault Refusal :=
  whenUp s (s.serve 4 fun t r => t.agentReads (List.replicate (r.word 1) (r.word 0)))

/-- The reset that a request asks for: the answer leaves first where the port has a link (16 R418). -/
def State.agentReset (s : State) (r : AgentReq) : State :=
  let t := if s.link r.port then s.emit (.frame r.port (s.mgmtWhole (r.reply 0) []) false) else s
  t.mgmtUsed.deviceReset 4

/-- MGMT_RESET (16 R418). -/
def execMgmtReset (s : State) : Host.Outcome State Fault Refusal := whenUp s (s.serve 5 fun t r => (t.agentReset r, []))

/-- The registers of the health report, in order (16 R418, 13 R372). -/
def healthAddrs : List Nat :=
  [HRT_CAUSE 0, HRT_CAUSE_SEC 0, HRT_HEALTH 0, HRT_TEST_SEC 0, HRT_LOCKSTEP 0,
   HRT_CAUSE 1, HRT_CAUSE_SEC 1, HRT_HEALTH 1, HRT_TEST_SEC 1, HRT_LOCKSTEP 1, HRT_SNAP]

/-- The words of the health report. -/
def State.healthWords (s : State) : List Nat := healthAddrs.map fun a => s.busWord .agent a

/-- MGMT_HEALTH (16 R418). -/
def execMgmtHealth (s : State) : Host.Outcome State Fault Refusal :=
  whenUp s (s.serve 6 fun t _ => (t.useFree, (t.healthWords.map fun w => beBytes 4 w).flatten))

/-! ## Unprompted frames (16 R430) -/

/-- The slot that tags unprompted frames, when it holds a key. -/
def State.notifySlot (s : State) : Option Nat :=
  let k := s.fget MGT_NOTIFY_CFG_KEY_SLOT
  if (s.slot k).isSome then some k else none

/-- An unprompted frame leaves on MGT_NOTIFY_CFG.PORT; none on a port with LINK 0. -/
def State.unprompted (s : State) (type : Nat) (body : List Byte) : State :=
  let p := s.fget MGT_NOTIFY_CFG_PORT
  if s.link p then
    s.mgmtSend p ⟨s.pair MGT_NOTIFY_DMAC_LO MGT_NOTIFY_DMAC_HI % 2 ^ 48, [], type, false, s.notifySlot, 0, 0⟩ body
  else s

/-- The body of a NOTIFY frame for a raising at a network time in ns (16 R418). -/
def State.notifyBody (s : State) (at_ : Nat) : List Byte :=
  beBytes 4 s.alarmBits ++ ((List.range 4).map fun m => beBytes 4 (s.alarmCounts m)).flatten
    ++ beBytes 4 (at_ / nsPerSec) ++ beBytes 4 (at_ % nsPerSec)

/-- HOLDOFF_MS has not passed since a frame of a type was sent (16 R430); 0 acts as 1. -/
def State.heldOff (s : State) (sent : Option Nat) : Bool :=
  sent.any fun n => decide (s.now < n + max 1 (s.fget MGT_NOTIFY_CFG_HOLDOFF_MS) * 1000000)

/-- NOTIFY_SEND (16 R430). -/
def execNotifySend (s : State) : Host.Outcome State Fault Refusal :=
  whenUp s (
    match s.mgt.notify with
    | none => s
    | some at_ =>
      if s.heldOff s.mgt.notifySent then s
      else
        let t := { s with mgt := { s.mgt with notify := none, notifySent := some s.now } }
        if s.inService && s.fbit MGT_NOTIFY_CFG_EN then t.unprompted 7 (s.notifyBody at_) else t)

/-- HEALTH_REPORT_SEND (16 R430, 13 R372). -/
def execHealthReportSend (s : State) : Host.Outcome State Fault Refusal :=
  whenUp s (
    if s.mgt.healthDue && !s.heldOff s.mgt.healthSent then
      let t := { s.useFree with mgt := { s.mgt with healthDue := false, healthSent := some s.now } }
      if s.inService && s.fbit MGT_NOTIFY_CFG_HEALTH_EN then
        t.unprompted 8 (s.healthWords.map fun w => beBytes 4 w).flatten
      else t
    else s)

/-- ALARM_CLEAR (16 R428): a write to MGT_ALARM. -/
def execAlarmClear (q : Requester) (bits : BitVec 14) (s : State) : Host.Outcome State Fault Refusal :=
  whenTaken s q (s.clearAlarms bits.toNat)

/-! ## The console (16 R424) -/

/-- The console answers, from kindling step 1 on. -/
def State.consoleOn (s : State) : Bool := s.spineRuns && s.fbit MGT_UART_CFG_EN

/-- A hexadecimal digit, upper case. -/
def hexDigit (n : Nat) : Char :=
  ['0', '1', '2', '3', '4', '5', '6', '7', '8', '9', 'A', 'B', 'C', 'D', 'E', 'F'].getD (n % 16) '0'

/-- A word as 0x and eight digits. -/
def hexWord (w : Nat) : List Char := ['0', 'x'] ++ (List.range 8).map fun i => hexDigit (w / 16 ^ (7 - i))

/-- The reply err syntax. -/
def errSyntax : List Char := ['e', 'r', 'r', ' ', 's', 'y', 'n', 't', 'a', 'x']

/-- A reply, while the console still answers. -/
def State.reply (s : State) (lines : List (List Char)) : State := if s.consoleOn then s.emit (.console lines) else s

/-- UART_READ (16 R424). -/
def execUartRead (addr : Word) (s : State) : Host.Outcome State Fault Refusal :=
  whenUp s (
    if s.consoleOn then
      let x := s.busRead .uart addr.toNat
      x.1.reply [hexWord addr.toNat ++ [' '] ++ hexWord x.2]
    else s)

/-- UART_WRITE (16 R424). -/
def execUartWrite (addr value : Word) (s : State) : Host.Outcome State Fault Refusal :=
  whenUp s (
    if !s.consoleOn then s
    else if s.fbit MGT_UART_CFG_READ_ONLY then s.reply [['e', 'r', 'r', ' ', 'r', 'o']]
    else (s.busWrite .uart addr.toNat value.toNat).reply [['o', 'k']])

/-- Reads of one address, with their values in order. -/
def State.uartReads (s : State) (addr n : Nat) : State × List (List Char) :=
  (List.range n).foldl (fun x _ =>
    let y := x.1.busRead .uart addr
    (y.1, x.2 ++ [hexWord y.2])) (s, [])

/-- UART_READ_REPEAT (16 R424): a count outside 1 to 256 gets err syntax. -/
def execUartReadRepeat (addr count : Word) (s : State) : Host.Outcome State Fault Refusal :=
  whenUp s (
    if !s.consoleOn then s
    else if count.toNat = 0 ∨ 256 < count.toNat then s.reply [errSyntax]
    else
      let x := s.uartReads addr.toNat count.toNat
      x.1.reply x.2)

/-- UART_HEALTH (16 R424). -/
def execUartHealth (s : State) : Host.Outcome State Fault Refusal :=
  whenUp s (if s.consoleOn then s.useFree.reply (s.healthWords.map hexWord) else s)

/-- UART_ALARM (16 R424). -/
def execUartAlarm (s : State) : Host.Outcome State Fault Refusal :=
  whenUp s (s.reply (([s.alarmBits] ++ (List.range 4).map s.alarmCounts).map hexWord))

/-- UART_BAD_LINE (16 R424). -/
def execUartBadLine (s : State) : Host.Outcome State Fault Refusal := whenUp s (s.reply [errSyntax])

/-! ## The cage two-wire buses (16 R425) -/

/-- I2C_TRANSACTION (16 R425): a write of a command word with GO to MGT_I2C_CMD. -/
def execI2cTransaction (q : Requester) (command : Word) (s : State) : Host.Outcome State Fault Refusal :=
  whenUp s (s.busWrite q (MGT_I2C_CMD 0 % 2 ^ 32) (command.toNat ||| 2 ^ 31))

/-- The first transaction of a cage, and the others. -/
def takeOp (k : Nat) : List I2cOp → Option (I2cOp × List I2cOp)
  | [] => none
  | x :: r => if x.cage = k then some (x, r) else (takeOp k r).map fun y => (y.1, x :: y.2)

/-- The data word after a transaction: a read that succeeds loads its bytes; what one that fails leaves in them is not
stated, a free value (log entry 44). -/
def State.i2cData (s : State) (x : I2cOp) (result : Nat) (data : Word) : Nat :=
  let old := s.getReg (MGT_I2C_DATA (reqIx x.q))
  if x.read then withField old 0 (8 * x.len) (if result = 0 then data.toNat else s.freeVal) else old

/-- I2C_DONE (16 R425): the transaction that runs on a cage ends. `data`: the bytes that a read brought. -/
def execI2cDone (cage : Fin 16) (result : Fin 3) (data : Word) (s : State) : Host.Outcome State Fault Refusal :=
  whenUp s (
    match takeOp cage.val s.mgt.i2c with
    | none => s
    | some (x, rest) =>
      let t := { s.useFree with mgt := { s.mgt with i2c := rest } }
      let t := t.setReg (MGT_I2C_DATA (reqIx x.q)) (s.i2cData x result.val data)
      (t.fset (MGT_I2C_CMD_RESULT (reqIx x.q)) result.val).foff (MGT_I2C_CMD_GO (reqIx x.q)))

/-! ## The scan port (16 R426, R427) -/

/-- The scan port is powered. -/
def State.scanOn (s : State) : Bool := decide (s.life ≠ .dormant)

/-- The instruction register takes a code; leaving EXTEST, CLAMP and HIGHZ performs a device reset (16 R427). -/
def State.setIr (s : State) (code : Nat) : State :=
  let t := { s with mgt := { s.mgt with ir := code } }
  if s.power.scanHold then
    { t with power := { t.power with scanHold := false } }.deviceReset 8
  else t

/-- EXTEST, CLAMP or HIGHZ: the core is held as in RESET (16 R426). -/
def State.holdCore (s : State) (code : Nat) : State :=
  let t := if s.power.scanHold then s
    else { ({ s with power := { s.power with scanHold := true } }).clearBlocks with causes := s.waitingCauses }
  { t with mgt := { t.mgt with ir := code } }

/-- What a scanned pin's cells capture: IN, OUT and OE for a pin of both directions, IN for an input, OUT and OE for an
output (16 R427). -/
inductive ScanPin where
  | input | output | both
  deriving DecidableEq, Repr

/-- The cells of a pin that it can use, bit 0 IN, bit 1 OUT, bit 2 OE. -/
def pinCells : ScanPin → Nat
  | .input => 1
  | .output => 6
  | .both => 7

/-- The scanned pins, EV0 first (16 R427). -/
def scanPins : List ScanPin :=
  List.replicate 16 .input ++ List.replicate 8 .output ++ List.replicate 4 .input ++ [.output, .input, .output, .input]
    ++ (List.replicate 16 [ScanPin.both, .both, .input, .output]).flatten

/-- The cells that can capture. -/
def scanMask : Nat := (scanPins.mapIdx fun i p => pinCells p * 2 ^ (3 * i)).foldl (· + ·) 0

/-- JTAG_EXTEST (16 R426): the pins are driven from the boundary register, which takes `load`. -/
def execJtagExtest (load : BitVec 288) (s : State) : Host.Outcome State Fault Refusal :=
  done s (
    if s.scanOn then
      let t := s.holdCore 0
      { t with mgt := { t.mgt with boundary := load } }
    else s)

/-- JTAG_SAMPLE_PRELOAD (16 R426): the pins are captured and shifted out, and `load` is shifted in. -/
def execJtagSamplePreload (pins load : BitVec 288) (s : State) : Host.Outcome State Fault Refusal :=
  done s (
    if s.scanOn then
      let t := (s.setIr 1).emit (.scanned 288 (pins.toNat &&& scanMask))
      { t with mgt := { t.mgt with boundary := load } }
    else s)

/-- The identification code (16 R426). -/
def State.idcode (s : State) : Nat :=
  Config.stepLetter.toNat * 2 ^ 28 + partCode s.part * 2 ^ 12 + 0x3D5 * 2 + 1

/-- JTAG_IDCODE (16 R426). -/
def execJtagIdcode (s : State) : Host.Outcome State Fault Refusal :=
  done s (if s.scanOn then (s.setIr 2).emit (.scanned 32 s.idcode) else s)

/-- JTAG_CLAMP (16 R426). -/
def execJtagClamp (s : State) : Host.Outcome State Fault Refusal := done s (if s.scanOn then s.holdCore 3 else s)

/-- JTAG_HIGHZ (16 R426). -/
def execJtagHighz (s : State) : Host.Outcome State Fault Refusal := done s (if s.scanOn then s.holdCore 4 else s)

/-- JTAG_BYPASS (16 R426): every code without a row acts as BYPASS. -/
def execJtagBypass (s : State) : Host.Outcome State Fault Refusal := done s (if s.scanOn then s.setIr 0xFF else s)

/-- JTAG_TEST_EXIT (16 R426, R427): the port is reset and holds IDCODE. -/
def execJtagTestExit (s : State) : Host.Outcome State Fault Refusal := done s (if s.scanOn then s.setIr 2 else s)

end Sys2Proof.Machine
end

