-- ==== Sys2Proof/Machine/Dispatch.lean ====
section
/-! DEFINITION. One arm per command: the command's meaning, or its rejection by name. -/

namespace Sys2Proof.Machine

/-- The effect of a command on everything but the queue. -/
def exec (i : Instr) (s : State) : Host.Outcome State Fault Refusal :=
  match i with
  | .registerWrite q addr value => Sys2Proof.Machine.execRegisterWrite q addr value s
  | .wideLowRead q addr => Sys2Proof.Machine.execWideLowRead q addr s
  | .wideLowWrite q addr value => Sys2Proof.Machine.execWideLowWrite q addr value s
  | .wideHighWrite q addr value => Sys2Proof.Machine.execWideHighWrite q addr value s
  | .laneCopyRefresh lane errBits fecCorr fecUncorr => Sys2Proof.Machine.execLaneCopyRefresh lane errBits fecCorr fecUncorr s
  | .timeCopyReload => Sys2Proof.Machine.execTimeCopyReload s
  | .clockAbsentDeclared clock crossed => Sys2Proof.Machine.execClockAbsentDeclared clock crossed s
  | .vbatCrossingRestart checkOk => Sys2Proof.Machine.execVbatCrossingRestart checkOk s
  | .softStart returned temp8 => Sys2Proof.Machine.execSoftStart returned temp8 s
  | .softStartComplete => Sys2Proof.Machine.execSoftStartComplete s
  | .enableLow early => Sys2Proof.Machine.execEnableLow early s
  | .vinBelowWarning early => Sys2Proof.Machine.execVinBelowWarning early s
  | .reverseCurrentTrip early => Sys2Proof.Machine.execReverseCurrentTrip early s
  | .overvoltageTimeout early => Sys2Proof.Machine.execOvervoltageTimeout early s
  | .currentLimitTimeout early => Sys2Proof.Machine.execCurrentLimitTimeout early s
  | .thermalShutdown early => Sys2Proof.Machine.execThermalShutdown early s
  | .ovWarn => Sys2Proof.Machine.execOvWarn s
  | .ilimReached => Sys2Proof.Machine.execIlimReached s
  | .powerDownRecordStored => Sys2Proof.Machine.execPowerDownRecordStored s
  | .dormantReached => Sys2Proof.Machine.execDormantReached s
  | .tempSensorUpdate readings vinMv iinMa => Sys2Proof.Machine.execTempSensorUpdate readings vinMv iinMa s
  | .vbatLow mv => Sys2Proof.Machine.execVbatLow mv s
  | .vbatRecover mv => Sys2Proof.Machine.execVbatRecover mv s
  | .dormantSecond => Sys2Proof.Machine.execDormantSecond s
  | .rstNAssert => Sys2Proof.Machine.execRstNAssert s
  | .rstNRelease => Sys2Proof.Machine.execRstNRelease s
  | .resetCtrlWrite q value => Sys2Proof.Machine.execResetCtrlWrite q value s
  | .kindlingBegin vbatMv checkOk clockRuns bootId => Sys2Proof.Machine.execKindlingBegin vbatMv checkOk clockRuns bootId s
  | .firmwareVerified part err0 err1 => Sys2Proof.Machine.execFirmwareVerified part err0 err1 s
  | .kindlingLeaseClaim => Sys2Proof.Machine.execKindlingLeaseClaim s
  | .configImageLoad heads ecc0 ecc1 trained => Sys2Proof.Machine.execConfigImageLoad heads ecc0 ecc1 trained s
  | .spineFirstLock => Sys2Proof.Machine.execSpineFirstLock s
  | .kindlingComplete copy0 copy1 => Sys2Proof.Machine.execKindlingComplete copy0 copy1 s
  | .kindlingWatchdog => Sys2Proof.Machine.execKindlingWatchdog s
  | .stagedWrite q addr value => Sys2Proof.Machine.execStagedWrite q addr value s
  | .stageOpen q flags => Sys2Proof.Machine.execStageOpen q flags s
  | .stageCheck q flags => Sys2Proof.Machine.execStageCheck q flags s
  | .checkDone => Sys2Proof.Machine.execCheckDone s
  | .stageArm q flags => Sys2Proof.Machine.execStageArm q flags s
  | .armDistributed => Sys2Proof.Machine.execArmDistributed s
  | .stageAbort q flags => Sys2Proof.Machine.execStageAbort q flags s
  | .commitApply crossed => Sys2Proof.Machine.execCommitApply crossed s
  | .sessionTimeout => Sys2Proof.Machine.execSessionTimeout s
  | .persistStart q value => Sys2Proof.Machine.execPersistStart q value s
  | .persistDone outcome => Sys2Proof.Machine.execPersistDone outcome s
  | .rateSearchDwell lane => Sys2Proof.Machine.execRateSearchDwell lane s
  | .rateFound lane => Sys2Proof.Machine.execRateFound lane s
  | .rateSearchRestart lane => Sys2Proof.Machine.execRateSearchRestart lane s
  | .signalPresent lane => Sys2Proof.Machine.execSignalPresent lane s
  | .cdrLockAcquired lane => Sys2Proof.Machine.execCdrLockAcquired lane s
  | .blockLockAcquired lane => Sys2Proof.Machine.execBlockLockAcquired lane s
  | .linkUp port => Sys2Proof.Machine.execLinkUp port s
  | .signalLoss lane => Sys2Proof.Machine.execSignalLoss lane s
  | .cdrUnlock lane => Sys2Proof.Machine.execCdrUnlock lane s
  | .blockLockLoss lane => Sys2Proof.Machine.execBlockLockLoss lane s
  | .hiBer lane => Sys2Proof.Machine.execHiBer lane s
  | .faultReceived port remote => Sys2Proof.Machine.execFaultReceived port remote s
  | .laneRestart lane crossed => Sys2Proof.Machine.execLaneRestart lane crossed s
  | .laneCmdRestart q lane crossed => Sys2Proof.Machine.execLaneCmdRestart q lane crossed s
  | .laneRestartDone lane arrival => Sys2Proof.Machine.execLaneRestartDone lane arrival s
  | .freqOfsUpdate lane ofs => Sys2Proof.Machine.execFreqOfsUpdate lane ofs s
  | .clklSlip q clkl => Sys2Proof.Machine.execClklSlip q clkl s
  | .clklConfirm q clkl => Sys2Proof.Machine.execClklConfirm q clkl s
  | .clklWindowEnd clkl commas codeErr errBits => Sys2Proof.Machine.execClklWindowEnd clkl commas codeErr errBits s
  | .alignLost clkl => Sys2Proof.Machine.execAlignLost clkl s
  | .clklAlignSearch clkl => Sys2Proof.Machine.execClklAlignSearch clkl s
  | .clklSearchRetry clkl => Sys2Proof.Machine.execClklSearchRetry clkl s
  | .trunkDownAlarm group => Sys2Proof.Machine.execTrunkDownAlarm group s
  | .prbsCheckerLock lane => Sys2Proof.Machine.execPrbsCheckerLock lane s
  | .prbsLockLost lane => Sys2Proof.Machine.execPrbsLockLost lane s
  | .prbsClr q lane => Sys2Proof.Machine.execPrbsClr q lane s
  | .prbsTxEn q lane on => Sys2Proof.Machine.execPrbsTxEn q lane on s
  | .errInjectGo q lane => Sys2Proof.Machine.execErrInjectGo q lane s
  | .frameParse src window whole stamp old nextBad => Sys2Proof.Machine.execFrameParse src window whole stamp old nextBad s
  | .learnInsert slice => Sys2Proof.Machine.execLearnInsert slice s
  | .ageOut index => Sys2Proof.Machine.execAgeOut index s
  | .frameEnd src rest kind reads => Sys2Proof.Machine.execFrameEnd src rest kind reads s
  | .epochDrained => Sys2Proof.Machine.execEpochDrained s
  | .residueQueue port => Sys2Proof.Machine.execResidueQueue port s
  | .residueTimeout port => Sys2Proof.Machine.execResidueTimeout port s
  | .recoveryReset stream => Sys2Proof.Machine.execRecoveryReset stream s
  | .fwdTblRead q table => Sys2Proof.Machine.execFwdTblRead q table s
  | .fwdTblWrite q table => Sys2Proof.Machine.execFwdTblWrite q table s
  | .fwdTblSearch q table => Sys2Proof.Machine.execFwdTblSearch q table s
  | .fwdTblReadState q table => Sys2Proof.Machine.execFwdTblReadState q table s
  | .fwdTblClearState q table => Sys2Proof.Machine.execFwdTblClearState q table s
  | .learnFlush q portOnly port => Sys2Proof.Machine.execLearnFlush q portOnly port s
  | .egressSelect port stamp read => Sys2Proof.Machine.execEgressSelect port stamp read s
  | .copySent port => Sys2Proof.Machine.execCopySent port s
  | .windowOpen port index arrivals => Sys2Proof.Machine.execWindowOpen port index arrivals s
  | .windowClose port => Sys2Proof.Machine.execWindowClose port s
  | .guardBandStart port => Sys2Proof.Machine.execGuardBandStart port s
  | .guardBandEnd port => Sys2Proof.Machine.execGuardBandEnd port s
  | .quillFrameStart port header stamp => Sys2Proof.Machine.execQuillFrameStart port header stamp s
  | .quillFrameEnd port rest errored => Sys2Proof.Machine.execQuillFrameEnd port rest errored s
  | .quillOverrun port sent => Sys2Proof.Machine.execQuillOverrun port sent s
  | .elasticDrift port => Sys2Proof.Machine.execElasticDrift port s
  | .txphSteer port arrivals => Sys2Proof.Machine.execTxphSteer port arrivals s
  | .windowTableSwap port => Sys2Proof.Machine.execWindowTableSwap port s
  | .qwTblRead q inactive => Sys2Proof.Machine.execQwTblRead q inactive s
  | .qwTblWrite q inactive => Sys2Proof.Machine.execQwTblWrite q inactive s
  | .qwTblReadState q inactive => Sys2Proof.Machine.execQwTblReadState q inactive s
  | .qwTblClearState q inactive => Sys2Proof.Machine.execQwTblClearState q inactive s
  | .poolRebuildDone pool => Sys2Proof.Machine.execPoolRebuildDone pool s
  | .spillWriteDone read => Sys2Proof.Machine.execSpillWriteDone read s
  | .spillReadbackDone port queue good => Sys2Proof.Machine.execSpillReadbackDone port queue good s
  | .peatRestart q => Sys2Proof.Machine.execPeatRestart q s
  | .peatRestartDone => Sys2Proof.Machine.execPeatRestartDone s
  | .linkFlush port => Sys2Proof.Machine.execLinkFlush port s
  | .gateEntryChange port => Sys2Proof.Machine.execGateEntryChange port s
  | .gateListSwap port => Sys2Proof.Machine.execGateListSwap port s
  | .timeRateWrite q low => Sys2Proof.Machine.execTimeRateWrite q low s
  | .timeStep q mode => Sys2Proof.Machine.execTimeStep q mode s
  | .timeSlew q amount => Sys2Proof.Machine.execTimeSlew q amount s
  | .masterLost inst => Sys2Proof.Machine.execMasterLost inst s
  | .masterChange inst parentPort stepsRemoved => Sys2Proof.Machine.execMasterChange inst parentPort stepsRemoved s
  | .tsqPop q queue => Sys2Proof.Machine.execTsqPop q queue s
  | .superframeSend clkl tx => Sys2Proof.Machine.execSuperframeSend clkl tx s
  | .superframeReceive clkl record rx samples => Sys2Proof.Machine.execSuperframeReceive clkl record rx samples s
  | .bmcaEvaluate => Sys2Proof.Machine.execBmcaEvaluate s
  | .trunkSourceLost => Sys2Proof.Machine.execTrunkSourceLost s
  | .offsetAverage => Sys2Proof.Machine.execOffsetAverage s
  | .outerLoopCompare phase => Sys2Proof.Machine.execOuterLoopCompare phase s
  | .refFreqUpdate entry ofs => Sys2Proof.Machine.execRefFreqUpdate entry ofs s
  | .refLoss entry => Sys2Proof.Machine.execRefLoss entry s
  | .refActive entry => Sys2Proof.Machine.execRefActive entry s
  | .refQualified entry => Sys2Proof.Machine.execRefQualified entry s
  | .driftTest => Sys2Proof.Machine.execDriftTest s
  | .synReeval => Sys2Proof.Machine.execSynReeval s
  | .pullDone => Sys2Proof.Machine.execPullDone s
  | .emberLearnSecond => Sys2Proof.Machine.execEmberLearnSecond s
  | .synthLock synth => Sys2Proof.Machine.execSynthLock synth s
  | .synthLockLoss synth => Sys2Proof.Machine.execSynthLockLoss synth s
  | .osynRefLoss osyn => Sys2Proof.Machine.execOsynRefLoss osyn s
  | .poAlign po => Sys2Proof.Machine.execPoAlign po s
  | .poAlignRestart po => Sys2Proof.Machine.execPoAlignRestart po s
  | .synBandRead q synth index => Sys2Proof.Machine.execSynBandRead q synth index s
  | .synBandWrite q synth index => Sys2Proof.Machine.execSynBandWrite q synth index s
  | .synBandReadFactory q synth index => Sys2Proof.Machine.execSynBandReadFactory q synth index s
  | .nibEdge input falling stamp => Sys2Proof.Machine.execNibEdge input falling stamp s
  | .nibPop q input => Sys2Proof.Machine.execNibPop q input s
  | .nibArm q input => Sys2Proof.Machine.execNibArm q input s
  | .nibAbort q input => Sys2Proof.Machine.execNibAbort q input s
  | .nibFlush q input => Sys2Proof.Machine.execNibFlush q input s
  | .freqGateEnd input => Sys2Proof.Machine.execFreqGateEnd input s
  | .nibRestart q => Sys2Proof.Machine.execNibRestart q s
  | .calStart q groups => Sys2Proof.Machine.execCalStart q groups s
  | .calApply measured => Sys2Proof.Machine.execCalApply measured s
  | .leaseRenew q => Sys2Proof.Machine.execLeaseRenew q s
  | .leaseExpired => Sys2Proof.Machine.execLeaseExpired s
  | .hearthMemUncorr h => Sys2Proof.Machine.execHearthMemUncorr h s
  | .hearthWatchdog h => Sys2Proof.Machine.execHearthWatchdog h s
  | .islandPowerFail h => Sys2Proof.Machine.execIslandPowerFail h s
  | .lockstepMismatch => Sys2Proof.Machine.execLockstepMismatch s
  | .diagnosisDone activePasses standbyPasses => Sys2Proof.Machine.execDiagnosisDone activePasses standbyPasses s
  | .resyncDone => Sys2Proof.Machine.execResyncDone s
  | .snapshotTake => Sys2Proof.Machine.execSnapshotTake s
  | .tokenClaim => Sys2Proof.Machine.execTokenClaim s
  | .takeoverInnerLock => Sys2Proof.Machine.execTakeoverInnerLock s
  | .takeoverAlignerMatch => Sys2Proof.Machine.execTakeoverAlignerMatch s
  | .takeoverMuxMove => Sys2Proof.Machine.execTakeoverMuxMove s
  | .takeoverEnd => Sys2Proof.Machine.execTakeoverEnd s
  | .takeoverLockMiss => Sys2Proof.Machine.execTakeoverLockMiss s
  | .longTakeoverTimeout => Sys2Proof.Machine.execLongTakeoverTimeout s
  | .noHolder => Sys2Proof.Machine.execNoHolder s
  | .hrtHandover q => Sys2Proof.Machine.execHrtHandover q s
  | .hrtRestart q h => Sys2Proof.Machine.execHrtRestart q h s
  | .hrtCinder q h => Sys2Proof.Machine.execHrtCinder q h s
  | .hrtTest q => Sys2Proof.Machine.execHrtTest q s
  | .autoRestart h => Sys2Proof.Machine.execAutoRestart h s
  | .hearthRestartDone h lockUs => Sys2Proof.Machine.execHearthRestartDone h lockUs s
  | .selfTestPeriodic => Sys2Proof.Machine.execSelfTestPeriodic s
  | .selfTestDone lockUs => Sys2Proof.Machine.execSelfTestDone lockUs s
  | .selfTestRetry => Sys2Proof.Machine.execSelfTestRetry s
  | .updBegin q target => Sys2Proof.Machine.execUpdBegin q target s
  | .updEraseDone flashFails => Sys2Proof.Machine.execUpdEraseDone flashFails s
  | .updDataWrite q data full flashFails => Sys2Proof.Machine.execUpdDataWrite q data full flashFails s
  | .updEnd q => Sys2Proof.Machine.execUpdEnd q s
  | .updAbort q => Sys2Proof.Machine.execUpdAbort q s
  | .updSessionTimeout => Sys2Proof.Machine.execUpdSessionTimeout s
  | .updActivate q part => Sys2Proof.Machine.execUpdActivate q part s
  | .updReject q part => Sys2Proof.Machine.execUpdReject q part s
  | .updAllow q => Sys2Proof.Machine.execUpdAllow q s
  | .trialConfirm => Sys2Proof.Machine.execTrialConfirm s
  | .trialWindowExpired => Sys2Proof.Machine.execTrialWindowExpired s
  | .cntSnapshot q timed => Sys2Proof.Machine.execCntSnapshot q timed s
  | .cntFreeze q timed => Sys2Proof.Machine.execCntFreeze q timed s
  | .cntThaw q timed => Sys2Proof.Machine.execCntThaw q timed s
  | .cntSnapshotClear q timed => Sys2Proof.Machine.execCntSnapshotClear q timed s
  | .cntAbort q => Sys2Proof.Machine.execCntAbort q s
  | .cntTimedAction => Sys2Proof.Machine.execCntTimedAction s
  | .bwPeriodEnd window => Sys2Proof.Machine.execBwPeriodEnd window s
  | .cntCapPop q => Sys2Proof.Machine.execCntCapPop q s
  | .cntCapDataRead q => Sys2Proof.Machine.execCntCapDataRead q s
  | .mirrorFrameSend => Sys2Proof.Machine.execMirrorFrameSend s
  | .mgmtRead => Sys2Proof.Machine.execMgmtRead s
  | .mgmtWrite => Sys2Proof.Machine.execMgmtWrite s
  | .mgmtWriteRepeat => Sys2Proof.Machine.execMgmtWriteRepeat s
  | .mgmtReadRepeat => Sys2Proof.Machine.execMgmtReadRepeat s
  | .mgmtReset => Sys2Proof.Machine.execMgmtReset s
  | .mgmtHealth => Sys2Proof.Machine.execMgmtHealth s
  | .notifySend => Sys2Proof.Machine.execNotifySend s
  | .healthReportSend => Sys2Proof.Machine.execHealthReportSend s
  | .alarmClear q bits => Sys2Proof.Machine.execAlarmClear q bits s
  | .uartRead addr => Sys2Proof.Machine.execUartRead addr s
  | .uartWrite addr value => Sys2Proof.Machine.execUartWrite addr value s
  | .uartReadRepeat addr count => Sys2Proof.Machine.execUartReadRepeat addr count s
  | .uartHealth => Sys2Proof.Machine.execUartHealth s
  | .uartAlarm => Sys2Proof.Machine.execUartAlarm s
  | .uartBadLine => Sys2Proof.Machine.execUartBadLine s
  | .i2cTransaction q command => Sys2Proof.Machine.execI2cTransaction q command s
  | .i2cDone cage result data => Sys2Proof.Machine.execI2cDone cage result data s
  | .jtagExtest load => Sys2Proof.Machine.execJtagExtest load s
  | .jtagSamplePreload pins load => Sys2Proof.Machine.execJtagSamplePreload pins load s
  | .jtagIdcode => Sys2Proof.Machine.execJtagIdcode s
  | .jtagClamp => Sys2Proof.Machine.execJtagClamp s
  | .jtagHighz => Sys2Proof.Machine.execJtagHighz s
  | .jtagBypass => Sys2Proof.Machine.execJtagBypass s
  | .jtagTestExit => Sys2Proof.Machine.execJtagTestExit s
  | .handoverTokenRelease => Sys2Proof.Machine.execHandoverTokenRelease s
  | .controllerWatchdog peat => Sys2Proof.Machine.execControllerWatchdog peat s
  | .laneControllerRestartDone => Sys2Proof.Machine.execLaneControllerRestartDone s
  | .islandCauseCleared h => Sys2Proof.Machine.execIslandCauseCleared h s
  | .autoLeftReplenish h => Sys2Proof.Machine.execAutoLeftReplenish h s
  | .ovWarnEnd => Sys2Proof.Machine.execOvWarnEnd s
  | .learnFlushDone => Sys2Proof.Machine.execLearnFlushDone s
  | .nibRestartDone => Sys2Proof.Machine.execNibRestartDone s
  | .configRewriteDone write erase => Sys2Proof.Machine.execConfigRewriteDone write erase s

end Sys2Proof.Machine
end

