-- ==== Sys2Proof/Machine/Step.lean ====
section
/-! DEFINITION. One step: the command at the front of the queue, or one spine cycle when none waits.

Choices (log entries): 1 DESIGN CHOICE. -/

namespace Sys2Proof.Machine

/-- A cycle passes: what hardware set in it can be cleared from now on (00 R7), and a device reset that begins later is
one of its own (03 R73). -/
def State.cyclePasses (s : State) : State := { s with hot := [], resetFresh := false }

/-- With nothing to do, one cycle passes, of the spine while it runs (08 R242, R243; log entry 1). -/
def idle (s : State) : State := if s.spineRuns then s.cyclePasses.spineCycle else s.cyclePasses

/-- One step: the command at the front of the queue acts with the queue's rest; on an empty queue the block idles. -/
def step (s : State) : Host.Outcome State Fault Refusal :=
  match s.pending with
  | [] => .next (idle s)
  | c :: rest => exec c { s with pending := rest }

/-- The state with the command that a word spells at the front of its queue. -/
def State.withFetchWord (s : State) (nbits w : Nat) : State :=
  match decodeTableWord nbits w with
  | some c => { s with pending := c :: s.pending }
  | none => s

end Sys2Proof.Machine
end

