-- ==== Sys2Proof/Machine/Pins.lean ====
section
/-! DEFINITION. The pins (02 R63, R68, R69, 16 R426, R427, R429): what each pin does in each state of the device, and what
the boundary register drives. What the lanes send is in Links.lean.

Choices (log entries): 72 DESIGN CHOICE, 87 DESIGN CHOICE. -/

namespace Sys2Proof.Machine

/-- The columns of the table of pin states, and the running device (02 R68). -/
inductive PinColumn where
  | unpowered | held | reset | kindling | running
  deriving DecidableEq, Repr

/-- The column that is in force. The table has none for a power-down that runs: the model takes the one that it ends in
(DESIGN CHOICE, log entry 87). -/
def State.pinColumn (s : State) : PinColumn :=
  if s.life = .dormant ∨ s.power.down then .unpowered
  else if s.power.rstLow then .held
  else match s.life with
    | .reset => .reset
    | .kindling => .kindling
    | _ => .running

/-- What the device does with a pin. -/
inductive PinLevel where
  /-- High impedance; an open-drain pin is released. -/
  | highZ
  | low
  | high
  /-- The two-wire bus master runs a transaction on it. -/
  | busy
  deriving DecidableEq, Repr

/-- A PO in its column (02 R68, 10 R318, R321). -/
def State.corePo (s : State) (n : Nat) : PinLevel :=
  match s.pinColumn with
  | .unpowered | .held | .reset => .highZ
  | _ => match s.poPin n with | .highZ => .highZ | .low => .low | .high => .high

/-- ALARM_N is asserted: in RESET and KINDLING, and then while an unmasked alarm bit is 1 (02 R68, R69, 16 R429). -/
def State.alarmN (s : State) : Bool :=
  match s.pinColumn with
  | .unpowered | .held => false
  | .reset | .kindling => true
  | .running => decide (s.alarmBits &&& s.fget MGT_ALARM_MASK_MASK ≠ 0)

/-- MGT_TX: high impedance, then idle high between its characters (02 R68, 16 R424). -/
def State.coreTx (s : State) : PinLevel :=
  match s.pinColumn with
  | .unpowered | .held => .highZ
  | _ => .high

/-- CG_RSTk_N: low from RST_N on until link bring-up releases it (02 R68, 04 R114). -/
def State.coreCgRst (s : State) (k : Nat) : PinLevel :=
  match s.pinColumn with
  | .unpowered => .highZ
  | .held | .reset => .low
  | _ => if s.links.cageUp.contains k then .highZ else .low

/-- CG_SCLk and CG_SDAk: released until a transaction uses them (02 R68, 16 R425). -/
def State.coreBus (s : State) (k : Nat) : PinLevel :=
  match s.pinColumn with
  | .unpowered | .held | .reset => .highZ
  | _ => if s.mgt.i2c.any fun x => decide (x.cage = k) then .busy else .highZ

/-- TDO drives only while the scan port shifts (02 R68). -/
def tdoIdle : PinLevel := .highZ

/-- The 100 Ω termination of a REFIN is connected: in LVDS mode, from RESET on (02 R63, R68). -/
def State.refinTerm (s : State) (x : Nat) : Bool :=
  match s.pinColumn with
  | .unpowered | .held => false
  | _ => !s.fbit (SYN_REFIN_CFG_MODE x)

/-- What the core does with scanned pin i: EV0 first, in the order of the boundary register (16 R427). -/
def State.corePin (s : State) (i : Nat) : PinLevel :=
  if i < 16 then .highZ
  else if i < 24 then s.corePo (i - 16)
  else if i < 28 then .highZ
  else if i = 28 then s.coreTx
  else if i = 30 then (if s.alarmN then .low else .highZ)
  else if i < 32 then .highZ
  else match (i - 32) % 4 with
    | 0 | 1 => s.coreBus ((i - 32) / 4)
    | 3 => s.coreCgRst ((i - 32) / 4)
    | _ => .highZ

/-- What the boundary register does with scanned pin i: its OE and OUT cells in EXTEST and CLAMP, nothing in HIGHZ, and
nothing on a pin that is an input only (16 R426, R427). -/
def State.scanPin (s : State) (i : Nat) : PinLevel :=
  if s.mgt.ir = 4 ∨ scanPins.getD i .input = .input ∨ s.mgt.boundary.toNat.testBit (3 * i + 2) = false then .highZ
  else if s.mgt.boundary.toNat.testBit (3 * i + 1) then .high else .low

/-- What the device does with scanned pin i: the boundary register drives it while a scan instruction holds the core
(16 R426). -/
def State.pin (s : State) (i : Nat) : PinLevel := if s.power.scanHold then s.scanPin i else s.corePin i

end Sys2Proof.Machine
end

