-- ==== Sys2Proof/WellFormed.lean ====
section
/-! DEFINITION. Commands whose operands the outside can give: the sizes that the spec fixes. -/

namespace Sys2Proof

/-- A configuration bank has 64 blocks (03 R81). -/
def bankBlocks : Nat := 64

/-- A command's operands have the sizes that the spec fixes. -/
def Instr.wf (i : Instr) : Bool :=
  match i with
  | .tempSensorUpdate readings _ _ => decide (readings.length = 9)
  | .persistDone e => [0, 2, 4, 8].contains e.result && decide (e.bad ≤ bankBlocks)
  | .configRewriteDone write erase => decide (write.bad ≤ bankBlocks) && decide (erase.bad ≤ bankBlocks)
  | .commitApply crossed => crossed.all fun c => decide (c.1 < 64)
  | .frameParse _ window whole _ _ _ =>
    decide (window.length ≤ 96) && (whole || decide (window.length = 96))
  | .quillFrameStart _ header _ => decide (header.length = 16)
  | .superframeReceive _ record _ samples =>
    (record.all fun r => decide (r.length = 72)) && samples.edges.all fun e => decide (e.1 < 41250)
  | .calApply measured => measured.all fun m => decide (m.1 < 6)
  | _ => true

end Sys2Proof
end

