-- ==== Sys2Proof/Safety.lean ====
section
/-! DEFINITION. The terms claims use: what a command leaves unchanged, and what every run keeps. -/

namespace Sys2Proof.Machine

/-- Two fields share no bit. -/
def Fld.apart (f g : Fld) : Bool :=
  decide (f.key ≠ g.key) || decide (f.lo + f.width ≤ g.lo) || decide (g.lo + g.width ≤ f.lo)

/-- Every bit field that shares no bit with a listed one reads as before. -/
def keepsBut (fs : List Fld) (s t : State) : Prop :=
  ∀ g : Fld, (∀ f ∈ fs, g.apart f = true) → t.fget g = s.fget g

/-- Alarm bit n is raised by an event: it is latched and its count has advanced by one, stopping at 255
(16 R428). -/
def raisedOnce (n : Nat) (s t : State) : Prop :=
  bitOf t.mgt.latched n = true ∧ t.mgt.counts.getD n 0 = min 255 (s.mgt.counts.getD n 0 + 1)

/-- The alarm counts: one for each of the 14 sources, none above 255 (16 R428). -/
def State.countsOk (s : State) : Bool := decide (s.mgt.counts.length = 14) && s.mgt.counts.all fun c => decide (c ≤ 255)

/-- The registers have their canonical form: equal contents are equal data. -/
def State.regsOk (s : State) : Bool := mapWf (resetWord s.part) s.regs

/-- What every step keeps. -/
def State.ok (s : State) : Bool := s.regsOk && s.countsOk

/-- A bit of a register lies in a field of an access kind. -/
def RegDef.bitIs (d : RegDef) (a : Acc) (i : Nat) : Bool :=
  d.fields.any fun f => decide (f.acc = a) && decide (f.lo ≤ i) && decide (i < f.lo + f.width)

/-- The registers whose write does more than change their own word: those with a command, or with a flag that clears a
count. -/
def actingRegs : List Nat :=
  [GLB_RESET_CTRL, GLB_XING_DOMAIN, CFG_STAGE_CTRL, CFG_PERSIST, LANE_STATUS 0, LANE_PRBS_CTRL 0, LANE_ERR_INJECT 0,
    LANE_CMD 0, CLKL_SLIP 0, CLKL_PRBS_CTRL 0, PORT_STATUS 0, FWD_TBL_CMD 0, FWD_LEARN_CMD, FWD_LEARN_STATUS, QW_TBL_CMD 0,
    BUF_PEAT_CMD, BUF_ECC] ++
  [TIME_STEP, TIME_SLEW, TSQ_STATUS 0, TSQ_POP 0 0, LYD_EVENTS, SYN_CMD, SYN_EVENTS, SYN_BAND_CMD 0, SYN_PO_CTRL 0,
    NIB_CTRL, NIB_CMD 0, NIB_STATUS 0, NIB_POP 0 0, CAL_CMD, HRT_LEASE, HRT_CMD, UPD_SESSION, UPD_DATA, UPD_CMD, CNT_CMD,
    CNT_CAP_STATUS, CNT_CAP_POP 0, MGT_ALARM, MGT_I2C_CMD 0]

/-- The write of a register does more than change its own word. -/
def BusReg.acts (b : BusReg) : Bool := actingRegs.any fun k => b.is k

/-- The requester whose write gives a command that has a row of its own and that takes effect only where the requester's
writes do (13 R360); none for the commands of the lease, of the time core and of table state, which have their own rule
(08 R245, 13 R354, R355), and for what no requester writes. -/
def writerOf : Instr → Option Requester
  | .resetCtrlWrite q _ | .stagedWrite q _ _ | .stageOpen q _ | .stageCheck q _ | .stageArm q _ | .stageAbort q _
  | .persistStart q _ | .laneCmdRestart q _ _ | .clklSlip q _ | .clklConfirm q _ | .prbsClr q _ | .prbsTxEn q _ _
  | .errInjectGo q _ | .fwdTblRead q _ | .fwdTblWrite q _ | .fwdTblSearch q _ | .fwdTblReadState q _ | .qwTblRead q _
  | .qwTblWrite q _ | .qwTblReadState q _ | .peatRestart q | .tsqPop q _ | .synBandRead q _ _ | .synBandWrite q _ _
  | .synBandReadFactory q _ _ | .nibPop q _ | .nibArm q _ | .nibAbort q _ | .nibFlush q _ | .nibRestart q
  | .calStart q _ | .hrtHandover q | .hrtRestart q _ | .hrtCinder q _ | .hrtTest q | .updBegin q _
  | .updDataWrite q _ _ _ | .updEnd q | .updAbort q | .updActivate q _ | .updReject q _ | .updAllow q
  | .cntSnapshot q _ | .cntFreeze q _ | .cntThaw q _ | .cntSnapshotClear q _ | .cntAbort q | .cntCapPop q
  | .alarmClear q _ => some q
  | _ => none

end Sys2Proof.Machine
end

