-- ==== Sys2Proof/Certificates/Slice0/Obligations.lean ====
section
/-! DEFINITION. The statements for the provers. -/

open Sys2Proof Sys2Proof.Machine

/-- 02 R50, R51, R59, R60: each cause starts a power-down whose mask holds it and whose time is that of its start; one
that comes while a power-down runs joins its mask where the record has not entered its crossing, and else leaves it.
Nothing but the power stage changes. Complete here: vinBelowWarning, reverseCurrentTrip, overvoltageTimeout,
currentLimitTimeout, thermalShutdown, enableLow. -/
def Obligations.PowerDownsRun : Prop :=
  ∀ (s : State) (early : Bool) (i : Instr) (bit : Nat),
    (i, bit) ∈ [(Instr.vinBelowWarning early, 0), (.reverseCurrentTrip early, 1), (.overvoltageTimeout early, 2),
      (.currentLimitTimeout early, 3), (.thermalShutdown early, 4), (.enableLow early, 5)] →
    s.life ≠ .dormant → s.power.softStart = false →
    ∃ t, exec i s = .next t ∧ t.power.down = true ∧
      (s.power.down = false → t.power.mask = 2 ^ bit ∧ t.power.downSec = s.secLo ∧ t.power.stored = false) ∧
      (s.power.down = true → t.power.downSec = s.power.downSec ∧ t.power.stored = s.power.stored ∧
        t.power.mask = (if early && !s.power.stored then withBit s.power.mask bit true else s.power.mask)) ∧
      t.power.thermalLatch = (s.power.thermalLatch || bit == 4) ∧ t.power.enable = (s.power.enable && bit != 5) ∧
      t = { s with power := t.power }

/-- 02 R51, R57, R58: the record of a power-down enters the event log once, while the VBAT crossings are valid; then
the device becomes DORMANT, out of service, and each whole second with the oscillator enabled is counted. Complete
here: powerDownRecordStored, dormantReached, dormantSecond. -/
def Obligations.DormancyEntered : Prop :=
  (∀ s : State, s.power.down = true → s.power.stored = false → s.vbatInvalid = false →
    ∃ t, exec .powerDownRecordStored s = .next t ∧ t.power.stored = true ∧
      t.vbat.log = ((⟨1, s.vbat.nextSeq, s.power.mask % 2 ^ 16, s.power.downSec % 2 ^ 32⟩ : VbatEntry) :: s.vbat.log).take 16 ∧
      t = { s with power := t.power, vbat := t.vbat }) ∧
  (∀ s : State, s.power.down = true → s.power.stored = true →
    ∃ t, exec .dormantReached s = .next t ∧ t.life = .dormant ∧ t.power.down = false ∧ t.up = false ∧
      t.vbat.dormantSec = 0 ∧ t.vbat.log = s.vbat.log ∧ t.upd.parts.length = s.upd.parts.length ∧
      t.buf = State.reset.buf ∧ t.time = State.reset.time ∧ t.getReg GLB_RESET_CAUSE = s.getReg GLB_RESET_CAUSE) ∧
  (∀ s : State, s.life = .dormant → s.fbit GLB_VBAT_CTRL_DORMANT_OSC = true →
    exec .dormantSecond s =
      .next { s with vbat := { s.vbat with dormantSec := (s.vbat.dormantSec + 1) % 2 ^ 32 } })

/-- 02 R46, R60: a soft start begins in DORMANT, after a thermal shutdown only once the device may and has cooled
below 140 degrees; when it completes the device is in RESET with every block at its Reset state. Complete here:
softStart, softStartComplete. -/
def Obligations.SoftStartRuns : Prop :=
  (∀ (s : State) (returned : Bool) (temp8 : BitVec 16), s.life = .dormant →
    (s.power.thermalLatch = false ∨ ((s.power.enableCycled = true ∨ returned = true) ∧ temp8.toInt < 140 * 16)) →
    exec (.softStart returned temp8) s =
      .next { s with power :=
        { s.power with enable := true, softStart := true, thermalLatch := false, enableCycled := false } }) ∧
  (∀ s : State, s.power.softStart = true →
    ∃ t, exec .softStartComplete s = .next t ∧ t.life = .reset ∧ t.causes = [1] ∧ t.fromDormant = true ∧
      t.power.softStart = false ∧ t.buf = State.reset.buf ∧ t.links = State.reset.links ∧ t.hrt = State.reset.hrt ∧
      t.vbat = s.vbat ∧ t.part = s.part ∧
      t.vbatInvalid = s.vbatInvalid ∧
      (∀ k, k ∉ [GLB_RESET_CAUSE, GLB_VBAT_CTRL, GLB_VBAT_STATUS, GLB_VBAT_LOG_SEL, GLB_XING_DOMAIN] →
        t.getReg k = (resetWord s.part k).toNat))

/-- 02 R50, R58, R60, R71: the input warnings and the level of VBAT set and clear their bits, raise SUPPLY and write
their log entries, and change no other field. An update of the sensors shows every reading with its VALID bit and the
input's voltage and current, and judges the highest valid temperature. Complete here: ovWarn, ovWarnEnd, ilimReached,
vbatLow, vbatRecover, tempSensorUpdate. -/
def Obligations.SupplyWarnings : Prop :=
  (∀ s : State, s.up = true → s.fbit GLB_PWR_STATUS_OV_WARN = false →
    ∃ t, exec .ovWarn s = .next t ∧ t.fget GLB_PWR_STATUS_OV_WARN = 1 ∧ t.fget GLB_PWR_STATUS_VIN_OK = 0 ∧
      t.fget GLB_PWR_STATUS_OV_WARN_SEEN = 1 ∧ bitOf t.mgt.latched 1 = true ∧
      keepsBut [GLB_PWR_STATUS_OV_WARN, GLB_PWR_STATUS_VIN_OK, GLB_PWR_STATUS_OV_WARN_SEEN] s t ∧
      t = { s with regs := t.regs, hot := t.hot, mgt := t.mgt }) ∧
  (∀ s : State, s.up = true →
    ∃ t, exec .ovWarnEnd s = .next t ∧ t.fget GLB_PWR_STATUS_OV_WARN = 0 ∧ t.fget GLB_PWR_STATUS_VIN_OK = 1 ∧
      keepsBut [GLB_PWR_STATUS_OV_WARN, GLB_PWR_STATUS_VIN_OK] s t ∧ t = { s with regs := t.regs, hot := t.hot }) ∧
  (∀ s : State, s.up = true →
    ∃ t, exec .ilimReached s = .next t ∧ t.fget GLB_PWR_STATUS_ILIM_SEEN = 1 ∧ bitOf t.mgt.latched 1 = true ∧
      keepsBut [GLB_PWR_STATUS_ILIM_SEEN] s t ∧ t = { s with regs := t.regs, hot := t.hot, mgt := t.mgt }) ∧
  (∀ (s : State) (mv : BitVec 12), s.up = true → s.vbatInvalid = false → s.fbit GLB_VBAT_STATUS_LOW = false →
    ∃ t, exec (.vbatLow mv) s = .next t ∧ t.fget GLB_VBAT_STATUS_VBAT_MV = mv.toNat ∧ t.fget GLB_VBAT_STATUS_LOW = 1 ∧
      t.fget GLB_VBAT_STATUS_LOW_SEEN = 1 ∧ bitOf t.mgt.latched 1 = true ∧
      t.vbat.log.head? = some ⟨3, s.vbat.nextSeq, mv.toNat, s.secLo⟩ ∧
      keepsBut [GLB_VBAT_STATUS_VBAT_MV, GLB_VBAT_STATUS_PRESENT, GLB_VBAT_STATUS_LOW, GLB_VBAT_STATUS_LOW_SEEN] s t ∧
      t = { s with regs := t.regs, hot := t.hot, vbat := t.vbat, mgt := t.mgt }) ∧
  (∀ (s : State) (mv : BitVec 12), s.up = true → s.vbatInvalid = false → s.fbit GLB_VBAT_STATUS_LOW = true →
    ∃ t, exec (.vbatRecover mv) s = .next t ∧ t.fget GLB_VBAT_STATUS_VBAT_MV = mv.toNat ∧
      t.fget GLB_VBAT_STATUS_LOW = 0 ∧ t.vbat.log.head? = some ⟨4, s.vbat.nextSeq, mv.toNat, s.secLo⟩ ∧
      keepsBut [GLB_VBAT_STATUS_VBAT_MV, GLB_VBAT_STATUS_PRESENT, GLB_VBAT_STATUS_LOW] s t ∧
      t = { s with regs := t.regs, vbat := t.vbat }) ∧
  (∀ (s : State) (readings : List (BitVec 16)) (vinMv iinMa : BitVec 16), s.up = true →
    ∃ t, exec (.tempSensorUpdate readings vinMv iinMa) s = .next t ∧
      (∀ i ∈ s.sensors, t.getReg (GLB_TEMP i) = tempWord (readings.getD i 0)) ∧
      t.fget GLB_PWR_MON_VIN_MV = vinMv.toNat ∧ t.fget GLB_PWR_MON_IIN_MA = iinMa.toNat ∧
      t.fbit GLB_PWR_STATUS_SENSOR_FAULT = t.sensorWords.any (fun w => !tempValid w) ∧
      (∀ x, highest t.sensorWords = some x → min 2400 (s.fint GLB_TEMP_CFG_ALARM_THR) ≤ x →
        t.fget GLB_PWR_STATUS_TEMP_ALARM = 1 ∧
        (s.fget GLB_PWR_STATUS_TEMP_ALARM = 0 → t.fget GLB_PWR_STATUS_TEMP_ALARM_SEEN = 1)) ∧
      (∀ x, highest t.sensorWords = some x →
        x < min 2400 (s.fint GLB_TEMP_CFG_ALARM_THR) - s.fget GLB_TEMP_CFG_HYST →
        t.fget GLB_PWR_STATUS_TEMP_ALARM = 0) ∧
      (∀ k, k ∉ s.sensors.map GLB_TEMP → k ∉ [GLB_PWR_MON, GLB_PWR_STATUS, CAL_STATUS] →
        t.getReg k = s.getReg k) ∧
      t = { s with freeCtr := t.freeCtr, regs := t.regs, hot := t.hot, syn := t.syn, mgt := t.mgt })

/-- 03 R73, R77, R104, 16 R427: every cause of a device reset leads to RESET with its cause waiting to be written,
every register outside the VBAT domain at its reset value, every queue of the blocks empty, and the VBAT store, the
power stage and the firmware banks kept. Complete here: kindlingWatchdog, resetCtrlWrite, rstNRelease. -/
def Obligations.DeviceResets : Prop :=
  ∀ (s : State) (q : Requester) (value : Word) (i : Instr) (cause : Nat),
    s.up = true ∧ s.life = .kindling ∧ (i, cause) = (.kindlingWatchdog, 6) ∨
    s.up = true ∧ s.takes q = true ∧ value.toNat / 2 ^ 16 = 0xC3A5 ∧ value.toNat % 2 = 1 ∧
      (i, cause) = (.resetCtrlWrite q value, match q with | .hearthA => 3 | .hearthB => 3 | .agent => 4 | .uart => 5) ∨
    s.power.rstLow = true ∧ s.life ≠ .dormant ∧ s.power.down = false ∧ (i, cause) = (.rstNRelease, 2) →
    ∃ t, exec i s = .next t ∧ t.life = .reset ∧
      t.causes = (if s.life = .reset ∧ s.resetFresh = true then s.causes ++ [cause] else [cause]) ∧
      t.vbatInvalid = s.vbatInvalid ∧
      (∀ k, k ∉ [GLB_RESET_CAUSE, GLB_VBAT_CTRL, GLB_VBAT_STATUS, GLB_VBAT_LOG_SEL, GLB_XING_DOMAIN] →
        t.getReg k = (resetWord s.part k).toNat) ∧
      (∀ k, k ∈ [GLB_RESET_CAUSE, GLB_VBAT_CTRL, GLB_VBAT_STATUS, GLB_VBAT_LOG_SEL] → t.getReg k = s.getReg k) ∧
      t.links = State.reset.links ∧ t.fwd = State.reset.fwd ∧ t.qw = State.reset.qw ∧ t.buf = State.reset.buf ∧
      t.cnt = State.reset.cnt ∧ t.time = State.reset.time ∧ t.hrt = State.reset.hrt ∧ t.nib = State.reset.nib ∧
      t.vbat = s.vbat ∧ t.upd.parts.map FwPart.bank0 = s.upd.parts.map FwPart.bank0 ∧
      t.upd.parts.map FwPart.bank1 = s.upd.parts.map FwPart.bank1 ∧ t.part = s.part ∧ t.out = s.out

/-- 02 R68, 03 R72: RST_N low takes the device out of service. It resets every block but the power stage and the VBAT
store, with the pins of "RST_N held low": ALARM_N released, the pulse outputs and MGT_TX at high impedance, no
termination, the cage resets low and the cage buses released. It interrupts no power-down. Complete here: rstNAssert.
-/
def Obligations.RstNHolds : Prop :=
  (∀ s : State, s.life ≠ .dormant → s.power.down = false →
    ∃ t, exec .rstNAssert s = .next t ∧ t.power = { s.power with rstLow := true } ∧ t.up = false ∧ t.life = .reset ∧
      t.links = State.reset.links ∧ t.fwd = State.reset.fwd ∧ t.qw = State.reset.qw ∧ t.buf = State.reset.buf ∧
      t.cnt = State.reset.cnt ∧ t.time = State.reset.time ∧ t.hrt = State.reset.hrt ∧ t.nib = State.reset.nib ∧
      t.vbat = s.vbat ∧ t.part = s.part ∧ t.out = s.out ∧ t.vbatInvalid = s.vbatInvalid ∧
      (∀ k, k ∉ [GLB_RESET_CAUSE, GLB_VBAT_CTRL, GLB_VBAT_STATUS, GLB_VBAT_LOG_SEL, GLB_XING_DOMAIN] →
        t.getReg k = (resetWord s.part k).toNat) ∧
      (∀ k, k ∈ [GLB_RESET_CAUSE, GLB_VBAT_CTRL, GLB_VBAT_STATUS, GLB_VBAT_LOG_SEL] → t.getReg k = s.getReg k) ∧
      t.alarmN = false ∧ t.coreTx = .highZ ∧ (∀ n : Fin 8, t.corePo n = .highZ) ∧ (∀ x : Fin 4, t.refinTerm x = false) ∧
      (∀ k : Fin 16, t.coreCgRst k = .low ∧ t.coreBus k = .highZ)) ∧
  (∀ s : State, s.life = .dormant ∨ s.power.down = true →
    exec .rstNAssert s = .next { s with power := { s.power with rstLow := true } })

/-- 03 R73, R74, 02 R54 to R58, 16 R421: kindling begins once the ember is stable. Where the VBAT clock runs the
lowest cause is written, the cause before moves to PREV and COUNT stops at 65,535; where it is absent none of the
three changes. After DORMANT the store's check and the first measurement of VBAT decide: a kept store gets its
power-up entry, a lost one starts anew. Complete here: kindlingBegin. -/
def Obligations.KindlingBegins : Prop :=
  (∀ (s : State) (mv : BitVec 12) (checkOk clockRuns : Bool) (bootId : Word),
      s.up = true → s.life = .reset → s.fromDormant = false → lowest s.causes < 256 →
      ∃ t, exec (.kindlingBegin mv checkOk clockRuns bootId) s = .next t ∧
        t = { s with
          regs := t.regs, hot := t.hot, life := t.life, phase := t.phase, causes := t.causes,
          fromDormant := t.fromDormant, vbat := t.vbat, upd := t.upd, mgt := t.mgt } ∧
        t.life = .kindling ∧ t.phase = 2 ∧
        t.causes = [] ∧ t.getReg MGT_BOOT_ID = bootId.toNat ∧ t.fbit GLB_XING_DOMAIN_VBAT_INVALID = !clockRuns ∧
        t.fget GLB_RESET_CAUSE_CAUSE = (if clockRuns then lowest s.causes else s.fget GLB_RESET_CAUSE_CAUSE) ∧
        t.fget GLB_RESET_CAUSE_PREV =
          (if clockRuns then s.fget GLB_RESET_CAUSE_CAUSE else s.fget GLB_RESET_CAUSE_PREV) ∧
        t.fget GLB_RESET_CAUSE_COUNT =
          (if clockRuns then min 65535 (s.fget GLB_RESET_CAUSE_COUNT + 1) else s.fget GLB_RESET_CAUSE_COUNT)) ∧
  (∀ (s : State) (mv : BitVec 12) (bootId : Word), s.up = true → s.life = .reset → s.fromDormant = true →
    lowest s.causes < 256 → 1900 ≤ mv.toNat →
    ∃ t, exec (.kindlingBegin mv true true bootId) s = .next t ∧
      t = { s with
        regs := t.regs, hot := t.hot, life := t.life, phase := t.phase, causes := t.causes,
        fromDormant := t.fromDormant, vbat := t.vbat, upd := t.upd, mgt := t.mgt } ∧
      t.life = .kindling ∧ t.phase = 2 ∧ t.fromDormant = false ∧ t.getReg MGT_BOOT_ID = bootId.toNat ∧
      t.fget GLB_RESET_CAUSE_CAUSE = lowest s.causes ∧ t.fget GLB_RESET_CAUSE_PREV = s.fget GLB_RESET_CAUSE_CAUSE ∧
      t.fget GLB_VBAT_STATUS_VBAT_MV = mv.toNat ∧ (⟨2, s.vbat.nextSeq, mv.toNat, s.dormantWord true⟩ : VbatEntry) ∈ t.vbat.log) ∧
  (∀ (s : State) (mv : BitVec 12) (checkOk : Bool) (bootId : Word), s.up = true → s.life = .reset →
    s.fromDormant = true → lowest s.causes < 256 → checkOk = false ∨ mv.toNat < 1900 →
    ∃ t, exec (.kindlingBegin mv checkOk true bootId) s = .next t ∧ t.life = .kindling ∧ t.phase = 2 ∧
      t.fbit GLB_VBAT_STATUS_STORE_LOST = true ∧ t.fget GLB_RESET_CAUSE_CAUSE = lowest s.causes ∧
      t.fget GLB_RESET_CAUSE_COUNT = 1)

/-- 03 R74, R82, R85, 13 R353: the steps of kindling follow one another. A verified Hearth A takes the token first,
else a verified Hearth B, else nobody. With two erased banks the defaults are loaded, else the first candidate bank
that checks; the first lock hands the spine over; the end leads to RUNNING or DEFAULTED. Complete here:
kindlingLeaseClaim, configImageLoad, spineFirstLock, kindlingComplete. -/
def Obligations.KindlingSteps : Prop :=
  (∀ s : State, s.up = true → s.life = .kindling → s.phase < 4 → (s.fw 0).starting = none → (s.fw 1).starting = none →
    s.hrt.a.verified = true →
    ∃ t, exec .kindlingLeaseClaim s = .next t ∧
      t = { s with
        regs := t.regs, hot := t.hot, phase := t.phase, vbat := t.vbat, cfg := t.cfg,
        syn := t.syn, hrt := t.hrt, upd := t.upd, mgt := t.mgt } ∧
      t.hrt.holder = some .a ∧ t.hrt.a.st = .active ∧ t.phase = 4 ∧
      t.life = .kindling) ∧
  (∀ (s : State) (heads : Bool × Bool) (ecc0 ecc1 trained : Bool), s.up = true → s.life = .kindling → s.phase = 4 →
    s.cfg.bank0 = .erased → s.cfg.bank1 = .erased → s.cfg.updateBank = none →
    ∃ t, exec (.configImageLoad heads ecc0 ecc1 trained) s = .next t ∧
      t = { s with
        regs := t.regs, hot := t.hot, phase := t.phase, bus := t.bus, cfg := t.cfg, links := t.links, fwd := t.fwd, qw := t.qw, buf := t.buf,
        cnt := t.cnt, time := t.time, trunk := t.trunk, syn := t.syn, nib := t.nib, upd := t.upd, mgt := t.mgt } ∧
      t.phase = 6 ∧
      t.fbit GLB_STATUS_CFG_DEFAULTED = true ∧ t.getReg CFG_ACTIVE_SEQ = 0 ∧ t.cfg.bank0 = .erased ∧
      t.cfg.bank1 = .erased) ∧
  (∀ (s : State) (h : Hearth), s.up = true → s.life = .kindling → s.phase = 6 → s.hrt.holder = some h →
    ∃ t, exec .spineFirstLock s = .next t ∧
      t = { s with regs := t.regs, hot := t.hot, phase := t.phase, syn := t.syn, nib := t.nib, cal := t.cal, mgt := t.mgt } ∧
      t.phase = 7 ∧ t.life = .kindling ∧
      t.fbit (SYN_SPINE_STATUS_INNER_LOCK (if h = .a then 0 else 1)) = true ∧
      t.fbit (SYN_SPINE_STATUS_CARRIES_SPINE (if h = .a then 0 else 1)) = true) ∧
  (∀ (s : State) (copy0 copy1 : Bool), s.up = true → s.life = .kindling → s.phase = 7 →
    s.fbit CAL_STATUS_RUNNING = false →
    ∃ t, exec (.kindlingComplete copy0 copy1) s = .next t ∧
      t = { s with
        regs := t.regs, hot := t.hot, life := t.life, phase := t.phase, bus := t.bus, links := t.links,
        qw := t.qw, syn := t.syn, mgt := t.mgt } ∧
      t.phase = 0 ∧
      t.life = (if t.fbit GLB_STATUS_CFG_DEFAULTED then .defaulted else .running)) ∧
  (∀ s : State, s.up = true → s.life = .kindling → s.phase < 4 → (s.fw 0).starting = none → (s.fw 1).starting = none →
    s.hrt.a.verified = false → s.hrt.b.verified = true →
    ∃ t, exec .kindlingLeaseClaim s = .next t ∧ t.hrt.holder = some .b ∧ t.hrt.b.st = .active ∧ t.phase = 4 ∧
      t.life = .kindling ∧
      t = { s with
        regs := t.regs, hot := t.hot, phase := t.phase, vbat := t.vbat, cfg := t.cfg,
        syn := t.syn, hrt := t.hrt, upd := t.upd, mgt := t.mgt }) ∧
  (∀ s : State, s.up = true → s.life = .kindling → s.phase < 4 → (s.fw 0).starting = none → (s.fw 1).starting = none →
    s.hrt.a.verified = false → s.hrt.b.verified = false →
    exec .kindlingLeaseClaim s = .next { s with phase := 3 }) ∧
  (∀ (s u : State) (heads : Bool × Bool) (ecc0 ecc1 trained : Bool) (h0 h1 : Nat × Nat) (b : Nat) (r : List Nat),
    s.up = true → s.life = .kindling → s.phase = 4 → h0 = s.readHead 0 heads.1 → h1 = s.readHead 1 heads.2 →
    s.candidates (decide (h0.1 = 0)) (decide (h1.1 = 0)) = b :: r →
    u = (s.showBank 0 h0.1 h0.2).showBank 1 h1.1 h1.2 →
    (u.judgeBank b (if b = 0 then ecc0 else ecc1)).1 = 0 →
    ∃ t, exec (.configImageLoad heads ecc0 ecc1 trained) s = .next t ∧
      t = { s with
        regs := t.regs, hot := t.hot, phase := t.phase, bus := t.bus, cfg := t.cfg, links := t.links, fwd := t.fwd, qw := t.qw, buf := t.buf,
        cnt := t.cnt, time := t.time, trunk := t.trunk, syn := t.syn, nib := t.nib, upd := t.upd, mgt := t.mgt } ∧
      t.phase = 6 ∧ t.fbit GLB_STATUS_CFG_DEFAULTED = s.fbit GLB_STATUS_CFG_DEFAULTED ∧
      t.getReg CFG_ACTIVE_SEQ = (bankSeq (s.cfgBank b)).getD 0 ∧ t.fget CFG_BANK_STATUS_LOADED_BANK = b)

/-- 14 R385, R386, R393: a part that starts a GOOD bank runs it when the bank passes every check of its verification,
and else does not start. A TRIAL bank that passes runs as TRIAL; one that fails is REJECTED with its reason and the
GOOD bank is started in its place. Every other part stays as it is. Complete here: firmwareVerified. -/
def Obligations.FirmwareStarts : Prop :=
  (∀ (s : State) (p : Fin 4) (b : Nat) (err0 err1 : Bool),
      s.up = true → s.upd.parts.length = 4 → (s.fw p).starting = some b → ((s.fw p).bank b).status = 3 →
      ∃ t, exec (.firmwareVerified p err0 err1) s = .next t ∧
        t = { s with regs := t.regs, hot := t.hot, bus := t.bus, qw := t.qw, buf := t.buf, hrt := t.hrt, upd := t.upd, mgt := t.mgt } ∧
        (t.fw p).running = (if s.verifyBank p b (if b = 0 then err0 else err1) = 0 then some b else none) ∧
        (t.fw p).starting = none ∧ (t.fw p).bank0 = (s.fw p).bank0 ∧ (t.fw p).bank1 = (s.fw p).bank1 ∧
        t.hrt.holder = s.hrt.holder ∧ (∀ q : Fin 4, q ≠ p → t.fw q = s.fw q)) ∧
  (∀ (s : State) (p : Fin 4) (b r g : Nat) (err0 err1 : Bool), s.up = true → s.upd.parts.length = 4 →
    (s.fw p).starting = some b → (s.fw p).trial = some b → (s.fw p).active = 1 - b →
    ((s.fw p).bank (1 - b)).status = 3 → r = s.verifyBank p b (if b = 0 then err0 else err1) →
    g = s.verifyBank p (1 - b) (if b = 0 then err1 else err0) →
    ∃ t, exec (.firmwareVerified p err0 err1) s = .next t ∧ (t.fw p).starting = none ∧
      (r = 0 → (t.fw p).running = some b ∧ ((t.fw p).bank b).status = 4) ∧
      (r ≠ 0 → (t.fw p).running = (if g = 0 then some (1 - b) else none) ∧ ((t.fw p).bank b).status = 5 ∧
        (g = 0 → (t.fw p).reason = r)) ∧
      (t.fw p).active = 1 - b ∧ (∀ q : Fin 4, q ≠ p → t.fw q = s.fw q) ∧
      t = { s with regs := t.regs, hot := t.hot, bus := t.bus, qw := t.qw, buf := t.buf, hrt := t.hrt, upd := t.upd, mgt := t.mgt })

/-- 03 R92, R95, R96, R98, R99: a session goes from IDLE through OPEN, CHECKING, CHECKED and ARMING to ARMED at the
commands of its owner and the ends of the check and of the distribution. An overflowed one fails its check; a timed
one takes its instant from CFG_COMMIT_TIME, any other the next whole millisecond after the lead. Complete here:
stageOpen, stageCheck, checkDone, stageArm, armDistributed. -/
def Obligations.SessionAdvances : Prop :=
  (∀ (s : State) (q : Requester) (flags : Word), s.takes q = true → s.inService = true → s.cfg.sess = .idle →
    ∃ t, exec (.stageOpen q flags) s = .next t ∧ t.cfg.sess = .opened ∧ t.cfg.owner = some q ∧ t.cfg.records = [] ∧
      t.fget CFG_COMMIT_STATUS_REFUSED = s.fget CFG_COMMIT_STATUS_REFUSED ∧
      keepsBut [CFG_STAGE_CTRL_TIMED, CFG_STAGE_CTRL_FORCE_LOCAL, CFG_STAGE_CTRL_READ_SHADOW] s t ∧
      t = { s with regs := t.regs, hot := t.hot, cfg := t.cfg }) ∧
  (∀ (s : State) (q : Requester) (flags : Word), s.takes q = true → s.inService = true → s.cfg.owner = some q →
    s.cfg.sess ∈ [SessState.opened, .checked, .failed] →
    ∃ t, exec (.stageCheck q flags) s = .next t ∧ t.cfg = { s.cfg with sess := .checking } ∧
      t = { s with regs := t.regs, hot := t.hot, cfg := t.cfg }) ∧
  (∀ s : State, s.up = true → s.cfg.sess = .checking → s.cfg.overflow = false →
    ∃ t, exec .checkDone s = .next t ∧
      t.cfg = { s.cfg with sess := if (s.checkSet s.cfg.records false []).code = 0 then .checked else .failed } ∧
      keepsBut [CFG_CHECK_RESULT_CODE, CFG_CHECK_RESULT_FAIL_CNT, ⟨CFG_CHECK_ADDR, 0, 32⟩] s t ∧
      t = { s with regs := t.regs, cfg := t.cfg }) ∧
  (∀ (s : State) (q : Requester) (flags : Word), s.takes q = true → s.inService = true → s.cfg.owner = some q →
    s.cfg.sess = .checked →
    flags.toNat / 2 ^ 5 % 2 = 0 → s.hrt.holder ≠ none →
    ∃ t, exec (.stageArm q flags) s = .next t ∧
      t = { s with regs := t.regs, hot := t.hot, cfg := t.cfg, mgt := t.mgt } ∧
      t.cfg.sess = .arming ∧ t.cfg.records = s.cfg.records ∧
      t.cfg.instant % 1000000 = 0 ∧ (100000 + 20 * s.cfg.records.length) * 2 ^ 48 + s.time.clock ≤ t.cfg.instant * 2 ^ 48 ∧
      t.cfg.instant * 2 ^ 48 < (1100000 + 20 * s.cfg.records.length) * 2 ^ 48 + s.time.clock) ∧
  (∀ s : State, s.up = true → s.cfg.sess = .arming →
    exec .armDistributed s = .next { s with cfg := { s.cfg with sess := .armed } }) ∧
  (∀ (s : State) (q : Requester) (flags : Word), s.takes q = true → s.inService = true → s.cfg.owner = some q →
    s.cfg.sess = .checked → flags.toNat / 2 ^ 5 % 2 = 1 → s.hrt.holder ≠ none → s.fget CFG_COMMIT_TIME_NS_NS < 1000000000 →
    s.time.clock + s.commitLead * 2 ^ 48 ≤ s.commitTimeNs * 2 ^ 48 →
    s.commitTimeNs * 2 ^ 48 ≤ s.time.clock + 3600 * 1000000000 * 2 ^ 48 → s.timeMode = .locked ∨ s.timeMode = .holdover →
    ∃ t, exec (.stageArm q flags) s = .next t ∧
      t = { s with regs := t.regs, hot := t.hot, cfg := t.cfg, mgt := t.mgt } ∧
      t.cfg.sess = .arming ∧ t.cfg.records = s.cfg.records ∧ t.cfg.instant = s.commitTimeNs) ∧
  (∀ s : State, s.up = true → s.cfg.sess = .checking → s.cfg.overflow = true →
    ∃ t, exec .checkDone s = .next t ∧
      t.cfg = { s.cfg with sess := .failed } ∧ t.fget CFG_CHECK_RESULT_CODE ∈ (s.checkSet s.cfg.records false [0x05]).code :: [] ∧
      keepsBut [CFG_CHECK_RESULT_CODE, CFG_CHECK_RESULT_FAIL_CNT, ⟨CFG_CHECK_ADDR, 0, 32⟩] s t ∧
      t = { s with regs := t.regs, cfg := t.cfg })

/-- 03 R91, R95: a write to a register of staged fields changes no register. One of the owner in OPEN, CHECKED or
FAILED becomes a record of the session, is charged 8 bytes and returns the session to OPEN; beyond 4 MiB it is
ignored, but for that return and the mark of an overflow. Every other one is ignored. Complete here: stagedWrite. -/
def Obligations.StagedWriteKept : Prop :=
  (∀ (s : State) (q : Requester) (addr value : Word) (d : RegDef) (ix : List Nat), s.takes q = true → s.up = true →
    findReg addr.toNat = some (d, ix) → absentAt s.part d ix = false → stagedMask d ≠ 0 → s.cfg.owner = some q →
    s.cfg.sess ∈ [SessState.opened, .checked, .failed] → recsCharge s.cfg.records + 8 ≤ 4 * 2 ^ 20 →
    exec (.stagedWrite q addr value) s =
      .next { s with cfg := { s.cfg with
        sess := .opened
        records := s.cfg.records ++ [.reg addr.toNat (stagedMask d &&& liveBits d ix) value.toNat false] } }) ∧
  (∀ (s : State) (q : Requester) (addr value : Word) (d : RegDef) (ix : List Nat), s.takes q = true → s.up = true →
    findReg addr.toNat = some (d, ix) → absentAt s.part d ix = false → stagedMask d ≠ 0 → s.cfg.owner = some q →
    s.cfg.sess ∈ [SessState.opened, .checked, .failed] → 4 * 2 ^ 20 < recsCharge s.cfg.records + 8 →
    exec (.stagedWrite q addr value) s =
      .next { s with cfg := { s.cfg with sess := .opened, overflow := true } }) ∧
  (∀ (s : State) (q : Requester) (addr value : Word),
    s.cfg.owner ≠ some q ∨ s.cfg.sess ∈ [SessState.idle, .checking, .arming, .armed] →
    exec (.stagedWrite q addr value) s = .next s)

/-- 03 R93, R94, R98 to R100: a session ends by ABORT of its owner, by 10 s without a write, or by its commit; its
records are discarded. The commit applies at its instant and not before, shows itself and ends DEFAULTED. An armed
session is aborted at least 10 µs before its instant, and the firmware of the holder may abort for any owner. A
command of a session that a requester may not give is refused, shows its code and changes nothing else. Complete here:
stageAbort, sessionTimeout, commitApply. -/
def Obligations.SessionEnds : Prop :=
  (∀ (s : State) (q : Requester) (flags : Word), s.takes q = true → s.inService = true →
    s.cfg.owner = some q ∨ s.isHolder q = true →
    s.cfg.sess ∈ [SessState.opened, .checked, .failed] ∨
      (s.cfg.sess ∈ [SessState.arming, .armed] ∧ s.time.clock + 10000 * 2 ^ 48 ≤ s.cfg.instant * 2 ^ 48) →
    ∃ t, exec (.stageAbort q flags) s = .next t ∧ t.cfg.sess = .idle ∧ t.cfg.owner = none ∧ t.cfg.records = [] ∧
      t.fget CFG_COMMIT_STATUS_REFUSED = s.fget CFG_COMMIT_STATUS_REFUSED ∧ t = { s with regs := t.regs, hot := t.hot, cfg := t.cfg }) ∧
  (∀ s : State, s.up = true → s.cfg.sess ∈ [SessState.opened, .checked, .failed] →
    ∃ t, exec .sessionTimeout s = .next t ∧
      t = { s with regs := t.regs, hot := t.hot, cfg := t.cfg, mgt := t.mgt } ∧
      t.cfg.sess = .idle ∧ t.cfg.owner = none ∧ t.cfg.records = [] ∧
      t.fget CFG_COMMIT_STATUS_SESSION_LOST = 1 ∧ bitOf t.mgt.latched 9 = true ∧
      keepsBut [CFG_STAGE_CTRL_READ_SHADOW, CFG_COMMIT_STATUS_SESSION_LOST] s t) ∧
  (∀ (s : State) (crossed : List (Nat × List Byte)), s.cfg.sess = .armed →
    s.time.clock < s.cfg.instant * 2 ^ 48 → exec (.commitApply crossed) s = .next s) ∧
  (∀ (s : State) (crossed : List (Nat × List Byte)), s.up = true → s.cfg.sess = .armed →
    s.cfg.instant * 2 ^ 48 ≤ s.time.clock →
    ∃ t, exec (.commitApply crossed) s = .next t ∧
      t = { s with
        out := t.out, regs := t.regs, hot := t.hot, life := t.life, bus := t.bus, cfg := t.cfg, links := t.links, fwd := t.fwd, qw := t.qw,
        buf := t.buf, cnt := t.cnt, time := t.time, trunk := t.trunk, syn := t.syn, nib := t.nib, mgt := t.mgt } ∧
      t.cfg.sess = .idle ∧ t.cfg.owner = none ∧ t.cfg.records = [] ∧
      t.fget CFG_COMMIT_STATUS_APPLIED = 1 ∧ t.fget CFG_BANK_STATUS_DIRTY = 1 ∧ t.fget FWD_EPOCH_DRAINING = 1 ∧
      t.life ≠ .defaulted) ∧
  (∀ (s : State) (q : Requester) (flags : Word), s.takes q = true → s.inService = true → s.cfg.sess ≠ .idle →
    ∃ t, exec (.stageOpen q flags) s = .next t ∧ t.fget CFG_COMMIT_STATUS_REFUSED = 1 ∧
      t.fget CFG_COMMIT_STATUS_REFUSE_CODE = 0x50 ∧ t.cfg = s.cfg ∧ t = { s with regs := t.regs, hot := t.hot }) ∧
  (∀ (s : State) (q : Requester) (flags : Word), s.takes q = true → s.inService = true → s.cfg.sess ≠ .idle →
    s.cfg.owner ≠ some q →
    ∃ t, exec (.stageCheck q flags) s = .next t ∧ t.fget CFG_COMMIT_STATUS_REFUSED = 1 ∧
      t.fget CFG_COMMIT_STATUS_REFUSE_CODE = 0x51 ∧ t.cfg = s.cfg ∧ t = { s with regs := t.regs, hot := t.hot }) ∧
  (∀ (s : State) (q : Requester) (flags : Word), s.takes q = true → s.inService = true → s.cfg.owner = some q →
    s.cfg.sess ∈ [SessState.opened, .checking, .failed] →
    ∃ t, exec (.stageArm q flags) s = .next t ∧ t.fget CFG_COMMIT_STATUS_REFUSED = 1 ∧
      t.fget CFG_COMMIT_STATUS_REFUSE_CODE = 0x52 ∧ t.cfg = s.cfg ∧ t = { s with regs := t.regs, hot := t.hot })

/-- 03 R81, R87, R88: a persist takes a snapshot of the configuration towards the bank that the running configuration
did not come from, with the next SEQ, and its success makes that bank the one the configuration is in; a failed one
keeps the running configuration's SEQ; one that may not run gives its reason. Blocks that fail join the bad-block
table of the bank. Complete here: persistStart, persistDone. -/
def Obligations.PersistRuns : Prop :=
  (∀ (s : State) (q : Requester) (value : Word), s.takes q = true → s.up = true → s.life ≠ .reset → s.cfg.persist = none →
    s.persistReason (s.snapshotSize s.snapshotRecs) (s.goodBlocks s.cfgTarget) = 0 →
    ∃ t, exec (.persistStart q value) s = .next t ∧ t.fget CFG_PERSIST_START = 1 ∧
      t.cfg = { s.cfg with persist := some ⟨s.cfgTarget, s.topSeq + 1, s.snapshotRecs, false⟩ } ∧
      keepsBut [CFG_PERSIST_START, CFG_PERSIST_DONE, CFG_PERSIST_SNAPSHOT_STALE] s t ∧
      t = { s with regs := t.regs, hot := t.hot, cfg := t.cfg }) ∧
  (∀ (s : State) (q : Requester) (value : Word), s.takes q = true → s.up = true → s.life ≠ .reset → s.cfg.persist = none →
    s.persistReason (s.snapshotSize s.snapshotRecs) (s.goodBlocks s.cfgTarget) ≠ 0 →
    ∃ t, exec (.persistStart q value) s = .next t ∧
      t = { s with regs := t.regs, hot := t.hot, mgt := t.mgt } ∧
      t.fget CFG_PERSIST_RESULT = s.persistReason (s.snapshotSize s.snapshotRecs) (s.goodBlocks s.cfgTarget) ∧
      bitOf t.mgt.latched 9 = true ∧ keepsBut [CFG_PERSIST_RESULT, CFG_PERSIST_DONE, CFG_PERSIST_SNAPSHOT_STALE] s t) ∧
  (∀ (s : State) (p : Persist) (bad : Nat), s.up = true → s.cfg.persist = some p → p.target < 2 → p.seq < 2 ^ 32 →
    ∃ t, exec (.persistDone ⟨0, bad⟩) s = .next t ∧
      t = { s with freeCtr := t.freeCtr, regs := t.regs, hot := t.hot, cfg := t.cfg } ∧
      t.fget CFG_PERSIST_START = 0 ∧ t.fget CFG_PERSIST_DONE = 1 ∧
      t.fget CFG_PERSIST_RESULT = 0 ∧ t.getReg CFG_ACTIVE_SEQ = p.seq ∧ t.fget CFG_BANK_STATUS_LOADED_BANK = p.target ∧
      t.fbit CFG_BANK_STATUS_DIRTY = p.stale ∧ t.cfg.persist = none ∧
      t.goodBlocks p.target = s.goodBlocks p.target - bad ∧ t.goodBlocks (1 - p.target) = s.goodBlocks (1 - p.target) ∧
      (p.target = 0 → t.cfg.bank0 = .snapshot p.seq p.recs ∧ t.cfg.bank1 = s.cfg.bank1) ∧
      (p.target = 1 → t.cfg.bank1 = .snapshot p.seq p.recs ∧ t.cfg.bank0 = s.cfg.bank0)) ∧
  (∀ (s : State) (p : Persist) (result bad : Nat), s.up = true → s.cfg.persist = some p → result ∈ [2, 4, 8] →
    ∃ t, exec (.persistDone ⟨result, bad⟩) s = .next t ∧
      t = { s with freeCtr := t.freeCtr, regs := t.regs, hot := t.hot, cfg := t.cfg, mgt := t.mgt } ∧
      t.fget CFG_PERSIST_START = 0 ∧ t.cfg.persist = none ∧
      t.fget CFG_PERSIST_RESULT = (if result = 2 then 2 else 4) ∧ bitOf t.mgt.latched 9 = true ∧
      t.getReg CFG_ACTIVE_SEQ = s.getReg CFG_ACTIVE_SEQ ∧
      t.fget CFG_BANK_STATUS_LOADED_BANK = s.fget CFG_BANK_STATUS_LOADED_BANK)

/-- 04 R112: a searching lane tries 25.78125, 10.3125 and 1.25 Gbaud in turn, keeps the rate at which it has block
lock, and starts again at the top once its link has been 0 for 1 s. Complete here: rateSearchDwell, rateFound,
rateSearchRestart. -/
def Obligations.RateSearch : Prop :=
  (∀ (s : State) (n : Fin 64), s.up = true → s.seeking n = true → s.links.ctlRestart = false →
    ∃ t, exec (.rateSearchDwell n) s = .next t ∧
      t.tried n = (if s.tried n = 3 then 2 else if s.tried n = 2 then 1 else 3) ∧
      t.lget (LANE_STATUS_BLOCK_LOCK n) = 0 ∧ keepsBut [LANE_STATUS_BLOCK_LOCK n] s t ∧
      t = { s with regs := t.regs, bus := t.bus, links := t.links }) ∧
  (∀ (s : State) (n : Fin 64), s.up = true → s.seeking n = true → s.links.ctlRestart = false →
    s.lget (LANE_STATUS_BLOCK_LOCK n) = 1 → s.tried n < 4 →
    ∃ t, exec (.rateFound n) s = .next t ∧
      t = { s with regs := t.regs, hot := t.hot, bus := t.bus, syn := t.syn, mgt := t.mgt } ∧
      t.lget (LANE_STATUS_RATE_FOUND n) = s.tried n ∧
      t.lget (LANE_STATUS_LSTATE n) = (if s.fbit (LANE_PRBS_CTRL_TX_EN n) then 5 else 3)) ∧
  (∀ (s : State) (n : Fin 64), s.up = true → s.laneOn n = true → s.searches n = true →
    s.link (s.portOf n) = false → s.links.ctlRestart = false →
    ∃ t, exec (.rateSearchRestart n) s = .next t ∧
      t = { s with regs := t.regs, hot := t.hot, bus := t.bus, links := t.links, syn := t.syn, mgt := t.mgt } ∧
      t.tried n = 3 ∧ t.lget (LANE_STATUS_RATE_FOUND n) = 0 ∧
      t.lget (LANE_STATUS_BLOCK_LOCK n) = 0 ∧
      t.lget (LANE_STATUS_LSTATE n) = (if s.fbit (LANE_PRBS_CTRL_TX_EN n) then 5 else 1))

/-- 04 R111, R115, R117: an enabled lane comes up step by step: signal, receive clock, block lock, and the link of its
port once every lane of it is ready. Complete here: signalPresent, cdrLockAcquired, blockLockAcquired, linkUp,
freqOfsUpdate. -/
def Obligations.LanesComeUp : Prop :=
  (∀ (s : State) (n : Fin 64), s.up = true → s.laneOn n = true →
    ∃ t, exec (.signalPresent (.data n)) s = .next t ∧
      t = { s with regs := t.regs, hot := t.hot, bus := t.bus, syn := t.syn, mgt := t.mgt } ∧
      t.lget (LANE_STATUS_SIGNAL n) = 1) ∧
  (∀ (s : State) (k : Fin 16), s.up = true → s.clklOn k = true →
    ∃ t, exec (.signalPresent (.clock k)) s = .next t ∧ t.fget (CLKL_ALIGN_STATUS_SIGNAL k) = 1 ∧
      keepsBut [CLKL_ALIGN_STATUS_SIGNAL k] s t ∧ t = { s with regs := t.regs, hot := t.hot }) ∧
  (∀ (s : State) (n : Fin 64), s.up = true → s.laneOn n = true → s.lget (LANE_STATUS_SIGNAL n) = 1 →
    ∃ t, exec (.cdrLockAcquired (.data n)) s = .next t ∧
      t = { s with regs := t.regs, hot := t.hot, bus := t.bus, syn := t.syn, mgt := t.mgt } ∧
      t.lget (LANE_STATUS_CDR_LOCK n) = 1) ∧
  (∀ (s : State) (k : Fin 16), s.up = true → s.clklOn k = true → s.fget (CLKL_ALIGN_STATUS_SIGNAL k) = 1 →
    ∃ t, exec (.cdrLockAcquired (.clock k)) s = .next t ∧ t.fget (CLKL_ALIGN_STATUS_RX_LOCK k) = 1 ∧
      keepsBut [CLKL_ALIGN_STATUS_RX_LOCK k] s t ∧ t = { s with regs := t.regs, hot := t.hot }) ∧
  (∀ (s : State) (n : Fin 64), s.up = true → s.laneOn n = true → s.laneClock n = true → s.seeking n = false →
    s.fbit (LANE_PRBS_CTRL_TX_EN n) = false →
    ∃ t, exec (.blockLockAcquired n) s = .next t ∧ t.lget (LANE_STATUS_BLOCK_LOCK n) = 1 ∧
      t.lget (LANE_STATUS_HI_BER n) = 0 ∧ t.lget (LANE_STATUS_LSTATE n) = 3 ∧
      t = { s with regs := t.regs, bus := t.bus }) ∧
  (∀ (s : State) (p : Fin 64), s.up = true → s.portReady p = true →
    ∃ t, exec (.linkUp p) s = .next t ∧ t.link p = true ∧ t.fget (PORT_STATUS_LF p) = 0 ∧
      t.fget (PORT_STATUS_RF p) = 0 ∧ (∀ n ∈ s.lanesOf p, t.lget (LANE_STATUS_LSTATE n) = 4) ∧
      t = { s with regs := t.regs, hot := t.hot, bus := t.bus, fwd := t.fwd, buf := t.buf }) ∧
  (∀ (s : State) (n : Fin 64) (ofs : Int), s.up = true → s.laneOn n = true → s.laneClock n = true →
    -32767 ≤ ofs → ofs ≤ 32767 →
    ∃ t, exec (.freqOfsUpdate n ofs) s = .next t ∧
      signedOf 16 (t.lget (LANE_STATUS_FREQ_OFS n)) = ofs ∧ t = { s with bus := t.bus })

/-- 04 R118: what loses a lane, or the link of its port, is seen in the receive domain or in the port's status, and
LINK becomes 0. Complete here: signalLoss, cdrUnlock, blockLockLoss, hiBer, faultReceived. -/
def Obligations.LanesAreLost : Prop :=
  (∀ (s : State) (n : Fin 64), s.up = true → s.lget (LANE_STATUS_SIGNAL n) = 1 →
    ∃ t, exec (.signalLoss (.data n)) s = .next t ∧
      t = { s with
        regs := t.regs, hot := t.hot, bus := t.bus, links := t.links, qw := t.qw, buf := t.buf,
        time := t.time, trunk := t.trunk, syn := t.syn, mgt := t.mgt } ∧
      t.lget (LANE_STATUS_SIGNAL n) = 0 ∧
      t.lget (LANE_STATUS_LOS_SEEN n) = 1) ∧
  (∀ (s : State) (n : Fin 64), s.up = true → s.lget (LANE_STATUS_CDR_LOCK n) = 1 →
    ∃ t, exec (.cdrUnlock (.data n)) s = .next t ∧
      t = { s with
        regs := t.regs, hot := t.hot, bus := t.bus, links := t.links, qw := t.qw, buf := t.buf,
        time := t.time, trunk := t.trunk, syn := t.syn, mgt := t.mgt } ∧
      t.lget (LANE_STATUS_CDR_LOCK n) = 0 ∧
      t.lget (LANE_STATUS_BLOCK_LOCK n) = 0 ∧ t.lget (LANE_STATUS_FREQ_OFS n) = 0x8000) ∧
  (∀ (s : State) (n : Fin 64), s.up = true → s.lget (LANE_STATUS_BLOCK_LOCK n) = 1 →
    ∃ t, exec (.blockLockLoss n) s = .next t ∧
      t = { s with regs := t.regs, hot := t.hot, bus := t.bus, qw := t.qw, buf := t.buf, mgt := t.mgt } ∧
      t.lget (LANE_STATUS_BLOCK_LOCK n) = 0 ∧
      t.link (s.portOf n) = false) ∧
  (∀ (s : State) (n : Fin 64), s.up = true → s.laneOn n = true → s.laneClock n = true →
    ∃ t, exec (.hiBer n) s = .next t ∧
      t = { s with regs := t.regs, hot := t.hot, bus := t.bus, qw := t.qw, buf := t.buf, mgt := t.mgt } ∧
      t.lget (LANE_STATUS_HI_BER n) = 1 ∧ t.link (s.portOf n) = false) ∧
  (∀ (s : State) (p : Fin 64) (remote : Bool), s.up = true → s.hasPort p = true →
    s.fbit (PORT_MODE_ENABLE p) = true → s.lanesOf p ≠ [] →
    ∃ t, exec (.faultReceived p remote) s = .next t ∧
      t = { s with regs := t.regs, hot := t.hot, bus := t.bus, qw := t.qw, buf := t.buf, mgt := t.mgt } ∧
      t.fget (if remote then PORT_STATUS_RF p else PORT_STATUS_LF p) = 1 ∧ t.link p = false)

/-- 04 R116, R119: a restart of a lane runs from its command or the lane controller's judgement until it is done, when
its crossings are released. Complete here: laneRestart, laneCmdRestart, laneRestartDone. -/
def Obligations.LaneRestarts : Prop :=
  (∀ (s : State) (n : Fin 64) (crossed : List Byte), s.up = true → s.laneOn n = true → s.laneInvalid n = true →
    s.lget (LANE_STATUS_SIGNAL n) = 1 → s.links.ctlRestart = false → n.val ∉ s.links.restarting →
    ∃ t, exec (.laneRestart n crossed) s = .next t ∧
      t = { s with
        out := t.out, regs := t.regs, hot := t.hot, bus := t.bus, links := t.links, fwd := t.fwd,
        qw := t.qw, buf := t.buf, cnt := t.cnt, mgt := t.mgt } ∧
      n.val ∈ t.links.restarting ∧ t.fget (LANE_CMD_RESTART n) = 1 ∧
      t.fget (LANE_ERR_INJECT_INJ_CNT n) = 0) ∧
  (∀ (s : State) (q : Requester) (n : Fin 64) (crossed : List Byte), s.takes q = true → s.up = true →
    s.laneOn n = true →
    s.fget (LANE_CMD_RESTART n) = 0 →
    ∃ t, exec (.laneCmdRestart q n crossed) s = .next t ∧
      t = { s with
        out := t.out, regs := t.regs, hot := t.hot, bus := t.bus, links := t.links, fwd := t.fwd,
        qw := t.qw, buf := t.buf, cnt := t.cnt, mgt := t.mgt } ∧
      n.val ∈ t.links.restarting ∧
      t.fget (LANE_CMD_RESTART n) = 1 ∧ t.fget (LANE_ERR_INJECT_INJ_CNT n) = 0) ∧
  (∀ (s : State) (q : Requester) (n : Fin 64) (crossed : List Byte), s.fget (LANE_CMD_RESTART n) = 1 →
    exec (.laneCmdRestart q n crossed) s = .next s) ∧
  (∀ (s : State) (n : Fin 64) (arrival : Option Nat), s.up = true → n.val ∈ s.links.restarting →
    s.links.ctlRestart = false →
    ∃ t, exec (.laneRestartDone n arrival) s = .next t ∧
      t = { s with regs := t.regs, hot := t.hot, bus := t.bus, links := t.links, qw := t.qw, mgt := t.mgt } ∧
      n.val ∉ t.links.restarting ∧ t.laneInvalid n = false ∧
      t.fget (LANE_CMD_RESTART n) = 0 ∧ t.lget (LANE_STATUS_CROSSING_INVALID n) = 0)

/-- 04 R121, R122, R124: a slip moves the word boundary by one of ten positions and a confirmation is judged at the
end of the window after the one that runs, where neither is ignored; a search starts with no try made. Complete here:
clklSlip, clklConfirm, clklAlignSearch, clklSearchRetry. -/
def Obligations.ClockLanesAlign : Prop :=
  (∀ (s : State) (q : Requester) (k : Fin 16), s.takes q = true → s.up = true → s.hasClkl k = true →
    s.fget (CLKL_ALIGN_STATUS_ALIGNED k) = 0 → s.fget (CLKL_SLIP_CONFIRM k) = 0 →
    ∃ t, exec (.clklSlip q k) s = .next t ∧ t.fget (CLKL_SLIP_POS k) = (s.fget (CLKL_SLIP_POS k) + 1) % 10 ∧
      keepsBut [CLKL_SLIP_POS k] s t ∧ t = { s with regs := t.regs }) ∧
  (∀ (s : State) (q : Requester) (k : Fin 16),
    s.fget (CLKL_ALIGN_STATUS_ALIGNED k) = 1 ∨ s.fget (CLKL_SLIP_CONFIRM k) = 1 →
    exec (.clklSlip q k) s = .next s) ∧
  (∀ (s : State) (q : Requester) (k : Fin 16), s.takes q = true → s.up = true → s.hasClkl k = true →
    s.fget (CLKL_SLIP_CONFIRM k) = 0 →
    ∃ t, exec (.clklConfirm q k) s = .next t ∧ t.fget (CLKL_SLIP_CONFIRM k) = 1 ∧
      mapGet (fun _ => 0) t.links.confirm k = 2 ∧ keepsBut [CLKL_SLIP_CONFIRM k] s t ∧
      t = { s with regs := t.regs, hot := t.hot, links := t.links }) ∧
  (∀ (s : State) (k : Fin 16), s.up = true → s.maySearch k = true → (∀ x ∈ s.links.searches, x.clkl ≠ k) →
    k.val ∉ s.links.retry →
    ∃ t, exec (.clklAlignSearch k) s = .next t ∧ (⟨k, 0, .windows 2⟩ : ClkSearch) ∈ t.links.searches ∧
      t = { s with links := t.links }) ∧
  (∀ (s : State) (k : Fin 16), s.up = true → s.maySearch k = true → k.val ∈ s.links.retry →
    ∃ t, exec (.clklSearchRetry k) s = .next t ∧ (⟨k, 0, .windows 2⟩ : ClkSearch) ∈ t.links.searches ∧
      k.val ∉ t.links.retry ∧ t = { s with links := t.links })

/-- 04 R122, R123, R125, R126, R128: the end of a window writes its result, counts the bit errors of a locked checker,
and aligns a clock lane whose pending confirmation it passes; a lost alignment clears ALIGNED, sets its flag and ends
a trunk; a required group that is no trunk holds the TRUNK alarm. Complete here: clklWindowEnd, alignLost,
trunkDownAlarm. -/
def Obligations.AlignmentJudged : Prop :=
  (∀ (s : State) (k : Fin 16) (commas : Fin 1025) (codeErr errBits : Nat), s.up = true → s.clklOn k = true →
    mapGet (fun _ => 0) s.links.confirm k = 0 → (∀ x ∈ s.links.searches, x.clkl ≠ k) →
    s.fget (CLKL_PRBS_CTRL_LOCK k) = 0 →
    ∃ t, exec (.clklWindowEnd k commas codeErr errBits) s = .next t ∧
      t.fget (CLKL_ALIGN_STATUS_COMMA_CNT k) = commas.val ∧
      t.fget (CLKL_ALIGN_STATUS_CODE_ERR k) = min 1023 codeErr ∧
      t.fget (CLKL_ALIGN_STATUS_WIN_SEQ k) = (s.fget (CLKL_ALIGN_STATUS_WIN_SEQ k) + 1) % 16 ∧
      keepsBut [CLKL_ALIGN_STATUS_COMMA_CNT k, CLKL_ALIGN_STATUS_CODE_ERR k, CLKL_ALIGN_STATUS_WIN_SEQ k] s t ∧
      t = { s with regs := t.regs }) ∧
  (∀ (s : State) (k : Fin 16), s.up = true → s.fget (CLKL_ALIGN_STATUS_ALIGNED k) = 1 → s.isTrunk k = false →
    ∃ t, exec (.alignLost k) s = .next t ∧
      t = { s with regs := t.regs, hot := t.hot, links := t.links, time := t.time, trunk := t.trunk, syn := t.syn, mgt := t.mgt } ∧
      t.fget (CLKL_ALIGN_STATUS_ALIGNED k) = 0 ∧
      t.fget (CLKL_ALIGN_STATUS_ALIGN_LOST_SEEN k) = 1 ∧
      keepsBut [CLKL_ALIGN_STATUS_ALIGNED k, CLKL_ALIGN_STATUS_ALIGN_LOST_SEEN k] s t) ∧
  (∀ (s : State) (g : Fin 16), s.up = true → s.life = .running → s.fget (PORT_TRUNK_REQUIRED g) = 1 →
    s.isTrunk g = false → g.val ∉ s.mgt.trunkDown →
    ∃ t, exec (.trunkDownAlarm g) s = .next t ∧ g.val ∈ t.mgt.trunkDown ∧ bitOf t.alarmBits 4 = true ∧
      t = { s with mgt := t.mgt }) ∧
  (∀ (s : State) (k : Fin 16), s.up = true → s.fget (CLKL_ALIGN_STATUS_ALIGNED k) = 1 → s.isTrunk k = true →
    ∃ t, exec (.alignLost k) s = .next t ∧
      t = { s with regs := t.regs, hot := t.hot, links := t.links, time := t.time, trunk := t.trunk, syn := t.syn, mgt := t.mgt } ∧
      t.fget (CLKL_ALIGN_STATUS_ALIGNED k) = 0 ∧ t.fget (CLKL_ALIGN_STATUS_ALIGN_LOST_SEEN k) = 1 ∧
      t.isTrunk k = false ∧ t.fget (PORT_STATUS_TRUNK_LOST_SEEN (4 * k)) = 1) ∧
  (∀ (s : State) (k : Fin 16) (commas : Fin 1025) (codeErr errBits : Nat), s.up = true → s.clklOn k = true →
    mapGet (fun _ => 0) s.links.confirm k = 1 → (∀ x ∈ s.links.searches, x.clkl ≠ k) → s.clklQuiet k = true →
    51 ≤ commas.val → codeErr = 0 →
    ∃ t, exec (.clklWindowEnd k commas codeErr errBits) s = .next t ∧ t.fget (CLKL_SLIP_CONFIRM k) = 0 ∧
      t.fget (CLKL_ALIGN_STATUS_ALIGNED k) = 1 ∧ t.fget (CLKL_ALIGN_STATUS_COMMA_CNT k) = commas.val) ∧
  (∀ (s : State) (k : Fin 16) (commas : Fin 1025) (codeErr errBits : Nat), s.up = true → s.clklOn k = true →
    s.fget (CLKL_PRBS_CTRL_LOCK k) = 1 →
    ∃ t, exec (.clklWindowEnd k commas codeErr errBits) s = .next t ∧
      t.fget (CLKL_ALIGN_STATUS_COMMA_CNT k) = commas.val ∧ t.fget (CLKL_ALIGN_STATUS_CODE_ERR k) = min 1023 codeErr ∧
      t.fget (CLKL_PRBS_ERRCNT_ERRCNT k) =
        min (s.fget (CLKL_PRBS_ERRCNT_ERRCNT k) + errBits) (2 ^ (CLKL_PRBS_ERRCNT_ERRCNT k).width - 1))

/-- 04 R128, R129, R130: the checker of an enabled lane locks and loses its lock with its flag; CLR empties the error
counter; a burst of 1 to 64 bits is sent and counted; TX_EN is written and takes the alignment of a clock lane.
Complete here: prbsCheckerLock, prbsLockLost, prbsClr, errInjectGo, prbsTxEn. -/
def Obligations.TestPatterns : Prop :=
  (∀ (s : State) (n : Fin 64), s.up = true → s.laneOn n = true → s.laneClock n = true →
    s.fget (LANE_PRBS_CTRL_RX_EN n) = 1 →
    ∃ t, exec (.prbsCheckerLock (.data n)) s = .next t ∧ t.fget (LANE_PRBS_CTRL_LOCK n) = 1 ∧
      keepsBut [LANE_PRBS_CTRL_LOCK n] s t ∧ t = { s with regs := t.regs, hot := t.hot }) ∧
  (∀ (s : State) (k : Fin 16), s.up = true → s.clklOn k = true → s.fget (CLKL_ALIGN_STATUS_RX_LOCK k) = 1 →
    s.fget (CLKL_PRBS_CTRL_RX_EN k) = 1 →
    ∃ t, exec (.prbsCheckerLock (.clock k)) s = .next t ∧ t.fget (CLKL_PRBS_CTRL_LOCK k) = 1 ∧
      keepsBut [CLKL_PRBS_CTRL_LOCK k] s t ∧ t = { s with regs := t.regs, hot := t.hot }) ∧
  (∀ (s : State) (n : Fin 64), s.up = true → s.fget (LANE_PRBS_CTRL_LOCK n) = 1 →
    ∃ t, exec (.prbsLockLost (.data n)) s = .next t ∧ t.fget (LANE_PRBS_CTRL_LOCK n) = 0 ∧
      t.fget (LANE_PRBS_CTRL_LOCK_LOST_SEEN n) = 1 ∧
      keepsBut [LANE_PRBS_CTRL_LOCK n, LANE_PRBS_CTRL_LOCK_LOST_SEEN n] s t ∧ t = { s with regs := t.regs, hot := t.hot }) ∧
  (∀ (s : State) (k : Fin 16), s.up = true → s.fget (CLKL_PRBS_CTRL_LOCK k) = 1 →
    ∃ t, exec (.prbsLockLost (.clock k)) s = .next t ∧ t.fget (CLKL_PRBS_CTRL_LOCK k) = 0 ∧
      t.fget (CLKL_PRBS_CTRL_LOCK_LOST_SEEN k) = 1 ∧
      keepsBut [CLKL_PRBS_CTRL_LOCK k, CLKL_PRBS_CTRL_LOCK_LOST_SEEN k] s t ∧ t = { s with regs := t.regs, hot := t.hot }) ∧
  (∀ (s : State) (q : Requester) (n : Fin 64), s.takes q = true → s.up = true → s.hasLane n = true →
    ∃ t, exec (.prbsClr q (.data n)) s = .next t ∧ t.lget (LANE_PRBS_ERRCNT_ERRCNT n) = 0 ∧
      t.fget (LANE_PRBS_ERRCNT_ERRCNT n) = 0 ∧ keepsBut [LANE_PRBS_ERRCNT_ERRCNT n] s t ∧
      t = { s with regs := t.regs, bus := t.bus }) ∧
  (∀ (s : State) (q : Requester) (k : Fin 16), s.takes q = true → s.up = true → s.hasClkl k = true →
    ∃ t, exec (.prbsClr q (.clock k)) s = .next t ∧ t.fget (CLKL_PRBS_ERRCNT_ERRCNT k) = 0 ∧
      keepsBut [CLKL_PRBS_ERRCNT_ERRCNT k] s t ∧ t = { s with regs := t.regs }) ∧
  (∀ (s : State) (q : Requester) (n : Fin 64), s.takes q = true → s.up = true → s.laneOn n = true →
    ∃ t, exec (.errInjectGo q (.data n)) s = .next t ∧
      t.out = .injected n (max 1 (min 64 (s.fget (LANE_ERR_INJECT_LEN n)))) :: s.out ∧
      t.fget (LANE_ERR_INJECT_INJ_CNT n) =
        min 65535 (s.fget (LANE_ERR_INJECT_INJ_CNT n) + 1) ∧
      keepsBut [LANE_ERR_INJECT_INJ_CNT n] s t ∧ t = { s with regs := t.regs, out := t.out }) ∧
  (∀ (s : State) (q : Requester) (k : Fin 16), s.takes q = true → s.up = true → s.clklOn k = true →
    exec (.errInjectGo q (.clock k)) s =
      .next (s.emit (.injected (64 + k) (max 1 (min 64 (s.fget (CLKL_PRBS_CTRL_INJ_LEN k))))))) ∧
  (∀ (s : State) (q : Requester) (n : Fin 64) (on : Bool), s.takes q = true → s.up = true → s.hasLane n = true →
    ∃ t, exec (.prbsTxEn q (.data n) on) s = .next t ∧
      t = { s with
        regs := t.regs, hot := t.hot, bus := t.bus, links := t.links, qw := t.qw, buf := t.buf,
        time := t.time, trunk := t.trunk, syn := t.syn, mgt := t.mgt } ∧
      t.fbit (LANE_PRBS_CTRL_TX_EN n) = on ∧
      (on = true → s.fbit (LANE_PRBS_CTRL_TX_EN n) = false → s.laneOn n = true → t.lget (LANE_STATUS_LSTATE n) = 5)) ∧
  (∀ (s : State) (q : Requester) (k : Fin 16) (on : Bool), s.takes q = true → s.up = true → s.hasClkl k = true →
    ∃ t, exec (.prbsTxEn q (.clock k) on) s = .next t ∧
      t = { s with
        regs := t.regs, hot := t.hot, bus := t.bus, links := t.links, qw := t.qw, buf := t.buf,
        time := t.time, trunk := t.trunk, syn := t.syn, mgt := t.mgt } ∧
      t.fbit (CLKL_PRBS_CTRL_TX_EN k) = on ∧
      (on = true → t.fget (CLKL_ALIGN_STATUS_ALIGNED k) = 0))

/-- 05 R134, R136, R164, 07 R209, 08 R259: a source that may send has its frame received: its window is kept with its
origin. A whole frame of less than 64 B takes a buffer of P0 and is a runt, or is dropped for want of one. Complete
here: frameParse. -/
def Obligations.FramesAreReceived : Prop :=
  (∀ (s : State) (n : Fin 64) (window : List Byte) (whole : Bool) (stamp : Nat) (old nextBad : Bool), s.up = true →
    s.mayReceive n = true → window ≠ [] →
    ∃ t f, exec (.frameParse (.port n) window whole stamp old nextBad) s = .next t ∧
      t = { s with freeCtr := t.freeCtr, regs := t.regs, hot := t.hot, fwd := t.fwd, buf := t.buf, cnt := t.cnt, time := t.time, mgt := t.mgt } ∧
      t.rxOf n = some f ∧
      f.window = window ∧ f.length = 0 ∧
      (whole = true → window.length < 64 →
        f.verdict = 2 ∧ f.buf.map bufPool = some 0 ∨ f.verdict = 8 ∧ f.buf = none)) ∧
  (∀ (s : State) (h : Hearth) (dests : BitVec 64) (window : List Byte) (whole : Bool) (stamp : Nat) (old nextBad : Bool),
    s.up = true → s.hrt.holder = some h → s.mayReceive (if h = .a then 64 else 65) = true → window ≠ [] →
    ∃ t f, exec (.frameParse (.hearth h dests) window whole stamp old nextBad) s = .next t ∧
      t = { s with regs := t.regs, hot := t.hot, fwd := t.fwd, buf := t.buf, cnt := t.cnt, time := t.time, mgt := t.mgt } ∧
      t.rxOf (if h = .a then 64 else 65) = some f ∧ f.window = window ∧ f.info.queue = 8 ∧ f.info.origin = 1)

/-- 05 R164, 15 R399, 16 R419: a frame ends: a runt is counted; a good frame is counted in its queue with its bytes; a
good management frame joins the agent's queue of 16 without its FCS or is dropped as BUSY. Complete here: frameEnd. -/
def Obligations.FramesEnd : Prop :=
  (∀ (s : State) (n : Fin 64) (f : RxFrame) (rest : List Byte) (kind : FrameEnd) (nextBad : Bool) (corrected : Nat),
    s.up = true → s.rxOf n = some f → f.info.src = n → f.window.length + rest.length < 64 →
    s.fbit CNT_STATUS_FROZEN = false → s.cntVal n 41 + 1 < 2 ^ 48 →
    ∃ t, exec (.frameEnd ⟨n.val, by omega⟩ rest kind ⟨nextBad, corrected⟩) s = .next t ∧
      t = { s with
        out := t.out, freeCtr := t.freeCtr, regs := t.regs, hot := t.hot, fwd := t.fwd, buf := t.buf,
        cnt := t.cnt, time := t.time, trunk := t.trunk, syn := t.syn, mgt := t.mgt } ∧
      t.rxOf n = none ∧
      t.cntVal n 41 = s.cntVal n 41 + 1) ∧
  (∀ (s : State) (n : Fin 64) (f : RxFrame) (rest : List Byte) (nextBad : Bool) (corrected : Nat), s.up = true →
    s.rxOf n = some f → f.info.src = n → f.info.seq = none → f.verdict = 11 →
    endJudge (f.window ++ rest) .whole = none →
    ∃ t, exec (.frameEnd ⟨n.val, by omega⟩ rest .whole ⟨nextBad, corrected⟩) s = .next t ∧
      t = { s with
        out := t.out, freeCtr := t.freeCtr, regs := t.regs, hot := t.hot, fwd := t.fwd, buf := t.buf,
        cnt := t.cnt, time := t.time, trunk := t.trunk, syn := t.syn, mgt := t.mgt } ∧
      t.rxOf n = none ∧
      t.mgt.requests = (if s.mgt.requests.length < 16 then
        s.mgt.requests ++ [⟨n, (f.window ++ rest).take ((f.window ++ rest).length - 4)⟩] else s.mgt.requests)) ∧
  (∀ (s : State) (n : Fin 64) (f : RxFrame) (rest : List Byte) (nextBad : Bool) (corrected : Nat), s.up = true →
    s.rxOf n = some f → f.info.src = n → f.info.queue < 10 → endJudge (f.window ++ rest) .whole = none →
    s.fbit CNT_STATUS_FROZEN = false → s.cntVal n (4 * f.info.queue) + 1 < 2 ^ 48 →
    s.cntVal n (4 * f.info.queue + 1) + (f.window ++ rest).length < 2 ^ 48 →
    ∃ t, exec (.frameEnd ⟨n.val, by omega⟩ rest .whole ⟨nextBad, corrected⟩) s = .next t ∧
      t = { s with
        out := t.out, freeCtr := t.freeCtr, regs := t.regs, hot := t.hot, fwd := t.fwd, buf := t.buf,
        cnt := t.cnt, time := t.time, trunk := t.trunk, syn := t.syn, mgt := t.mgt } ∧
      t.rxOf n = none ∧ t.cntVal n (4 * f.info.queue) = s.cntVal n (4 * f.info.queue) + 1 ∧
      t.cntVal n (4 * f.info.queue + 1) = s.cntVal n (4 * f.info.queue + 1) + (f.window ++ rest).length)

/-- 05 R149, R150, R153, R174, R176: the forwarding tables change as an address is learned, or moved where it wants to
be, as entries age out and as DYNAMIC entries are flushed; an epoch drains; the state of a recovery stream resets.
Complete here: learnInsert, ageOut, learnFlush, learnFlushDone, epochDrained, recoveryReset. -/
def Obligations.TablesChange : Prop :=
  (∀ (s : State) (slice : Fin 4) (l : Learn) (n : Nat), s.up = true →
    s.fwd.learns.find? (fun l => decide (l.slice = slice.val)) = some l →
    findKey s.fwd.tables 1 (macKey l.vid l.mac) = none → freeWay s.fwd.tables 1 (macKey l.vid l.mac) = some n →
    ∃ t, exec (.learnInsert slice) s = .next t ∧ t.entry 1 n = learnedEntry s.fwd.tables l.vid l.mac l.port ∧
      t.fwd.learns = s.fwd.learns.erase l ∧ (∀ k i, tableKey k i ≠ tableKey 1 n → t.entry k i = s.entry k i) ∧
      t = { s with fwd := t.fwd }) ∧
  (∀ (s : State) (i : Fin 262144), s.up = true → s.fget FWD_LEARN_CFG_AGE_S ≠ 0 → isDynamic (s.entry 1 i) = true →
    ∃ t, exec (.ageOut i) s = .next t ∧ t.entry 1 i = zeroEntry ∧
      (∀ k j, tableKey k j ≠ tableKey 1 i → t.entry k j = s.entry k j) ∧ t = { s with fwd := t.fwd }) ∧
  (∀ (s : State) (q : Requester) (port : Fin 64), s.takes q = true → s.up = true → s.hrt.holder ≠ none →
    s.fget FWD_LEARN_CMD_FLUSH = 0 → mapWf (fun _ => zeroEntry) s.fwd.tables = true →
    ∃ t, exec (.learnFlush q false port) s = .next t ∧
      t = { s with regs := t.regs, hot := t.hot, fwd := t.fwd, mgt := t.mgt } ∧
      t.fget FWD_LEARN_CMD_FLUSH = 1 ∧
      (∀ i : Fin 262144, t.entry 1 i = if isDynamic (s.entry 1 i) then zeroEntry else s.entry 1 i)) ∧
  (∀ s : State, s.up = true →
    ∃ t, exec .learnFlushDone s = .next t ∧ t.fget FWD_LEARN_CMD_FLUSH = 0 ∧ keepsBut [FWD_LEARN_CMD_FLUSH] s t ∧
      t = { s with regs := t.regs }) ∧
  (∀ s : State, s.up = true →
    ∃ t, exec .epochDrained s = .next t ∧ t.fget FWD_EPOCH_DRAINING = 0 ∧ t.fwd = { s.fwd with old := none } ∧
      keepsBut [FWD_EPOCH_DRAINING] s t ∧ t = { s with regs := t.regs, fwd := t.fwd }) ∧
  (∀ (s : State) (i : Fin 16384), s.up = true → entryBit (s.entry 3 i) 3 31 = true →
    entryBit (s.entry 3 i) 4 29 = true →
    ∃ t, exec (.recoveryReset i) s = .next t ∧ (t.streamOf i).takeAny = true ∧ (t.streamOf i).history = [] ∧
      (t.streamOf i).resets = ((s.streamOf i).resets + 1) % 2 ^ 32 ∧ (t.streamOf i).passed = (s.streamOf i).passed ∧
      (∀ j, j ≠ i.val → t.streamOf j = s.streamOf j) ∧ t = { s with fwd := t.fwd }) ∧
  (∀ (s : State) (slice : Fin 4) (l : Learn) (n : Nat), s.up = true →
    s.fwd.learns.find? (fun l => decide (l.slice = slice.val)) = some l →
    findKey s.fwd.tables 1 (macKey l.vid l.mac) = some n →
    ∃ t, exec (.learnInsert slice) s = .next t ∧
      t.entry 1 n = (if s.wantsLearn s.fwd.tables l.vid l.mac l.port then learnedEntry s.fwd.tables l.vid l.mac l.port
        else s.entry 1 n) ∧
      t.fwd.learns = s.fwd.learns.erase l ∧ (∀ k i, tableKey k i ≠ tableKey 1 n → t.entry k i = s.entry k i) ∧
      t = { s with fwd := t.fwd })

/-- 05 R142: a table command reads and writes through its requester's own registers. Outside the table a read gives
zeros; a write is staged; a search tells the entry, a free way or neither; the state of a stream or a filter is read
and, while a hearth holds the token, cleared; a command that names no such state, or an index outside the table,
changes nothing. Complete here: fwdTblRead, fwdTblWrite, fwdTblSearch, fwdTblReadState, fwdTblClearState. -/
def Obligations.TableCommands : Prop :=
  (∀ (s : State) (q : Requester) (table : Fin 16), s.takes q = true → s.up = true → s.readsShadow q = false →
    ∃ t, exec (.fwdTblRead q table) s = .next t ∧
      (∀ i < 8, t.getReg (FWD_TBL_DATA (reqIx q) i) =
        if inTable table (s.tblAddr q) then entryWord (s.entry table (s.tblAddr q)) i else 0) ∧
      t.fwd = s.fwd ∧ t = { s with regs := t.regs }) ∧
  (∀ (s : State) (q : Requester) (table : Fin 16), s.takes q = true → s.up = true → s.mayStage q = true →
    recsCharge s.cfg.records + 40 ≤ 4 * 2 ^ 20 →
    ∃ t, exec (.fwdTblWrite q table) s = .next t ∧
      t = { s with regs := t.regs, cfg := t.cfg, fwd := t.fwd, mgt := t.mgt } ∧
      t.fwd = s.fwd ∧
      t.cfg = { s.cfg with
        sess := .opened
        records := s.cfg.records ++ [.table table (s.tblAddr q) (stagedForm table (s.tblData q))] }) ∧
  (∀ (s : State) (q : Requester) (table : Fin 16), s.takes q = true → s.up = true → table.val = 1 ∨ table.val = 3 →
    ∃ t, exec (.fwdTblSearch q table) s = .next t ∧ t.fwd = s.fwd ∧
      t.fget (FWD_TBL_CMD_RESULT (reqIx q)) =
        (if (findKey s.fwd.tables table (s.tblData q)).isSome then 0
         else if (freeWay s.fwd.tables table (s.tblData q)).isSome then 1 else 2) ∧
      t = { s with regs := t.regs }) ∧
  (∀ (s : State) (q : Requester), s.takes q = true → s.up = true → inTable 5 (s.tblAddr q) = true →
    ∃ t, exec (.fwdTblReadState q 5) s = .next t ∧
      t.getReg (FWD_TBL_DATA (reqIx q) 0) = (s.filterOf (s.tblAddr q)).matched % 2 ^ 32 ∧
      t.getReg (FWD_TBL_DATA (reqIx q) 1) = (s.filterOf (s.tblAddr q)).passed % 2 ^ 32 ∧
      t.getReg (FWD_TBL_DATA (reqIx q) 5) = (s.filterOf (s.tblAddr q)).blocked.toNat ∧
      t = { s with regs := t.regs }) ∧
  (∀ (s : State) (q : Requester), s.takes q = true → s.up = true → s.hrt.holder ≠ none →
    inTable 5 (s.tblAddr q) = true →
    ∃ t, exec (.fwdTblClearState q 5) s = .next t ∧
      t.filterOf (s.tblAddr q) = { s.filterOf (s.tblAddr q) with
        matched := 0, passed := 0, sduFail := 0, red := 0, yellow := 0, blocked := false } ∧
      (∀ j, j ≠ s.tblAddr q → t.filterOf j = s.filterOf j) ∧ t = { s with regs := t.regs, fwd := t.fwd }) ∧
  (∀ (s : State) (q : Requester) (table : Fin 16), s.hrt.holder = none →
    ∃ t, exec (.fwdTblClearState q table) s = .next t ∧
      t = { s with regs := t.regs, hot := t.hot, cfg := t.cfg, fwd := t.fwd, mgt := t.mgt } ∧
      t.fwd = s.fwd) ∧
  (∀ (s : State) (q : Requester), s.takes q = true → s.up = true → inTable 3 (s.tblAddr q) = true →
    ∃ t, exec (.fwdTblReadState q 3) s = .next t ∧
      (∀ i < 8, t.getReg (FWD_TBL_DATA (reqIx q) i) = entryWord (streamWords (s.streamOf (s.tblAddr q))) i) ∧
      t.fget (FWD_TBL_CMD_RESULT (reqIx q)) = 0 ∧ t = { s with regs := t.regs }) ∧
  (∀ (s : State) (q : Requester), s.takes q = true → s.up = true → s.hrt.holder ≠ none →
    inTable 3 (s.tblAddr q) = true →
    ∃ t, exec (.fwdTblClearState q 3) s = .next t ∧
      t.streamOf (s.tblAddr q) = { s.streamOf (s.tblAddr q) with
        genSeq := 0, passed := 0, dups := 0, ooo := 0, lost := 0, resets := 0, rogue := 0, tagless := 0 } ∧
      (∀ j, j ≠ s.tblAddr q → t.streamOf j = s.streamOf j) ∧ t = { s with regs := t.regs, fwd := t.fwd }) ∧
  (∀ (s : State) (q : Requester) (table : Fin 16), s.takes q = true → s.up = true → table.val ≠ 1 → table.val ≠ 3 →
    ∃ t, exec (.fwdTblSearch q table) s = .next t ∧
      keepsBut [FWD_TBL_CMD_OP (reqIx q), FWD_TBL_CMD_TABLE (reqIx q)] s t ∧ t = { s with regs := t.regs }) ∧
  (∀ (s : State) (q : Requester) (table : Fin 16) (i : Instr), s.takes q = true → s.up = true → s.hrt.holder ≠ none →
    (table.val ≠ 3 ∧ table.val ≠ 5 ∨ inTable table (s.tblAddr q) = false) →
    i ∈ [Instr.fwdTblReadState q table, .fwdTblClearState q table] →
    ∃ t, exec i s = .next t ∧ keepsBut [FWD_TBL_CMD_OP (reqIx q), FWD_TBL_CMD_TABLE (reqIx q)] s t ∧
      t = { s with regs := t.regs })

/-- 05 R161, 07 R214, R217, R228, R235, 15 R399: a free transmitter takes the copy its scheduler chooses; a copy that
has been sent leaves its queue and its frame is on the wire; the queues of a port without a link are emptied. A copy
in the residue is queued once its frame has ended good and its queue admits it, or is dropped and counted as TIMEOUT.
Complete here: egressSelect, copySent, linkFlush, residueQueue, residueTimeout. -/
def Obligations.CopiesLeave : Prop :=
  (∀ (s u : State) (p : Fin 64) (stamp corrected q : Nat), s.up = true → s.inService = true → s.link p = true →
    s.txOf p = none → (s.credit p).choose p = some (u, q) → u.queueOf p q ≠ [] →
    ∃ t, exec (.egressSelect p stamp (.good corrected)) s = .next t ∧
      t = { s with freeCtr := t.freeCtr, regs := t.regs, hot := t.hot, fwd := t.fwd, buf := t.buf, cnt := t.cnt, mgt := t.mgt } ∧
      t.txOf p = some ⟨q, u.outStamp p stamp, u.stampStale p, none⟩ ∧
      (t.queueOf p q).head? = (u.queueOf p q).head?) ∧
  (∀ (s : State) (p : Fin 64) (stamp : Nat) (read : InkRead), s.up = true → (s.txOf p).isSome = true →
    exec (.egressSelect p stamp read) s = .next s) ∧
  (∀ (s : State) (p : Fin 64) (x : TxCopy) (c : Copy) (rest : List Copy), s.up = true → s.txOf p = some x →
    s.queueOf p x.queue = c :: rest → s.receivingCopy c = false →
    ∃ t bs bad, exec (.copySent p) s = .next t ∧
      t = { s with
        out := t.out, regs := t.regs, hot := t.hot, fwd := t.fwd, buf := t.buf, cnt := t.cnt, time := t.time,
        mgt := t.mgt } ∧
      t.out = .frame p bs bad :: s.out ∧ bad = x.blot.isSome ∧
      t.txOf p = none ∧ (t.queueOf p x.queue).take rest.length = rest ∧
      (s.fwd.residue = [] → t.queueOf p x.queue = rest)) ∧
  (∀ (s : State) (p : Fin 64), s.up = true → s.link p = false →
    ∃ t, exec (.linkFlush p) s = .next t ∧
      t = { s with regs := t.regs, hot := t.hot, fwd := t.fwd, buf := t.buf, mgt := t.mgt } ∧
      t.txOf p = none ∧ (∀ q < 10, t.queueOf p q = [])) ∧
  (∀ (s : State) (p : Fin 64), s.link p = true → exec (.linkFlush p) s = .next s) ∧
  (∀ (s : State) (p : Fin 64) (c : ResCopy), s.up = true → s.fwd.residue = [c] → c.port = p →
    (s.bufOf c.buf).endedGood = true → s.judge p c.info.queue (bufPool c.buf) = none →
    s.spills p c.info.queue (bufPool c.buf) = false →
    ∃ t, exec (.residueQueue p) s = .next t ∧
      t = { s with regs := t.regs, hot := t.hot, fwd := t.fwd, buf := t.buf, mgt := t.mgt } ∧
      t.fwd.residue = [] ∧
      t.queueOf p c.info.queue =
        s.queueOf p c.info.queue ++ [⟨.ink c.buf, bufPool c.buf, c.info, false⟩]) ∧
  (∀ (s : State) (p : Fin 64) (c : ResCopy), s.up = true →
    s.fwd.residue.find? (fun c => decide (c.port = p.val)) = some c →
    ∃ t, exec (.residueTimeout p) s = .next t ∧
      t = { s with regs := t.regs, hot := t.hot, fwd := t.fwd, buf := t.buf, mgt := t.mgt } ∧
      t.fwd = { s.fwd with residue := t.fwd.residue } ∧ (∀ x ∈ t.fwd.residue, x ∈ s.fwd.residue.erase c) ∧
      t.fget (FWD_RESIDUE_DROP_TIMEOUT p) = (s.fget (FWD_RESIDUE_DROP_TIMEOUT p) + 1) % 2 ^ 16 ∧
      (s.fwd.residue = [c] → keepsBut [FWD_RESIDUE_DROP_TIMEOUT p] s t))

/-- 07 R213, R223, R224, R227: a rebuilt pool serves again; a spilled copy moves to the peat bank and back in its
place in the queue, or is dropped and counted; a read of the inkwell with an uncorrectable error sets its flag and its
alarm; a restart of the peat bank runs from its command until it is done. Complete here: poolRebuildDone,
spillWriteDone, spillReadbackDone, peatRestart, peatRestartDone. -/
def Obligations.PeatBankServes : Prop :=
  (∀ (s : State) (p : Fin 4), s.up = true → s.fget (BUF_POOL_FREE_REBUILD p) = 1 →
    ∃ t, exec (.poolRebuildDone p) s = .next t ∧ t.fget (BUF_POOL_FREE_REBUILD p) = 0 ∧
      (s.fwd.residue = [] → keepsBut [BUF_POOL_FREE_REBUILD p] s t ∧ t.buf.queues = s.buf.queues) ∧
      t = { s with regs := t.regs, hot := t.hot, fwd := t.fwd, buf := t.buf }) ∧
  (∀ (s : State) (key k corrected : Nat) (rest : List Nat), s.up = true → s.buf.peatPend = key :: rest →
    firstPending (s.queueOf (key / 16) (key % 16)) = some k → (s.bufOf k).receiving = false →
    ∃ t, exec (.spillWriteDone (.good corrected)) s = .next t ∧ t.buf.peatPend.take rest.length = rest ∧
      (s.fwd.residue = [] → t.buf.peatPend = rest ∧ keepsBut [BUF_ECC_INK_CORR, BUF_ECC_CORR_SEEN] s t ∧
        t.queueOf (key / 16) (key % 16) =
          mapPending (fun _ c => some { c with held := .peat (s.bufOf k).bytes }) (s.queueOf (key / 16) (key % 16))) ∧
      t.fget BUF_ECC_INK_CORR = min (s.fget BUF_ECC_INK_CORR + corrected) (2 ^ BUF_ECC_INK_CORR.width - 1) ∧
      t = { s with regs := t.regs, hot := t.hot, fwd := t.fwd, buf := t.buf }) ∧
  (∀ (s : State) (p : Fin 64) (q : Fin 10) (bs : List Byte), s.up = true → firstPeat (s.queueOf p q) = some bs →
    s.readBack p + bs.length ≤ 32768 →
    ∃ t, exec (.spillReadbackDone p q true) s = .next t ∧
      t.queueOf p q = mapPeat (fun b c => some { c with held := .ready b }) (s.queueOf p q) ∧
      t = { s with buf := t.buf }) ∧
  (∀ (s : State) (p : Fin 64) (q : Fin 10) (bs : List Byte), s.up = true → firstPeat (s.queueOf p q) = some bs →
    ∃ t, exec (.spillReadbackDone p q false) s = .next t ∧
      t = { s with regs := t.regs, hot := t.hot, fwd := t.fwd, buf := t.buf, mgt := t.mgt } ∧
      t.fget BUF_ECC_PEAT_UNCORR_SEEN = 1 ∧ bitOf t.mgt.latched 10 = true ∧
      (s.fwd.residue = [] → t.queueOf p q = mapPeat (fun _ _ => none) (s.queueOf p q) ∧
        t.fget (BUF_Q_DROP_DROP p q) = (s.fget (BUF_Q_DROP_DROP p q) + 1) % 2 ^ 32)) ∧
  (∀ (s : State) (q : Requester), s.takes q = true → s.up = true → s.buf.peatRestart = false →
    ∃ t, exec (.peatRestart q) s = .next t ∧
      t = { s with
        vbat := t.vbat, out := t.out, freeCtr := t.freeCtr, regs := t.regs, hot := t.hot, fwd := t.fwd, buf := t.buf,
        cnt := t.cnt, upd := t.upd, mgt := t.mgt } ∧
      t.buf.peatRestart = true ∧ t.fget BUF_PEAT_CMD_RESTART = 1 ∧
      t.fget BUF_PEAT_STATUS_READY = 0) ∧
  (∀ s : State, s.up = true → s.buf.peatRestart = true →
    ∃ t, exec .peatRestartDone s = .next t ∧
      t = { s with regs := t.regs, hot := t.hot, bus := t.bus, qw := t.qw, buf := t.buf, upd := t.upd, mgt := t.mgt } ∧
      t.buf.peatRestart = false ∧ t.fget BUF_PEAT_CMD_RESTART = 0 ∧
      t.fget GLB_XING_DOMAIN_PEAT_INVALID = 0 ∧ ((t.fw 3).running ≠ none → t.fget BUF_PEAT_STATUS_READY = 1)) ∧
  (∀ (s : State) (key k off : Nat) (rest : List Nat), s.up = true → s.buf.peatPend = key :: rest →
    firstPending (s.queueOf (key / 16) (key % 16)) = some k → (s.bufOf k).receiving = false →
    ∃ t, exec (.spillWriteDone (.badData off)) s = .next t ∧
      t.fget BUF_ECC_INK_UNCORR_SEEN = 1 ∧ bitOf t.mgt.latched 10 = true ∧ t.time = s.time ∧
      t = { s with regs := t.regs, hot := t.hot, fwd := t.fwd, buf := t.buf, cnt := t.cnt, mgt := t.mgt })

/-- 07 R232, R233: with its gates disabled a port shows entry 0 and every gate open; enabled, it shows the gates of
one of its entries; a list that waited takes over. Complete here: gateEntryChange, gateListSwap. -/
def Obligations.GatesMove : Prop :=
  (∀ (s : State) (p : Fin 64), s.up = true → s.hasPort p = true → s.fbit (BUF_GATE_CFG_ENABLE p) = false →
    ∃ t, exec (.gateEntryChange p) s = .next t ∧ t.fget (BUF_GATE_STATUS_ENTRY p) = 0 ∧
      t.fget (BUF_GATE_STATUS_GATES p) = 0x3FF ∧
      keepsBut [BUF_GATE_STATUS_ENTRY p, BUF_GATE_STATUS_GATES p] s t ∧ t = { s with regs := t.regs, buf := t.buf }) ∧
  (∀ (s : State) (p : Fin 64), s.up = true → s.hasPort p = true → s.fbit (BUF_GATE_CFG_ENABLE p) = true →
    s.gateIndices p ≠ [] →
    ∃ t, exec (.gateEntryChange p) s = .next t ∧
      t = { s with regs := t.regs, buf := t.buf, mgt := t.mgt } ∧
      t.fget (BUF_GATE_STATUS_ENTRY p) ∈ s.gateIndices p ∧
      t.fget (BUF_GATE_STATUS_GATES p) = s.fget (BUF_GCL_STATE_GATES p (t.fget (BUF_GATE_STATUS_ENTRY p))) % 1024 ∧
      keepsBut [BUF_GATE_STATUS_ENTRY p, BUF_GATE_STATUS_GATES p] s t) ∧
  (∀ (s : State) (p : Fin 64) (g : GatePend), s.up = true → mapGet (fun _ => none) s.buf.gates p = some g →
    ∃ t, exec (.gateListSwap p) s = .next t ∧
      t = { s with regs := t.regs, hot := t.hot, buf := t.buf, mgt := t.mgt } ∧
      mapGet (fun _ => none) t.buf.gates p = none ∧
      t.fget (BUF_GATE_STATUS_PENDING p) = 0 ∧ t.fget (BUF_GATE_STATUS_SWAPPED_SEEN p) = 1)

/-- 06 R178, R183, R192, R198, R201: a window opens at its start where every condition holds, else the miss is
counted; it closes at once or after the frame in flight, also when its depth drifts; a swap exchanges the banks and is
counted. An egress guard band stands between its start and its end, at an enabled port, and changes nothing else.
Complete here: windowOpen, windowClose, elasticDrift, windowTableSwap, guardBandStart, guardBandEnd. -/
def Obligations.WindowsOpenAndClose : Prop :=
  (∀ (s u : State) (p : Fin 64) (i : Fin 1024) (arrivals : List Nat), s.up = true → s.inService = true →
    s.fget (QW_PORT_CFG_ENABLE p) = 1 → s.windowsRun p = true → i.val ∈ s.windows p → s.roomToOpen p = true →
    u = s.setArrivals (winIn (s.win p i)) arrivals → u.mayOpen p i arrivals = true →
    ∃ t, exec (.windowOpen p i arrivals) s = .next t ∧
      t.openOf p = some ⟨s.bankOf p, i, s.cycleNo p, winIn (s.win p i), u.depths p arrivals, false, s.lastOfOld p⟩ ∧
      t.fget (QW_STATUS_OPEN p) = 1 ∧ t.fget (QW_LAT_VALID p) = 1 ∧ t.fget (QW_LAT_INDEX p) = i ∧
      t = { s with regs := t.regs, hot := t.hot, qw := t.qw }) ∧
  (∀ (s u : State) (p : Fin 64) (i : Fin 1024) (arrivals : List Nat), s.up = true → s.inService = true →
    s.fget (QW_PORT_CFG_ENABLE p) = 1 → s.windowsRun p = true → i.val ∈ s.windows p → s.roomToOpen p = true →
    u = s.setArrivals (winIn (s.win p i)) arrivals → u.mayOpen p i arrivals = false →
    ∃ t, exec (.windowOpen p i arrivals) s = .next t ∧
      t = { s with regs := t.regs, hot := t.hot, qw := t.qw } ∧
      t.openOf p = s.openOf p ∧ t.fget (QW_STATUS_MISS_SEEN p) = 1 ∧
      t.fget (QW_STATUS_MISS_CNT p) = (s.fget (QW_STATUS_MISS_CNT p) + 1) % 2 ^ 16 ∧
      keepsBut [QW_STATUS_MISS_SEEN p, QW_STATUS_MISS_CNT p] s t) ∧
  (∀ (s : State) (p : Fin 64) (w : OpenWin), s.up = true → s.openOf p = some w →
    ∃ t, exec (.windowClose p) s = .next t ∧
      t = { s with regs := t.regs, qw := t.qw, mgt := t.mgt } ∧
      t.openOf p = (if w.frame.isSome then some { w with closing := true } else none) ∧
      t.fget (QW_STATUS_OPEN p) = (if w.frame.isSome then 1 else 0) ∧ keepsBut [QW_STATUS_OPEN p] s t) ∧
  (∀ (s : State) (p : Fin 64) (w : OpenWin), s.up = true → s.openOf p = some w →
    ∃ t, exec (.elasticDrift p) s = .next t ∧
      t = { s with regs := t.regs, hot := t.hot, qw := t.qw, mgt := t.mgt } ∧
      t.fget (QW_STATUS_DRIFT_SEEN p) = 1 ∧
      t.openOf p = (if w.frame.isSome then some { w with closing := true } else none) ∧
      keepsBut [QW_STATUS_DRIFT_SEEN p, QW_STATUS_OPEN p] s t) ∧
  (∀ (s : State) (p : Fin 64), s.up = true → s.fget (QW_ACTIVE_BANK_PENDING p) = 1 → s.bankOf p < 2 →
    ∃ t, exec (.windowTableSwap p) s = .next t ∧
      t = { s with regs := t.regs, hot := t.hot, qw := t.qw, mgt := t.mgt } ∧
      t.bankOf p = 1 - s.bankOf p ∧
      t.fget (QW_ACTIVE_BANK_PENDING p) = 0 ∧ t.fget (QW_ACTIVE_BANK_SWAPPED_SEEN p) = 1 ∧
      t.fget (QW_ACTIVE_BANK_SWAP_CNT p) = (s.fget (QW_ACTIVE_BANK_SWAP_CNT p) + 1) % 2 ^ 16 ∧
      t.qw.entries = s.qw.entries) ∧
  (∀ (s : State) (p : Fin 64), s.up = true → s.fget (QW_PORT_CFG_ENABLE p) = 1 →
    ∃ t, exec (.guardBandStart p) s = .next t ∧ p.val ∈ t.qw.guards ∧
      (∀ n, n ∈ t.qw.guards ↔ n = p.val ∨ n ∈ s.qw.guards) ∧ t = { s with qw := { s.qw with guards := t.qw.guards } }) ∧
  (∀ (s : State) (p : Fin 64), s.up = true →
    ∃ t, exec (.guardBandEnd p) s = .next t ∧ (∀ n, n ∈ t.qw.guards ↔ n ≠ p.val ∧ n ∈ s.qw.guards) ∧
      t = { s with qw := { s.qw with guards := t.qw.guards } })

/-- 06 R179, R193 to R197: a frame whose header matches passes an open window; a whole one leaves as it came; one with
a mismatch, an error or too little time leaves as a blot of at most what had come, and the window closes for its
cycle. Complete here: quillFrameStart, quillFrameEnd, quillOverrun. -/
def Obligations.QuillFramesPass : Prop :=
  (∀ (s : State) (p : Fin 64) (header : List Byte) (stamp : Nat) (w : OpenWin), s.up = true → s.openOf p = some w →
    w.closing = false → w.frame = none → headerFails (s.winEntry w.bank p w.index) header = none →
    ∃ t f, exec (.quillFrameStart p header stamp) s = .next t ∧
      t = { s with out := t.out, freeCtr := t.freeCtr, regs := t.regs, hot := t.hot, qw := t.qw, cnt := t.cnt, mgt := t.mgt } ∧
      t.openOf p = some { w with frame := some f } ∧
      f.bytes = header ∧ f.stamp = s.inStamp w.inPort stamp ∧ t.out = s.out) ∧
  (∀ (s : State) (p : Fin 64) (header : List Byte) (stamp : Nat) (w : OpenWin) (point : Nat), s.up = true →
    s.openOf p = some w → w.closing = false → w.frame = none → headerFails (s.winEntry w.bank p w.index) header = some point →
    ∃ t, exec (.quillFrameStart p header stamp) s = .next t ∧
      t = { s with out := t.out, freeCtr := t.freeCtr, regs := t.regs, hot := t.hot, qw := t.qw, cnt := t.cnt, mgt := t.mgt } ∧
      t.openOf p = none ∧
      t.out = .frame p (blotBytes (header.take point)) true :: s.out ∧ t.fget (QW_STATUS_CLOSED_SEEN p) = 1 ∧
      t.fget (QW_MISMATCH_CNT_MISMATCH p) = (s.fget (QW_MISMATCH_CNT_MISMATCH p) + 1) % 2 ^ 32) ∧
  (∀ (s : State) (p : Fin 64) (rest : List Byte) (w : OpenWin) (f : QFrame), s.up = true → s.openOf p = some w →
    w.frame = some f → fcsGood (f.bytes ++ rest) = true →
    ∃ t, exec (.quillFrameEnd p rest false) s = .next t ∧
      t = { s with out := t.out, regs := t.regs, hot := t.hot, qw := t.qw, cnt := t.cnt, mgt := t.mgt } ∧
      t.out = .frame p (f.bytes ++ rest) false :: s.out ∧
      t.openOf p = (if w.closing then none else some { w with frame := none })) ∧
  (∀ (s : State) (p : Fin 64) (rest : List Byte) (errored : Bool) (w : OpenWin) (f : QFrame), s.up = true →
    s.openOf p = some w → w.frame = some f → errored = true ∨ fcsGood (f.bytes ++ rest) = false →
    ∃ t bs, exec (.quillFrameEnd p rest errored) s = .next t ∧
      t = { s with out := t.out, regs := t.regs, hot := t.hot, qw := t.qw, cnt := t.cnt, mgt := t.mgt } ∧
      t.out = .frame p (blotBytes bs) true :: s.out ∧
      bs = (if errored then f.bytes ++ rest else (f.bytes ++ rest).take ((f.bytes ++ rest).length - 4)) ∧
      t.openOf p = none ∧ t.fget (QW_STATUS_CLOSED_SEEN p) = 1) ∧
  (∀ (s : State) (p : Fin 64) (sent : List Byte) (w : OpenWin) (f : QFrame), s.up = true → s.openOf p = some w →
    w.frame = some f →
    ∃ t, exec (.quillOverrun p sent) s = .next t ∧
      t = { s with out := t.out, regs := t.regs, hot := t.hot, qw := t.qw, cnt := t.cnt, mgt := t.mgt } ∧
      t.out = .frame p (blotBytes (f.bytes ++ sent)) true :: s.out ∧
      t.openOf p = none ∧ t.fget (QW_STATUS_CLOSED_SEEN p) = 1)

/-- 06 R188, R204: steering moves each lane of a port by at most 1 ps towards its target, and stands still without its
source's receive clock; a window table command reads, stages and shows entries of its requester's choice and, while a
hearth holds the token, clears the state of the active bank. Complete here: txphSteer, qwTblRead, qwTblWrite,
qwTblReadState, qwTblClearState. -/
def Obligations.WindowTable : Prop :=
  (∀ (s : State) (p : Fin 64) (arrivals : List Nat), s.up = true → s.hasPort p = true →
    s.fget (QW_PORT_CFG_SRC_EN p) = 1 →
    (s.lanesOf (s.fget (QW_PORT_CFG_PHASE_SRC p))).all (fun l => s.laneClock l) = false →
    ∃ t, exec (.txphSteer p arrivals) s = .next t ∧ t.fget (QW_STATUS_STEER_LOCK p) = 0 ∧
      t.fget (QW_STATUS_STEERING p) = 0 ∧ fieldOf (t.busWord .agent (QW_PHASE p)) 0 13 = 0x1FFF ∧ t.qw = s.qw ∧
      t = { s with regs := t.regs }) ∧
  (∀ (s : State) (q : Requester) (inactive : Bool), s.takes q = true → s.up = true → s.readsShadow q = false →
    ∃ t, exec (.qwTblRead q inactive) s = .next t ∧
      (∀ i < 5, t.getReg (QW_TBL_DATA (reqIx q) i) =
        entryWord (s.winEntry (if inactive then 1 - s.bankOf (s.qwSel q).1 else s.bankOf (s.qwSel q).1)
          (s.qwSel q).1 (s.qwSel q).2) i) ∧
      t = { s with regs := t.regs }) ∧
  (∀ (s : State) (q : Requester) (inactive : Bool), s.takes q = true → s.up = true → s.mayStage q = true →
    recsCharge s.cfg.records + 40 ≤ 4 * 2 ^ 20 →
    ∃ t, exec (.qwTblWrite q inactive) s = .next t ∧
      t = { s with regs := t.regs, cfg := t.cfg, qw := t.qw, mgt := t.mgt } ∧
      t.qw = s.qw ∧
      t.cfg = { s.cfg with
        sess := .opened
        records := s.cfg.records ++ [.window (s.qwSel q).1 (s.qwSel q).2 (s.qwData q)] }) ∧
  (∀ (s : State) (q : Requester), s.takes q = true → s.up = true →
    ∃ t, exec (.qwTblReadState q false) s = .next t ∧
      t.getReg (QW_TBL_DATA (reqIx q) 0) =
        (s.winState (s.bankOf (s.qwSel q).1) (s.qwSel q).1 (s.qwSel q).2).openings % 2 ^ 32 ∧
      t.getReg (QW_TBL_DATA (reqIx q) 1) =
        (s.winState (s.bankOf (s.qwSel q).1) (s.qwSel q).1 (s.qwSel q).2).passed % 2 ^ 32 ∧
      t = { s with regs := t.regs }) ∧
  (∀ (s : State) (q : Requester) (inactive : Bool), s.takes q = true → s.up = true → s.hrt.holder ≠ none →
    ∃ t, exec (.qwTblClearState q inactive) s = .next t ∧
      t.winState (s.bankOf (s.qwSel q).1) (s.qwSel q).1 (s.qwSel q).2 = winIdle ∧
      t = { s with regs := t.regs, hot := t.hot, qw := t.qw }) ∧
  (∀ (s : State) (q : Requester) (inactive : Bool), s.hrt.holder = none →
    ∃ t, exec (.qwTblClearState q inactive) s = .next t ∧
      t = { s with regs := t.regs, hot := t.hot, cfg := t.cfg, qw := t.qw, mgt := t.mgt } ∧
      t.qw = s.qw) ∧
  (∀ (s u : State) (p : Fin 64) (arrivals : List Nat), s.up = true → s.hasPort p = true →
    s.fget (QW_PORT_CFG_SRC_EN p) = 1 → s.sourceClock p = true → s.heldGroup 1 = false →
    u = s.setArrivals (s.fget (QW_PORT_CFG_PHASE_SRC p)) arrivals →
    ∃ t, exec (.txphSteer p arrivals) s = .next t ∧ t = { s with regs := t.regs, qw := t.qw } ∧
      (∀ m < 4, ∀ l ∈ (s.lanesOf p)[m]?.toList, (t.txphOf l : Int) =
        ((s.txphOf l : Int) + (shorterWay (s.blockPs p) (s.targetPs p) (u.reqPs p l (arrivals.getD m 0))).sign).emod
          (s.blockPs p)) ∧
      (∀ l < 64, l ∉ s.lanesOf p → t.txphOf l = s.txphOf l)) ∧
  (∀ (s : State) (q : Requester), s.takes q = true → s.up = true →
    ∃ t, exec (.qwTblReadState q true) s = .next t ∧
      t.getReg (QW_TBL_DATA (reqIx q) 0) =
        (s.winState (1 - s.bankOf (s.qwSel q).1) (s.qwSel q).1 (s.qwSel q).2).openings % 2 ^ 32 ∧
      t.getReg (QW_TBL_DATA (reqIx q) 1) =
        (s.winState (1 - s.bankOf (s.qwSel q).1) (s.qwSel q).1 (s.qwSel q).2).passed % 2 ^ 32 ∧
      t = { s with regs := t.regs })

/-- 08 R245 to R248: a write that the gate lets through moves the rate, the slew remainder or the clock, each within
its limits; one of a hearth that is not the holder sets GATE_VIOL_SEEN and moves nothing; a step with a bad operand is
refused. Complete here: timeRateWrite, timeSlew, timeStep. -/
def Obligations.TimeMoves : Prop :=
  (∀ (s : State) (q : Requester) (low : Word), s.up = true → s.timeGate q = true →
    ∃ t r, exec (.timeRateWrite q low) s = .next t ∧
      r = signedOf 48 (s.shadowOf q TIME_RATE_HI % 2 ^ 16 * 2 ^ 32 + low.toNat) ∧
      t.rate = max (-2 ^ 38) (min (2 ^ 38) r) ∧
      t.fbit TIME_STATE_RATE_CLAMP_SEEN = (s.fbit TIME_STATE_RATE_CLAMP_SEEN || decide (r < -2 ^ 38) || decide (2 ^ 38 < r)) ∧
      t.time = s.time ∧ t = { s with regs := t.regs, hot := t.hot }) ∧
  (∀ (s : State) (q : Requester) (amount : Word), s.up = true → s.timeGate q = true →
    ∃ t, exec (.timeSlew q amount) s = .next t ∧
      t.time.slew = max (-(2 ^ 31) * 2 ^ 32) (min ((2 ^ 31 - 1) * 2 ^ 32) (s.time.slew + amount.toInt * 2 ^ 32)) ∧
      t.time = { s.time with slew := t.time.slew } ∧
      keepsBut [TIME_STATE_RATE_CLAMP_SEEN] s t ∧ t = { s with regs := t.regs, hot := t.hot, time := t.time }) ∧
  (∀ (s : State) (q : Requester) (mode : Fin 4), s.up = true → s.timeGate q = true →
    1000000000 ≤ s.fget TIME_STEP_NS_NS →
    ∃ t, exec (.timeStep q mode) s = .next t ∧ t.fget TIME_STEP_ERR_SEEN = 1 ∧ t.time = s.time ∧
      keepsBut [TIME_STEP_MODE, TIME_STEP_ERR_SEEN] s t ∧ t = { s with regs := t.regs, hot := t.hot }) ∧
  (∀ (s : State) (q : Requester) (mode : Fin 4), s.up = true → s.timeGate q = true →
    s.fget TIME_STEP_NS_NS < 1000000000 → (mode = 1 → s.stepOperand * 2 ^ 48 ≤ s.time.clock) →
    s.cfg.sess ≠ .arming → s.cfg.sess ≠ .armed →
    ∃ t, exec (.timeStep q mode) s = .next t ∧
      t = { s with
        out := t.out, freeCtr := t.freeCtr, regs := t.regs, hot := t.hot, life := t.life, bus := t.bus, cfg := t.cfg, links := t.links, fwd := t.fwd, qw := t.qw,
        buf := t.buf, cnt := t.cnt, time := t.time, trunk := t.trunk, syn := t.syn, nib := t.nib, mgt := t.mgt } ∧
      t.time.slew = 0 ∧
      t.time.clock = (if mode = 1 then s.time.clock - s.stepOperand * 2 ^ 48
        else if mode = 2 then s.stepOperand * 2 ^ 48
        else (s.time.clock + s.stepOperand * 2 ^ 48) % (2 ^ 48 * 1000000000 * 2 ^ 48)) ∧
      t.time.sliceCopy = t.time.clock ∧ t.time.laneCopy = t.time.clock) ∧
  (∀ (s : State) (q : Requester) (h : Hearth) (i : Instr), s.up = true → hearthOf q = some h → s.hrt.holder ≠ some h →
    (∃ low, i = .timeRateWrite q low) ∨ (∃ amount, i = .timeSlew q amount) ∨ (∃ mode, i = .timeStep q mode) →
    ∃ t, exec i s = .next t ∧ t.fget HRT_EVENTS_GATE_VIOL_SEEN = 1 ∧ keepsBut [HRT_EVENTS_GATE_VIOL_SEEN] s t ∧
      t = { s with regs := t.regs, hot := t.hot })

/-- 01 R22, 08 R242, R250, R265, R317: the copies of the time core follow it; a pop takes the head of a two-step
queue; the loss and the change of an edge instance's parent are shown, and where the instance is the time source they
take the core from LOCKED into HOLDOVER without a step. Complete here: timeCopyReload, tsqPop, masterLost,
masterChange. -/
def Obligations.TimeSourcesSeen : Prop :=
  (∀ s : State, s.spineRuns = true →
    exec .timeCopyReload s =
      .next { s with
        time := { s.time with sliceCopy := s.time.clock, laneCopy := s.time.clock },
        syn := { s.syn with rho := s.rate + s.slewStep } }) ∧
  (∀ (s : State) (q : Requester) (j : Fin 6), s.takes q = true → s.up = true → s.tsqOf j = [] →
    ∃ t, exec (.tsqPop q j) s = .next t ∧ t.getReg (TSQ_ENTRY (reqIx q) j) = 0 ∧ t.tsqOf j = [] ∧
      t = { s with regs := t.regs, time := t.time }) ∧
  (∀ (s : State) (q : Requester) (j : Fin 6) (e : TsqEntry) (rest : List TsqEntry), s.takes q = true → s.up = true →
    s.tsqOf j = e :: rest →
    ∃ t, exec (.tsqPop q j) s = .next t ∧ t.tsqOf j = rest ∧ t.getReg (TSQ_ENTRY (reqIx q) j) / 2 ^ 31 = 1 ∧
      t.getReg (TSQ_ENTRY (reqIx q) j) % 2 ^ 16 = e.seqId % 2 ^ 16 ∧
      t.getReg (TSQ_ENTRY_NS (reqIx q) j) = e.stamp / 2 ^ 16 % 1000000000 ∧
      (∀ k : Fin 6, k ≠ j → t.tsqOf k = s.tsqOf k) ∧ t = { s with regs := t.regs, time := t.time }) ∧
  (∀ (s : State) (i : Fin 8), s.up = true → s.fget (TIME_INST_CFG_ENABLE i) = 1 →
    s.fget (TIME_INST_STATUS_PARENT_VALID i) = 1 → s.isTimeSource i = false →
    ∃ t, exec (.masterLost i) s = .next t ∧ t.fget (TIME_INST_STATUS_MASTER_LOST_SEEN i) = 1 ∧
      t.fget (TIME_INST_STATUS_PARENT_VALID i) = 0 ∧
      keepsBut [TIME_INST_STATUS_MASTER_LOST_SEEN i, TIME_INST_STATUS_PARENT_VALID i] s t ∧
      t = { s with regs := t.regs, hot := t.hot }) ∧
  (∀ (s : State) (i : Fin 8) (port : Fin 64) (steps : Nat), s.up = true → s.fget (TIME_INST_CFG_ENABLE i) = 1 →
    s.isTimeSource i = false →
    ∃ t, exec (.masterChange i port steps) s = .next t ∧ t.fget (TIME_INST_STATUS_PARENT_VALID i) = 1 ∧
      t.fget (TIME_INST_STATUS_PARENT_PORT i) = port ∧
      t.fget (TIME_INST_STATUS_MASTER_CHANGE_SEEN i) =
        (if s.fbit (TIME_INST_STATUS_PARENT_VALID i) then 1 else s.fget (TIME_INST_STATUS_MASTER_CHANGE_SEEN i)) ∧
      t = { s with regs := t.regs, hot := t.hot }) ∧
  (∀ (s : State) (i : Fin 8), s.up = true → s.fget (TIME_INST_CFG_ENABLE i) = 1 →
    s.fget (TIME_INST_STATUS_PARENT_VALID i) = 1 → s.isTimeSource i = true →
    ∃ t, exec (.masterLost i) s = .next t ∧ t.fget (TIME_INST_STATUS_MASTER_LOST_SEEN i) = 1 ∧
      t.fget (TIME_INST_STATUS_PARENT_VALID i) = 0 ∧ (s.timeMode = .locked → t.timeMode = .holdover) ∧
      t.time.clock = s.time.clock ∧ t.rate = s.rate ∧
      t = { s with regs := t.regs, hot := t.hot, time := t.time, trunk := t.trunk, syn := t.syn, mgt := t.mgt }) ∧
  (∀ (s : State) (i : Fin 8) (port : Fin 64) (steps : Nat), s.up = true → s.fget (TIME_INST_CFG_ENABLE i) = 1 →
    s.isTimeSource i = true → s.fget (TIME_INST_STATUS_PARENT_VALID i) = 1 →
    ∃ t, exec (.masterChange i port steps) s = .next t ∧ t.fget (TIME_INST_STATUS_PARENT_VALID i) = 1 ∧
      t.fget (TIME_INST_STATUS_PARENT_PORT i) = port ∧ t.fget (TIME_INST_STATUS_STEPS_REMOVED i) = min 255 steps ∧
      t.fget (TIME_INST_STATUS_MASTER_CHANGE_SEEN i) = 1 ∧ (s.timeMode = .locked → t.timeMode = .holdover) ∧
      t = { s with regs := t.regs, hot := t.hot, time := t.time, trunk := t.trunk, syn := t.syn, mgt := t.mgt })

/-- 09 R269 to R275, R280, R291: an enabled clock lane sends a superframe of 4,125 symbols whose record of 72 bytes
holds its send time at the reference plane and the next SF_SEQ; a superframe that is missing or bad is counted; a good
one that answers a superframe of this node gives the round trip, from its receive stamp at the reference plane.
Complete here: superframeSend, superframeReceive. -/
def Obligations.SuperframesPass : Prop :=
  (∀ (s : State) (k : Fin 16) (tx : Nat) (r : List Byte), s.up = true → s.clklSends k = true →
    r = s.sfRecord k (s.txPlane k tx) →
    ∃ t, exec (.superframeSend k tx) s = .next t ∧ t.out = .superframe k (superframe r) :: s.out ∧
      r.length = 72 ∧ (superframe r).length = 4125 ∧ (t.lydLink k).sendSeq = ((s.lydLink k).sendSeq + 1) % 2 ^ 16 ∧
      t.regs = s.regs ∧ t = { s with out := t.out, freeCtr := t.freeCtr, trunk := t.trunk }) ∧
  (∀ (s : State) (k : Fin 16) (rx bit : Nat) (edges : List (Nat × Int)), s.up = true →
    s.fget (LYD_LINK_STATUS_RUNNING k) = 1 →
    ∃ t, exec (.superframeReceive k none rx ⟨bit, edges⟩) s = .next t ∧
      t = { s with
        freeCtr := t.freeCtr, regs := t.regs, hot := t.hot, links := t.links, time := t.time,
        trunk := t.trunk, syn := t.syn, mgt := t.mgt } ∧
      t.fget (LYD_LINK_CNT_SF_MISSING k) = (s.fget (LYD_LINK_CNT_SF_MISSING k) + 1) % 2 ^ 16 ∧
      (t.lydLink k).missing = min 8 ((s.lydLink k).missing + 1)) ∧
  (∀ (s : State) (k : Fin 16) (r : List Byte) (rx bit : Nat) (edges : List (Nat × Int)), s.up = true →
    s.fget (LYD_LINK_STATUS_RUNNING k) = 1 → beAt r 68 4 ≠ recordCheck r →
    ∃ t, exec (.superframeReceive k (some r) rx ⟨bit, edges⟩) s = .next t ∧
      t = { s with
        freeCtr := t.freeCtr, regs := t.regs, hot := t.hot, links := t.links, time := t.time,
        trunk := t.trunk, syn := t.syn, mgt := t.mgt } ∧
      t.fget (LYD_LINK_CNT_SF_BAD k) = (s.fget (LYD_LINK_CNT_SF_BAD k) + 1) % 2 ^ 16 ∧
      t.fget (LYD_LINK_CNT_SF_MISSING k) = (s.fget (LYD_LINK_CNT_SF_MISSING k) + 1) % 2 ^ 16) ∧
  (∀ (s : State) (k : Fin 16) (r : List Byte) (rx bit : Nat) (edges : List (Nat × Int)) (plane trip : Nat), s.up = true →
    s.fget (LYD_LINK_STATUS_RUNNING k) = 1 → beAt r 68 4 = recordCheck r → beAt r 0 1 = 1 →
    bitOf (beAt r 1 1) 5 = true → bitOf (beAt r 1 1) 3 = false → bitOf (beAt r 1 1) 4 = false →
    s.heldGroup 2 = false → s.heldGroup 5 = false → s.coasting = false → s.fbit CAL_STATUS_RUNNING = false →
    plane = s.useFree.rxPlane k rx bit (s.fitPhase edges) →
    recordTime r 24 ≤ plane → plane - recordTime r 24 ≤ 2000000 * 2 ^ 16 →
    (trip : Int) = ((plane : Int) - recordTime r 24) - ((recordTime r 12 : Int) - recordTime r 36) →
    trip ≤ 1000000 * 2 ^ 16 →
    ∃ t, exec (.superframeReceive k (some r) rx ⟨bit, edges⟩) s = .next t ∧
      t = { s with
        freeCtr := t.freeCtr, regs := t.regs, hot := t.hot, links := t.links, time := t.time,
        trunk := t.trunk, syn := t.syn, mgt := t.mgt } ∧
      t.wide2 (LYD_LINK_RTT_LO k) (LYD_LINK_RTT_HI k) = trip ∧
      t.fget (LYD_LINK_PHASE_PHASE k) = phaseInBit (s.fitPhase edges) ∧
      (t.lydLink k).partner = some (parsePartner r) ∧ (t.lydLink k).missing = 0)

/-- 09 R283, R284, R286, R288, R290, R294: an evaluation applies a result that is new or has won often enough, and
else counts its wins; a node that may be grandmaster and hears nobody names itself; a node whose upstream fails with
no link left loses the trunk source and names itself or drops it; an average of the samples is shown, and steers the
time core in LOCKED within its limits. Complete here: bmcaEvaluate, trunkSourceLost, offsetAverage. -/
def Obligations.TrunkTimeFollowed : Prop :=
  (∀ s : State, s.up = true → s.fget LYD_NODE_GM_CAPABLE = 1 → s.gmSelf = false → s.upstream = none →
    (∀ k < 16, (s.lydLink k).partner = none) →
    ∃ t, exec .bmcaEvaluate s = .next t ∧
      t = { s with regs := t.regs, hot := t.hot, time := t.time, trunk := t.trunk, syn := t.syn, mgt := t.mgt } ∧
      t.gmSelf = true ∧ t.upstream = none ∧ t.trunk.rival = none) ∧
  (∀ s : State, s.up = true → s.upstreamFails = true → s.bmcaResult = none →
    ∃ t, exec .trunkSourceLost s = .next t ∧
      t = { s with regs := t.regs, hot := t.hot, time := t.time, trunk := t.trunk, syn := t.syn, mgt := t.mgt } ∧
      t.fget LYD_STATUS_UP_VALID = 0) ∧
  (∀ s : State, s.up = true → s.trunk.thetas ≠ [] → s.upstream ≠ none → s.trunkSteers = false → s.discards = false →
    -2 ^ 63 ≤ s.thetaAvg → s.thetaAvg < 2 ^ 63 →
    ∃ t, exec .offsetAverage s = .next t ∧
      t = { s with
        out := t.out, freeCtr := t.freeCtr, regs := t.regs, hot := t.hot, life := t.life, bus := t.bus, cfg := t.cfg, links := t.links, fwd := t.fwd,
        qw := t.qw, buf := t.buf, cnt := t.cnt, time := t.time, trunk := t.trunk, syn := t.syn, nib := t.nib, mgt := t.mgt } ∧
      t.trunk.thetas = [] ∧
      signedOf 64 (t.wide2 LYD_OFFSET_LO LYD_OFFSET_HI) = s.thetaAvg) ∧
  (∀ (s : State) (r : Nat × Nat), s.up = true → s.upstreamFails = false → s.bmcaResult = some r →
    (∀ c, s.bmcaNow = some c → c ≠ r ∧ (c.2 ≠ r.2 ∧ 16 ≤ s.winsOf r ∨ 64 ≤ s.winsOf r)) →
    ∃ t, exec .bmcaEvaluate s = .next t ∧
      t = { s with regs := t.regs, hot := t.hot, time := t.time, trunk := t.trunk, syn := t.syn, mgt := t.mgt } ∧
      t.trunk.rival = none ∧ t.gmSelf = decide (r.1 = 16) ∧ t.upstream = (if r.1 = 16 then none else some r.1)) ∧
  (∀ (s : State) (r c : Nat × Nat), s.up = true → s.upstreamFails = false → s.bmcaResult = some r →
    s.bmcaNow = some c → (c = r ∨ s.winsOf r < 64 ∧ (c.2 = r.2 ∨ s.winsOf r < 16)) →
    ∃ t, exec .bmcaEvaluate s = .next t ∧
      t = { s with regs := t.regs, hot := t.hot, trunk := t.trunk } ∧
      t.trunk.rival = (if c = r then none else some (r.1, r.2, s.winsOf r)) ∧ t.gmSelf = s.gmSelf ∧
      t.upstream = s.upstream) ∧
  (∀ (s : State) (g : Nat), s.up = true → s.upstreamFails = true → s.linkRemains = false → s.bmcaResult = some (16, g) →
    ∃ t, exec .trunkSourceLost s = .next t ∧
      t = { s with regs := t.regs, hot := t.hot, time := t.time, trunk := t.trunk, syn := t.syn, mgt := t.mgt } ∧
      t.gmSelf = true ∧ t.upstream = none ∧
      (s.trunkSteers = true → t.fget LYD_EVENTS_UPSTREAM_LOST_SEEN = 1 ∧
        t.fget LYD_EVENTS_LOST_CNT = min (s.fget LYD_EVENTS_LOST_CNT + 1) (2 ^ LYD_EVENTS_LOST_CNT.width - 1))) ∧
  (∀ s : State, s.up = true → s.trunk.thetas ≠ [] → s.upstream ≠ none → s.trunkSteers = true → s.timeMode = .locked →
    s.fget LYD_STATUS_ACQ_PHASE = 0 → s.discards = false → -2 ^ 63 ≤ s.thetaAvg → s.thetaAvg < 2 ^ 63 →
    ∃ t, exec .offsetAverage s = .next t ∧
      t = { s with freeCtr := t.freeCtr, regs := t.regs, hot := t.hot, trunk := t.trunk } ∧ t.trunk.thetas = [] ∧
      signedOf 64 (t.wide2 LYD_OFFSET_LO LYD_OFFSET_HI) = s.thetaAvg ∧
      t.trunk.integrator = (Config.timeLoop s.servoBw s.thetaAvg s.trunk.integrator).2 ∧
      t.rate = max (-2 ^ 38) (min (2 ^ 38) (t.trunk.integrator + max (-s.pullLimit) (min s.pullLimit
        (Config.timeLoop s.servoBw s.thetaAvg s.trunk.integrator).1))))

/-- 00 R6, 01 R25, R27, 03 R103: a read answers its requester with the current word, reads as zero where no register
answers, and captures the high words of a wide register, which a later read of them answers; the copies of a lane take
the values of its receive domain. Complete here: wideLowRead, laneCopyRefresh. -/
def Obligations.RegistersAreRead : Prop :=
  (∀ (s : State) (q : Requester) (addr : Word), s.up = true → s.busReg q addr.toNat = none →
    exec (.wideLowRead q addr) s = .next { s with out := .answer q addr.toNat 0 :: s.out }) ∧
  (∀ (s : State) (q : Requester) (addr : Word) (b : BusReg), s.up = true → s.busReg q addr.toNat = some b →
    b.d.wide = .single → b.is (CNT_CAP_DATA 0) = false →
    exec (.wideLowRead q addr) s =
      .next { s with
        out := .answer q addr.toNat (BitVec.ofNat 32 (s.busWord q addr.toNat)) :: s.out, freeCtr := s.freeCtr + 1 }) ∧
  (∀ (s : State) (q : Requester) (addr : Word) (b : BusReg) (highs : List Int), s.up = true →
    s.busReg q addr.toNat = some b → b.d.wide = .low highs →
    ∃ t, exec (.wideLowRead q addr) s = .next t ∧
      t.out = .answer q addr.toNat (BitVec.ofNat 32 (s.busWord q addr.toNat)) :: s.out ∧
      (∀ d ∈ highs, t.latchOf q (addrAt addr.toNat d) = s.busWord q (addrAt addr.toNat d) % 2 ^ 32) ∧
      t = { s with bus := { s.bus with latches := t.bus.latches }, out := t.out, freeCtr := s.freeCtr + 1 }) ∧
  (∀ (s : State) (q : Requester) (addr : Word) (b : BusReg) (low : Int), s.up = true →
    s.busReg q addr.toNat = some b → b.d.wide = .high low →
    exec (.wideLowRead q addr) s =
      .next { s with out := .answer q addr.toNat (BitVec.ofNat 32 (s.latchOf q addr.toNat)) :: s.out }) ∧
  (∀ (s : State) (n : Fin 64) (errBits fecCorr fecUncorr : Nat), s.up = true → s.hasLane n = true →
    s.laneClock n = true →
    ∃ t, exec (.laneCopyRefresh n errBits fecCorr fecUncorr) s = .next t ∧
      (∀ f : Fld, f.key = LANE_STATUS n → t.fget f = s.lget f) ∧
      t.fget (LANE_PRBS_ERRCNT_ERRCNT n) =
        (if s.fbit (LANE_PRBS_CTRL_LOCK n) then min (s.lget (LANE_PRBS_ERRCNT_ERRCNT n) + errBits) (2 ^ 32 - 1)
          else s.lget (LANE_PRBS_ERRCNT_ERRCNT n)) ∧
      (∀ k, k ≠ LANE_STATUS n → k ≠ LANE_PRBS_ERRCNT n → t.getReg k = s.getReg k) ∧
      t = { s with regs := t.regs, hot := t.hot, bus := { s.bus with laneLive := t.bus.laneLive }, cnt := t.cnt, mgt := t.mgt })

/-- 00 R6, R7, 01 R26, 03 R98, R99, R103, 13 R354, R360: a write reaches the register of its address and no other: RW
bits take the value, W1C bits written 1 clear unless they were set in the same cycle, and every other bit stays. It is
ignored where no register answers. A high word of a wide register goes to the requester's shadow, and the words are
carried together by the write of its low word; the commit time ignores writes under an armed session. A write of a
command's bit is that command. What a hearth writes that is not the active one is discarded; where it would clear
table state it sets GATE_VIOL_SEEN. Complete here: registerWrite, wideHighWrite, wideLowWrite. -/
def Obligations.RegistersAreWritten : Prop :=
  (∀ (s : State) (q : Requester) (addr value : Word) (i : Instr), s.busReg q addr.toNat = none →
    i ∈ [Instr.registerWrite q addr value, .wideLowWrite q addr value, .wideHighWrite q addr value] →
    exec i s = .next s) ∧
  (∀ (s : State) (q : Requester) (addr value : Word) (b : BusReg), s.up = true → (s.takes q || b.gated) = true →
    s.busReg q addr.toNat = some b → b.d.wide = .single → stagedMask b.d = 0 → b.acts = false →
    ∃ t, exec (.registerWrite q addr value) s = .next t ∧
      (∀ i < 32, (t.getReg b.key).testBit i =
        if b.d.bitIs .rw i then value.getLsbD i
        else if b.d.bitIs .w1c i then (s.getReg b.key).testBit i && (!value.getLsbD i || (s.hotBits b.key).testBit i)
        else (s.getReg b.key).testBit i) ∧
      (∀ k, k ≠ b.key → t.getReg k = s.getReg k) ∧ t = { s with regs := t.regs }) ∧
  (∀ (s : State) (q : Requester) (addr value : Word) (b : BusReg) (low : Int), s.up = true →
    (s.takes q || b.gated) = true → s.busReg q addr.toNat = some b → b.d.wide = .high low → writable b.d = true →
    (b.commitTime && s.armedUp) = false →
    ∃ t, exec (.wideHighWrite q addr value) s = .next t ∧ t.shadowOf q addr.toNat = value.toNat ∧
      (∀ r a, (r, a) ≠ (q, addr.toNat) → a < 2 ^ 32 → t.shadowOf r a = s.shadowOf r a) ∧
      t = { s with bus := { s.bus with shadows := t.bus.shadows } }) ∧
  (∀ (s : State) (q : Requester) (addr value : Word) (b : BusReg) (highs : List Int), s.up = true →
    (s.takes q || b.gated) = true → s.busReg q addr.toNat = some b → b.d.wide = .low highs → writable b.d = true →
    (b.commitTime && s.armedUp) = false → b.is TIME_RATE = false → (b.is TIME_STEP_NS = true → s.timeGate q = true) →
    ∃ t, exec (.wideLowWrite q addr value) s = .next t ∧
      (∀ i < 32, (t.getReg b.key).testBit i =
        if b.d.bitIs .rw i then value.getLsbD i else (s.getReg b.key).testBit i) ∧
      (∀ d ∈ highs, ∀ i < 32, (t.getReg (addrAt addr.toNat d)).testBit i =
        (((findReg (addrAt addr.toNat d)).any fun r => r.1.bitIs .rw i) && (s.shadowOf q (addrAt addr.toNat d)).testBit i)) ∧
      (∀ k, k ≠ b.key → k ∉ highs.map (addrAt addr.toNat) → t.getReg k = s.getReg k) ∧
      t = { s with regs := t.regs }) ∧
  (∀ (s : State) (q : Requester) (value : Word), s.takes q = true →
    exec (.wideLowWrite q (BitVec.ofNat 32 TIME_RATE) value) s = exec (.timeRateWrite q value) s) ∧
  (∀ (s : State) (q : Requester) (addr value : Word), s.armedUp = true →
    addr.toNat ∈ [CFG_COMMIT_TIME_SEC_HI, CFG_COMMIT_TIME_SEC_LO, CFG_COMMIT_TIME_NS] →
    exec (.wideHighWrite q addr value) s = .next s ∧ exec (.wideLowWrite q addr value) s = .next s) ∧
  (∀ (s : State) (q : Requester) (value : Word) (n : Fin 64) (e : Fin 16) (i : Instr) (addr v : Nat), s.takes q = true →
    s.up = true → s.hasLane n = true → s.nibReach e = true → s.hasClkl e = true →
    (i, addr, v) ∈ [(Instr.resetCtrlWrite q value, GLB_RESET_CTRL, value.toNat), (.timeSlew q value, TIME_SLEW, value.toNat),
      (.laneCmdRestart q n [], LANE_CMD n, 1), (.clklSlip q e, CLKL_SLIP e, 1), (.clklConfirm q e, CLKL_SLIP e, 2),
      (.peatRestart q, BUF_PEAT_CMD, 1), (.leaseRenew q, HRT_LEASE, 2 ^ 31), (.nibRestart q, NIB_CTRL, 1),
      (.nibFlush q e, NIB_CMD e, 4), (.nibAbort q e, NIB_CMD e, 2), (.nibArm q e, NIB_CMD e, 1),
      (.nibPop q e, NIB_POP 0 e % 2 ^ 32, 1), (.hrtHandover q, HRT_CMD, 0x5AE10001), (.hrtTest q, HRT_CMD, 0x5AE10020),
      (.updAllow q, UPD_CMD, 0x7C3E0004), (.synReeval, SYN_CMD, 1)] →
    exec (.registerWrite q (BitVec.ofNat 32 addr) (BitVec.ofNat 32 v)) s = exec i s) ∧
  (∀ (s : State) (q : Requester) (i : Instr), s.takes q = false → writerOf i = some q → exec i s = .next s) ∧
  (∀ (s : State) (q : Requester) (addr value : Word) (b : BusReg) (i : Instr), s.takes q = false →
    s.busReg q addr.toNat = some b → b.gated = false → clearsTables b value.toNat = false →
    i ∈ [Instr.registerWrite q addr value, .wideLowWrite q addr value, .wideHighWrite q addr value] →
    exec i s = .next s) ∧
  (∀ (s : State) (q : Requester) (table : Fin 16) (inactive portOnly : Bool) (port : Fin 64) (i : Instr), s.up = true →
    s.takes q = false → i ∈ [Instr.fwdTblClearState q table, .qwTblClearState q inactive, .learnFlush q portOnly port] →
    ∃ t, exec i s = .next t ∧ t.fget HRT_EVENTS_GATE_VIOL_SEEN = 1 ∧ keepsBut [HRT_EVENTS_GATE_VIOL_SEEN] s t ∧
      t = { s with regs := t.regs, hot := t.hot })

/-- 01 R31 to R38: a watched clock that is absent holds the crossings of its domain invalid, shows the entry and
raises CROSSING; where VBAT's crossings are released its store is kept or, where its check word does not hold, lost.
Complete here: clockAbsentDeclared, vbatCrossingRestart. -/
def Obligations.CrossingsAreHeld : Prop :=
  (∀ (s : State) (crossed : List Byte), s.up = true → s.vbatInvalid = false →
    ∃ t, exec (.clockAbsentDeclared .vbat crossed) s = .next t ∧ t.vbatInvalid = true ∧
      t.fget GLB_XING_DOMAIN_VBAT_ENTERED = 1 ∧
      t.fget GLB_XING_DOMAIN_ENTER_CNT = min (s.fget GLB_XING_DOMAIN_ENTER_CNT + 1) 31 ∧
      bitOf t.mgt.latched 2 = true ∧
      keepsBut [GLB_XING_DOMAIN_VBAT_INVALID, GLB_XING_DOMAIN_VBAT_ENTERED, GLB_XING_DOMAIN_ENTER_CNT] s t ∧
      t = { s with regs := t.regs, hot := t.hot, mgt := t.mgt }) ∧
  (∀ (s : State) (crossed : List Byte), s.up = true → s.fbit GLB_XING_DOMAIN_NIB_INVALID = false →
    ∃ t, exec (.clockAbsentDeclared .nib crossed) s = .next t ∧
      t = { s with freeCtr := t.freeCtr, regs := t.regs, hot := t.hot, nib := t.nib, mgt := t.mgt } ∧
      t.fget GLB_XING_DOMAIN_NIB_INVALID = 1 ∧
      t.fget GLB_XING_DOMAIN_NIB_ENTERED = 1 ∧ bitOf t.mgt.latched 2 = true ∧
      (∀ n < resCount s.part .event, (s.mstate n = 1 ∨ s.mstate n = 2 → (t.nibIn n).measStale = true) ∧
        (t.nibIn n).gate.all (fun g => g.stale) = true)) ∧
  (∀ (s : State) (crossed : List Byte), s.up = true → s.fbit GLB_XING_DOMAIN_PEAT_INVALID = false →
    ∃ t, exec (.clockAbsentDeclared .peat crossed) s = .next t ∧
      t = { s with
        out := t.out, freeCtr := t.freeCtr, regs := t.regs, hot := t.hot, fwd := t.fwd, buf := t.buf, mgt := t.mgt } ∧
      t.fget GLB_XING_DOMAIN_PEAT_INVALID = 1 ∧
      t.fget BUF_PEAT_STATUS_READY = 0 ∧ bitOf t.mgt.latched 2 = true ∧
      (∀ n q, ∀ c ∈ t.queueOf n q, c.inPeat = false) ∧ t.time = s.time) ∧
  (∀ (s : State) (n : Fin 64) (crossed : List Byte), s.up = true → s.hasLane n = true → s.laneInvalid n = false →
    ∃ t, exec (.clockAbsentDeclared (.laneRx n) crossed) s = .next t ∧
      t = { s with
        out := t.out, regs := t.regs, hot := t.hot, bus := t.bus, fwd := t.fwd, qw := t.qw,
        buf := t.buf, cnt := t.cnt, syn := t.syn, mgt := t.mgt } ∧
      t.laneInvalid n = true ∧
      t.fget (LANE_STATUS_CROSSING_INVALID n) = 1 ∧ t.fget (LANE_STATUS_CDR_LOCK n) = 0 ∧
      t.link (s.portOf n) = false ∧ bitOf t.mgt.latched (if s.link (s.portOf n) then 12 else 2) = true) ∧
  (∀ s : State, s.up = true → s.vbatInvalid = true →
    ∃ t, exec (.vbatCrossingRestart true) s = .next t ∧ t.vbatInvalid = false ∧
      keepsBut [GLB_XING_DOMAIN_VBAT_INVALID] s t ∧ t = { s with regs := t.regs, hot := t.hot }) ∧
  (∀ s : State, s.up = true → s.vbatInvalid = true →
    ∃ t, exec (.vbatCrossingRestart false) s = .next t ∧ t.vbatInvalid = false ∧ t.vbat.log = [] ∧
      t.vbat.dormantSec = 0 ∧ t.fget GLB_VBAT_STATUS_STORE_LOST = 1 ∧
      t.getReg GLB_RESET_CAUSE = (resetWord s.part GLB_RESET_CAUSE).toNat ∧ bitOf t.mgt.latched 1 = true ∧
      t = { s with regs := t.regs, hot := t.hot, vbat := t.vbat, mgt := t.mgt })

/-- 10 R305 to R309: the monitored sources, which the entries of the priority table show. One that becomes active is
DISQUALIFIED, its time makes it QUALIFIED, an offset or a drift that fails restarts its time, and one that is lost is
ABSENT; every other source stays as it is. A re-evaluation selects the lowest QUALIFIED entry. Complete here:
refActive, refLoss, refFreqUpdate, refQualified, driftTest, synReeval. -/
def Obligations.ReferencesMove : Prop :=
  (∀ (s : State) (i : Fin 32) (src : Nat), s.up = true → s.refValid i = true → src = s.actualSource i →
    s.monitored src = true → s.sourceActive src = true → (s.monOf src).st = .absent → s.loopHeld = false →
    ∃ t, exec (.refActive i) s = .next t ∧ t.refState i = .disqualified ∧ (t.monOf src).left = s.qualS ∧
      (∀ x, x ≠ src → t.monOf x = s.monOf x) ∧ t = { s with regs := t.regs, hot := t.hot, syn := t.syn, mgt := t.mgt }) ∧
  (∀ (s : State) (i : Fin 32) (src : Nat), s.up = true → s.refValid i = true → src = s.actualSource i →
    s.monitored src = true → (s.monOf src).st ≠ .absent →
    ∃ t, exec (.refLoss i) s = .next t ∧ t.refState i = .absent ∧
      ((s.monOf src).st ≠ .disqualified → t.fget SYN_EVENTS_DISQ_SEEN = 1 ∧ bitOf t.mgt.latched 6 = true) ∧
      (∀ x, x ≠ src → t.monOf x = s.monOf x) ∧ t = { s with regs := t.regs, hot := t.hot, syn := t.syn, mgt := t.mgt }) ∧
  (∀ (s : State) (i : Fin 32) (src : Nat) (ofs : Int), s.up = true → src = s.actualSource i → s.monitored src = true →
    (s.monOf src).st = .disqualified → s.freqLo ≤ ofs.natAbs → -2 ^ 15 ≤ ofs → ofs < 2 ^ 15 →
    ∃ t, exec (.refFreqUpdate i ofs) s = .next t ∧ t.monOf src = { s.monOf src with ofs := ofs, left := s.qualS } ∧
      (∀ x, x ≠ src → t.monOf x = s.monOf x) ∧ t = { s with syn := t.syn }) ∧
  (∀ (s : State) (i : Fin 32) (src : Nat), s.up = true → s.refValid i = true → src = s.actualSource i →
    s.monitored src = true → (s.monOf src).st = .disqualified → (s.monOf src).left ≤ 1 →
    (s.monOf src).ofs.natAbs < s.freqLo → s.loopHeld = false →
    ∃ t, exec (.refQualified i) s = .next t ∧ t.refState i = .qualified ∧ (∀ x, x ≠ src → t.monOf x = s.monOf x) ∧
      t = { s with regs := t.regs, hot := t.hot, syn := t.syn, mgt := t.mgt }) ∧
  (∀ (s : State) (src : Nat), s.up = true → (s.monOf src).st = .disqualified → s.freqLo ≤ (s.monOf src).ofs.natAbs →
    ∃ t, exec .driftTest s = .next t ∧
      t = { s with regs := t.regs, hot := t.hot, syn := t.syn, mgt := t.mgt } ∧
      (t.monOf src).st = .disqualified ∧ (t.monOf src).left = s.qualS) ∧
  (∀ (s : State) (b : Nat), s.up = true → s.selecting = true → s.loopHeld = false → s.bestRef = some b →
    ∃ t, exec .synReeval s = .next t ∧ t.selected = some b ∧
      (s.selected ≠ some b → t.fget SYN_EVENTS_SWITCH_SEEN = 1) ∧
      t = { s with regs := t.regs, hot := t.hot, syn := t.syn, mgt := t.mgt })

/-- 10 R296, R302, R303, R310 to R313, 13 R358: the synthesizers lock and lose their lock, and the active hearth with
its lock leaves service; the outer loop steers the holder's synthesizer within its limits, loses its lock after four
comparisons outside four windows, works off a pull, which ends in TRACKING, and stands still in a calibration; the
ember learns one second at a time while a QUALIFIED reference is tracked. Complete here: synthLock, synthLockLoss,
osynRefLoss, pullDone, outerLoopCompare, emberLearnSecond. -/
def Obligations.SynthesizersLock : Prop :=
  (∀ (s : State) (x : Fin 6), s.up = true → x.val < 2 → s.fbit (SYN_SPINE_STATUS_POWERED x) = true →
    ∃ t, exec (.synthLock x) s = .next t ∧ t.fget (SYN_SPINE_STATUS_INNER_LOCK x) = 1 ∧
      keepsBut [SYN_SPINE_STATUS_INNER_LOCK x] s t ∧ t = { s with regs := t.regs, hot := t.hot }) ∧
  (∀ (s : State) (x : Fin 6), s.up = true → 2 ≤ x.val → s.fbit (SYN_OSYN_CFG_ENABLE (x.val - 2)) = true →
    ∃ t, exec (.synthLock x) s = .next t ∧ t.fget (SYN_OSYN_STATUS_LOCK (x.val - 2)) = 1 ∧
      t = { s with regs := t.regs, hot := t.hot, syn := t.syn }) ∧
  (∀ (s : State) (x : Fin 6) (j : Fin 4), s.up = true → x.val = j + 2 → s.fbit (SYN_OSYN_STATUS_LOCK j) = true →
    ∃ t, exec (.synthLockLoss x) s = .next t ∧ t.fget (SYN_OSYN_STATUS_LOCK j) = 0 ∧
      t.fget SYN_EVENTS_LOCK_LOST_SEEN = 1 ∧ bitOf t.mgt.latched 6 = true ∧
      t = { s with regs := t.regs, hot := t.hot, syn := t.syn, mgt := t.mgt }) ∧
  (∀ (s : State) (j : Fin 4), s.up = true → s.fbit (SYN_OSYN_CFG_ENABLE j) = true → j.val ∉ s.syn.refLost →
    ∃ t, exec (.osynRefLoss j) s = .next t ∧ j.val ∈ t.syn.refLost ∧ t.fget (SYN_OSYN_STATUS_LOCK j) = 0 ∧ t.fget SYN_EVENTS_LOCK_LOST_SEEN = 1 ∧
      bitOf t.mgt.latched 6 = true ∧ t = { s with regs := t.regs, hot := t.hot, syn := t.syn, mgt := t.mgt }) ∧
  (∀ s : State, s.up = true → s.spineMode = 2 → s.loopHeld = false →
    s.syn.pull.natAbs ≤ s.selected.elim 0 s.pullStep →
    ∃ t, exec .pullDone s = .next t ∧ t.spineMode = 1 ∧ t.syn.pull = 0 ∧ t.fget SYN_SEL_STATUS_LOCK = 0 ∧
      keepsBut [SYN_SEL_STATUS_MODE, SYN_SEL_STATUS_LOCK] s t ∧ t = { s with regs := t.regs, syn := t.syn }) ∧
  (∀ (s : State) (phase : Int), s.loopHeld = true → exec (.outerLoopCompare phase) s = .next s) ∧
  (∀ (s : State) (phase : Int) (i : Nat), s.up = true → s.loopHeld = false → s.selected = some i → s.spineMode = 1 →
    s.fbit SYN_SEL_STATUS_LOCK = true → 4 * s.lockWin < phase.natAbs → 3 ≤ s.syn.outRun →
    ∃ t, exec (.outerLoopCompare phase) s = .next t ∧ t.fget SYN_SEL_STATUS_LOCK = 0 ∧
      t.fget SYN_EVENTS_LOCK_LOST_SEEN = 1 ∧ bitOf t.mgt.latched 6 = true ∧
      keepsBut [SYN_SEL_STATUS_LOCK, SYN_EVENTS_LOCK_LOST_SEEN] s t ∧
      t = { s with regs := t.regs, hot := t.hot, syn := t.syn, mgt := t.mgt }) ∧
  (∀ (s : State) (i : Nat), s.up = true → s.selected = some i → s.spineMode = 1 →
    s.fbit SYN_SEL_STATUS_LOCK = true → s.refState i = .qualified → s.fbit CAL_STATUS_RUNNING = false →
    ∃ t, exec .emberLearnSecond s = .next t ∧
      t.fget SYN_EMB_STATUS_LEARN_S = min 86400 (s.fget SYN_EMB_STATUS_LEARN_S + 1) ∧
      (86399 ≤ s.fget SYN_EMB_STATUS_LEARN_S → t.fget SYN_EMB_STATUS_UNLEARNED = 0) ∧
      keepsBut [SYN_EMB_STATUS_LEARN_S, SYN_EMB_STATUS_UNLEARNED] s t ∧ t = { s with regs := t.regs, syn := t.syn }) ∧
  (∀ (s : State) (phase : Int) (i : Nat) (h : Hearth), s.up = true → s.loopHeld = false → s.selected = some i →
    s.spineMode = 1 → s.hrt.holder = some h →
    ∃ t p d, exec (.outerLoopCompare phase) s = .next t ∧
      t = { s with regs := t.regs, hot := t.hot, syn := t.syn, mgt := t.mgt } ∧
      p.natAbs ≤ s.slopeWord ∧ -1 ≤ d ∧ d ≤ 1 ∧
      t.synthOf h = ⟨(((nominalWord : Int) + (t.synthOf h).integrator + p).emod (2 ^ 48 : Nat)).toNat,
        (t.synthOf h).integrator, ((s.synthOf h).aligner + d).emod 1000⟩) ∧
  (∀ (s : State) (phase : Int) (i : Nat), s.up = true → s.loopHeld = false → s.selected = some i → s.spineMode = 2 →
    s.pullStep i < s.syn.pull.natAbs →
    ∃ t, exec (.outerLoopCompare phase) s = .next t ∧ t.syn.pull = towardZero s.syn.pull (s.pullStep i) ∧
      t = { s with syn := t.syn }) ∧
  (∀ (s : State) (x : Fin 6) (h : Hearth), s.up = true → x.val = hearthIx h →
    s.fbit (SYN_SPINE_STATUS_INNER_LOCK x) = true → s.hrt.holder ≠ some h →
    ∃ t, exec (.synthLockLoss x) s = .next t ∧ t.fget (SYN_SPINE_STATUS_INNER_LOCK x) = 0 ∧
      t.fget SYN_EVENTS_LOCK_LOST_SEEN = 1 ∧ bitOf t.mgt.latched 6 = true ∧ t.hrt.holder = s.hrt.holder ∧
      t = { s with regs := t.regs, hot := t.hot, hrt := t.hrt, mgt := t.mgt }) ∧
  (∀ (s : State) (x : Fin 6) (h : Hearth), s.up = true → x.val = hearthIx h →
    s.fbit (SYN_SPINE_STATUS_INNER_LOCK x) = true → s.hrt.holder = some h → (s.hearth h).st = .active →
    ∃ t, exec (.synthLockLoss x) s = .next t ∧ (t.hearth h).st = .cinder ∧ t.hrt.holder = none ∧
      t.fget (HRT_CAUSE_CAUSE (hearthIx h)) = s.lowestCause h 2 ∧ t.fget SYN_EVENTS_LOCK_LOST_SEEN = 1 ∧
      t = { s with
        regs := t.regs, hot := t.hot, cfg := t.cfg, links := t.links, qw := t.qw, cnt := t.cnt, trunk := t.trunk,
        syn := t.syn, hrt := t.hrt, nib := t.nib, cal := t.cal, upd := t.upd, mgt := t.mgt })

/-- 10 R301, R320, R321: an alignment of an enabled pulse output gates it off while the time base of its OSYN takes
the time core, until its restart; a band table command loads the active or the factory entry, or stages one. Complete
here: poAlign, poAlignRestart, synBandRead, synBandReadFactory, synBandWrite. -/
def Obligations.OutputsAndBands : Prop :=
  (∀ (s : State) (n : Fin 8), s.up = true → s.poOn n = true → s.fget (SYN_PO_STATUS_ALIGNING n) = 0 →
    ∃ t, exec (.poAlign n) s = .next t ∧ t.fget (SYN_PO_STATUS_ALIGNING n) = 1 ∧
      t.fget (SYN_PO_STATUS_GATED n) = 1 ∧ t.fget (SYN_PO_STATUS_RUNNING n) = 0 ∧ t.baseOf (s.poOsyn n) = 0 ∧
      (∀ j, j ≠ s.poOsyn n → t.baseOf j = s.baseOf j) ∧ t = { s with regs := t.regs, hot := t.hot, syn := t.syn }) ∧
  (∀ (s : State) (n : Fin 8), s.up = true → s.poOn n = true → s.fget (SYN_PO_STATUS_ALIGNING n) = 1 →
    s.syn.poAligned.length = 8 →
    ∃ t, exec (.poAlignRestart n) s = .next t ∧ t.fget (SYN_PO_STATUS_ALIGNING n) = 0 ∧
      t.syn.poAligned.getD n false = true ∧
      (s.fbit (SYN_OSYN_CFG_ENABLE (s.poOsyn n)) = true → s.fbit (SYN_OSYN_STATUS_LOCK (s.poOsyn n)) = true →
        s.fbit (SYN_PO_CFG_GATE_UNLOCKED n) = false → t.fget (SYN_PO_STATUS_RUNNING n) = 1) ∧
      t = { s with regs := t.regs, hot := t.hot, syn := t.syn }) ∧
  (∀ (s : State) (q : Requester) (x : Fin 8) (n : Fin 64), s.takes q = true → s.up = true → x.val < 6 →
    s.readsShadow q = false →
    ∃ t, exec (.synBandRead q x n) s = .next t ∧
      t.getReg (SYN_BAND_DATA (reqIx q) 0) = (s.bandEntry x n).1 % 2 ^ 32 ∧
      t.getReg (SYN_BAND_DATA (reqIx q) 1) = (s.bandEntry x n).2 % 2 ^ 32 ∧ t = { s with regs := t.regs }) ∧
  (∀ (s : State) (q : Requester) (x : Fin 8) (n : Fin 64), s.takes q = true → s.up = true → x.val < 6 →
    ∃ t, exec (.synBandReadFactory q x n) s = .next t ∧
      t.getReg (SYN_BAND_DATA (reqIx q) 0) = 2 ^ 31 + (9064 + 21 * n) * 2 ^ 16 + (9000 + 21 * n) ∧
      t = { s with regs := t.regs }) ∧
  (∀ (s : State) (q : Requester) (x : Fin 8) (n : Fin 64), s.takes q = true → s.up = true → x.val < 6 →
    s.mayStage q = true →
    recsCharge s.cfg.records + 40 ≤ 4 * 2 ^ 20 →
    ∃ t, exec (.synBandWrite q x n) s = .next t ∧ t.syn = s.syn ∧
      t.cfg = { s.cfg with
        sess := .opened
        records := s.cfg.records ++ [.band x n (s.getReg (SYN_BAND_DATA (reqIx q) 0) &&& 0xBFFF3FFF)
          (s.getReg (SYN_BAND_DATA (reqIx q) 1) &&& 0x3F0FFF)] } ∧
      t = { s with regs := t.regs, cfg := t.cfg })

/-- 11 R324 to R338: an edge of an input is stamped into its buffer, starts its interval engine, or is lost to the
dead time; a pop takes the head; ARM, ABORT and FLUSH move the interval engine and empty the buffer; a gate ends with
its result; a restart discards everything until it is done. Complete here: nibEdge, nibPop, nibArm, nibAbort,
nibFlush, freqGateEnd, nibRestart, nibRestartDone. -/
def Obligations.NibInputsMeasure : Prop :=
  (∀ (s : State) (n : Fin 16) (falling : Bool) (stamp l : Nat), s.up = true → s.hasEvent n = true →
    s.fbit (NIB_CFG_ENABLE n) = true → s.edgeSelected n falling = true → s.fbit GLB_XING_DOMAIN_NIB_INVALID = false →
    s.fbit NIB_CTRL_RESTART = false → (s.nibIn n).last = some l → l ≤ stamp → stamp < l + 3200 →
    ∃ t, exec (.nibEdge n falling stamp) s = .next t ∧
      t.fget (NIB_CNT_DEAD_CNT n) = min (s.fget (NIB_CNT_DEAD_CNT n) + 1) 65535 ∧
      t.fget (NIB_STATUS_DEAD_SEEN n) = 1 ∧ (t.nibIn n).entries = (s.nibIn n).entries ∧ (t.nibIn n).last = some l ∧
      keepsBut [NIB_CNT_DEAD_CNT n, NIB_STATUS_DEAD_SEEN n] s t ∧ t = { s with regs := t.regs, hot := t.hot, nib := t.nib }) ∧
  (∀ (s : State) (n : Fin 16) (falling : Bool) (stamp : Nat), s.up = true → s.hasEvent n = true →
    s.fbit (NIB_CFG_ENABLE n) = true → s.edgeSelected n falling = true → s.fbit GLB_XING_DOMAIN_NIB_INVALID = false →
    s.fbit NIB_CTRL_RESTART = false → (∀ l, (s.nibIn n).last = some l → l + 3200 ≤ stamp) →
    s.nibIntervals n = false → (s.nibIn n).entries.length < 4096 →
    ∃ t e, exec (.nibEdge n falling stamp) s = .next t ∧ (t.nibIn n).entries = (s.nibIn n).entries ++ [e] ∧
      e.type = 0 ∧ e.value = stamp ∧ e.falling = falling ∧ (t.nibIn n).last = some stamp ∧
      t = { s with regs := t.regs, hot := t.hot, nib := t.nib, mgt := t.mgt }) ∧
  (∀ (s : State) (q : Requester) (n : Fin 16) (e : NibEntry) (rest : List NibEntry), s.takes q = true → s.up = true →
    s.hasEvent n = true → s.fbit GLB_XING_DOMAIN_NIB_INVALID = false → (s.nibIn n).entries = e :: rest → e.type < 2 →
    ∃ t, exec (.nibPop q n) s = .next t ∧ (t.nibIn n).entries = rest ∧ t.fget (NIB_ENTRY_VALID (reqIx q) n) = 1 ∧
      t.fget (NIB_ENTRY_TYPE (reqIx q) n) = e.type ∧ t.fget (NIB_ENTRY_FINE (reqIx q) n) = e.value % 2000 ∧
      t.getReg (NIB_ENTRY_NS (reqIx q) n) = e.value / 2000 % 1000000000 ∧ t = { s with regs := t.regs, nib := t.nib }) ∧
  (∀ (s : State) (q : Requester) (n : Fin 16), s.takes q = true → s.up = true → s.hasEvent n = true →
    s.fbit GLB_XING_DOMAIN_NIB_INVALID = false → (s.nibIn n).entries = [] →
    ∃ t, exec (.nibPop q n) s = .next t ∧ (t.nibIn n).entries = [] ∧ t.getReg (NIB_ENTRY (reqIx q) n) = 0 ∧
      t = { s with regs := t.regs, nib := t.nib }) ∧
  (∀ (s : State) (q : Requester) (n : Fin 16), s.takes q = true → s.up = true → s.nibReach n = true →
    s.nibIntervals n = true →
    s.mstate n = 0 ∨ s.mstate n = 3 →
    ∃ t, exec (.nibArm q n) s = .next t ∧ t.mstate n = 1 ∧ (t.nibIn n).entries = [] ∧ (t.nibIn n).armAt = s.binsNow ∧
      keepsBut [NIB_STATUS_MSTATE n, NIB_STATUS_FLUSHED_SEEN n] s t ∧ t = { s with regs := t.regs, hot := t.hot, nib := t.nib }) ∧
  (∀ (s : State) (q : Requester) (n : Fin 16), s.takes q = true → s.up = true → s.nibReach n = true →
    ∃ t, exec (.nibAbort q n) s = .next t ∧ t.mstate n = 0 ∧ (t.nibIn n).entries = (s.nibIn n).entries ∧
      keepsBut [NIB_STATUS_MSTATE n] s t ∧ t = { s with regs := t.regs, nib := t.nib }) ∧
  (∀ (s : State) (q : Requester) (n : Fin 16), s.takes q = true → s.up = true → s.nibReach n = true →
    ∃ t, exec (.nibFlush q n) s = .next t ∧ (t.nibIn n).entries = [] ∧ t = { s with nib := t.nib }) ∧
  (∀ (s : State) (n : Fin 16) (g : NibGate), s.up = true → s.hasEvent n = true →
    s.fbit (NIB_CFG_FREQ_EN n) = true → s.fbit GLB_XING_DOMAIN_NIB_INVALID = false → s.fbit NIB_CTRL_RESTART = false →
    (s.nibIn n).gate = some g →
    ∃ t, exec (.freqGateEnd n) s = .next t ∧ t.fget (NIB_FREQ_INFO_REASON n) = gateReason g ∧
      t.fget (NIB_FREQ_RES_SEQ n) = nextResult (s.fget (NIB_FREQ_RES_SEQ n)) ∧
      t.getReg (NIB_FREQ_T n) = g.start % 2 ^ 32 ∧ (t.nibIn n).gate.isSome = true ∧
      t = { s with regs := t.regs, nib := t.nib, freeCtr := t.freeCtr }) ∧
  (∀ (s : State) (q : Requester), s.takes q = true → s.up = true → s.fbit NIB_CTRL_RESTART = false →
    ∃ t, exec (.nibRestart q) s = .next t ∧ t.nib.ins = [] ∧ t.fbit NIB_CTRL_RESTART = true ∧
      (∀ n : Fin 16, t.mstate n = 0) ∧ t = { s with regs := t.regs, hot := t.hot, nib := t.nib }) ∧
  (∀ s : State, s.up = true → s.fbit NIB_CTRL_RESTART = true →
    ∃ t, exec .nibRestartDone s = .next t ∧ t.fbit NIB_CTRL_RESTART = false ∧
      t.fbit GLB_XING_DOMAIN_NIB_INVALID = false ∧ keepsBut [NIB_CTRL_RESTART, GLB_XING_DOMAIN_NIB_INVALID] s t ∧
      t = { s with regs := t.regs }) ∧
  (∀ (s : State) (n : Fin 16) (falling : Bool) (stamp : Nat), s.up = true → s.hasEvent n = true →
    s.fbit (NIB_CFG_ENABLE n) = true → s.edgeSelected n falling = true → s.fbit GLB_XING_DOMAIN_NIB_INVALID = false →
    s.fbit NIB_CTRL_RESTART = false → (∀ l, (s.nibIn n).last = some l → l + 3200 ≤ stamp) →
    s.nibIntervals n = true → s.mstate n = 1 → s.fget (NIB_CFG_START_SRC n) = n →
    (s.nibIn n).armAt + 200000 ≤ stamp → (s.nibIn n).waiting = [] → (s.nibIn n).entries.length < 4096 →
    ∃ t e, exec (.nibEdge n falling stamp) s = .next t ∧ t.mstate n = 2 ∧ (t.nibIn n).start = some stamp ∧
      (t.nibIn n).entries = (s.nibIn n).entries ++ [e] ∧ e.type = 1 ∧ e.value = stamp ∧
      t = { s with regs := t.regs, hot := t.hot, nib := t.nib, mgt := t.mgt }) ∧
  (∀ (s : State) (q : Requester) (n : Fin 16) (e : NibEntry) (rest : List NibEntry), s.takes q = true → s.up = true →
    s.hasEvent n = true → s.fbit GLB_XING_DOMAIN_NIB_INVALID = false → (s.nibIn n).entries = e :: rest → e.type = 2 →
    ∃ t, exec (.nibPop q n) s = .next t ∧ (t.nibIn n).entries = rest ∧ t.fget (NIB_ENTRY_VALID (reqIx q) n) = 1 ∧
      t.fget (NIB_ENTRY_TYPE (reqIx q) n) = 2 ∧ t.fget (NIB_ENTRY_FINE (reqIx q) n) = e.value % 2000 ∧
      t.getReg (NIB_ENTRY_NS (reqIx q) n) = e.value / 2000 % 2 ^ 32 ∧ t = { s with regs := t.regs, nib := t.nib })

/-- 12 R343 to R346: a calibration on command holds its groups while it runs; its end shows the result and releases
them, with the offset of an instance that was measured plausibly; the ULK-3208 answers every start with RESULT 4.
Complete here: calStart, calApply. -/
def Obligations.CalibrationRuns : Prop :=
  (∀ (s : State) (q : Requester) (groups : BitVec 6), s.takes q = true → s.up = true → s.part = .ulk6416 →
    s.life ≠ .kindling → s.life ≠ .reset → s.fbit CAL_STATUS_RUNNING = false → groups ≠ 0 →
    ∃ t, exec (.calStart q groups) s = .next t ∧
      t = { s with regs := t.regs, hot := t.hot, syn := t.syn, nib := t.nib, cal := t.cal, mgt := t.mgt } ∧
      t.fbit CAL_STATUS_RUNNING = true ∧
      t.fget CAL_CMD_GROUPS = groups.toNat ∧ t.cal.groups = groupsOf groups.toNat ∧
      t.cal.held = groupsOf groups.toNat ∧ t.cal.offsets = s.cal.offsets) ∧
  (∀ (s : State) (q : Requester) (groups : BitVec 6), s.takes q = true → s.up = true → s.part = .ulk3208 →
    s.life ≠ .kindling → s.life ≠ .reset → s.fbit CAL_STATUS_RUNNING = false →
    ∃ t, exec (.calStart q groups) s = .next t ∧ t.fget CAL_STATUS_RESULT = 4 ∧ t.fbit CAL_STATUS_RUNNING = false ∧
      keepsBut [CAL_CMD_GROUPS, CAL_STATUS_RESULT] s t ∧ t = { s with regs := t.regs }) ∧
  (∀ (s : State) (measured : List (Nat × Nat × Int)), s.up = true → s.fbit CAL_STATUS_RUNNING = true →
    (∀ g ∈ s.cal.groups, g < 6) →
    ∃ t, exec (.calApply measured) s = .next t ∧
      t = { s with regs := t.regs, hot := t.hot, syn := t.syn, cal := t.cal, mgt := t.mgt } ∧
      t.fbit CAL_STATUS_RUNNING = false ∧ t.cal.held = [] ∧
      t.fget CAL_STATUS_DONE_SEEN = 1 ∧ t.fget CAL_LAST_END_SEC = s.secLo ∧
      t.fget CAL_STATUS_RUN_CNT = (s.fget CAL_STATUS_RUN_CNT + 1) % 2 ^ 16 ∧
      t.fget CAL_STATUS_RESULT = (if s.cal.groups.all (fun g => s.groupPasses measured g) then 1 else 2)) ∧
  (∀ (s : State) (g i : Nat) (o : Int), s.up = true → s.fbit CAL_STATUS_RUNNING = true → s.cal.groups = [g] →
    g < 6 → s.calHas g i = true → s.plausible g i o = true →
    ∃ t, exec (.calApply [(g, i, o)]) s = .next t ∧
      t = { s with regs := t.regs, hot := t.hot, syn := t.syn, cal := t.cal, mgt := t.mgt } ∧
      t.calOffset g i = o ∧
      (∀ j < 2 ^ 16, j ≠ i → t.calOffset g j = s.calOffset g j)) ∧
  (∀ (s : State) (g i : Nat) (o : Int), s.up = true → s.fbit CAL_STATUS_RUNNING = true → s.cal.groups = [g] →
    g < 6 → s.calHas g i = true → s.plausible g i o = false →
    ∃ t, exec (.calApply [(g, i, o)]) s = .next t ∧
      t = { s with regs := t.regs, hot := t.hot, syn := t.syn, cal := t.cal, mgt := t.mgt } ∧
      t.cal.offsets = s.cal.offsets ∧
      t.fget CAL_STATUS_FAIL_SEEN = 1 ∧ bitOf t.mgt.latched 7 = true)

/-- 13 R354 to R358, R362, R370: the holder alone renews the lease; a lease that expires, and every other cause, takes
a hearth in service into CINDER or OFFLINE with the cause, its second and a count; the saved state is numbered.
Complete here: leaseRenew, leaseExpired, hearthMemUncorr, hearthWatchdog, hrtCinder, islandPowerFail,
clockAbsentDeclared, islandCauseCleared, snapshotTake. -/
def Obligations.HearthsLeaveService : Prop :=
  (∀ (s : State) (q : Requester), s.up = true → s.isHolder q = true → s.now < s.hrt.leaseEnd →
    exec (.leaseRenew q) s = .next { s with hrt := { s.hrt with leaseEnd := s.now + s.leaseNs } }) ∧
  (∀ (s : State) (q : Requester), s.up = true → s.isHolder q = false →
    ∃ t, exec (.leaseRenew q) s = .next t ∧ t.fget HRT_EVENTS_GATE_VIOL_SEEN = 1 ∧
      keepsBut [HRT_EVENTS_GATE_VIOL_SEEN] s t ∧ t = { s with regs := t.regs, hot := t.hot }) ∧
  (∀ (s : State) (h : Hearth), s.up = true → s.hrt.holder = some h → (s.hearth h).st = .active →
    s.hrt.leaseEnd ≤ s.now →
    ∃ t, exec .leaseExpired s = .next t ∧
      t = { s with
        regs := t.regs, hot := t.hot, cfg := t.cfg, links := t.links, qw := t.qw, cnt := t.cnt, trunk := t.trunk,
        syn := t.syn, hrt := t.hrt, nib := t.nib, cal := t.cal, upd := t.upd, mgt := t.mgt } ∧
      (t.hearth h).st = .cinder ∧ t.hrt.holder = none ∧
      t.fget (HRT_CAUSE_CAUSE (hearthIx h)) = 1 ∧ t.getReg (HRT_CAUSE_SEC (hearthIx h)) = s.secLo) ∧
  (∀ (s : State) (q : Requester) (h : Hearth) (i : Instr) (cause : Nat), s.takes q = true → s.up = true →
    s.serves h = true →
    (i, cause) ∈ [(Instr.hearthMemUncorr h, 3), (.hearthWatchdog h, 4), (.hrtCinder q h, 7)] →
    ∃ t, exec i s = .next t ∧
      t = { s with
        regs := t.regs, hot := t.hot, cfg := t.cfg, links := t.links, qw := t.qw, cnt := t.cnt, trunk := t.trunk,
        syn := t.syn, hrt := t.hrt, nib := t.nib, cal := t.cal, upd := t.upd, mgt := t.mgt } ∧
      (t.hearth h).st = .cinder ∧ t.hrt.holder ≠ some h ∧
      t.fget (HRT_CAUSE_CAUSE (hearthIx h)) = cause ∧ t.getReg (HRT_CAUSE_SEC (hearthIx h)) = s.secLo ∧
      t.fget (HRT_CAUSE_OUT_CNT (hearthIx h)) = min (s.fget (HRT_CAUSE_OUT_CNT (hearthIx h)) + 1) 65535 ∧
      t.fget HRT_EVENTS_CINDER_SEEN = 1 ∧ t.fget (SYN_SPINE_STATUS_POWERED (hearthIx h)) = 0) ∧
  (∀ (s : State) (h : Hearth) (crossed : List Byte) (i : Instr) (cause : Nat), s.up = true →
    (s.hearth h).st ≠ .offline →
    (i, cause) ∈ [(Instr.islandPowerFail h, 8), (.clockAbsentDeclared (.hearth h) crossed, 9)] →
    ∃ t, exec i s = .next t ∧
      t = { s with
        regs := t.regs, hot := t.hot, cfg := t.cfg, links := t.links, qw := t.qw, cnt := t.cnt, trunk := t.trunk,
        syn := t.syn, hrt := t.hrt, nib := t.nib, cal := t.cal, upd := t.upd, mgt := t.mgt } ∧
      (t.hearth h).st = .offline ∧ (t.hearth h).causeHolds = true ∧ t.hrt.holder ≠ some h ∧
      t.fget (HRT_CAUSE_CAUSE (hearthIx h)) = s.lowestCause h cause ∧
      ((s.hearth h).outAt ≠ some s.now → s.lowestCause h cause = cause) ∧ t.fbit (hearthInvalid h) = true ∧
      t.fget (SYN_SPINE_STATUS_POWERED (hearthIx h)) = 0) ∧
  (∀ (s : State) (h : Hearth), s.up = true → (s.hearth h).causeHolds = true →
    ∃ t, exec (.islandCauseCleared h) s = .next t ∧ (t.hearth h).causeHolds = false ∧ (t.hearth h).autoDue = true ∧
      t.hearth (otherHearth h) = s.hearth (otherHearth h) ∧ t = { s with hrt := t.hrt }) ∧
  (∀ (s : State) (h : Hearth), s.up = true → s.hrt.holder = some h →
    ∃ t v, exec .snapshotTake s = .next t ∧ t.hrt.snap = some v ∧ v.takenAt = s.now ∧ v.word = (s.synthOf h).word ∧
      t.fget HRT_SNAP_SEQ = (s.fget HRT_SNAP_SEQ + 1) % 2 ^ 16 ∧ keepsBut [HRT_SNAP_SEQ] s t ∧
      t = { s with regs := t.regs, hrt := { s.hrt with snap := t.hrt.snap } })

/-- 13 R357, R364, R365, R367: a takeover goes from the free token through the claim, the inner lock, the aligner's
match and the move of the multiplexer to its end; one that misses its lock is long, and one that times out or that no
hearth may take leaves the device without a holder. Complete here: tokenClaim, takeoverInnerLock,
takeoverAlignerMatch, takeoverMuxMove, takeoverLockMiss, longTakeoverTimeout, noHolder, takeoverEnd. -/
def Obligations.TakeoversRun : Prop :=
  (∀ s : State, s.up = true → s.hrt.holder = none → s.stageIs .free = true → s.mayClaim .a = true →
    ∃ t, exec .tokenClaim s = .next t ∧
      t = { s with
        regs := t.regs, hot := t.hot, cfg := t.cfg, trunk := t.trunk, syn := t.syn,
        hrt := t.hrt, nib := t.nib, cal := t.cal, mgt := t.mgt } ∧
      t.hrt.holder = some .a ∧ t.hrt.a.st = .active ∧
      t.hrt.leaseEnd = s.now + s.leaseNs ∧ t.stageIs .claimed = true ∧ t.fget HRT_STATUS_TAKEOVER = 1 ∧
      t.fget HRT_STATUS_NO_HOLDER = 0 ∧ t.fget (SYN_SPINE_STATUS_POWERED 0) = 1 ∧ t.hrt.b = s.hrt.b) ∧
  (∀ (s : State) (h : Hearth), s.up = true → s.hrt.holder = some h → s.stageIs .claimed = true →
    ∃ t, exec .takeoverInnerLock s = .next t ∧ t.stageIs .innerLocked = true ∧
      t.fget (SYN_SPINE_STATUS_INNER_LOCK (hearthIx h)) = 1 ∧
      keepsBut [SYN_SPINE_STATUS_INNER_LOCK (hearthIx h)] s t ∧ t = { s with regs := t.regs, hot := t.hot, hrt := t.hrt }) ∧
  (∀ s : State, s.up = true → s.stageIs .innerLocked = true →
    ∃ t, exec .takeoverAlignerMatch s = .next t ∧ t.stageIs .matched = true ∧
      t = { s with hrt := { s.hrt with takeover := t.hrt.takeover } }) ∧
  (∀ (s : State) (h : Hearth), s.up = true → s.hrt.holder = some h → s.stageIs .matched = true →
    ∃ t, exec .takeoverMuxMove s = .next t ∧
      t = { s with regs := t.regs, hot := t.hot, qw := t.qw, syn := t.syn, hrt := t.hrt, mgt := t.mgt } ∧
      t.stageIs .moved = true ∧
      t.fget (SYN_SPINE_STATUS_CARRIES_SPINE (hearthIx h)) = 1 ∧ t.spineMode = s.syn.pendMode.getD 0 % 8 ∧
      t.qw = { s.qw with suspended := false, resume := s.nextStarts }) ∧
  (∀ (s : State) (h : Hearth), s.up = true → s.hrt.holder = some h → s.stageIs .claimed = true →
    s.freeFor 120000 = true →
    ∃ t, exec .takeoverLockMiss s = .next t ∧
      t = { s with regs := t.regs, hot := t.hot, mgt := t.mgt } ∧
      t.fget HRT_STATUS_LONG_TAKEOVER = 1 ∧
      t.fget (SYN_SPINE_STATUS_POWERED (hearthIx h)) = 1 ∧ t.fget (SYN_SPINE_STATUS_INNER_LOCK (hearthIx h)) = 0 ∧
      (s.fbit HRT_STATUS_LONG_TAKEOVER = false → t.fget HRT_EVENTS_LONG_TAKEOVER_SEEN = 1 ∧ bitOf t.mgt.latched 3 = true) ∧
      t.hrt = s.hrt) ∧
  (∀ (s : State) (h : Hearth), s.up = true → s.hrt.holder = some h → s.fbit HRT_STATUS_LONG_TAKEOVER = true →
    s.stageIs .moved = false → s.freeFor 5000000 = true → (s.hearth h).st = .active →
    ∃ t, exec .longTakeoverTimeout s = .next t ∧
      t = { s with
        regs := t.regs, hot := t.hot, cfg := t.cfg, links := t.links, qw := t.qw, cnt := t.cnt, trunk := t.trunk,
        syn := t.syn, hrt := t.hrt, nib := t.nib, cal := t.cal, upd := t.upd, mgt := t.mgt } ∧
      (t.hearth h).st = .cinder ∧ t.hrt.holder = none ∧
      t.fget (HRT_CAUSE_CAUSE (hearthIx h)) = 2) ∧
  (∀ s : State, s.up = true → s.hrt.holder = none → s.takingOver = true → s.stageIs .free = true →
    s.freeFor 150000 = true →
    ∃ t, exec .noHolder s = .next t ∧
      t = { s with regs := t.regs, hot := t.hot, syn := t.syn, hrt := t.hrt, cal := t.cal, mgt := t.mgt } ∧
      t.fget HRT_STATUS_NO_HOLDER = 1 ∧ t.fget HRT_STATUS_TAKEOVER = 0 ∧
      t.fget HRT_EVENTS_NO_HOLDER_SEEN = 1 ∧ t.fget HRT_TAKEOVER_TO = 0 ∧ t.hrt.holder = none) ∧
  (∀ (s : State) (h : Hearth), s.up = true → s.hrt.holder = some h → s.stageIs .moved = true →
    ∃ t, exec .takeoverEnd s = .next t ∧
      t = { s with regs := t.regs, hot := t.hot, syn := t.syn, hrt := t.hrt, cal := t.cal, mgt := t.mgt } ∧
      t.fget HRT_STATUS_TAKEOVER = 0 ∧ t.fget HRT_STATUS_LONG_TAKEOVER = 0 ∧
      t.fget HRT_TAKEOVER_TO = hearthCode h ∧ t.fget HRT_EVENTS_TAKEOVER_SEEN = 1 ∧
      t.fget HRT_EVENTS_TAKEOVER_CNT = (s.fget HRT_EVENTS_TAKEOVER_CNT + 1) % 2 ^ 16 ∧ t.hrt.takeover = none ∧
      t.hrt.holder = some h) ∧
  (∀ s : State, s.up = true → s.hrt.holder = none → s.stageIs .free = true → s.mayClaim .a = false →
    s.mayClaim .b = true →
    ∃ t, exec .tokenClaim s = .next t ∧
      t = { s with
        regs := t.regs, hot := t.hot, cfg := t.cfg, trunk := t.trunk, syn := t.syn,
        hrt := t.hrt, nib := t.nib, cal := t.cal, mgt := t.mgt } ∧
      t.hrt.holder = some .b ∧ t.hrt.b.st = .active ∧ t.hrt.leaseEnd = s.now + s.leaseNs ∧ t.stageIs .claimed = true ∧
      t.fget (SYN_SPINE_STATUS_POWERED 1) = 1 ∧ t.hrt.a = s.hrt.a)

/-- 13 R360, R361, R369 to R371: a handover tests the standby before the token is released, or is refused with its
reason; a restart takes a hearth that does not hold the token through OFFLINE into STANDBY; a test powers the
standby's synthesizer and shows its result; a mismatch is counted, diagnosed and answered. Complete here: hrtHandover,
handoverTokenRelease, hrtRestart, autoRestart, autoLeftReplenish, hearthRestartDone, selfTestRetry, hrtTest,
selfTestPeriodic, selfTestDone, lockstepMismatch, diagnosisDone, resyncDone. -/
def Obligations.HearthsAreTested : Prop :=
  (∀ (s : State) (q : Requester), s.takes q = true → s.up = true → s.fbit HRT_CMD_HANDOVER = false →
    s.handoverReason = 0 →
    ∃ t, exec (.hrtHandover q) s = .next t ∧
      t = { s with regs := t.regs, hot := t.hot, syn := t.syn, hrt := t.hrt, mgt := t.mgt } ∧
      t.fget HRT_CMD_HANDOVER = 1 ∧ t.hrt.handover = .testing ∧
      t.hrt.holder = s.hrt.holder ∧ (∀ h, s.standby = some h → (t.hearth h).testing = true)) ∧
  (∀ (s : State) (q : Requester), s.takes q = true → s.up = true → s.fbit HRT_CMD_HANDOVER = false →
    s.handoverReason ≠ 0 →
    ∃ t, exec (.hrtHandover q) s = .next t ∧ t.fget HRT_CMD_HANDOVER = 0 ∧
      t.fget HRT_HANDOVER_REASON = s.handoverReason ∧ t.fget HRT_EVENTS_HANDOVER_REFUSED_SEEN = 1 ∧
      t.hrt.holder = s.hrt.holder ∧ keepsBut [HRT_CMD_HANDOVER, HRT_HANDOVER_REASON, HRT_EVENTS_HANDOVER_REFUSED_SEEN] s t ∧
      t = { s with regs := t.regs, hot := t.hot, hrt := t.hrt }) ∧
  (∀ (s : State) (h : Hearth), s.up = true → s.hrt.handover = .waiting → s.hrt.holder = some h → s.inStep = true →
    s.hrt.takeover = none →
    ∃ t, exec .handoverTokenRelease s = .next t ∧
      t = { s with
        regs := t.regs, hot := t.hot, cfg := t.cfg, links := t.links, qw := t.qw, cnt := t.cnt, trunk := t.trunk,
        syn := t.syn, hrt := t.hrt, nib := t.nib, cal := t.cal, mgt := t.mgt } ∧
      t.hrt.holder = none ∧ t.hrt.handover = .taking ∧
      t.hrt.takeover = some ⟨11, h, s.now, s.secLo, .free⟩ ∧ t.fget HRT_STATUS_TAKEOVER = 1) ∧
  (∀ (s : State) (q : Requester) (h : Hearth), s.takes q = true → s.up = true → s.hrt.holder ≠ some h →
    ∃ t, exec (.hrtRestart q h) s = .next t ∧
      t = { s with
        regs := t.regs, hot := t.hot, vbat := t.vbat, cfg := t.cfg, links := t.links, qw := t.qw, cnt := t.cnt, time := t.time,
        trunk := t.trunk, syn := t.syn, hrt := t.hrt, nib := t.nib, cal := t.cal, upd := t.upd, mgt := t.mgt } ∧
      (t.hearth h).st = .offline ∧ (t.hearth h).restarting = true ∧
      (t.hearth h).verified = false ∧ t.hrt.holder = s.hrt.holder) ∧
  (∀ (s : State) (q : Requester) (h : Hearth), s.hrt.holder = some h → exec (.hrtRestart q h) s = .next s) ∧
  (∀ (s : State) (h : Hearth), s.up = true → s.hrt.holder ≠ some h → (s.hearth h).autoDue = true →
    s.fbit HRT_LEASE_CFG_AUTO_RESTART = true → 0 < s.fget (HRT_CAUSE_AUTO_LEFT (hearthIx h)) →
    ∃ t, exec (.autoRestart h) s = .next t ∧
      t = { s with
        regs := t.regs, hot := t.hot, vbat := t.vbat, cfg := t.cfg, links := t.links, qw := t.qw, cnt := t.cnt, time := t.time,
        trunk := t.trunk, syn := t.syn, hrt := t.hrt, nib := t.nib, cal := t.cal, upd := t.upd, mgt := t.mgt } ∧
      (t.hearth h).restarting = true ∧ (t.hearth h).st = .offline ∧
      t.fget (HRT_CAUSE_AUTO_LEFT (hearthIx h)) = s.fget (HRT_CAUSE_AUTO_LEFT (hearthIx h)) - 1) ∧
  (∀ (s : State) (h : Hearth), s.up = true →
    ∃ t, exec (.autoLeftReplenish h) s = .next t ∧
      t.fget (HRT_CAUSE_AUTO_LEFT (hearthIx h)) = min 3 (s.fget (HRT_CAUSE_AUTO_LEFT (hearthIx h)) + 1) ∧
      keepsBut [HRT_CAUSE_AUTO_LEFT (hearthIx h)] s t ∧ t = { s with regs := t.regs }) ∧
  (∀ (s : State) (h : Hearth) (lockUs : Nat), s.up = true → (s.hearth h).restarting = true →
    (s.hearth h).verified = true → (s.hearth h).causeHolds = false → (s.fw (hearthIx h)).starting = none →
    ∃ t, exec (.hearthRestartDone h lockUs) s = .next t ∧
      t = { s with regs := t.regs, hot := t.hot, hrt := t.hrt, upd := t.upd, mgt := t.mgt } ∧
      (t.hearth h).st = .standby ∧ (t.hearth h).inStep = true ∧
      (t.hearth h).restarting = false ∧ t.fbit (hearthInvalid h) = false ∧
      t.fget (HRT_HEALTH_TEST_RESULT (hearthIx h)) = (if lockUs ≤ 133 then 1 else 2)) ∧
  (∀ (s : State) (q : Requester) (h : Hearth) (i : Instr), s.takes q = true → s.up = true → s.standby = some h →
    (s.hearth h).testing = false → (i = .selfTestRetry → (s.hearth h).fails ≠ 0) →
    i ∈ [Instr.hrtTest q, .selfTestPeriodic, .selfTestRetry] →
    ∃ t, exec i s = .next t ∧
      t = { s with regs := t.regs, hot := t.hot, syn := t.syn, hrt := t.hrt, mgt := t.mgt } ∧
      (t.hearth h).testing = true ∧ t.fget (SYN_SPINE_STATUS_POWERED (hearthIx h)) = 1 ∧
      t.hrt.holder = s.hrt.holder) ∧
  (∀ (s : State) (h : Hearth) (lockUs : Nat), s.up = true → s.standby = some h → (s.hearth h).testing = true →
    (s.hearth h).fails = 0 ∨ lockUs ≤ 133 →
    ∃ t, exec (.selfTestDone lockUs) s = .next t ∧
      t = { s with
        regs := t.regs, hot := t.hot, cfg := t.cfg, links := t.links, qw := t.qw, cnt := t.cnt, trunk := t.trunk,
        syn := t.syn, hrt := t.hrt, nib := t.nib, cal := t.cal, upd := t.upd, mgt := t.mgt } ∧
      (t.hearth h).testing = false ∧
      (t.hearth h).fails = (if lockUs ≤ 133 then 0 else 1) ∧
      t.fget (HRT_HEALTH_TEST_RESULT (hearthIx h)) = (if lockUs ≤ 133 then 1 else 2) ∧
      t.fget (HRT_HEALTH_LOCK_US (hearthIx h)) = (if lockUs ≤ 1000 then lockUs else 0x1FFF) ∧
      t.fget (SYN_SPINE_STATUS_POWERED (hearthIx h)) = 0) ∧
  (∀ (s : State) (h g : Hearth), s.up = true → s.standby = some h → s.hrt.holder = some g → (s.hearth h).inStep = true →
    s.mixed = false →
    ∃ t, exec .lockstepMismatch s = .next t ∧
      t = { s with regs := t.regs, hot := t.hot, hrt := t.hrt, mgt := t.mgt } ∧
      t.hrt.diagnosis = true ∧ t.fget HRT_EVENTS_MISMATCH_SEEN = 1 ∧
      t.fget (HRT_LOCKSTEP_MISMATCH_CNT (hearthIx h)) = min (s.fget (HRT_LOCKSTEP_MISMATCH_CNT (hearthIx h)) + 1) 65535 ∧
      keepsBut [HRT_EVENTS_MISMATCH_SEEN, HRT_LOCKSTEP_MISMATCH_CNT (hearthIx h)] s t) ∧
  (∀ (s : State) (h g : Hearth), s.up = true → s.standby = some h → s.hrt.holder = some g → g ≠ h →
    s.hrt.diagnosis = true → (∀ n, s.hrt.lastPass = some n → n + minuteNs < s.now) →
    ∃ t, exec (.diagnosisDone true true) s = .next t ∧
      t = { s with
        regs := t.regs, hot := t.hot, cfg := t.cfg, links := t.links, qw := t.qw, cnt := t.cnt, trunk := t.trunk,
        syn := t.syn, hrt := t.hrt, nib := t.nib, cal := t.cal, upd := t.upd, mgt := t.mgt } ∧
      t.hrt.diagnosis = false ∧ t.hrt.resync = some h ∧
      (t.hearth h).inStep = false ∧ t.hrt.lastPass = some s.now ∧ t.hrt.holder = some g) ∧
  (∀ (s : State) (h g : Hearth), s.up = true → s.standby = some h → s.hrt.holder = some g → g ≠ h →
    s.hrt.diagnosis = true →
    ∃ t, exec (.diagnosisDone true false) s = .next t ∧
      t = { s with
        regs := t.regs, hot := t.hot, cfg := t.cfg, links := t.links, qw := t.qw, cnt := t.cnt, trunk := t.trunk,
        syn := t.syn, hrt := t.hrt, nib := t.nib, cal := t.cal, upd := t.upd, mgt := t.mgt } ∧
      t.hrt.diagnosis = false ∧ (t.hearth h).st = .cinder ∧
      t.fget (HRT_CAUSE_CAUSE (hearthIx h)) = s.lowestCause h 4 ∧ t.hrt.holder = some g) ∧
  (∀ (s : State) (h g : Hearth), s.up = true → s.hrt.resync = some h → s.hrt.holder = some g → g ≠ h →
    s.serves h = true →
    ∃ t, exec .resyncDone s = .next t ∧
      t = { s with regs := t.regs, hot := t.hot, hrt := t.hrt, upd := t.upd, mgt := t.mgt } ∧
      (t.hearth h).st = .standby ∧ (t.hearth h).inStep = true ∧ t.hrt.resync = none ∧
      t.fget (HRT_LOCKSTEP_RESYNC_CNT (hearthIx h)) = min (s.fget (HRT_LOCKSTEP_RESYNC_CNT (hearthIx h)) + 1) 65535 ∧
      t.hrt.holder = some g) ∧
  (∀ (s : State) (h : Hearth) (lockUs : Nat), s.up = true → s.standby = some h → s.hrt.holder = some (otherHearth h) →
    (s.hearth h).testing = true → 1 ≤ (s.hearth h).fails → 133 < lockUs →
    ∃ t, exec (.selfTestDone lockUs) s = .next t ∧
      t = { s with
        regs := t.regs, hot := t.hot, cfg := t.cfg, links := t.links, qw := t.qw, cnt := t.cnt, trunk := t.trunk,
        syn := t.syn, hrt := t.hrt, nib := t.nib, cal := t.cal, upd := t.upd, mgt := t.mgt } ∧
      (t.hearth h).st = .cinder ∧ t.fget (HRT_CAUSE_CAUSE (hearthIx h)) = s.lowestCause h 6 ∧
      t.fget HRT_EVENTS_TEST_FAIL_SEEN = 1 ∧ t.hrt.holder = some (otherHearth h)) ∧
  (∀ (s : State) (h g : Hearth) (n : Nat), s.up = true → s.standby = some h → s.hrt.holder = some g → g ≠ h →
    s.hrt.diagnosis = true → s.hrt.lastPass = some n → s.now ≤ n + minuteNs →
    ∃ t, exec (.diagnosisDone true true) s = .next t ∧
      t = { s with
        regs := t.regs, hot := t.hot, cfg := t.cfg, links := t.links, qw := t.qw, cnt := t.cnt, trunk := t.trunk,
        syn := t.syn, hrt := t.hrt, nib := t.nib, cal := t.cal, upd := t.upd, mgt := t.mgt } ∧
      t.hrt.diagnosis = false ∧ (t.hearth h).st = .cinder ∧
      t.fget (HRT_CAUSE_CAUSE (hearthIx h)) = s.lowestCause h 5 ∧ t.hrt.holder = some g) ∧
  (∀ (s : State) (h g : Hearth), s.up = true → s.standby = some h → s.hrt.holder = some g → g ≠ h →
    (s.hearth g).st = .active → s.hrt.diagnosis = true →
    ∃ t, exec (.diagnosisDone false true) s = .next t ∧
      t = { s with
        regs := t.regs, hot := t.hot, cfg := t.cfg, links := t.links, qw := t.qw, cnt := t.cnt, trunk := t.trunk,
        syn := t.syn, hrt := t.hrt, nib := t.nib, cal := t.cal, upd := t.upd, mgt := t.mgt } ∧
      t.hrt.diagnosis = false ∧ (t.hearth g).st = .cinder ∧
      t.fget (HRT_CAUSE_CAUSE (hearthIx g)) = s.lowestCause g 4 ∧ t.hrt.holder = none)

/-- 14 R382 to R384, R397: a download session is begun, or refused with its reason; erased, filled in order by its
owner or failed with its code, ended with its banks WRITTEN or REJECTED, aborted or timed out; a configuration image
is judged at END, replaces one configuration bank and erases the other. Complete here: updBegin, updEraseDone,
updDataWrite, updEnd, updAbort, updSessionTimeout, configRewriteDone. -/
def Obligations.DownloadsRun : Prop :=
  (∀ (s : State) (q : Requester) (target : BitVec 5), s.takes q = true → s.up = true → s.upd.parts.length = 4 →
    s.beginReason target.toNat (s.fget UPD_LENGTH_LENGTH) = 0 →
    ∃ t, exec (.updBegin q target) s = .next t ∧ t.upd.down = .erasing ∧ t.upd.owner = some q ∧
      t.upd.targets = target.toNat ∧ t.upd.length = s.fget UPD_LENGTH_LENGTH ∧ t.upd.data = [] ∧
      t.fget UPD_XFER_STATUS_RESULT = 0 ∧
      (∀ p ∈ targetParts target.toNat, ((t.fw p).bank (s.fw p).inactive).status = 1 ∧ (t.fw p).active = (s.fw p).active) ∧
      keepsBut [UPD_SESSION_TARGET, UPD_XFER_STATUS_RESULT] s t ∧ t = { s with regs := t.regs, upd := t.upd }) ∧
  (∀ (s : State) (q : Requester) (target : BitVec 5), s.takes q = true → s.up = true →
    s.beginReason target.toNat (s.fget UPD_LENGTH_LENGTH) ≠ 0 →
    ∃ t, exec (.updBegin q target) s = .next t ∧
      t.fget UPD_XFER_STATUS_RESULT = s.beginReason target.toNat (s.fget UPD_LENGTH_LENGTH) ∧ t.upd = s.upd ∧
      t = { s with regs := t.regs }) ∧
  (∀ s : State, s.up = true → s.upd.down = .erasing →
    exec (.updEraseDone false) s = .next { s with upd := { s.upd with down := .receiving } }) ∧
  (∀ s : State, s.up = true → s.upd.down = .erasing →
    ∃ t, exec (.updEraseDone true) s = .next t ∧
      t = { s with regs := t.regs, hot := t.hot, upd := t.upd, mgt := t.mgt } ∧
      t.upd.down = .failed ∧ t.fget UPD_XFER_STATUS_RESULT = 7 ∧
      t.fget UPD_EVENTS_XFER_FAIL_SEEN = 1 ∧ bitOf t.mgt.latched 8 = true ∧ t.upd.parts = s.upd.parts) ∧
  (∀ (s : State) (q : Requester) (data : Word), s.takes q = true → s.up = true → s.upd.down = .receiving →
    s.upd.owner = some q →
    s.upd.data.length + 4 ≤ s.upd.length →
    exec (.updDataWrite q data false false) s =
      .next { s with upd := { s.upd with data := s.upd.data ++ leBytes 4 data.toNat } }) ∧
  (∀ (s : State) (q : Requester), s.takes q = true → s.up = true → s.upd.down = .receiving → s.upd.owner = some q →
    s.upd.data.length = s.upd.length → s.upd.parts.length = 4 → s.upd.targets ≠ 16 → s.headerReason s.upd.data = 0 →
    ∃ t, exec (.updEnd q) s = .next t ∧ t.upd.down = .idle ∧ t.upd.owner = none ∧ t.fget UPD_XFER_STATUS_RESULT = 0 ∧
      (∀ p ∈ targetParts s.upd.targets, (t.fw p).bank (s.fw p).inactive = ⟨2, .written s.upd.data⟩) ∧
      keepsBut [UPD_XFER_STATUS_RESULT] s t ∧ t = { s with regs := t.regs, hot := t.hot, upd := t.upd }) ∧
  (∀ (s : State) (q : Requester), s.takes q = true → s.up = true → s.upd.down = .receiving → s.upd.owner = some q →
    s.upd.data.length = s.upd.length → s.upd.parts.length = 4 → s.headerReason s.upd.data ≠ 0 →
    ∃ t, exec (.updEnd q) s = .next t ∧
      t = { s with regs := t.regs, hot := t.hot, cfg := t.cfg, upd := t.upd, mgt := t.mgt } ∧
      t.upd.down = .idle ∧ t.fget UPD_XFER_STATUS_RESULT = 6 ∧
      t.fget UPD_EVENTS_XFER_FAIL_SEEN = 1 ∧
      (∀ p ∈ targetParts s.upd.targets, ((t.fw p).bank (s.fw p).inactive).status = 5 ∧
        (t.fw p).reason = s.headerReason s.upd.data)) ∧
  (∀ (s : State) (q : Requester), s.takes q = true → s.up = true → s.upd.down ∈ [DownState.erasing, .receiving] →
    s.upd.owner = some q →
    ∃ t, exec (.updAbort q) s = .next t ∧ t.upd = { s.upd with down := .failed, owner := none } ∧
      t.fget UPD_EVENTS_XFER_FAIL_SEEN = 1 ∧ bitOf t.mgt.latched 8 = true ∧ keepsBut [UPD_EVENTS_XFER_FAIL_SEEN] s t ∧
      t = { s with regs := t.regs, hot := t.hot, upd := t.upd, mgt := t.mgt }) ∧
  (∀ s : State, s.up = true → s.upd.down ∈ [DownState.erasing, .receiving] →
    ∃ t, exec .updSessionTimeout s = .next t ∧ t.upd = { s.upd with down := .failed, owner := none } ∧
      t.fget UPD_XFER_STATUS_RESULT = 9 ∧ t.fget UPD_EVENTS_XFER_FAIL_SEEN = 1 ∧
      t = { s with regs := t.regs, hot := t.hot, upd := t.upd, mgt := t.mgt }) ∧
  (∀ (s : State) (b bad0 bad1 : Nat), s.up = true → s.upd.down = .closing → s.cfg.updateBank = some b → b < 2 →
    ∃ t, exec (.configRewriteDone ⟨true, bad0⟩ ⟨true, bad1⟩) s = .next t ∧
      t = { s with freeCtr := t.freeCtr, regs := t.regs, hot := t.hot, cfg := t.cfg, upd := t.upd, mgt := t.mgt } ∧
      t.cfgBank b = .raw s.cfg.updateImage ∧
      t.cfgBank (1 - b) = .erased ∧ t.cfg.updateBank = none ∧ t.upd.down = .idle ∧ t.fget UPD_XFER_STATUS_RESULT = 0) ∧
  (∀ (s : State) (b bad0 bad1 : Nat) (eraseOk : Bool), s.up = true → s.upd.down = .closing → s.cfg.updateBank = some b → b < 2 →
    ∃ t, exec (.configRewriteDone ⟨false, bad0⟩ ⟨eraseOk, bad1⟩) s = .next t ∧
      t = { s with freeCtr := t.freeCtr, regs := t.regs, hot := t.hot, cfg := t.cfg, upd := t.upd, mgt := t.mgt } ∧
      t.cfgBank (1 - b) = s.cfgBank (1 - b) ∧
      t.cfg.updateBank = none ∧ t.upd.down = .failed ∧ t.fget UPD_XFER_STATUS_RESULT = 7) ∧
  (∀ (s : State) (q : Requester) (c : List Byte) (good : Bool), s.takes q = true → s.up = true →
    s.upd.down = .receiving → s.upd.owner = some q → s.upd.data.length = s.upd.length → s.upd.targets = 16 →
    s.headerReason s.upd.data = 0 → c = cfgPayload s.upd.data →
    good = (Config.signatureOk s.upd.data && Config.tagOk s.upd.data && cfgHeader c && s.headerPart c && cfgCrc c) →
    ∃ t, exec (.updEnd q) s = .next t ∧
      (good = true → t = { s with
        upd := { s.upd with down := .closing },
        cfg := { s.cfg with updateBank := some s.cfgTarget, updateImage := cfgBytes c, locked := true } }) ∧
      (good = false → t.upd = { s.upd with down := .idle, owner := none } ∧ t.fget UPD_XFER_STATUS_RESULT = 6 ∧
        t.fget UPD_EVENTS_XFER_FAIL_SEEN = 1 ∧ t = { s with regs := t.regs, hot := t.hot, upd := t.upd, mgt := t.mgt })) ∧
  (∀ (s : State) (q : Requester) (data : Word) (full flashFails : Bool), s.takes q = true → s.up = true →
    s.upd.down = .receiving → s.upd.owner = some q →
    s.upd.length < s.upd.data.length + 4 ∨ full = true ∨ flashFails = true →
    ∃ t, exec (.updDataWrite q data full flashFails) s = .next t ∧
      t.upd = { s.upd with down := .failed, owner := none } ∧ t.fget UPD_EVENTS_XFER_FAIL_SEEN = 1 ∧
      t.fget UPD_XFER_STATUS_RESULT = (if s.upd.length < s.upd.data.length + 4 then 5 else if full then 8 else 7) ∧
      t = { s with regs := t.regs, hot := t.hot, upd := t.upd, mgt := t.mgt })

/-- 14 R388, R389, R391 to R394: an activation makes the inactive bank the TRIAL bank that the part starts, or is
refused with its reason; a confirmation makes it GOOD and active; a rejection or the end of the window makes it
REJECTED, and where the part is the active hearth's its token is freed first, or without a hearth in step the device
resets; a watchdog restarts its controller. Complete here: updActivate, updReject, updAllow, trialConfirm,
trialWindowExpired, controllerWatchdog, laneControllerRestartDone. -/
def Obligations.TrialsEnd : Prop :=
  (∀ (s : State) (q : Requester) (p : Fin 4), s.takes q = true → s.up = true → s.upd.parts.length = 4 →
    s.activateReason p = 0 →
    (s.fw p).trial = none → (s.fw p).active < 2 →
    ∃ t, exec (.updActivate q p) s = .next t ∧
      t = { s with
        vbat := t.vbat, out := t.out, freeCtr := t.freeCtr, regs := t.regs, hot := t.hot, cfg := t.cfg,
        links := t.links, fwd := t.fwd, qw := t.qw, buf := t.buf, cnt := t.cnt, time := t.time, trunk := t.trunk,
        syn := t.syn, hrt := t.hrt, nib := t.nib, cal := t.cal, upd := t.upd, mgt := t.mgt } ∧
      ((t.fw p).bank (s.fw p).inactive).status = 4 ∧
      (t.fw p).starting = some (s.fw p).inactive ∧ (t.fw p).running = none ∧ t.upd.allowed = false ∧
      (t.fw p).bank (s.fw p).active = (s.fw p).bank (s.fw p).active) ∧
  (∀ (s : State) (q : Requester) (p : Fin 4), s.takes q = true → s.up = true → s.activateReason p ≠ 0 →
    ∃ t, exec (.updActivate q p) s = .next t ∧ t.fget UPD_STATUS_ACT_REFUSE = s.activateReason p ∧
      t.fget UPD_EVENTS_ACT_REFUSED_SEEN = 1 ∧ keepsBut [UPD_STATUS_ACT_REFUSE, UPD_EVENTS_ACT_REFUSED_SEEN] s t ∧
      t = { s with regs := t.regs, hot := t.hot }) ∧
  (∀ (s : State) (q : Requester) (p : Fin 4) (b : Nat), s.takes q = true → s.up = true → s.upd.parts.length = 4 →
    (s.fw p).trial = some b → ((s.fw p).bank (1 - b)).status ≠ 4 → (2 ≤ p.val ∨ s.hrt.holder ≠ some (partHearth p)) →
    ∃ t, exec (.updReject q p) s = .next t ∧ ((t.fw p).bank b).status = 5 ∧ (t.fw p).reason = 9 ∧
      (t.fw p).starting = some (s.fw p).active ∧ t.fget UPD_EVENTS_FALLBACK_SEEN = 1 ∧ bitOf t.mgt.latched 8 = true) ∧
  (∀ (s : State) (q : Requester) (p : Fin 4), (s.fw p).trial = none → exec (.updReject q p) s = .next s) ∧
  (∀ (s : State) (q : Requester) (p : Nat), s.takes q = true → s.up = true → s.trialPart = some p →
    exec (.updAllow q) s = .next { s with upd := { s.upd with allowed := true } }) ∧
  (∀ (s : State) (p b : Nat), s.up = true → s.upd.parts.length = 4 → s.trialPart = some p →
    (s.fw p).trial = some b → s.mayConfirm p = true → (s.fw p).windowAt + s.soakNs ≤ s.now →
    ∃ t, exec .trialConfirm s = .next t ∧ ((t.fw p).bank b).status = 3 ∧ ((t.fw p).bank (1 - b)).status = 2 ∧
      (t.fw p).active = b ∧ t.fget UPD_EVENTS_CONFIRM_SEEN = 1 ∧ t.upd.allowed = false ∧
      t = { s with regs := t.regs, hot := t.hot, upd := t.upd }) ∧
  (∀ (s : State) (p b : Nat), s.up = true → s.upd.parts.length = 4 → s.trialPart = some p →
    (s.fw p).trial = some b → ((s.fw p).bank (1 - b)).status ≠ 4 → (2 ≤ p ∨ s.hrt.holder ≠ some (partHearth p)) →
    (s.fw p).windowAt + s.windowS * 1000000000 ≤ s.now →
    ∃ t, exec .trialWindowExpired s = .next t ∧ ((t.fw p).bank b).status = 5 ∧ (t.fw p).reason = 8 ∧
      (t.fw p).starting = some (s.fw p).active ∧ t.fget UPD_EVENTS_FALLBACK_SEEN = 1) ∧
  (∀ (s : State) (b : Nat), s.up = true → s.upd.parts.length = 4 → s.trialPart = some 0 → (s.fw 0).trial = some b →
    s.hrt.holder = some .a → s.inStep = false → (s.fw 0).windowAt + s.windowS * 1000000000 ≤ s.now →
    ∃ t, exec .trialWindowExpired s = .next t ∧ t.life = .reset ∧ 7 ∈ t.causes) ∧
  (∀ s : State, s.up = true → (s.fw 2).running.isSome = true → s.upd.parts.length = 4 →
    ∃ t, exec (.controllerWatchdog false) s = .next t ∧
      t = { s with regs := t.regs, hot := t.hot, vbat := t.vbat, links := t.links, upd := t.upd, mgt := t.mgt } ∧
      t.links.ctlRestart = true ∧ (t.fw 2).running = none) ∧
  (∀ s : State, s.up = true → (s.fw 3).running.isSome = true → s.upd.parts.length = 4 →
    ∃ t, exec (.controllerWatchdog true) s = .next t ∧
      t = { s with
        vbat := t.vbat, out := t.out, freeCtr := t.freeCtr, regs := t.regs, hot := t.hot, fwd := t.fwd, buf := t.buf,
        cnt := t.cnt, upd := t.upd, mgt := t.mgt } ∧
      t.buf.peatRestart = true ∧ (t.fw 3).running = none) ∧
  (∀ s : State, s.up = true → s.links.ctlRestart = true → (s.fw 2).starting = none →
    exec .laneControllerRestartDone s = .next { s with links := { s.links with ctlRestart := false } }) ∧
  (∀ (s : State) (q : Requester) (p : Fin 4) (b : Nat), s.takes q = true → s.up = true → s.upd.parts.length = 4 →
    (s.fw p).trial = some b → p.val < 2 → s.hrt.holder = some (partHearth p) → s.inStep = true →
    ((s.fw p).bank (1 - b)).status ≠ 4 →
    ∃ t, exec (.updReject q p) s = .next t ∧ ((t.fw p).bank b).status = 5 ∧ (t.fw p).reason = 9 ∧
      t.fget UPD_EVENTS_FALLBACK_SEEN = 1 ∧ t.hrt.holder = none ∧ (t.hearth (partHearth p)).restarting = true ∧
      t.fget HRT_STATUS_TAKEOVER = 1) ∧
  (∀ (s : State) (q : Requester) (p : Fin 4) (b : Nat), s.takes q = true → s.up = true → s.upd.parts.length = 4 →
    (s.fw p).trial = some b → p.val < 2 → s.hrt.holder = some (partHearth p) → s.inStep = false →
    ∃ t, exec (.updReject q p) s = .next t ∧ ((t.fw p).bank b).status = 5 ∧ t.life = .reset ∧ 7 ∈ t.causes)

/-- 15 R401 to R404, R407, R411 to R413: the actions of the counters act at once or at their instant, or are refused;
a period ends with its result; the capture ring gives its oldest record, word by word; a mirror frame takes up to nine
records. Complete here: cntSnapshot, cntSnapshotClear, cntFreeze, cntThaw, cntAbort, cntTimedAction, bwPeriodEnd,
cntCapPop, cntCapDataRead, mirrorFrameSend. -/
def Obligations.CountersAreRead : Prop :=
  (∀ (s : State) (q : Requester), s.takes q = true → s.up = true →
    ∃ t, exec (.cntSnapshot q false) s = .next t ∧ t.cnt.snap = s.cnt.vals ∧ t.cnt.vals = s.cnt.vals ∧
      t.getReg CNT_SNAP_SEQ = (s.getReg CNT_SNAP_SEQ + 1) % 2 ^ 32 ∧ t.fget CNT_STATUS_SNAP_SEEN = 1 ∧
      t.getReg CNT_SNAP_TIME_NS = s.timeNs % 1000000000 ∧ t = { s with regs := t.regs, hot := t.hot, cnt := t.cnt }) ∧
  (∀ (s : State) (q : Requester), s.takes q = true → s.up = true →
    ∃ t, exec (.cntSnapshotClear q false) s = .next t ∧ t.cnt.snap = s.cnt.vals ∧ t.cnt.vals = [] ∧
      (∀ p : Fin 64, t.getReg (CNT_WRAP0 p) = 0 ∧ t.getReg (CNT_WRAP1 p) = 0) ∧
      t = { s with regs := t.regs, hot := t.hot, cnt := t.cnt }) ∧
  (∀ (s : State) (q : Requester) (i : Instr) (v : Nat), s.takes q = true → s.up = true →
    (i, v) ∈ [(Instr.cntFreeze q false, 1), (.cntThaw q false, 0)] →
    ∃ t, exec i s = .next t ∧ t.fget CNT_STATUS_FROZEN = v ∧ keepsBut [CNT_CMD_OP, CNT_CMD_TIMED, CNT_STATUS_FROZEN] s t ∧
      t = { s with regs := t.regs, hot := t.hot }) ∧
  (∀ (s : State) (q : Requester) (i : Instr) (op : Nat), s.takes q = true → s.up = true →
    (i, op) ∈ [(Instr.cntSnapshot q true, 1), (.cntFreeze q true, 2), (.cntThaw q true, 3), (.cntSnapshotClear q true, 4)] →
    ∃ t, exec i s = .next t ∧
      (s.cntRefuse op true = 0 → t.cnt = { s.cnt with timed := some (op, s.actTime) } ∧ t.fget CNT_STATUS_PEND_OP = op) ∧
      (s.cntRefuse op true ≠ 0 → t.cnt = s.cnt ∧ t.fget CNT_STATUS_REFUSED_SEEN = 1 ∧
        t.fget CNT_STATUS_REFUSE = s.cntRefuse op true) ∧ t = { s with regs := t.regs, hot := t.hot, cnt := t.cnt }) ∧
  (∀ (s : State) (q : Requester), s.takes q = true → s.up = true →
    ∃ t, exec (.cntAbort q) s = .next t ∧ t.cnt = { s.cnt with timed := none } ∧ t.fget CNT_STATUS_PEND_OP = 0 ∧
      keepsBut [CNT_STATUS_PEND_OP] s t ∧ t = { s with regs := t.regs, cnt := t.cnt }) ∧
  (∀ (s : State) (ns : Nat), s.up = true → s.cnt.timed = some (1, ns) → ns * 2 ^ 48 ≤ s.time.clock →
    ∃ t, exec .cntTimedAction s = .next t ∧
      t = { s with regs := t.regs, hot := t.hot, cnt := t.cnt, mgt := t.mgt } ∧
      t.cnt.timed = none ∧ t.cnt.snap = s.cnt.vals ∧
      t.getReg CNT_SNAP_TIME_NS = ns % 1000000000 ∧ t.fget CNT_STATUS_PEND_OP = 0) ∧
  (∀ (s : State) (w : Fin 64), s.up = true → s.fbit (CNT_BW_CFG_ENABLE w) = true → (s.bwOf w).running = true →
    s.bwDue w = true →
    ∃ t, exec (.bwPeriodEnd w) s = .next t ∧ t.getReg (CNT_BW_BYTES_LO w) = (s.bwOf w).bytes % 2 ^ 32 ∧
      t.getReg (CNT_BW_FRAMES w) = min (s.bwOf w).frames (2 ^ 32 - 1) ∧
      t.fget (CNT_BW_RES_SEQ w) = nextResult (s.fget (CNT_BW_RES_SEQ w)) ∧ (t.bwOf w).bytes = 0 ∧
      (t.bwOf w).frames = 0 ∧ (t.bwOf w).running = true ∧ t = { s with regs := t.regs, cnt := t.cnt }) ∧
  (∀ (s : State) (q : Requester) (r : CapRec) (rest : List CapRec), s.takes q = true → s.up = true →
    s.cnt.ring = r :: rest →
    reqIx q < s.cnt.bufs.length →
    ∃ t, exec (.cntCapPop q) s = .next t ∧ t.cnt.ring = rest ∧ t.capBufOf q = ⟨true, 0, r.bytes⟩ ∧
      t.fget CNT_CAP_STATUS_STOPPED = 0 ∧ keepsBut [CNT_CAP_STATUS_STOPPED] s t ∧
      t = { s with regs := t.regs, cnt := t.cnt }) ∧
  (∀ (s : State) (q : Requester), s.up = true → reqIx q < s.cnt.bufs.length →
    ∃ t, exec (.cntCapDataRead q) s = .next t ∧
      t.out = .answer q (CNT_CAP_DATA 0 % 2 ^ 32) (BitVec.ofNat 32 (beAt (s.capBufOf q).bytes (4 * (s.capBufOf q).index) 4))
        :: s.out ∧
      t.capBufOf q = { s.capBufOf q with index := ((s.capBufOf q).index + 1) % 40 } ∧
      t = { s with out := t.out, cnt := t.cnt }) ∧
  (∀ s : State, s.up = true → s.cnt.mirror ≠ [] → s.fbit CNT_CAP_MIRROR_MIRROR_EN = true →
    ∃ t, exec .mirrorFrameSend s = .next t ∧ t.cnt = { s.cnt with mirror := s.cnt.mirror.drop 9 } ∧
      t = { s with regs := t.regs, hot := t.hot, cnt := t.cnt, buf := t.buf }) ∧
  (∀ (s : State) (op ns : Nat), s.up = true → s.cnt.timed = some (op, ns) → op ∈ [2, 3] → ns * 2 ^ 48 ≤ s.time.clock →
    ∃ t, exec .cntTimedAction s = .next t ∧
      t = { s with regs := t.regs, hot := t.hot, cnt := t.cnt } ∧ t.cnt = { s.cnt with timed := none } ∧
      t.fget CNT_STATUS_FROZEN = (if op = 2 then 1 else 0) ∧ t.fget CNT_STATUS_PEND_OP = 0 ∧
      keepsBut [CNT_STATUS_FROZEN, CNT_STATUS_PEND_OP] s t) ∧
  (∀ (s : State) (ns : Nat), s.up = true → s.cnt.timed = some (4, ns) → ns * 2 ^ 48 ≤ s.time.clock →
    ∃ t, exec .cntTimedAction s = .next t ∧
      t = { s with regs := t.regs, hot := t.hot, cnt := t.cnt, mgt := t.mgt } ∧ t.cnt.timed = none ∧
      t.cnt.snap = s.cnt.vals ∧ t.cnt.vals = []) ∧
  (∀ s : State, s.up = true → (∀ a, s.cnt.timed = some a → s.time.clock < a.2 * 2 ^ 48) →
    exec .cntTimedAction s = .next s)

/-- 16 R418, R419, R423, R428, R430: a request of open access is performed and answered, one that fails its checks is
answered with its STATUS or counted; unprompted frames take what waited for them; a write clears latched alarm bits
with their counts, and each raising counts once. Complete here: mgmtRead, mgmtReadRepeat, mgmtHealth, mgmtWrite,
mgmtWriteRepeat, mgmtReset, notifySend, healthReportSend, alarmClear. -/
def Obligations.AgentAnswers : Prop :=
  (∀ (s : State) (r : AgentReq) (rest : List AgentReq) (i : Instr), s.inService = true → s.mgt.requests = r :: rest →
    r.auth = false → s.openAccess = true → r.bootId = s.getReg MGT_BOOT_ID → r.formed = true →
    (i, r.type) ∈ [(Instr.mgmtRead, 1), (.mgmtReadRepeat, 4), (.mgmtHealth, 6)] →
    ∃ t, exec i s = .next t ∧
      t = { s with freeCtr := t.freeCtr, regs := t.regs, hot := t.hot, bus := t.bus, buf := t.buf, cnt := t.cnt, mgt := t.mgt } ∧
      t.mgt.requests = rest ∧ t.mgt.nextSeq = (s.mgt.nextSeq + 1) % 2 ^ 63 ∧
      t.life = s.life ∧ t.time = s.time ∧ t.cfg = s.cfg ∧ t.hrt = s.hrt) ∧
  (∀ (s : State) (r : AgentReq) (rest : List AgentReq) (i : Instr), s.inService = true →
    s.mgt.requests = r :: rest → r.auth = false → s.openAccess = true → r.bootId = s.getReg MGT_BOOT_ID →
    r.formed = true → r.length = 8 → r.word 0 = UPD_LENGTH →
    (i, r.type) ∈ [(Instr.mgmtWrite, 2), (.mgmtWriteRepeat, 3)] →
    ∃ t, exec i s = .next t ∧
      t = { s with freeCtr := t.freeCtr, regs := t.regs, bus := t.bus, buf := t.buf, cnt := t.cnt, mgt := t.mgt } ∧
      t.mgt.requests = rest ∧ t.mgt.nextSeq = (s.mgt.nextSeq + 1) % 2 ^ 63 ∧
      t.getReg UPD_LENGTH = r.word 1 ∧ t.life = s.life) ∧
  (∀ (s : State) (r : AgentReq) (rest : List AgentReq), s.inService = true → s.mgt.requests = r :: rest →
    r.auth = false → s.openAccess = true → r.bootId = s.getReg MGT_BOOT_ID → r.formed = true → r.type = 5 →
    ∃ t, exec .mgmtReset s = .next t ∧ t.life = .reset ∧ 4 ∈ t.causes ∧ t.mgt.requests = []) ∧
  (∀ (s : State) (r : AgentReq) (rest : List AgentReq) (i : Instr), s.inService = true → s.mgt.requests = r :: rest →
    r.auth = true → s.tagGood r = false →
    (i, r.served) ∈ [(Instr.mgmtRead, 1), (.mgmtWrite, 2), (.mgmtWriteRepeat, 3), (.mgmtReadRepeat, 4), (.mgmtReset, 5),
      (.mgmtHealth, 6)] →
    ∃ t, exec i s = .next t ∧ t.mgt.requests = rest ∧
      t.fget MGT_AGENT_CNT_AUTH_FAIL = min (s.fget MGT_AGENT_CNT_AUTH_FAIL + 1) 255 ∧ bitOf t.mgt.latched 11 = true ∧
      t.mgt.nextSeq = s.mgt.nextSeq ∧ keepsBut [MGT_AGENT_CNT_AUTH_FAIL] s t ∧ t = { s with regs := t.regs, hot := t.hot, mgt := t.mgt }) ∧
  (∀ (s : State) (at_ : Nat), s.inService = true → s.mgt.notify = some at_ → s.fbit MGT_NOTIFY_CFG_EN = true →
    s.heldOff s.mgt.notifySent = false →
    ∃ t, exec .notifySend s = .next t ∧
      t = { s with freeCtr := t.freeCtr, regs := t.regs, hot := t.hot, buf := t.buf, mgt := t.mgt } ∧
      t.mgt.notify = none ∧
      t.mgt.nextSeq = (if s.link (s.fget MGT_NOTIFY_CFG_PORT) then (s.mgt.nextSeq + 1) % 2 ^ 63 else s.mgt.nextSeq)) ∧
  (∀ s : State, s.inService = true → s.mgt.healthDue = true → s.fbit MGT_NOTIFY_CFG_HEALTH_EN = true →
    s.heldOff s.mgt.healthSent = false →
    ∃ t, exec .healthReportSend s = .next t ∧
      t = { s with freeCtr := t.freeCtr, regs := t.regs, hot := t.hot, buf := t.buf, cnt := t.cnt, mgt := t.mgt } ∧
      t.mgt.healthDue = false ∧
      t.mgt.nextSeq = (if s.link (s.fget MGT_NOTIFY_CFG_PORT) then (s.mgt.nextSeq + 1) % 2 ^ 63 else s.mgt.nextSeq)) ∧
  (∀ (s : State) (q : Requester) (bits : BitVec 14), s.takes q = true → s.up = true →
    ∃ t, exec (.alarmClear q bits) s = .next t ∧
      (∀ n < 14, bitOf t.mgt.latched n =
        (bitOf s.mgt.latched n && (!bits.getLsbD n || bitOf (s.hotBits MGT_ALARM) n))) ∧
      (∀ n < 14, t.mgt.counts.getD n 0 = if bits.getLsbD n then 0 else s.mgt.counts.getD n 0) ∧
      t.getReg MGT_AGENT_CNT = (if bits.getLsbD 11 then 0 else s.getReg MGT_AGENT_CNT) ∧
      (∀ k, k ≠ MGT_AGENT_CNT → t.getReg k = s.getReg k) ∧ t = { s with regs := t.regs, mgt := t.mgt }) ∧
  (∀ (s : State) (i : Instr), s.up = true → s.countsOk = true → s.fbit GLB_PWR_STATUS_OV_WARN = false →
    i ∈ [Instr.ilimReached, .ovWarn] → ∃ t, exec i s = .next t ∧
      t = { s with regs := t.regs, hot := t.hot, mgt := t.mgt } ∧
      raisedOnce 1 s t)

/-- 16 R424 to R427: the console answers each line while it is enabled; a cage transaction waits for its cage and ends
with its result; the scan port shifts, holds the core for EXTEST, CLAMP and HIGHZ, and resets the device when it
leaves them. Complete here: uartRead, uartWrite, uartReadRepeat, uartHealth, uartAlarm, uartBadLine, i2cTransaction,
i2cDone, jtagExtest, jtagClamp, jtagHighz, jtagSamplePreload, jtagIdcode, jtagBypass, jtagTestExit. -/
def Obligations.PortsAnswer : Prop :=
  (∀ (s : State) (addr : Word), s.consoleOn = true →
    ∃ t, exec (.uartRead addr) s = .next t ∧
      t = { s with out := t.out, freeCtr := t.freeCtr, bus := t.bus, cnt := t.cnt } ∧
      t.out = .console [hexWord addr.toNat ++ [' '] ++ hexWord (s.busRead .uart addr.toNat).2] :: s.out ∧
      t.regs = s.regs) ∧
  (∀ (s : State) (addr value : Word), s.consoleOn = true → s.fbit MGT_UART_CFG_READ_ONLY = true →
    exec (.uartWrite addr value) s = .next { s with out := .console [['e', 'r', 'r', ' ', 'r', 'o']] :: s.out }) ∧
  (∀ (s : State) (value : Word), s.consoleOn = true → s.fbit MGT_UART_CFG_READ_ONLY = false →
    ∃ t, exec (.uartWrite (BitVec.ofNat 32 UPD_LENGTH) value) s = .next t ∧
      t = { s with out := t.out, regs := t.regs, mgt := t.mgt } ∧
      t.getReg UPD_LENGTH = value.toNat ∧ t.out = .console [['o', 'k']] :: s.out ∧
      (∀ k, k ≠ UPD_LENGTH → t.getReg k = s.getReg k)) ∧
  (∀ (s : State) (addr count : Word), s.consoleOn = true → 0 < count.toNat → count.toNat ≤ 256 →
    ∃ t lines, exec (.uartReadRepeat addr count) s = .next t ∧
      t = { s with out := t.out, freeCtr := t.freeCtr, bus := t.bus, cnt := t.cnt } ∧
      t.out = .console lines :: s.out ∧
      lines.length = count.toNat ∧ t.regs = s.regs) ∧
  (∀ (s : State) (addr count : Word), s.consoleOn = true → count.toNat = 0 ∨ 256 < count.toNat →
    exec (.uartReadRepeat addr count) s = .next { s with out := .console [errSyntax] :: s.out }) ∧
  (∀ s : State, s.consoleOn = true →
    exec .uartHealth s =
      .next { s with out := .console (s.healthWords.map hexWord) :: s.out, freeCtr := s.freeCtr + 1 }) ∧
  (∀ s : State, s.consoleOn = true →
    exec .uartAlarm s =
      .next { s with out := .console (hexWord s.alarmBits :: ((List.range 4).map s.alarmCounts).map hexWord) :: s.out }) ∧
  (∀ s : State, s.consoleOn = true → exec .uartBadLine s = .next { s with out := .console [errSyntax] :: s.out }) ∧
  (∀ (s : State) (addr value count : Word) (i : Instr), s.consoleOn = false →
    i ∈ [Instr.uartRead addr, .uartWrite addr value, .uartReadRepeat addr count, .uartHealth, .uartAlarm, .uartBadLine] →
    exec i s = .next s) ∧
  (∀ (s : State) (q : Requester) (command : Word), s.takes q = true → s.up = true →
    s.fbit (MGT_I2C_CMD_GO (reqIx q)) = false →
    s.cageOff (fieldOf command.toNat 20 4) = false →
    ∃ t, exec (.i2cTransaction q command) s = .next t ∧
      t = { s with regs := t.regs, hot := t.hot, mgt := t.mgt } ∧
      t.fbit (MGT_I2C_CMD_GO (reqIx q)) = true ∧
      t.mgt.i2c = s.mgt.i2c ++
        [⟨q, fieldOf command.toNat 20 4, !bitOf command.toNat 26, fieldOf command.toNat 24 2 + 1⟩] ∧
      (∀ k, k ≠ MGT_I2C_CMD (reqIx q) → t.getReg k = s.getReg k)) ∧
  (∀ (s : State) (q : Requester) (command : Word), s.takes q = true → s.up = true →
    s.fbit (MGT_I2C_CMD_GO (reqIx q)) = false →
    s.cageOff (fieldOf command.toNat 20 4) = true →
    ∃ t, exec (.i2cTransaction q command) s = .next t ∧
      t = { s with regs := t.regs, mgt := t.mgt } ∧
      t.fbit (MGT_I2C_CMD_GO (reqIx q)) = false ∧
      t.fget (MGT_I2C_CMD_RESULT (reqIx q)) = 3 ∧ t.mgt.i2c = s.mgt.i2c) ∧
  (∀ (s : State) (cage : Fin 16) (data : Word) (x : I2cOp) (rest : List I2cOp), s.up = true → s.mgt.i2c = x :: rest →
    x.cage = cage → x.read = true → x.len = 4 →
    ∃ t, exec (.i2cDone cage 0 data) s = .next t ∧
      t = { s with freeCtr := t.freeCtr, regs := t.regs, mgt := t.mgt } ∧
      t.mgt.i2c = rest ∧ t.fbit (MGT_I2C_CMD_GO (reqIx x.q)) = false ∧
      t.fget (MGT_I2C_CMD_RESULT (reqIx x.q)) = 0 ∧ t.getReg (MGT_I2C_DATA (reqIx x.q)) = data.toNat) ∧
  (∀ (s : State) (load : BitVec 288) (i : Instr) (code : Nat), s.life ≠ .dormant → s.power.scanHold = false →
    (i, code) ∈ [(Instr.jtagExtest load, 0), (.jtagClamp, 3), (.jtagHighz, 4)] →
    ∃ t, exec i s = .next t ∧ t.power.scanHold = true ∧ t.up = false ∧ t.mgt.ir = code ∧ t.life = .reset ∧
      t.mgt.boundary = (if code = 0 then load else s.mgt.boundary) ∧ t.buf = State.reset.buf ∧ t.vbat = s.vbat) ∧
  (∀ (s : State) (pins load : BitVec 288), s.life ≠ .dormant → s.power.scanHold = false →
    exec (.jtagSamplePreload pins load) s =
      .next { s with
        out := .scanned 288 (pins.toNat &&& scanMask) :: s.out, mgt := { s.mgt with ir := 1, boundary := load } }) ∧
  (∀ s : State, s.life ≠ .dormant → s.power.scanHold = false →
    exec .jtagIdcode s = .next { s with out := .scanned 32 s.idcode :: s.out, mgt := { s.mgt with ir := 2 } }) ∧
  (∀ (s : State) (i : Instr) (code : Nat), s.life ≠ .dormant → s.power.scanHold = false →
    (i, code) ∈ [(Instr.jtagBypass, 0xFF), (.jtagTestExit, 2)] →
    exec i s = .next { s with mgt := { s.mgt with ir := code } }) ∧
  (∀ (s : State) (pins load : BitVec 288) (i : Instr), s.life ≠ .dormant → s.power.scanHold = true →
    i ∈ [Instr.jtagSamplePreload pins load, .jtagIdcode, .jtagBypass, .jtagTestExit] →
    ∃ t, exec i s = .next t ∧ t.power.scanHold = false ∧ t.life = .reset ∧ 8 ∈ t.causes ∧ t.vbat = s.vbat) ∧
  (∀ (s : State) (addr value : Word), s.consoleOn = true → s.up = true → s.fbit MGT_UART_CFG_READ_ONLY = false →
    ∃ u, exec (.registerWrite .uart addr value) s = .next u ∧
      exec (.uartWrite addr value) s = .next { u with out := .console [['o', 'k']] :: u.out }) ∧
  (∀ (s : State) (cage : Fin 16) (result : Fin 3) (data : Word) (x : I2cOp) (rest : List I2cOp), s.up = true →
    takeOp cage s.mgt.i2c = some (x, rest) →
    ∃ t, exec (.i2cDone cage result data) s = .next t ∧
      t = { s with freeCtr := t.freeCtr, regs := t.regs, mgt := t.mgt } ∧ t.mgt.i2c = rest ∧
      t.fbit (MGT_I2C_CMD_GO (reqIx x.q)) = false ∧ t.fget (MGT_I2C_CMD_RESULT (reqIx x.q)) = result ∧
      (x.read = false → t.getReg (MGT_I2C_DATA (reqIx x.q)) = s.getReg (MGT_I2C_DATA (reqIx x.q))) ∧
      (x.read = true → result = 0 → fieldOf (t.getReg (MGT_I2C_DATA (reqIx x.q))) 0 (8 * x.len) =
        fieldOf data.toNat 0 (8 * x.len)))

/-- 00 R8: a write of 1 to an SC bit while its action is still running is ignored. The SC bits whose action outlasts
their command are those of the lane and block restarts, the confirmation, the persist, the flush, the alignment of a
pulse output, the handover, the calibration and the cage transaction; the write of a flush and of the last two still
holds the operands that stand beside the bit. -/
def Obligations.RunningActionsIgnoreStarts : Prop :=
  (∀ (s : State) (q : Requester) (n : Fin 64) (crossed : List Byte) (k : Fin 16) (po : Fin 8) (i : Instr)
    (runs : Bool),
    (i, runs) ∈ [(Instr.laneCmdRestart q n crossed, s.fbit (LANE_CMD_RESTART n)),
      (.clklConfirm q k, s.fbit (CLKL_SLIP_CONFIRM k)), (.persistStart q 1, s.cfg.persist.isSome),
      (.peatRestart q, s.buf.peatRestart),
      (.poAlign po, s.fbit (SYN_PO_STATUS_ALIGNING po)), (.nibRestart q, s.fbit NIB_CTRL_RESTART),
      (.hrtHandover q, s.fbit HRT_CMD_HANDOVER)] →
    runs = true → exec i s = .next s) ∧
  (∀ (s : State) (q : Requester) (portOnly : Bool) (port : Fin 64), s.takes q = true → s.up = true →
    s.fbit FWD_LEARN_CMD_FLUSH = true →
    ∃ t, exec (.learnFlush q portOnly port) s = .next t ∧ t.fwd = s.fwd ∧ t.fbit FWD_LEARN_CMD_FLUSH = true ∧
      keepsBut [FWD_LEARN_CMD_PORT_ONLY, FWD_LEARN_CMD_PORT] s t ∧ t = { s with regs := t.regs }) ∧
  (∀ (s : State) (q : Requester) (groups : BitVec 6), s.takes q = true → s.up = true →
    s.fbit CAL_STATUS_RUNNING = true →
    ∃ t, exec (.calStart q groups) s = .next t ∧ t.cal = s.cal ∧ t.fbit CAL_STATUS_RUNNING = true ∧
      keepsBut [CAL_CMD_GROUPS] s t ∧ t = { s with regs := t.regs }) ∧
  (∀ (s : State) (q : Requester) (command : Word), s.takes q = true → s.up = true →
    s.fbit (MGT_I2C_CMD_GO (reqIx q)) = true →
    ∃ t, exec (.i2cTransaction q command) s = .next t ∧ t.mgt.i2c = s.mgt.i2c ∧
      t.fbit (MGT_I2C_CMD_GO (reqIx q)) = true ∧ (∀ j, j ≠ MGT_I2C_CMD (reqIx q) → t.getReg j = s.getReg j) ∧
      t = { s with regs := t.regs })

/-- 07 R220: QUOTA bounds the occupancy of a queue in the inkwell and the peat bank together, in units of 128 B; its
factory default is 0x7FF_FFFF; a queue with QUOTA 0 admits nothing. -/
def Obligations.QuotaBoundsQueue : Prop :=
  (∀ (s : State) (n q pool : Nat), s.judge n q pool = none →
    occAll (s.queueOf n q) + poolUnits pool ≤ s.fget (BUF_QUOTA_QUOTA n q)) ∧
  (∀ (s : State) (n q pool : Nat), s.fget (BUF_QUOTA_QUOTA n q) = 0 → s.judge n q pool ≠ none) ∧
  (∀ (n : Fin 64) (q : Fin 10), State.reset.fget (BUF_QUOTA_QUOTA n q) = 0x7FFFFFF) ∧
  (∀ (s : State) (p : Fin 64) (c : ResCopy), s.fwd.residue = [c] → c.port = p →
    s.fget (BUF_QUOTA_QUOTA p c.info.queue) = 0 → exec (.residueQueue p) s = .next s)

/-- 11 R330: an edge stamped while the buffer is full is discarded and the 4,096 older entries are kept; OVF_CNT
counts, OVF_SEEN is set, and the first entry stored once space has returned carries GAP_BEFORE. -/
def Obligations.FullBufferKeepsOldest : Prop :=
  (∀ (s : State) (n : Fin 16) (falling : Bool) (stamp : Nat), s.up = true → s.hasEvent n = true →
    s.fbit (NIB_CFG_ENABLE n) = true → s.edgeSelected n falling = true → s.fbit GLB_XING_DOMAIN_NIB_INVALID = false →
    s.fbit NIB_CTRL_RESTART = false → (∀ l, (s.nibIn n).last = some l → l + 3200 ≤ stamp) →
    s.nibIntervals n = false → (s.nibIn n).entries.length = 4096 →
    ∃ t, exec (.nibEdge n falling stamp) s = .next t ∧ (t.nibIn n).entries = (s.nibIn n).entries ∧
      (t.nibIn n).gapMark = true ∧ t.fget (NIB_CNT_OVF_CNT n) = min (s.fget (NIB_CNT_OVF_CNT n) + 1) 65535 ∧
      t.fget (NIB_STATUS_OVF_SEEN n) = 1 ∧
      t = { s with regs := t.regs, hot := t.hot, nib := t.nib, mgt := t.mgt }) ∧
  (∀ (s : State) (n : Fin 16) (falling : Bool) (stamp : Nat), s.up = true → s.hasEvent n = true →
    s.fbit (NIB_CFG_ENABLE n) = true → s.edgeSelected n falling = true → s.fbit GLB_XING_DOMAIN_NIB_INVALID = false →
    s.fbit NIB_CTRL_RESTART = false → (∀ l, (s.nibIn n).last = some l → l + 3200 ≤ stamp) →
    s.nibIntervals n = false → (s.nibIn n).entries.length < 4096 → (s.nibIn n).gapMark = true →
    ∃ t e, exec (.nibEdge n falling stamp) s = .next t ∧ (t.nibIn n).entries = (s.nibIn n).entries ++ [e] ∧
      e.gapBefore = true ∧ (t.nibIn n).gapMark = false ∧ t = { s with regs := t.regs, hot := t.hot, nib := t.nib, mgt := t.mgt })

/-- 03 R88: a commit that is applied while a persist runs leaves the snapshot unchanged, sets SNAPSHOT_STALE, and
keeps DIRTY at 1 when the persist completes; a write to START while a persist runs is ignored. -/
def Obligations.CommitMarksPersist : Prop :=
  (∀ (s : State) (crossed : List (Nat × List Byte)) (p : Persist), s.up = true → s.cfg.sess = .armed →
    s.cfg.instant * 2 ^ 48 ≤ s.time.clock → s.cfg.persist = some p →
    ∃ t, exec (.commitApply crossed) s = .next t ∧ t.cfg.persist = some { p with stale := true } ∧
      t.fget CFG_PERSIST_SNAPSHOT_STALE = 1 ∧ t.fget CFG_BANK_STATUS_DIRTY = 1 ∧
      t.cfg.bank0 = s.cfg.bank0 ∧ t.cfg.bank1 = s.cfg.bank1) ∧
  (∀ (s : State) (p : Persist) (bad : Nat), s.up = true → s.cfg.persist = some p → p.stale = true →
    ∃ t, exec (.persistDone ⟨0, bad⟩) s = .next t ∧ t.fget CFG_PERSIST_DONE = 1 ∧ t.fget CFG_BANK_STATUS_DIRTY = 1 ∧
      t = { s with freeCtr := t.freeCtr, regs := t.regs, hot := t.hot, cfg := t.cfg, mgt := t.mgt }) ∧
  (∀ (s : State) (q : Requester) (value : Word), s.cfg.persist.isSome = true →
    ∃ t, exec (.persistStart q value) s = .next t ∧ t.cfg = s.cfg ∧
      keepsBut [CFG_PERSIST_DONE, CFG_PERSIST_SNAPSHOT_STALE] s t ∧ t = { s with regs := t.regs })

/-- The queue (this model's interface, log entry 1): a step of a queue with a command at its front is that command on
the state with the rest of the queue; on an empty queue the marks of the cycle before go, one spine cycle passes while
the spine runs, and nothing else happens. -/
def Obligations.StepRunsFront : Prop :=
  (∀ (s : State) (c : Instr) (rest : List Instr), s.pending = c :: rest → step s = exec c { s with pending := rest }) ∧
  (∀ s : State, s.pending = [] → s.spineRuns = true → step s = .next s.cyclePasses.spineCycle) ∧
  (∀ s : State, s.pending = [] → s.spineRuns = false → step s = .next { s with hot := [], resetFresh := false })

/-- No command stops the block and none touches the queue: every command on every state answers a next state with the
same queue (this model's choice where a command finds nothing to do: log entry 6). -/
def Obligations.EveryCommandCompletes : Prop :=
  ∀ (i : Instr) (s : State), ∃ t, exec i s = .next t ∧ t.pending = s.pending

/-- Every queue is served to its end, first in, first out: after as many steps as commands wait, the queue is empty,
and after fewer the commands that have not had their turn still wait in their order. -/
def Obligations.QueuesAreServed : Prop :=
  ∀ (s : State) (n : Nat), n ≤ s.pending.length → ∃ t, core.run n s = .next t ∧ t.pending = s.pending.drop n

/-- 02 R51, 03 R72, 16 R426: while the rails are down, RST_N is low or the scan port holds the core, only the power
stage, RST_N and the scan port act: every other command leaves the whole state as it was. -/
def Obligations.HeldBlocksIgnore : Prop :=
  ∀ (i : Instr) (s : State), s.up = false →
    (∀ early, i ∉ [Instr.vinBelowWarning early, .reverseCurrentTrip early, .overvoltageTimeout early,
      .currentLimitTimeout early, .thermalShutdown early, .enableLow early]) →
    (∀ returned temp8, i ≠ .softStart returned temp8) →
    i ∉ [Instr.softStartComplete, .powerDownRecordStored, .dormantReached, .dormantSecond, .rstNAssert, .rstNRelease,
      .jtagIdcode, .jtagClamp, .jtagHighz, .jtagBypass, .jtagTestExit] →
    (∀ pins load, i ≠ .jtagExtest load ∧ i ≠ .jtagSamplePreload pins load) →
    exec i s = .next s

/-- 00 R10: the variant of the part never changes, the 14 alarm counts stay within 255, and the registers keep their
canonical form, at every step from every state that has them so. -/
def Obligations.StepsKeepOk : Prop :=
  ∀ s t : State, s.ok = true → step s = .next t → t.ok = true ∧ t.part = s.part

/-- Right after reset: no queue, the device in RESET with its power stage up, every register at its reset value, and
the invariant of StepsKeepOk holds (the variant and the VBAT store at reset are this model's choice: log entries 2 and
31). -/
def Obligations.ResetIsOk : Prop :=
  State.reset.ok = true ∧ State.reset.pending = [] ∧ State.reset.life = .reset ∧ State.reset.up = true ∧
    State.reset.hrt.holder = none ∧ State.reset.cfg.sess = .idle ∧ State.reset.mgt.requests = [] ∧
    (∀ k, State.reset.getReg k = (resetWord State.reset.part k).toNat)
end

