-- ==== Sys2Proof/Laws/Sparse.lean ====
section
/-! SUPPORT. The laws of sparse maps: what a write changes, what it leaves, and that it keeps the canonical form. -/

namespace Sys2Proof.Machine

variable {α : Type}

theorem mapGet_mapIns_same (d : Nat → α) (m : SMap α) (k : Nat) (v : α) : mapGet d (mapIns m k v) k = v := by
  induction m with
  | nil => simp [mapIns, mapGet]
  | cons e r ih =>
    obtain ⟨j, u⟩ := e
    unfold mapIns
    split
    · simp [mapGet]
    · split
      · simp [mapGet]
      · simp only [mapGet]
        rw [if_neg (by omega), ih]

theorem mapGet_mapIns_ne (d : Nat → α) (m : SMap α) (k j : Nat) (v : α) (h : j ≠ k) :
    mapGet d (mapIns m k v) j = mapGet d m j := by
  induction m with
  | nil => simp [mapIns, mapGet, Ne.symm h]
  | cons e r ih =>
    obtain ⟨i, u⟩ := e
    unfold mapIns
    split
    · simp [mapGet, Ne.symm h]
    · split
      · subst_vars
        simp [mapGet, Ne.symm h]
      · simp [mapGet, ih]

theorem mapGet_mapDel_same (d : Nat → α) (m : SMap α) (k : Nat) : mapGet d (mapDel m k) k = d k := by
  induction m with
  | nil => rfl
  | cons e r ih =>
    obtain ⟨i, u⟩ := e
    by_cases h : i = k
    · subst h
      simpa [mapDel] using ih
    · have : mapDel ((i, u) :: r) k = (i, u) :: mapDel r k := by simp [mapDel, h]
      rw [this, mapGet, if_neg h, ih]

theorem mapGet_mapDel_ne (d : Nat → α) (m : SMap α) (k j : Nat) (h : j ≠ k) :
    mapGet d (mapDel m k) j = mapGet d m j := by
  induction m with
  | nil => rfl
  | cons e r ih =>
    obtain ⟨i, u⟩ := e
    by_cases hk : i = k
    · subst hk
      have : mapDel ((i, u) :: r) i = mapDel r i := by simp [mapDel]
      rw [this, ih, mapGet, if_neg (Ne.symm h)]
    · have : mapDel ((i, u) :: r) k = (i, u) :: mapDel r k := by simp [mapDel, hk]
      rw [this, mapGet, mapGet, ih]

/-- A read after a write to the same key gives the value written. -/
theorem mapGet_mapSet_same [DecidableEq α] (d : Nat → α) (m : SMap α) (k : Nat) (v : α) :
    mapGet d (mapSet d m k v) k = v := by
  unfold mapSet
  split
  · rw [mapGet_mapDel_same]; exact Eq.symm ‹_›
  · exact mapGet_mapIns_same d m k v

/-- A write leaves every other key alone. -/
theorem mapGet_mapSet_ne [DecidableEq α] (d : Nat → α) (m : SMap α) (k j : Nat) (v : α) (h : j ≠ k) :
    mapGet d (mapSet d m k v) j = mapGet d m j := by
  unfold mapSet
  split
  · exact mapGet_mapDel_ne d m k j h
  · exact mapGet_mapIns_ne d m k j v h

/-- A read of the part of a map that a test of the keys keeps. -/
theorem mapGet_filter (d : Nat → α) (m : SMap α) (p : Nat → Bool) (k : Nat) :
    mapGet d (m.filter fun e => p e.1) k = if p k then mapGet d m k else d k := by
  induction m with
  | nil => simp [mapGet]
  | cons e r ih =>
    obtain ⟨j, u⟩ := e
    by_cases hp : p j = true
    · rw [List.filter_cons_of_pos (by simpa using hp)]
      simp only [mapGet, ih]
      by_cases hj : j = k
      · subst hj; simp [hp]
      · simp [hj]
    · rw [List.filter_cons_of_neg (by simpa using hp), ih]
      by_cases hj : j = k
      · subst hj; simp [hp]
      · simp [mapGet, hj]

theorem keysRise_weaken (m : SMap α) (b c : Option Nat) (h : keysRise b m = true)
    (hc : ∀ x, c = some x → ∃ y, b = some y ∧ x ≤ y) : keysRise c m = true := by
  cases m with
  | nil => cases c <;> rfl
  | cons e r =>
    obtain ⟨j, u⟩ := e
    cases c with
    | none => cases b <;> simp_all [keysRise]
    | some x =>
      obtain ⟨y, rfl, hxy⟩ := hc x rfl
      simp only [keysRise, Bool.and_eq_true, decide_eq_true_eq] at h ⊢
      exact ⟨by omega, h.2⟩

theorem keysRise_filter (m : SMap α) (p : Nat × α → Bool) (b : Option Nat) (h : keysRise b m = true) :
    keysRise b (m.filter p) = true := by
  induction m generalizing b with
  | nil => exact h
  | cons e r ih =>
    obtain ⟨j, u⟩ := e
    have hr : keysRise (some j) r = true := by cases b <;> simp_all [keysRise]
    have hb : ∀ x, b = some x → x < j := by rintro x rfl; simp_all [keysRise]
    by_cases hp : p (j, u) = true
    · rw [List.filter_cons_of_pos hp]
      cases b with
      | none => simpa [keysRise] using ih _ hr
      | some x => simpa [keysRise, hb x rfl] using ih _ hr
    · rw [List.filter_cons_of_neg hp]
      refine ih b (keysRise_weaken r _ _ hr ?_)
      intro x hx
      exact ⟨j, rfl, Nat.le_of_lt (hb x hx)⟩

theorem keysRise_mapIns (m : SMap α) (k : Nat) (v : α) (b : Option Nat) (h : keysRise b m = true)
    (hb : ∀ x, b = some x → x < k) : keysRise b (mapIns m k v) = true := by
  induction m generalizing b with
  | nil => cases b <;> simp_all [mapIns, keysRise]
  | cons e r ih =>
    obtain ⟨j, u⟩ := e
    have hr : keysRise (some j) r = true := by cases b <;> simp_all [keysRise]
    have hj : ∀ x, b = some x → x < j := by rintro x rfl; simp_all [keysRise]
    unfold mapIns
    split
    · cases b <;> simp_all [keysRise]
    · split
      · cases b <;> simp_all [keysRise]
      · have := ih (some j) hr (by rintro x ⟨⟩; omega)
        cases b <;> simp_all [keysRise]

theorem noDefaults_mapIns [DecidableEq α] (d : Nat → α) (m : SMap α) (k : Nat) (v : α)
    (h : noDefaults d m = true) (hv : v ≠ d k) : noDefaults d (mapIns m k v) = true := by
  induction m with
  | nil => simp [mapIns, noDefaults, hv]
  | cons e r ih =>
    obtain ⟨j, u⟩ := e
    have hr : noDefaults d r = true := by simp_all [noDefaults]
    have hu : u ≠ d j := by simp_all [noDefaults]
    have hi := ih hr
    unfold mapIns
    split
    · simp_all [noDefaults]
    · split <;> simp_all [noDefaults]

theorem noDefaults_filter [DecidableEq α] (d : Nat → α) (m : SMap α) (p : Nat × α → Bool)
    (h : noDefaults d m = true) : noDefaults d (m.filter p) = true := by
  simp only [noDefaults, List.all_eq_true, List.mem_filter] at h ⊢
  exact fun e he => h e he.1

/-- A filtered map keeps the canonical form. -/
theorem mapWf_filter [DecidableEq α] (d : Nat → α) (m : SMap α) (p : Nat × α → Bool) (h : mapWf d m = true) :
    mapWf d (m.filter p) = true := by
  simp only [mapWf, Bool.and_eq_true] at h ⊢
  exact ⟨keysRise_filter m p none h.1, noDefaults_filter d m p h.2⟩

/-- A write keeps the canonical form. -/
theorem mapWf_mapSet [DecidableEq α] (d : Nat → α) (m : SMap α) (k : Nat) (v : α) (h : mapWf d m = true) :
    mapWf d (mapSet d m k v) = true := by
  unfold mapSet
  split
  · exact mapWf_filter d m _ h
  · simp only [mapWf, Bool.and_eq_true] at h ⊢
    exact ⟨keysRise_mapIns m k v none h.1 (by simp), noDefaults_mapIns d m k v h.2 ‹_›⟩

/-- A map with nothing listed has the canonical form. -/
@[simp] theorem mapWf_nil [DecidableEq α] (d : Nat → α) : mapWf d ([] : SMap α) = true := rfl

end Sys2Proof.Machine
end

