-- ==== Sys2Proof/Laws/Regs.lean ====
section
/-! SUPPORT. The laws of register words and fields: what reading gives after writing. -/

namespace Sys2Proof.Machine

/-- The bits of a number as three parts. -/
theorem withField_parts (w lo width v : Nat) :
    withField w lo width v = w / 2 ^ (lo + width) * 2 ^ (lo + width) + v % 2 ^ width * 2 ^ lo + w % 2 ^ lo := by
  have h1 : w = 2 ^ lo * (w / 2 ^ lo) + w % 2 ^ lo := (Nat.div_add_mod w (2 ^ lo)).symm
  have h2 : w / 2 ^ lo = 2 ^ width * (w / 2 ^ lo / 2 ^ width) + w / 2 ^ lo % 2 ^ width :=
    (Nat.div_add_mod _ (2 ^ width)).symm
  have h3 : w / 2 ^ lo / 2 ^ width = w / 2 ^ (lo + width) := by rw [Nat.div_div_eq_div_mul, Nat.pow_add]
  have h4 : 2 ^ (lo + width) = 2 ^ lo * 2 ^ width := Nat.pow_add 2 lo width
  rw [h3] at h2
  unfold withField fieldOf
  generalize w / 2 ^ (lo + width) = a at *
  generalize w / 2 ^ lo % 2 ^ width = f at *
  generalize w % 2 ^ lo = c at *
  generalize v % 2 ^ width = x at *
  rw [h2] at h1
  have h5 : w = 2 ^ (lo + width) * a + f * 2 ^ lo + c := by rw [h1, h4]; ring
  rw [h5, h4]
  have : 2 ^ lo * 2 ^ width * a + f * 2 ^ lo + c - f * 2 ^ lo = a * (2 ^ lo * 2 ^ width) + c := by
    rw [Nat.mul_comm a]; omega
  omega

theorem fieldOf_withField_same (w lo width v : Nat) : fieldOf (withField w lo width v) lo width = v % 2 ^ width := by
  rw [withField_parts, fieldOf]
  have hp : 0 < 2 ^ lo := Nat.two_pow_pos lo
  have hc : w % 2 ^ lo < 2 ^ lo := Nat.mod_lt _ hp
  have : w / 2 ^ (lo + width) * 2 ^ (lo + width) + v % 2 ^ width * 2 ^ lo + w % 2 ^ lo
      = w % 2 ^ lo + 2 ^ lo * (v % 2 ^ width + 2 ^ width * (w / 2 ^ (lo + width))) := by
    rw [Nat.pow_add]; ring
  rw [this, Nat.add_mul_div_left _ _ hp, Nat.div_eq_of_lt hc, Nat.zero_add, Nat.add_mul_mod_self_left,
    Nat.mod_mod]

/-- A field above the one written. -/
theorem fieldOf_withField_above (w lo width v lo' width' : Nat) (h : lo + width ≤ lo') :
    fieldOf (withField w lo width v) lo' width' = fieldOf w lo' width' := by
  rw [withField_parts, fieldOf, fieldOf]
  have hp : 0 < 2 ^ (lo + width) := Nat.two_pow_pos _
  have hlow : v % 2 ^ width * 2 ^ lo + w % 2 ^ lo < 2 ^ (lo + width) := by
    have h1 : v % 2 ^ width < 2 ^ width := Nat.mod_lt _ (Nat.two_pow_pos _)
    have h2 : w % 2 ^ lo < 2 ^ lo := Nat.mod_lt _ (Nat.two_pow_pos _)
    rw [Nat.pow_add]
    calc v % 2 ^ width * 2 ^ lo + w % 2 ^ lo < v % 2 ^ width * 2 ^ lo + 2 ^ lo := by omega
      _ = (v % 2 ^ width + 1) * 2 ^ lo := by ring
      _ ≤ 2 ^ width * 2 ^ lo := Nat.mul_le_mul_right _ h1
      _ = 2 ^ lo * 2 ^ width := by ring
  have hdiv : (w / 2 ^ (lo + width) * 2 ^ (lo + width) + v % 2 ^ width * 2 ^ lo + w % 2 ^ lo) / 2 ^ (lo + width)
      = w / 2 ^ (lo + width) := by
    rw [Nat.add_assoc, Nat.add_comm, Nat.add_mul_div_right _ _ hp, Nat.div_eq_of_lt hlow, Nat.zero_add]
  obtain ⟨c, rfl⟩ := Nat.exists_eq_add_of_le h
  rw [Nat.pow_add 2 (lo + width) c, ← Nat.div_div_eq_div_mul, ← Nat.div_div_eq_div_mul, hdiv]

/-- A field below the one written. -/
theorem fieldOf_withField_below (w lo width v lo' width' : Nat) (h : lo' + width' ≤ lo) :
    fieldOf (withField w lo width v) lo' width' = fieldOf w lo' width' := by
  have key : ∀ n, fieldOf n lo' width' = n % 2 ^ lo / 2 ^ lo' % 2 ^ width' := by
    intro n
    obtain ⟨c, rfl⟩ := Nat.exists_eq_add_of_le h
    rw [fieldOf, Nat.pow_add 2 (lo' + width') c, Nat.pow_add 2 lo' width', Nat.mul_assoc,
      Nat.mod_mul_right_div_self, Nat.mod_mul_right_mod]
  have : withField w lo width v % 2 ^ lo = w % 2 ^ lo := by
    rw [withField_parts]
    have : w / 2 ^ (lo + width) * 2 ^ (lo + width) + v % 2 ^ width * 2 ^ lo + w % 2 ^ lo
        = w % 2 ^ lo + 2 ^ lo * (w / 2 ^ (lo + width) * 2 ^ width + v % 2 ^ width) := by
      rw [Nat.pow_add]; ring
    rw [this, Nat.add_mul_mod_self_left, Nat.mod_mod]
  rw [key, key, this]

theorem withField_lt (w lo width v : Nat) (hw : w < 2 ^ 32) (hf : lo + width ≤ 32) :
    withField w lo width v < 2 ^ 32 := by
  rw [withField_parts]
  have h1 : v % 2 ^ width < 2 ^ width := Nat.mod_lt _ (Nat.two_pow_pos _)
  have h2 : w % 2 ^ lo < 2 ^ lo := Nat.mod_lt _ (Nat.two_pow_pos _)
  have h3 : v % 2 ^ width * 2 ^ lo + w % 2 ^ lo < 2 ^ (lo + width) := by
    rw [Nat.pow_add]
    calc v % 2 ^ width * 2 ^ lo + w % 2 ^ lo < v % 2 ^ width * 2 ^ lo + 2 ^ lo := by omega
      _ = (v % 2 ^ width + 1) * 2 ^ lo := by ring
      _ ≤ 2 ^ width * 2 ^ lo := Nat.mul_le_mul_right _ h1
      _ = 2 ^ lo * 2 ^ width := by ring
  obtain ⟨c, hc⟩ := Nat.exists_eq_add_of_le hf
  have h4 : w / 2 ^ (lo + width) < 2 ^ c := by
    rw [Nat.div_lt_iff_lt_mul (Nat.two_pow_pos _), ← Nat.pow_add, Nat.add_comm c, ← hc]
    exact hw
  calc w / 2 ^ (lo + width) * 2 ^ (lo + width) + v % 2 ^ width * 2 ^ lo + w % 2 ^ lo
      < w / 2 ^ (lo + width) * 2 ^ (lo + width) + 2 ^ (lo + width) := by omega
    _ = (w / 2 ^ (lo + width) + 1) * 2 ^ (lo + width) := by ring
    _ ≤ 2 ^ c * 2 ^ (lo + width) := Nat.mul_le_mul_right _ h4
    _ = 2 ^ 32 := by rw [← Nat.pow_add, Nat.add_comm c, ← hc]

theorem getReg_lt (s : State) (k : Nat) : s.getReg k < 2 ^ 32 := BitVec.isLt _

/-! ## Register words -/

@[simp] theorem getReg_setReg_same (s : State) (k v : Nat) : (s.setReg k v).getReg k = v % 2 ^ 32 := by
  simp only [State.getReg, State.setReg, mapGet_mapSet_same, BitVec.toNat_ofNat]

theorem getReg_setReg_ne (s : State) (k j v : Nat) (h : j ≠ k) : (s.setReg k v).getReg j = s.getReg j := by
  simp only [State.getReg, State.setReg, mapGet_mapSet_ne _ _ _ _ _ h]

/-! ## Fields -/

/-- A field lies in one word. -/
def Fld.fits (f : Fld) : Bool := decide (f.lo + f.width ≤ 32)

/-- A field read after it is written. -/
theorem fget_fset_same (s : State) (f : Fld) (v : Nat) (h : f.fits = true) :
    (s.fset f v).fget f = v % 2 ^ f.width := by
  unfold State.fget State.fset
  rw [getReg_setReg_same, Nat.mod_eq_of_lt (withField_lt _ _ _ _ (getReg_lt s _) (of_decide_eq_true h))]
  exact fieldOf_withField_same _ _ _ _

/-- A field read after another one is written. -/
theorem fget_fset_apart (s : State) (f g : Fld) (v : Nat) (hf : f.fits = true) (h : g.apart f = true) :
    (s.fset f v).fget g = s.fget g := by
  unfold State.fget State.fset
  by_cases hk : g.key = f.key
  · rw [hk, getReg_setReg_same, Nat.mod_eq_of_lt (withField_lt _ _ _ _ (getReg_lt s _) (of_decide_eq_true hf))]
    simp only [Fld.apart, hk, ne_eq, not_true_eq_false, decide_false, Bool.false_or, Bool.or_eq_true,
      decide_eq_true_eq] at h
    rcases h with h | h
    · exact fieldOf_withField_below _ _ _ _ _ _ h
    · exact fieldOf_withField_above _ _ _ _ _ _ h
  · rw [getReg_setReg_ne _ _ _ _ hk]

/-- A register word read after a field of another register is written. -/
theorem getReg_fset_ne (s : State) (f : Fld) (v k : Nat) (h : k ≠ f.key) : (s.fset f v).getReg k = s.getReg k :=
  getReg_setReg_ne _ _ _ _ h

/-- A field read after another register is written. -/
theorem fget_setReg_ne (s : State) (k v : Nat) (f : Fld) (h : f.key ≠ k) : (s.setReg k v).fget f = s.fget f := by
  unfold State.fget
  rw [getReg_setReg_ne _ _ _ _ h]

/-- A field reads after a flag set by hardware what it reads after the write of 1: the mark is no register bit. -/
theorem fget_fon (s : State) (f g : Fld) : (s.fon f).fget g = (s.fset f 1).fget g := rfl

theorem fbit_fon_same (s : State) (f : Fld) (h : f.fits = true) (hw : 0 < f.width) : (s.fon f).fbit f = true := by
  unfold State.fbit
  rw [fget_fon, fget_fset_same _ _ _ h, Nat.mod_eq_of_lt (Nat.one_lt_two_pow (by omega))]
  rfl

theorem fbit_foff_same (s : State) (f : Fld) (h : f.fits = true) : (s.foff f).fbit f = false := by
  unfold State.fbit State.foff
  rw [fget_fset_same _ _ _ h, Nat.zero_mod]
  rfl

end Sys2Proof.Machine
end

