-- ==== Sys2Proof/Laws/State.lean ====
section
/-! SUPPORT. What each shared update of the state leaves unchanged, field by field, so that no proof unfolds an update. -/

namespace Sys2Proof.Machine

/-- Two states with equal fields are equal. -/
theorem State.eq_of_fields {s t : State} (h0 : s.part = t.part) (h1 : s.pending = t.pending) (h2 : s.out = t.out) (h3 : s.freeCtr = t.freeCtr)
    (h4 : s.now = t.now) (h5 : s.regs = t.regs) (h6 : s.hot = t.hot) (h7 : s.life = t.life)
    (h8 : s.phase = t.phase) (h9 : s.causes = t.causes) (h10 : s.resetFresh = t.resetFresh) (h11 : s.fromDormant = t.fromDormant)
    (h12 : s.power = t.power) (h13 : s.vbat = t.vbat) (h14 : s.bus = t.bus) (h15 : s.cfg = t.cfg)
    (h16 : s.links = t.links) (h17 : s.fwd = t.fwd) (h18 : s.qw = t.qw) (h19 : s.buf = t.buf)
    (h20 : s.cnt = t.cnt) (h21 : s.time = t.time) (h22 : s.trunk = t.trunk) (h23 : s.syn = t.syn)
    (h24 : s.hrt = t.hrt) (h25 : s.nib = t.nib) (h26 : s.cal = t.cal) (h27 : s.upd = t.upd)
    (h28 : s.mgt = t.mgt) : s = t := by
  cases s; cases t; simp_all

/-! ## setReg -/

@[simp] theorem setReg_part (s : State) (k v : Nat) : (s.setReg k v).part = s.part := rfl
@[simp] theorem setReg_pending (s : State) (k v : Nat) : (s.setReg k v).pending = s.pending := rfl
@[simp] theorem setReg_out (s : State) (k v : Nat) : (s.setReg k v).out = s.out := rfl
@[simp] theorem setReg_freeCtr (s : State) (k v : Nat) : (s.setReg k v).freeCtr = s.freeCtr := rfl
@[simp] theorem setReg_now (s : State) (k v : Nat) : (s.setReg k v).now = s.now := rfl
@[simp] theorem setReg_hot (s : State) (k v : Nat) : (s.setReg k v).hot = s.hot := rfl
@[simp] theorem setReg_life (s : State) (k v : Nat) : (s.setReg k v).life = s.life := rfl
@[simp] theorem setReg_phase (s : State) (k v : Nat) : (s.setReg k v).phase = s.phase := rfl
@[simp] theorem setReg_causes (s : State) (k v : Nat) : (s.setReg k v).causes = s.causes := rfl
@[simp] theorem setReg_resetFresh (s : State) (k v : Nat) : (s.setReg k v).resetFresh = s.resetFresh := rfl
@[simp] theorem setReg_fromDormant (s : State) (k v : Nat) : (s.setReg k v).fromDormant = s.fromDormant := rfl
@[simp] theorem setReg_power (s : State) (k v : Nat) : (s.setReg k v).power = s.power := rfl
@[simp] theorem setReg_vbat (s : State) (k v : Nat) : (s.setReg k v).vbat = s.vbat := rfl
@[simp] theorem setReg_bus (s : State) (k v : Nat) : (s.setReg k v).bus = s.bus := rfl
@[simp] theorem setReg_cfg (s : State) (k v : Nat) : (s.setReg k v).cfg = s.cfg := rfl
@[simp] theorem setReg_links (s : State) (k v : Nat) : (s.setReg k v).links = s.links := rfl
@[simp] theorem setReg_fwd (s : State) (k v : Nat) : (s.setReg k v).fwd = s.fwd := rfl
@[simp] theorem setReg_qw (s : State) (k v : Nat) : (s.setReg k v).qw = s.qw := rfl
@[simp] theorem setReg_buf (s : State) (k v : Nat) : (s.setReg k v).buf = s.buf := rfl
@[simp] theorem setReg_cnt (s : State) (k v : Nat) : (s.setReg k v).cnt = s.cnt := rfl
@[simp] theorem setReg_time (s : State) (k v : Nat) : (s.setReg k v).time = s.time := rfl
@[simp] theorem setReg_trunk (s : State) (k v : Nat) : (s.setReg k v).trunk = s.trunk := rfl
@[simp] theorem setReg_syn (s : State) (k v : Nat) : (s.setReg k v).syn = s.syn := rfl
@[simp] theorem setReg_hrt (s : State) (k v : Nat) : (s.setReg k v).hrt = s.hrt := rfl
@[simp] theorem setReg_nib (s : State) (k v : Nat) : (s.setReg k v).nib = s.nib := rfl
@[simp] theorem setReg_cal (s : State) (k v : Nat) : (s.setReg k v).cal = s.cal := rfl
@[simp] theorem setReg_upd (s : State) (k v : Nat) : (s.setReg k v).upd = s.upd := rfl
@[simp] theorem setReg_mgt (s : State) (k v : Nat) : (s.setReg k v).mgt = s.mgt := rfl

/-! ## fset -/

@[simp] theorem fset_part (s : State) (f : Fld) (v : Nat) : (s.fset f v).part = s.part := rfl
@[simp] theorem fset_pending (s : State) (f : Fld) (v : Nat) : (s.fset f v).pending = s.pending := rfl
@[simp] theorem fset_out (s : State) (f : Fld) (v : Nat) : (s.fset f v).out = s.out := rfl
@[simp] theorem fset_freeCtr (s : State) (f : Fld) (v : Nat) : (s.fset f v).freeCtr = s.freeCtr := rfl
@[simp] theorem fset_now (s : State) (f : Fld) (v : Nat) : (s.fset f v).now = s.now := rfl
@[simp] theorem fset_hot (s : State) (f : Fld) (v : Nat) : (s.fset f v).hot = s.hot := rfl
@[simp] theorem fset_life (s : State) (f : Fld) (v : Nat) : (s.fset f v).life = s.life := rfl
@[simp] theorem fset_phase (s : State) (f : Fld) (v : Nat) : (s.fset f v).phase = s.phase := rfl
@[simp] theorem fset_causes (s : State) (f : Fld) (v : Nat) : (s.fset f v).causes = s.causes := rfl
@[simp] theorem fset_resetFresh (s : State) (f : Fld) (v : Nat) : (s.fset f v).resetFresh = s.resetFresh := rfl
@[simp] theorem fset_fromDormant (s : State) (f : Fld) (v : Nat) : (s.fset f v).fromDormant = s.fromDormant := rfl
@[simp] theorem fset_power (s : State) (f : Fld) (v : Nat) : (s.fset f v).power = s.power := rfl
@[simp] theorem fset_vbat (s : State) (f : Fld) (v : Nat) : (s.fset f v).vbat = s.vbat := rfl
@[simp] theorem fset_bus (s : State) (f : Fld) (v : Nat) : (s.fset f v).bus = s.bus := rfl
@[simp] theorem fset_cfg (s : State) (f : Fld) (v : Nat) : (s.fset f v).cfg = s.cfg := rfl
@[simp] theorem fset_links (s : State) (f : Fld) (v : Nat) : (s.fset f v).links = s.links := rfl
@[simp] theorem fset_fwd (s : State) (f : Fld) (v : Nat) : (s.fset f v).fwd = s.fwd := rfl
@[simp] theorem fset_qw (s : State) (f : Fld) (v : Nat) : (s.fset f v).qw = s.qw := rfl
@[simp] theorem fset_buf (s : State) (f : Fld) (v : Nat) : (s.fset f v).buf = s.buf := rfl
@[simp] theorem fset_cnt (s : State) (f : Fld) (v : Nat) : (s.fset f v).cnt = s.cnt := rfl
@[simp] theorem fset_time (s : State) (f : Fld) (v : Nat) : (s.fset f v).time = s.time := rfl
@[simp] theorem fset_trunk (s : State) (f : Fld) (v : Nat) : (s.fset f v).trunk = s.trunk := rfl
@[simp] theorem fset_syn (s : State) (f : Fld) (v : Nat) : (s.fset f v).syn = s.syn := rfl
@[simp] theorem fset_hrt (s : State) (f : Fld) (v : Nat) : (s.fset f v).hrt = s.hrt := rfl
@[simp] theorem fset_nib (s : State) (f : Fld) (v : Nat) : (s.fset f v).nib = s.nib := rfl
@[simp] theorem fset_cal (s : State) (f : Fld) (v : Nat) : (s.fset f v).cal = s.cal := rfl
@[simp] theorem fset_upd (s : State) (f : Fld) (v : Nat) : (s.fset f v).upd = s.upd := rfl
@[simp] theorem fset_mgt (s : State) (f : Fld) (v : Nat) : (s.fset f v).mgt = s.mgt := rfl

/-! ## fput -/

@[simp] theorem fput_part (s : State) (f : Fld) (b : Bool) : (s.fput f b).part = s.part := rfl
@[simp] theorem fput_pending (s : State) (f : Fld) (b : Bool) : (s.fput f b).pending = s.pending := rfl
@[simp] theorem fput_out (s : State) (f : Fld) (b : Bool) : (s.fput f b).out = s.out := rfl
@[simp] theorem fput_freeCtr (s : State) (f : Fld) (b : Bool) : (s.fput f b).freeCtr = s.freeCtr := rfl
@[simp] theorem fput_now (s : State) (f : Fld) (b : Bool) : (s.fput f b).now = s.now := rfl
@[simp] theorem fput_hot (s : State) (f : Fld) (b : Bool) : (s.fput f b).hot = s.hot := rfl
@[simp] theorem fput_life (s : State) (f : Fld) (b : Bool) : (s.fput f b).life = s.life := rfl
@[simp] theorem fput_phase (s : State) (f : Fld) (b : Bool) : (s.fput f b).phase = s.phase := rfl
@[simp] theorem fput_causes (s : State) (f : Fld) (b : Bool) : (s.fput f b).causes = s.causes := rfl
@[simp] theorem fput_resetFresh (s : State) (f : Fld) (b : Bool) : (s.fput f b).resetFresh = s.resetFresh := rfl
@[simp] theorem fput_fromDormant (s : State) (f : Fld) (b : Bool) : (s.fput f b).fromDormant = s.fromDormant := rfl
@[simp] theorem fput_power (s : State) (f : Fld) (b : Bool) : (s.fput f b).power = s.power := rfl
@[simp] theorem fput_vbat (s : State) (f : Fld) (b : Bool) : (s.fput f b).vbat = s.vbat := rfl
@[simp] theorem fput_bus (s : State) (f : Fld) (b : Bool) : (s.fput f b).bus = s.bus := rfl
@[simp] theorem fput_cfg (s : State) (f : Fld) (b : Bool) : (s.fput f b).cfg = s.cfg := rfl
@[simp] theorem fput_links (s : State) (f : Fld) (b : Bool) : (s.fput f b).links = s.links := rfl
@[simp] theorem fput_fwd (s : State) (f : Fld) (b : Bool) : (s.fput f b).fwd = s.fwd := rfl
@[simp] theorem fput_qw (s : State) (f : Fld) (b : Bool) : (s.fput f b).qw = s.qw := rfl
@[simp] theorem fput_buf (s : State) (f : Fld) (b : Bool) : (s.fput f b).buf = s.buf := rfl
@[simp] theorem fput_cnt (s : State) (f : Fld) (b : Bool) : (s.fput f b).cnt = s.cnt := rfl
@[simp] theorem fput_time (s : State) (f : Fld) (b : Bool) : (s.fput f b).time = s.time := rfl
@[simp] theorem fput_trunk (s : State) (f : Fld) (b : Bool) : (s.fput f b).trunk = s.trunk := rfl
@[simp] theorem fput_syn (s : State) (f : Fld) (b : Bool) : (s.fput f b).syn = s.syn := rfl
@[simp] theorem fput_hrt (s : State) (f : Fld) (b : Bool) : (s.fput f b).hrt = s.hrt := rfl
@[simp] theorem fput_nib (s : State) (f : Fld) (b : Bool) : (s.fput f b).nib = s.nib := rfl
@[simp] theorem fput_cal (s : State) (f : Fld) (b : Bool) : (s.fput f b).cal = s.cal := rfl
@[simp] theorem fput_upd (s : State) (f : Fld) (b : Bool) : (s.fput f b).upd = s.upd := rfl
@[simp] theorem fput_mgt (s : State) (f : Fld) (b : Bool) : (s.fput f b).mgt = s.mgt := rfl

/-! ## mark -/

@[simp] theorem mark_part (s : State) (f : Fld) : (s.mark f).part = s.part := rfl
@[simp] theorem mark_pending (s : State) (f : Fld) : (s.mark f).pending = s.pending := rfl
@[simp] theorem mark_out (s : State) (f : Fld) : (s.mark f).out = s.out := rfl
@[simp] theorem mark_freeCtr (s : State) (f : Fld) : (s.mark f).freeCtr = s.freeCtr := rfl
@[simp] theorem mark_now (s : State) (f : Fld) : (s.mark f).now = s.now := rfl
@[simp] theorem mark_regs (s : State) (f : Fld) : (s.mark f).regs = s.regs := rfl
@[simp] theorem mark_life (s : State) (f : Fld) : (s.mark f).life = s.life := rfl
@[simp] theorem mark_phase (s : State) (f : Fld) : (s.mark f).phase = s.phase := rfl
@[simp] theorem mark_causes (s : State) (f : Fld) : (s.mark f).causes = s.causes := rfl
@[simp] theorem mark_resetFresh (s : State) (f : Fld) : (s.mark f).resetFresh = s.resetFresh := rfl
@[simp] theorem mark_fromDormant (s : State) (f : Fld) : (s.mark f).fromDormant = s.fromDormant := rfl
@[simp] theorem mark_power (s : State) (f : Fld) : (s.mark f).power = s.power := rfl
@[simp] theorem mark_vbat (s : State) (f : Fld) : (s.mark f).vbat = s.vbat := rfl
@[simp] theorem mark_bus (s : State) (f : Fld) : (s.mark f).bus = s.bus := rfl
@[simp] theorem mark_cfg (s : State) (f : Fld) : (s.mark f).cfg = s.cfg := rfl
@[simp] theorem mark_links (s : State) (f : Fld) : (s.mark f).links = s.links := rfl
@[simp] theorem mark_fwd (s : State) (f : Fld) : (s.mark f).fwd = s.fwd := rfl
@[simp] theorem mark_qw (s : State) (f : Fld) : (s.mark f).qw = s.qw := rfl
@[simp] theorem mark_buf (s : State) (f : Fld) : (s.mark f).buf = s.buf := rfl
@[simp] theorem mark_cnt (s : State) (f : Fld) : (s.mark f).cnt = s.cnt := rfl
@[simp] theorem mark_time (s : State) (f : Fld) : (s.mark f).time = s.time := rfl
@[simp] theorem mark_trunk (s : State) (f : Fld) : (s.mark f).trunk = s.trunk := rfl
@[simp] theorem mark_syn (s : State) (f : Fld) : (s.mark f).syn = s.syn := rfl
@[simp] theorem mark_hrt (s : State) (f : Fld) : (s.mark f).hrt = s.hrt := rfl
@[simp] theorem mark_nib (s : State) (f : Fld) : (s.mark f).nib = s.nib := rfl
@[simp] theorem mark_cal (s : State) (f : Fld) : (s.mark f).cal = s.cal := rfl
@[simp] theorem mark_upd (s : State) (f : Fld) : (s.mark f).upd = s.upd := rfl
@[simp] theorem mark_mgt (s : State) (f : Fld) : (s.mark f).mgt = s.mgt := rfl

/-! ## fon -/

@[simp] theorem fon_part (s : State) (f : Fld) : (s.fon f).part = s.part := rfl
@[simp] theorem fon_pending (s : State) (f : Fld) : (s.fon f).pending = s.pending := rfl
@[simp] theorem fon_out (s : State) (f : Fld) : (s.fon f).out = s.out := rfl
@[simp] theorem fon_freeCtr (s : State) (f : Fld) : (s.fon f).freeCtr = s.freeCtr := rfl
@[simp] theorem fon_now (s : State) (f : Fld) : (s.fon f).now = s.now := rfl
@[simp] theorem fon_life (s : State) (f : Fld) : (s.fon f).life = s.life := rfl
@[simp] theorem fon_phase (s : State) (f : Fld) : (s.fon f).phase = s.phase := rfl
@[simp] theorem fon_causes (s : State) (f : Fld) : (s.fon f).causes = s.causes := rfl
@[simp] theorem fon_resetFresh (s : State) (f : Fld) : (s.fon f).resetFresh = s.resetFresh := rfl
@[simp] theorem fon_fromDormant (s : State) (f : Fld) : (s.fon f).fromDormant = s.fromDormant := rfl
@[simp] theorem fon_power (s : State) (f : Fld) : (s.fon f).power = s.power := rfl
@[simp] theorem fon_vbat (s : State) (f : Fld) : (s.fon f).vbat = s.vbat := rfl
@[simp] theorem fon_bus (s : State) (f : Fld) : (s.fon f).bus = s.bus := rfl
@[simp] theorem fon_cfg (s : State) (f : Fld) : (s.fon f).cfg = s.cfg := rfl
@[simp] theorem fon_links (s : State) (f : Fld) : (s.fon f).links = s.links := rfl
@[simp] theorem fon_fwd (s : State) (f : Fld) : (s.fon f).fwd = s.fwd := rfl
@[simp] theorem fon_qw (s : State) (f : Fld) : (s.fon f).qw = s.qw := rfl
@[simp] theorem fon_buf (s : State) (f : Fld) : (s.fon f).buf = s.buf := rfl
@[simp] theorem fon_cnt (s : State) (f : Fld) : (s.fon f).cnt = s.cnt := rfl
@[simp] theorem fon_time (s : State) (f : Fld) : (s.fon f).time = s.time := rfl
@[simp] theorem fon_trunk (s : State) (f : Fld) : (s.fon f).trunk = s.trunk := rfl
@[simp] theorem fon_syn (s : State) (f : Fld) : (s.fon f).syn = s.syn := rfl
@[simp] theorem fon_hrt (s : State) (f : Fld) : (s.fon f).hrt = s.hrt := rfl
@[simp] theorem fon_nib (s : State) (f : Fld) : (s.fon f).nib = s.nib := rfl
@[simp] theorem fon_cal (s : State) (f : Fld) : (s.fon f).cal = s.cal := rfl
@[simp] theorem fon_upd (s : State) (f : Fld) : (s.fon f).upd = s.upd := rfl
@[simp] theorem fon_mgt (s : State) (f : Fld) : (s.fon f).mgt = s.mgt := rfl

/-! ## foff -/

@[simp] theorem foff_part (s : State) (f : Fld) : (s.foff f).part = s.part := rfl
@[simp] theorem foff_pending (s : State) (f : Fld) : (s.foff f).pending = s.pending := rfl
@[simp] theorem foff_out (s : State) (f : Fld) : (s.foff f).out = s.out := rfl
@[simp] theorem foff_freeCtr (s : State) (f : Fld) : (s.foff f).freeCtr = s.freeCtr := rfl
@[simp] theorem foff_now (s : State) (f : Fld) : (s.foff f).now = s.now := rfl
@[simp] theorem foff_hot (s : State) (f : Fld) : (s.foff f).hot = s.hot := rfl
@[simp] theorem foff_life (s : State) (f : Fld) : (s.foff f).life = s.life := rfl
@[simp] theorem foff_phase (s : State) (f : Fld) : (s.foff f).phase = s.phase := rfl
@[simp] theorem foff_causes (s : State) (f : Fld) : (s.foff f).causes = s.causes := rfl
@[simp] theorem foff_resetFresh (s : State) (f : Fld) : (s.foff f).resetFresh = s.resetFresh := rfl
@[simp] theorem foff_fromDormant (s : State) (f : Fld) : (s.foff f).fromDormant = s.fromDormant := rfl
@[simp] theorem foff_power (s : State) (f : Fld) : (s.foff f).power = s.power := rfl
@[simp] theorem foff_vbat (s : State) (f : Fld) : (s.foff f).vbat = s.vbat := rfl
@[simp] theorem foff_bus (s : State) (f : Fld) : (s.foff f).bus = s.bus := rfl
@[simp] theorem foff_cfg (s : State) (f : Fld) : (s.foff f).cfg = s.cfg := rfl
@[simp] theorem foff_links (s : State) (f : Fld) : (s.foff f).links = s.links := rfl
@[simp] theorem foff_fwd (s : State) (f : Fld) : (s.foff f).fwd = s.fwd := rfl
@[simp] theorem foff_qw (s : State) (f : Fld) : (s.foff f).qw = s.qw := rfl
@[simp] theorem foff_buf (s : State) (f : Fld) : (s.foff f).buf = s.buf := rfl
@[simp] theorem foff_cnt (s : State) (f : Fld) : (s.foff f).cnt = s.cnt := rfl
@[simp] theorem foff_time (s : State) (f : Fld) : (s.foff f).time = s.time := rfl
@[simp] theorem foff_trunk (s : State) (f : Fld) : (s.foff f).trunk = s.trunk := rfl
@[simp] theorem foff_syn (s : State) (f : Fld) : (s.foff f).syn = s.syn := rfl
@[simp] theorem foff_hrt (s : State) (f : Fld) : (s.foff f).hrt = s.hrt := rfl
@[simp] theorem foff_nib (s : State) (f : Fld) : (s.foff f).nib = s.nib := rfl
@[simp] theorem foff_cal (s : State) (f : Fld) : (s.foff f).cal = s.cal := rfl
@[simp] theorem foff_upd (s : State) (f : Fld) : (s.foff f).upd = s.upd := rfl
@[simp] theorem foff_mgt (s : State) (f : Fld) : (s.foff f).mgt = s.mgt := rfl

/-! ## fcount -/

@[simp] theorem fcount_part (s : State) (f : Fld) (n : Nat) : (s.fcount f n).part = s.part := rfl
@[simp] theorem fcount_pending (s : State) (f : Fld) (n : Nat) : (s.fcount f n).pending = s.pending := rfl
@[simp] theorem fcount_out (s : State) (f : Fld) (n : Nat) : (s.fcount f n).out = s.out := rfl
@[simp] theorem fcount_freeCtr (s : State) (f : Fld) (n : Nat) : (s.fcount f n).freeCtr = s.freeCtr := rfl
@[simp] theorem fcount_now (s : State) (f : Fld) (n : Nat) : (s.fcount f n).now = s.now := rfl
@[simp] theorem fcount_hot (s : State) (f : Fld) (n : Nat) : (s.fcount f n).hot = s.hot := rfl
@[simp] theorem fcount_life (s : State) (f : Fld) (n : Nat) : (s.fcount f n).life = s.life := rfl
@[simp] theorem fcount_phase (s : State) (f : Fld) (n : Nat) : (s.fcount f n).phase = s.phase := rfl
@[simp] theorem fcount_causes (s : State) (f : Fld) (n : Nat) : (s.fcount f n).causes = s.causes := rfl
@[simp] theorem fcount_resetFresh (s : State) (f : Fld) (n : Nat) : (s.fcount f n).resetFresh = s.resetFresh := rfl
@[simp] theorem fcount_fromDormant (s : State) (f : Fld) (n : Nat) : (s.fcount f n).fromDormant = s.fromDormant := rfl
@[simp] theorem fcount_power (s : State) (f : Fld) (n : Nat) : (s.fcount f n).power = s.power := rfl
@[simp] theorem fcount_vbat (s : State) (f : Fld) (n : Nat) : (s.fcount f n).vbat = s.vbat := rfl
@[simp] theorem fcount_bus (s : State) (f : Fld) (n : Nat) : (s.fcount f n).bus = s.bus := rfl
@[simp] theorem fcount_cfg (s : State) (f : Fld) (n : Nat) : (s.fcount f n).cfg = s.cfg := rfl
@[simp] theorem fcount_links (s : State) (f : Fld) (n : Nat) : (s.fcount f n).links = s.links := rfl
@[simp] theorem fcount_fwd (s : State) (f : Fld) (n : Nat) : (s.fcount f n).fwd = s.fwd := rfl
@[simp] theorem fcount_qw (s : State) (f : Fld) (n : Nat) : (s.fcount f n).qw = s.qw := rfl
@[simp] theorem fcount_buf (s : State) (f : Fld) (n : Nat) : (s.fcount f n).buf = s.buf := rfl
@[simp] theorem fcount_cnt (s : State) (f : Fld) (n : Nat) : (s.fcount f n).cnt = s.cnt := rfl
@[simp] theorem fcount_time (s : State) (f : Fld) (n : Nat) : (s.fcount f n).time = s.time := rfl
@[simp] theorem fcount_trunk (s : State) (f : Fld) (n : Nat) : (s.fcount f n).trunk = s.trunk := rfl
@[simp] theorem fcount_syn (s : State) (f : Fld) (n : Nat) : (s.fcount f n).syn = s.syn := rfl
@[simp] theorem fcount_hrt (s : State) (f : Fld) (n : Nat) : (s.fcount f n).hrt = s.hrt := rfl
@[simp] theorem fcount_nib (s : State) (f : Fld) (n : Nat) : (s.fcount f n).nib = s.nib := rfl
@[simp] theorem fcount_cal (s : State) (f : Fld) (n : Nat) : (s.fcount f n).cal = s.cal := rfl
@[simp] theorem fcount_upd (s : State) (f : Fld) (n : Nat) : (s.fcount f n).upd = s.upd := rfl
@[simp] theorem fcount_mgt (s : State) (f : Fld) (n : Nat) : (s.fcount f n).mgt = s.mgt := rfl

/-! ## fwrap -/

@[simp] theorem fwrap_part (s : State) (f : Fld) : (s.fwrap f).part = s.part := rfl
@[simp] theorem fwrap_pending (s : State) (f : Fld) : (s.fwrap f).pending = s.pending := rfl
@[simp] theorem fwrap_out (s : State) (f : Fld) : (s.fwrap f).out = s.out := rfl
@[simp] theorem fwrap_freeCtr (s : State) (f : Fld) : (s.fwrap f).freeCtr = s.freeCtr := rfl
@[simp] theorem fwrap_now (s : State) (f : Fld) : (s.fwrap f).now = s.now := rfl
@[simp] theorem fwrap_hot (s : State) (f : Fld) : (s.fwrap f).hot = s.hot := rfl
@[simp] theorem fwrap_life (s : State) (f : Fld) : (s.fwrap f).life = s.life := rfl
@[simp] theorem fwrap_phase (s : State) (f : Fld) : (s.fwrap f).phase = s.phase := rfl
@[simp] theorem fwrap_causes (s : State) (f : Fld) : (s.fwrap f).causes = s.causes := rfl
@[simp] theorem fwrap_resetFresh (s : State) (f : Fld) : (s.fwrap f).resetFresh = s.resetFresh := rfl
@[simp] theorem fwrap_fromDormant (s : State) (f : Fld) : (s.fwrap f).fromDormant = s.fromDormant := rfl
@[simp] theorem fwrap_power (s : State) (f : Fld) : (s.fwrap f).power = s.power := rfl
@[simp] theorem fwrap_vbat (s : State) (f : Fld) : (s.fwrap f).vbat = s.vbat := rfl
@[simp] theorem fwrap_bus (s : State) (f : Fld) : (s.fwrap f).bus = s.bus := rfl
@[simp] theorem fwrap_cfg (s : State) (f : Fld) : (s.fwrap f).cfg = s.cfg := rfl
@[simp] theorem fwrap_links (s : State) (f : Fld) : (s.fwrap f).links = s.links := rfl
@[simp] theorem fwrap_fwd (s : State) (f : Fld) : (s.fwrap f).fwd = s.fwd := rfl
@[simp] theorem fwrap_qw (s : State) (f : Fld) : (s.fwrap f).qw = s.qw := rfl
@[simp] theorem fwrap_buf (s : State) (f : Fld) : (s.fwrap f).buf = s.buf := rfl
@[simp] theorem fwrap_cnt (s : State) (f : Fld) : (s.fwrap f).cnt = s.cnt := rfl
@[simp] theorem fwrap_time (s : State) (f : Fld) : (s.fwrap f).time = s.time := rfl
@[simp] theorem fwrap_trunk (s : State) (f : Fld) : (s.fwrap f).trunk = s.trunk := rfl
@[simp] theorem fwrap_syn (s : State) (f : Fld) : (s.fwrap f).syn = s.syn := rfl
@[simp] theorem fwrap_hrt (s : State) (f : Fld) : (s.fwrap f).hrt = s.hrt := rfl
@[simp] theorem fwrap_nib (s : State) (f : Fld) : (s.fwrap f).nib = s.nib := rfl
@[simp] theorem fwrap_cal (s : State) (f : Fld) : (s.fwrap f).cal = s.cal := rfl
@[simp] theorem fwrap_upd (s : State) (f : Fld) : (s.fwrap f).upd = s.upd := rfl
@[simp] theorem fwrap_mgt (s : State) (f : Fld) : (s.fwrap f).mgt = s.mgt := rfl

/-! ## fsetInt -/

@[simp] theorem fsetInt_part (s : State) (f : Fld) (i : Int) : (s.fsetInt f i).part = s.part := rfl
@[simp] theorem fsetInt_pending (s : State) (f : Fld) (i : Int) : (s.fsetInt f i).pending = s.pending := rfl
@[simp] theorem fsetInt_out (s : State) (f : Fld) (i : Int) : (s.fsetInt f i).out = s.out := rfl
@[simp] theorem fsetInt_freeCtr (s : State) (f : Fld) (i : Int) : (s.fsetInt f i).freeCtr = s.freeCtr := rfl
@[simp] theorem fsetInt_now (s : State) (f : Fld) (i : Int) : (s.fsetInt f i).now = s.now := rfl
@[simp] theorem fsetInt_hot (s : State) (f : Fld) (i : Int) : (s.fsetInt f i).hot = s.hot := rfl
@[simp] theorem fsetInt_life (s : State) (f : Fld) (i : Int) : (s.fsetInt f i).life = s.life := rfl
@[simp] theorem fsetInt_phase (s : State) (f : Fld) (i : Int) : (s.fsetInt f i).phase = s.phase := rfl
@[simp] theorem fsetInt_causes (s : State) (f : Fld) (i : Int) : (s.fsetInt f i).causes = s.causes := rfl
@[simp] theorem fsetInt_resetFresh (s : State) (f : Fld) (i : Int) : (s.fsetInt f i).resetFresh = s.resetFresh := rfl
@[simp] theorem fsetInt_fromDormant (s : State) (f : Fld) (i : Int) : (s.fsetInt f i).fromDormant = s.fromDormant := rfl
@[simp] theorem fsetInt_power (s : State) (f : Fld) (i : Int) : (s.fsetInt f i).power = s.power := rfl
@[simp] theorem fsetInt_vbat (s : State) (f : Fld) (i : Int) : (s.fsetInt f i).vbat = s.vbat := rfl
@[simp] theorem fsetInt_bus (s : State) (f : Fld) (i : Int) : (s.fsetInt f i).bus = s.bus := rfl
@[simp] theorem fsetInt_cfg (s : State) (f : Fld) (i : Int) : (s.fsetInt f i).cfg = s.cfg := rfl
@[simp] theorem fsetInt_links (s : State) (f : Fld) (i : Int) : (s.fsetInt f i).links = s.links := rfl
@[simp] theorem fsetInt_fwd (s : State) (f : Fld) (i : Int) : (s.fsetInt f i).fwd = s.fwd := rfl
@[simp] theorem fsetInt_qw (s : State) (f : Fld) (i : Int) : (s.fsetInt f i).qw = s.qw := rfl
@[simp] theorem fsetInt_buf (s : State) (f : Fld) (i : Int) : (s.fsetInt f i).buf = s.buf := rfl
@[simp] theorem fsetInt_cnt (s : State) (f : Fld) (i : Int) : (s.fsetInt f i).cnt = s.cnt := rfl
@[simp] theorem fsetInt_time (s : State) (f : Fld) (i : Int) : (s.fsetInt f i).time = s.time := rfl
@[simp] theorem fsetInt_trunk (s : State) (f : Fld) (i : Int) : (s.fsetInt f i).trunk = s.trunk := rfl
@[simp] theorem fsetInt_syn (s : State) (f : Fld) (i : Int) : (s.fsetInt f i).syn = s.syn := rfl
@[simp] theorem fsetInt_hrt (s : State) (f : Fld) (i : Int) : (s.fsetInt f i).hrt = s.hrt := rfl
@[simp] theorem fsetInt_nib (s : State) (f : Fld) (i : Int) : (s.fsetInt f i).nib = s.nib := rfl
@[simp] theorem fsetInt_cal (s : State) (f : Fld) (i : Int) : (s.fsetInt f i).cal = s.cal := rfl
@[simp] theorem fsetInt_upd (s : State) (f : Fld) (i : Int) : (s.fsetInt f i).upd = s.upd := rfl
@[simp] theorem fsetInt_mgt (s : State) (f : Fld) (i : Int) : (s.fsetInt f i).mgt = s.mgt := rfl

/-! ## setWide2 -/

@[simp] theorem setWide2_part (s : State) (lo hi v : Nat) : (s.setWide2 lo hi v).part = s.part := rfl
@[simp] theorem setWide2_pending (s : State) (lo hi v : Nat) : (s.setWide2 lo hi v).pending = s.pending := rfl
@[simp] theorem setWide2_out (s : State) (lo hi v : Nat) : (s.setWide2 lo hi v).out = s.out := rfl
@[simp] theorem setWide2_freeCtr (s : State) (lo hi v : Nat) : (s.setWide2 lo hi v).freeCtr = s.freeCtr := rfl
@[simp] theorem setWide2_now (s : State) (lo hi v : Nat) : (s.setWide2 lo hi v).now = s.now := rfl
@[simp] theorem setWide2_hot (s : State) (lo hi v : Nat) : (s.setWide2 lo hi v).hot = s.hot := rfl
@[simp] theorem setWide2_life (s : State) (lo hi v : Nat) : (s.setWide2 lo hi v).life = s.life := rfl
@[simp] theorem setWide2_phase (s : State) (lo hi v : Nat) : (s.setWide2 lo hi v).phase = s.phase := rfl
@[simp] theorem setWide2_causes (s : State) (lo hi v : Nat) : (s.setWide2 lo hi v).causes = s.causes := rfl
@[simp] theorem setWide2_resetFresh (s : State) (lo hi v : Nat) : (s.setWide2 lo hi v).resetFresh = s.resetFresh := rfl
@[simp] theorem setWide2_fromDormant (s : State) (lo hi v : Nat) : (s.setWide2 lo hi v).fromDormant = s.fromDormant := rfl
@[simp] theorem setWide2_power (s : State) (lo hi v : Nat) : (s.setWide2 lo hi v).power = s.power := rfl
@[simp] theorem setWide2_vbat (s : State) (lo hi v : Nat) : (s.setWide2 lo hi v).vbat = s.vbat := rfl
@[simp] theorem setWide2_bus (s : State) (lo hi v : Nat) : (s.setWide2 lo hi v).bus = s.bus := rfl
@[simp] theorem setWide2_cfg (s : State) (lo hi v : Nat) : (s.setWide2 lo hi v).cfg = s.cfg := rfl
@[simp] theorem setWide2_links (s : State) (lo hi v : Nat) : (s.setWide2 lo hi v).links = s.links := rfl
@[simp] theorem setWide2_fwd (s : State) (lo hi v : Nat) : (s.setWide2 lo hi v).fwd = s.fwd := rfl
@[simp] theorem setWide2_qw (s : State) (lo hi v : Nat) : (s.setWide2 lo hi v).qw = s.qw := rfl
@[simp] theorem setWide2_buf (s : State) (lo hi v : Nat) : (s.setWide2 lo hi v).buf = s.buf := rfl
@[simp] theorem setWide2_cnt (s : State) (lo hi v : Nat) : (s.setWide2 lo hi v).cnt = s.cnt := rfl
@[simp] theorem setWide2_time (s : State) (lo hi v : Nat) : (s.setWide2 lo hi v).time = s.time := rfl
@[simp] theorem setWide2_trunk (s : State) (lo hi v : Nat) : (s.setWide2 lo hi v).trunk = s.trunk := rfl
@[simp] theorem setWide2_syn (s : State) (lo hi v : Nat) : (s.setWide2 lo hi v).syn = s.syn := rfl
@[simp] theorem setWide2_hrt (s : State) (lo hi v : Nat) : (s.setWide2 lo hi v).hrt = s.hrt := rfl
@[simp] theorem setWide2_nib (s : State) (lo hi v : Nat) : (s.setWide2 lo hi v).nib = s.nib := rfl
@[simp] theorem setWide2_cal (s : State) (lo hi v : Nat) : (s.setWide2 lo hi v).cal = s.cal := rfl
@[simp] theorem setWide2_upd (s : State) (lo hi v : Nat) : (s.setWide2 lo hi v).upd = s.upd := rfl
@[simp] theorem setWide2_mgt (s : State) (lo hi v : Nat) : (s.setWide2 lo hi v).mgt = s.mgt := rfl

/-! ## emit -/

@[simp] theorem emit_part (s : State) (o : Output) : (s.emit o).part = s.part := rfl
@[simp] theorem emit_pending (s : State) (o : Output) : (s.emit o).pending = s.pending := rfl
@[simp] theorem emit_freeCtr (s : State) (o : Output) : (s.emit o).freeCtr = s.freeCtr := rfl
@[simp] theorem emit_now (s : State) (o : Output) : (s.emit o).now = s.now := rfl
@[simp] theorem emit_regs (s : State) (o : Output) : (s.emit o).regs = s.regs := rfl
@[simp] theorem emit_hot (s : State) (o : Output) : (s.emit o).hot = s.hot := rfl
@[simp] theorem emit_life (s : State) (o : Output) : (s.emit o).life = s.life := rfl
@[simp] theorem emit_phase (s : State) (o : Output) : (s.emit o).phase = s.phase := rfl
@[simp] theorem emit_causes (s : State) (o : Output) : (s.emit o).causes = s.causes := rfl
@[simp] theorem emit_resetFresh (s : State) (o : Output) : (s.emit o).resetFresh = s.resetFresh := rfl
@[simp] theorem emit_fromDormant (s : State) (o : Output) : (s.emit o).fromDormant = s.fromDormant := rfl
@[simp] theorem emit_power (s : State) (o : Output) : (s.emit o).power = s.power := rfl
@[simp] theorem emit_vbat (s : State) (o : Output) : (s.emit o).vbat = s.vbat := rfl
@[simp] theorem emit_bus (s : State) (o : Output) : (s.emit o).bus = s.bus := rfl
@[simp] theorem emit_cfg (s : State) (o : Output) : (s.emit o).cfg = s.cfg := rfl
@[simp] theorem emit_links (s : State) (o : Output) : (s.emit o).links = s.links := rfl
@[simp] theorem emit_fwd (s : State) (o : Output) : (s.emit o).fwd = s.fwd := rfl
@[simp] theorem emit_qw (s : State) (o : Output) : (s.emit o).qw = s.qw := rfl
@[simp] theorem emit_buf (s : State) (o : Output) : (s.emit o).buf = s.buf := rfl
@[simp] theorem emit_cnt (s : State) (o : Output) : (s.emit o).cnt = s.cnt := rfl
@[simp] theorem emit_time (s : State) (o : Output) : (s.emit o).time = s.time := rfl
@[simp] theorem emit_trunk (s : State) (o : Output) : (s.emit o).trunk = s.trunk := rfl
@[simp] theorem emit_syn (s : State) (o : Output) : (s.emit o).syn = s.syn := rfl
@[simp] theorem emit_hrt (s : State) (o : Output) : (s.emit o).hrt = s.hrt := rfl
@[simp] theorem emit_nib (s : State) (o : Output) : (s.emit o).nib = s.nib := rfl
@[simp] theorem emit_cal (s : State) (o : Output) : (s.emit o).cal = s.cal := rfl
@[simp] theorem emit_upd (s : State) (o : Output) : (s.emit o).upd = s.upd := rfl
@[simp] theorem emit_mgt (s : State) (o : Output) : (s.emit o).mgt = s.mgt := rfl

/-! ## useFree -/

@[simp] theorem useFree_part (s : State) : (s.useFree).part = s.part := rfl
@[simp] theorem useFree_pending (s : State) : (s.useFree).pending = s.pending := rfl
@[simp] theorem useFree_out (s : State) : (s.useFree).out = s.out := rfl
@[simp] theorem useFree_now (s : State) : (s.useFree).now = s.now := rfl
@[simp] theorem useFree_regs (s : State) : (s.useFree).regs = s.regs := rfl
@[simp] theorem useFree_hot (s : State) : (s.useFree).hot = s.hot := rfl
@[simp] theorem useFree_life (s : State) : (s.useFree).life = s.life := rfl
@[simp] theorem useFree_phase (s : State) : (s.useFree).phase = s.phase := rfl
@[simp] theorem useFree_causes (s : State) : (s.useFree).causes = s.causes := rfl
@[simp] theorem useFree_resetFresh (s : State) : (s.useFree).resetFresh = s.resetFresh := rfl
@[simp] theorem useFree_fromDormant (s : State) : (s.useFree).fromDormant = s.fromDormant := rfl
@[simp] theorem useFree_power (s : State) : (s.useFree).power = s.power := rfl
@[simp] theorem useFree_vbat (s : State) : (s.useFree).vbat = s.vbat := rfl
@[simp] theorem useFree_bus (s : State) : (s.useFree).bus = s.bus := rfl
@[simp] theorem useFree_cfg (s : State) : (s.useFree).cfg = s.cfg := rfl
@[simp] theorem useFree_links (s : State) : (s.useFree).links = s.links := rfl
@[simp] theorem useFree_fwd (s : State) : (s.useFree).fwd = s.fwd := rfl
@[simp] theorem useFree_qw (s : State) : (s.useFree).qw = s.qw := rfl
@[simp] theorem useFree_buf (s : State) : (s.useFree).buf = s.buf := rfl
@[simp] theorem useFree_cnt (s : State) : (s.useFree).cnt = s.cnt := rfl
@[simp] theorem useFree_time (s : State) : (s.useFree).time = s.time := rfl
@[simp] theorem useFree_trunk (s : State) : (s.useFree).trunk = s.trunk := rfl
@[simp] theorem useFree_syn (s : State) : (s.useFree).syn = s.syn := rfl
@[simp] theorem useFree_hrt (s : State) : (s.useFree).hrt = s.hrt := rfl
@[simp] theorem useFree_nib (s : State) : (s.useFree).nib = s.nib := rfl
@[simp] theorem useFree_cal (s : State) : (s.useFree).cal = s.cal := rfl
@[simp] theorem useFree_upd (s : State) : (s.useFree).upd = s.upd := rfl
@[simp] theorem useFree_mgt (s : State) : (s.useFree).mgt = s.mgt := rfl

/-! ## countAlarm -/

@[simp] theorem countAlarm_part (s : State) (b : Nat) : (s.countAlarm b).part = s.part := rfl
@[simp] theorem countAlarm_pending (s : State) (b : Nat) : (s.countAlarm b).pending = s.pending := rfl
@[simp] theorem countAlarm_out (s : State) (b : Nat) : (s.countAlarm b).out = s.out := rfl
@[simp] theorem countAlarm_freeCtr (s : State) (b : Nat) : (s.countAlarm b).freeCtr = s.freeCtr := rfl
@[simp] theorem countAlarm_now (s : State) (b : Nat) : (s.countAlarm b).now = s.now := rfl
@[simp] theorem countAlarm_regs (s : State) (b : Nat) : (s.countAlarm b).regs = s.regs := rfl
@[simp] theorem countAlarm_hot (s : State) (b : Nat) : (s.countAlarm b).hot = s.hot := rfl
@[simp] theorem countAlarm_life (s : State) (b : Nat) : (s.countAlarm b).life = s.life := rfl
@[simp] theorem countAlarm_phase (s : State) (b : Nat) : (s.countAlarm b).phase = s.phase := rfl
@[simp] theorem countAlarm_causes (s : State) (b : Nat) : (s.countAlarm b).causes = s.causes := rfl
@[simp] theorem countAlarm_resetFresh (s : State) (b : Nat) : (s.countAlarm b).resetFresh = s.resetFresh := rfl
@[simp] theorem countAlarm_fromDormant (s : State) (b : Nat) : (s.countAlarm b).fromDormant = s.fromDormant := rfl
@[simp] theorem countAlarm_power (s : State) (b : Nat) : (s.countAlarm b).power = s.power := rfl
@[simp] theorem countAlarm_vbat (s : State) (b : Nat) : (s.countAlarm b).vbat = s.vbat := rfl
@[simp] theorem countAlarm_bus (s : State) (b : Nat) : (s.countAlarm b).bus = s.bus := rfl
@[simp] theorem countAlarm_cfg (s : State) (b : Nat) : (s.countAlarm b).cfg = s.cfg := rfl
@[simp] theorem countAlarm_links (s : State) (b : Nat) : (s.countAlarm b).links = s.links := rfl
@[simp] theorem countAlarm_fwd (s : State) (b : Nat) : (s.countAlarm b).fwd = s.fwd := rfl
@[simp] theorem countAlarm_qw (s : State) (b : Nat) : (s.countAlarm b).qw = s.qw := rfl
@[simp] theorem countAlarm_buf (s : State) (b : Nat) : (s.countAlarm b).buf = s.buf := rfl
@[simp] theorem countAlarm_cnt (s : State) (b : Nat) : (s.countAlarm b).cnt = s.cnt := rfl
@[simp] theorem countAlarm_time (s : State) (b : Nat) : (s.countAlarm b).time = s.time := rfl
@[simp] theorem countAlarm_trunk (s : State) (b : Nat) : (s.countAlarm b).trunk = s.trunk := rfl
@[simp] theorem countAlarm_syn (s : State) (b : Nat) : (s.countAlarm b).syn = s.syn := rfl
@[simp] theorem countAlarm_hrt (s : State) (b : Nat) : (s.countAlarm b).hrt = s.hrt := rfl
@[simp] theorem countAlarm_nib (s : State) (b : Nat) : (s.countAlarm b).nib = s.nib := rfl
@[simp] theorem countAlarm_cal (s : State) (b : Nat) : (s.countAlarm b).cal = s.cal := rfl
@[simp] theorem countAlarm_upd (s : State) (b : Nat) : (s.countAlarm b).upd = s.upd := rfl

/-! ## raise -/

@[simp] theorem raise_part (s : State) (a : Alarm) : (s.raise a).part = s.part := rfl
@[simp] theorem raise_pending (s : State) (a : Alarm) : (s.raise a).pending = s.pending := rfl
@[simp] theorem raise_out (s : State) (a : Alarm) : (s.raise a).out = s.out := rfl
@[simp] theorem raise_freeCtr (s : State) (a : Alarm) : (s.raise a).freeCtr = s.freeCtr := rfl
@[simp] theorem raise_now (s : State) (a : Alarm) : (s.raise a).now = s.now := rfl
@[simp] theorem raise_regs (s : State) (a : Alarm) : (s.raise a).regs = s.regs := rfl
@[simp] theorem raise_life (s : State) (a : Alarm) : (s.raise a).life = s.life := rfl
@[simp] theorem raise_phase (s : State) (a : Alarm) : (s.raise a).phase = s.phase := rfl
@[simp] theorem raise_causes (s : State) (a : Alarm) : (s.raise a).causes = s.causes := rfl
@[simp] theorem raise_resetFresh (s : State) (a : Alarm) : (s.raise a).resetFresh = s.resetFresh := rfl
@[simp] theorem raise_fromDormant (s : State) (a : Alarm) : (s.raise a).fromDormant = s.fromDormant := rfl
@[simp] theorem raise_power (s : State) (a : Alarm) : (s.raise a).power = s.power := rfl
@[simp] theorem raise_vbat (s : State) (a : Alarm) : (s.raise a).vbat = s.vbat := rfl
@[simp] theorem raise_bus (s : State) (a : Alarm) : (s.raise a).bus = s.bus := rfl
@[simp] theorem raise_cfg (s : State) (a : Alarm) : (s.raise a).cfg = s.cfg := rfl
@[simp] theorem raise_links (s : State) (a : Alarm) : (s.raise a).links = s.links := rfl
@[simp] theorem raise_fwd (s : State) (a : Alarm) : (s.raise a).fwd = s.fwd := rfl
@[simp] theorem raise_qw (s : State) (a : Alarm) : (s.raise a).qw = s.qw := rfl
@[simp] theorem raise_buf (s : State) (a : Alarm) : (s.raise a).buf = s.buf := rfl
@[simp] theorem raise_cnt (s : State) (a : Alarm) : (s.raise a).cnt = s.cnt := rfl
@[simp] theorem raise_time (s : State) (a : Alarm) : (s.raise a).time = s.time := rfl
@[simp] theorem raise_trunk (s : State) (a : Alarm) : (s.raise a).trunk = s.trunk := rfl
@[simp] theorem raise_syn (s : State) (a : Alarm) : (s.raise a).syn = s.syn := rfl
@[simp] theorem raise_hrt (s : State) (a : Alarm) : (s.raise a).hrt = s.hrt := rfl
@[simp] theorem raise_nib (s : State) (a : Alarm) : (s.raise a).nib = s.nib := rfl
@[simp] theorem raise_cal (s : State) (a : Alarm) : (s.raise a).cal = s.cal := rfl
@[simp] theorem raise_upd (s : State) (a : Alarm) : (s.raise a).upd = s.upd := rfl

/-! ## seen -/

@[simp] theorem seen_part (s : State) (f : Fld) (a : Alarm) : (s.seen f a).part = s.part := by simp [State.seen]
@[simp] theorem seen_pending (s : State) (f : Fld) (a : Alarm) : (s.seen f a).pending = s.pending := by simp [State.seen]
@[simp] theorem seen_out (s : State) (f : Fld) (a : Alarm) : (s.seen f a).out = s.out := by simp [State.seen]
@[simp] theorem seen_freeCtr (s : State) (f : Fld) (a : Alarm) : (s.seen f a).freeCtr = s.freeCtr := by simp [State.seen]
@[simp] theorem seen_now (s : State) (f : Fld) (a : Alarm) : (s.seen f a).now = s.now := by simp [State.seen]
@[simp] theorem seen_life (s : State) (f : Fld) (a : Alarm) : (s.seen f a).life = s.life := by simp [State.seen]
@[simp] theorem seen_phase (s : State) (f : Fld) (a : Alarm) : (s.seen f a).phase = s.phase := by simp [State.seen]
@[simp] theorem seen_causes (s : State) (f : Fld) (a : Alarm) : (s.seen f a).causes = s.causes := by simp [State.seen]
@[simp] theorem seen_resetFresh (s : State) (f : Fld) (a : Alarm) : (s.seen f a).resetFresh = s.resetFresh := by simp [State.seen]
@[simp] theorem seen_fromDormant (s : State) (f : Fld) (a : Alarm) : (s.seen f a).fromDormant = s.fromDormant := by simp [State.seen]
@[simp] theorem seen_power (s : State) (f : Fld) (a : Alarm) : (s.seen f a).power = s.power := by simp [State.seen]
@[simp] theorem seen_vbat (s : State) (f : Fld) (a : Alarm) : (s.seen f a).vbat = s.vbat := by simp [State.seen]
@[simp] theorem seen_bus (s : State) (f : Fld) (a : Alarm) : (s.seen f a).bus = s.bus := by simp [State.seen]
@[simp] theorem seen_cfg (s : State) (f : Fld) (a : Alarm) : (s.seen f a).cfg = s.cfg := by simp [State.seen]
@[simp] theorem seen_links (s : State) (f : Fld) (a : Alarm) : (s.seen f a).links = s.links := by simp [State.seen]
@[simp] theorem seen_fwd (s : State) (f : Fld) (a : Alarm) : (s.seen f a).fwd = s.fwd := by simp [State.seen]
@[simp] theorem seen_qw (s : State) (f : Fld) (a : Alarm) : (s.seen f a).qw = s.qw := by simp [State.seen]
@[simp] theorem seen_buf (s : State) (f : Fld) (a : Alarm) : (s.seen f a).buf = s.buf := by simp [State.seen]
@[simp] theorem seen_cnt (s : State) (f : Fld) (a : Alarm) : (s.seen f a).cnt = s.cnt := by simp [State.seen]
@[simp] theorem seen_time (s : State) (f : Fld) (a : Alarm) : (s.seen f a).time = s.time := by simp [State.seen]
@[simp] theorem seen_trunk (s : State) (f : Fld) (a : Alarm) : (s.seen f a).trunk = s.trunk := by simp [State.seen]
@[simp] theorem seen_syn (s : State) (f : Fld) (a : Alarm) : (s.seen f a).syn = s.syn := by simp [State.seen]
@[simp] theorem seen_hrt (s : State) (f : Fld) (a : Alarm) : (s.seen f a).hrt = s.hrt := by simp [State.seen]
@[simp] theorem seen_nib (s : State) (f : Fld) (a : Alarm) : (s.seen f a).nib = s.nib := by simp [State.seen]
@[simp] theorem seen_cal (s : State) (f : Fld) (a : Alarm) : (s.seen f a).cal = s.cal := by simp [State.seen]
@[simp] theorem seen_upd (s : State) (f : Fld) (a : Alarm) : (s.seen f a).upd = s.upd := by simp [State.seen]

/-! ## settle -/

theorem settle_frame {β : Type} (p : State → β) (hp : ∀ u b, p (State.countAlarm u b) = p u) (s t : State) :
    p (settle s t) = p t := by
  unfold settle
  generalize t.alarmConds = l
  induction l generalizing t with
  | nil => rfl
  | cons c r ih =>
    rw [List.foldl_cons, ih]
    split
    · exact hp _ _
    · rfl

@[simp] theorem settle_part (s t : State) : (settle s t).part = t.part := settle_frame State.part (fun _ _ => rfl) s t
@[simp] theorem settle_pending (s t : State) : (settle s t).pending = t.pending := settle_frame State.pending (fun _ _ => rfl) s t
@[simp] theorem settle_out (s t : State) : (settle s t).out = t.out := settle_frame State.out (fun _ _ => rfl) s t
@[simp] theorem settle_freeCtr (s t : State) : (settle s t).freeCtr = t.freeCtr := settle_frame State.freeCtr (fun _ _ => rfl) s t
@[simp] theorem settle_now (s t : State) : (settle s t).now = t.now := settle_frame State.now (fun _ _ => rfl) s t
@[simp] theorem settle_regs (s t : State) : (settle s t).regs = t.regs := settle_frame State.regs (fun _ _ => rfl) s t
@[simp] theorem settle_hot (s t : State) : (settle s t).hot = t.hot := settle_frame State.hot (fun _ _ => rfl) s t
@[simp] theorem settle_life (s t : State) : (settle s t).life = t.life := settle_frame State.life (fun _ _ => rfl) s t
@[simp] theorem settle_phase (s t : State) : (settle s t).phase = t.phase := settle_frame State.phase (fun _ _ => rfl) s t
@[simp] theorem settle_causes (s t : State) : (settle s t).causes = t.causes := settle_frame State.causes (fun _ _ => rfl) s t
@[simp] theorem settle_resetFresh (s t : State) : (settle s t).resetFresh = t.resetFresh := settle_frame State.resetFresh (fun _ _ => rfl) s t
@[simp] theorem settle_fromDormant (s t : State) : (settle s t).fromDormant = t.fromDormant := settle_frame State.fromDormant (fun _ _ => rfl) s t
@[simp] theorem settle_power (s t : State) : (settle s t).power = t.power := settle_frame State.power (fun _ _ => rfl) s t
@[simp] theorem settle_vbat (s t : State) : (settle s t).vbat = t.vbat := settle_frame State.vbat (fun _ _ => rfl) s t
@[simp] theorem settle_bus (s t : State) : (settle s t).bus = t.bus := settle_frame State.bus (fun _ _ => rfl) s t
@[simp] theorem settle_cfg (s t : State) : (settle s t).cfg = t.cfg := settle_frame State.cfg (fun _ _ => rfl) s t
@[simp] theorem settle_links (s t : State) : (settle s t).links = t.links := settle_frame State.links (fun _ _ => rfl) s t
@[simp] theorem settle_fwd (s t : State) : (settle s t).fwd = t.fwd := settle_frame State.fwd (fun _ _ => rfl) s t
@[simp] theorem settle_qw (s t : State) : (settle s t).qw = t.qw := settle_frame State.qw (fun _ _ => rfl) s t
@[simp] theorem settle_buf (s t : State) : (settle s t).buf = t.buf := settle_frame State.buf (fun _ _ => rfl) s t
@[simp] theorem settle_cnt (s t : State) : (settle s t).cnt = t.cnt := settle_frame State.cnt (fun _ _ => rfl) s t
@[simp] theorem settle_time (s t : State) : (settle s t).time = t.time := settle_frame State.time (fun _ _ => rfl) s t
@[simp] theorem settle_trunk (s t : State) : (settle s t).trunk = t.trunk := settle_frame State.trunk (fun _ _ => rfl) s t
@[simp] theorem settle_syn (s t : State) : (settle s t).syn = t.syn := settle_frame State.syn (fun _ _ => rfl) s t
@[simp] theorem settle_hrt (s t : State) : (settle s t).hrt = t.hrt := settle_frame State.hrt (fun _ _ => rfl) s t
@[simp] theorem settle_nib (s t : State) : (settle s t).nib = t.nib := settle_frame State.nib (fun _ _ => rfl) s t
@[simp] theorem settle_cal (s t : State) : (settle s t).cal = t.cal := settle_frame State.cal (fun _ _ => rfl) s t
@[simp] theorem settle_upd (s t : State) : (settle s t).upd = t.upd := settle_frame State.upd (fun _ _ => rfl) s t

/-! ## Registers after updates that write none -/

theorem getReg_congr {s t : State} (hp : t.part = s.part) (hr : t.regs = s.regs) (k : Nat) : t.getReg k = s.getReg k := by
  unfold State.getReg
  rw [hp, hr]

theorem fget_congr {s t : State} (hp : t.part = s.part) (hr : t.regs = s.regs) (f : Fld) : t.fget f = s.fget f := by
  unfold State.fget
  rw [getReg_congr hp hr]

theorem fbit_congr {s t : State} (hp : t.part = s.part) (hr : t.regs = s.regs) (f : Fld) : t.fbit f = s.fbit f := by
  unfold State.fbit
  rw [fget_congr hp hr]

@[simp] theorem getReg_mark (s : State) (f : Fld) (j : Nat) : (s.mark f).getReg j = s.getReg j := rfl
@[simp] theorem fget_mark (s : State) (f : Fld) (g : Fld) : (s.mark f).fget g = s.fget g := rfl
@[simp] theorem fbit_mark (s : State) (f : Fld) (g : Fld) : (s.mark f).fbit g = s.fbit g := rfl
@[simp] theorem getReg_emit (s : State) (o : Output) (j : Nat) : (s.emit o).getReg j = s.getReg j := rfl
@[simp] theorem fget_emit (s : State) (o : Output) (g : Fld) : (s.emit o).fget g = s.fget g := rfl
@[simp] theorem fbit_emit (s : State) (o : Output) (g : Fld) : (s.emit o).fbit g = s.fbit g := rfl
@[simp] theorem getReg_useFree (s : State) (j : Nat) : (s.useFree).getReg j = s.getReg j := rfl
@[simp] theorem fget_useFree (s : State) (g : Fld) : (s.useFree).fget g = s.fget g := rfl
@[simp] theorem fbit_useFree (s : State) (g : Fld) : (s.useFree).fbit g = s.fbit g := rfl
@[simp] theorem getReg_countAlarm (s : State) (b : Nat) (j : Nat) : (s.countAlarm b).getReg j = s.getReg j := rfl
@[simp] theorem fget_countAlarm (s : State) (b : Nat) (g : Fld) : (s.countAlarm b).fget g = s.fget g := rfl
@[simp] theorem fbit_countAlarm (s : State) (b : Nat) (g : Fld) : (s.countAlarm b).fbit g = s.fbit g := rfl
@[simp] theorem getReg_raise (s : State) (a : Alarm) (j : Nat) : (s.raise a).getReg j = s.getReg j := rfl
@[simp] theorem fget_raise (s : State) (a : Alarm) (g : Fld) : (s.raise a).fget g = s.fget g := rfl
@[simp] theorem fbit_raise (s : State) (a : Alarm) (g : Fld) : (s.raise a).fbit g = s.fbit g := rfl
@[simp] theorem getReg_settle (s t : State) (j : Nat) : (settle s t).getReg j = t.getReg j :=
  getReg_congr (settle_part s t) (settle_regs s t) j
@[simp] theorem fget_settle (s t : State) (g : Fld) : (settle s t).fget g = t.fget g :=
  fget_congr (settle_part s t) (settle_regs s t) g
@[simp] theorem fbit_settle (s t : State) (g : Fld) : (settle s t).fbit g = t.fbit g :=
  fbit_congr (settle_part s t) (settle_regs s t) g

/-! ## Fields after a flag is set -/

theorem fget_fon_same (s : State) (f : Fld) (h : f.fits = true) (hw : 0 < f.width) : (s.fon f).fget f = 1 := by
  rw [fget_fon, fget_fset_same _ _ _ h, Nat.mod_eq_of_lt (Nat.one_lt_two_pow (by omega))]

theorem fget_foff_same (s : State) (f : Fld) (h : f.fits = true) : (s.foff f).fget f = 0 := by
  unfold State.foff
  rw [fget_fset_same _ _ _ h, Nat.zero_mod]

theorem fget_fon_apart (s : State) (f g : Fld) (hf : f.fits = true) (h : g.apart f = true) :
    (s.fon f).fget g = s.fget g := (fget_fon s f g).trans (fget_fset_apart s f g 1 hf h)

theorem fget_foff_apart (s : State) (f g : Fld) (hf : f.fits = true) (h : g.apart f = true) :
    (s.foff f).fget g = s.fget g := fget_fset_apart s f g 0 hf h

/-- A field read after another one of the same place in its word, or elsewhere, is written: the bits do not meet. -/
theorem fget_fset_bits (s : State) (f g : Fld) (v : Nat) (hf : f.fits = true)
    (h : f.lo + f.width ≤ g.lo ∨ g.lo + g.width ≤ f.lo) : (s.fset f v).fget g = s.fget g := by
  apply fget_fset_apart s f g v hf
  unfold Fld.apart
  rcases h with h | h <;> simp [h]

/-- A field read after a field of another register is written. -/
theorem fget_fset_key (s : State) (f g : Fld) (v : Nat) (h : g.key ≠ f.key) : (s.fset f v).fget g = s.fget g :=
  fget_setReg_ne s f.key _ g h

/-! ## Outcomes -/

/-- The outcome of a command whose effect leaves the queue. -/
theorem done_queue {s t : State} (h : t.pending = s.pending) : done s t = .next (settle s t) := by
  unfold done
  have : { settle s t with pending := s.pending } = settle s t := by
    rw [← h, ← settle_pending s t]
  rw [this]

/-- A read of a register of the VBAT domain, or of another, after the blocks are cleared. -/
theorem getReg_of_filter (s t : State) (p : Nat → Bool) (hp : t.part = s.part)
    (hr : t.regs = s.regs.filter fun e => p e.1) (k : Nat) :
    t.getReg k = if p k then s.getReg k else (resetWord s.part k).toNat := by
  unfold State.getReg
  rw [hp, hr, mapGet_filter]
  split <;> rfl

theorem next_inj {s t : State} (h : (Host.Outcome.next s : Host.Outcome State Fault Refusal) = .next t) : s = t := by
  injection h

/-- A command of a block that runs answers its effect. -/
theorem whenUp_up {s : State} (h : s.up = true) (t : State) : whenUp s t = done s t := by
  unfold whenUp
  rw [if_pos h]

/-- A command of a block that does not run changes nothing. -/
theorem whenUp_off {s : State} (h : s.up = false) (t : State) : whenUp s t = done s s := by
  unfold whenUp
  rw [h]
  rfl

end Sys2Proof.Machine
end

