-- ==== Sys2Proof/Laws/Frame.lean ====
section
/-! SUPPORT. Frames, alarms and the counting of conditions: what the shared ends of every meaning leave unchanged. -/

namespace Sys2Proof.Machine

/-! ## Frames of fields -/

theorem keepsBut_refl (fs : List Fld) (s : State) : keepsBut fs s s := fun _ _ => rfl

theorem keepsBut_trans {fs : List Fld} {s t u : State} (h : keepsBut fs s t) (k : keepsBut fs t u) :
    keepsBut fs s u := fun g hg => (k g hg).trans (h g hg)

theorem keepsBut_of_regs {fs : List Fld} {s t u : State} (hp : u.part = t.part) (hr : u.regs = t.regs)
    (h : keepsBut fs s t) : keepsBut fs s u := fun g hg => (fget_congr hp hr g).trans (h g hg)

theorem keepsBut_fset {fs : List Fld} {s t : State} (f : Fld) (v : Nat) (hm : f ∈ fs) (hf : f.fits = true)
    (h : keepsBut fs s t) : keepsBut fs s (t.fset f v) :=
  fun g hg => (fget_fset_apart t f g v hf (hg f hm)).trans (h g hg)

theorem keepsBut_fon {fs : List Fld} {s t : State} (f : Fld) (hm : f ∈ fs) (hf : f.fits = true)
    (h : keepsBut fs s t) : keepsBut fs s (t.fon f) := keepsBut_of_regs rfl rfl (keepsBut_fset f 1 hm hf h)

theorem keepsBut_foff {fs : List Fld} {s t : State} (f : Fld) (hm : f ∈ fs) (hf : f.fits = true)
    (h : keepsBut fs s t) : keepsBut fs s (t.foff f) := keepsBut_fset f 0 hm hf h

theorem keepsBut_fput {fs : List Fld} {s t : State} (f : Fld) (b : Bool) (hm : f ∈ fs) (hf : f.fits = true)
    (h : keepsBut fs s t) : keepsBut fs s (t.fput f b) := keepsBut_fset f b.toNat hm hf h

theorem keepsBut_fcount {fs : List Fld} {s t : State} (f : Fld) (n : Nat) (hm : f ∈ fs) (hf : f.fits = true)
    (h : keepsBut fs s t) : keepsBut fs s (t.fcount f n) := keepsBut_fset f _ hm hf h

theorem keepsBut_fwrap {fs : List Fld} {s t : State} (f : Fld) (hm : f ∈ fs) (hf : f.fits = true)
    (h : keepsBut fs s t) : keepsBut fs s (t.fwrap f) := keepsBut_fset f _ hm hf h

theorem keepsBut_raise {fs : List Fld} {s t : State} (a : Alarm) (h : keepsBut fs s t) : keepsBut fs s (t.raise a) :=
  keepsBut_of_regs rfl rfl h

theorem keepsBut_seen {fs : List Fld} {s t : State} (f : Fld) (a : Alarm) (hm : f ∈ fs) (hf : f.fits = true)
    (h : keepsBut fs s t) : keepsBut fs s (t.seen f a) := keepsBut_raise a (keepsBut_fon f hm hf h)

theorem keepsBut_emit {fs : List Fld} {s t : State} (o : Output) (h : keepsBut fs s t) : keepsBut fs s (t.emit o) :=
  keepsBut_of_regs rfl rfl h

theorem keepsBut_settle {fs : List Fld} {s t u : State} (h : keepsBut fs s t) : keepsBut fs s (settle u t) :=
  keepsBut_of_regs (settle_part u t) (settle_regs u t) h

/-! ## Alarms -/

/-- Bit n after bit m of a word is set. -/
theorem bitOf_withBit_same (w n : Nat) (b : Bool) : bitOf (withBit w n b) n = b := by
  have h := fieldOf_withField_same w n 1 b.toNat
  have h2 : withBit w n b / 2 ^ n % 2 = b.toNat % 2 := by simpa [fieldOf, withBit] using h
  unfold bitOf
  rw [h2]
  cases b <;> rfl

theorem bitOf_withBit_ne (w n m : Nat) (b : Bool) (h : m ≠ n) : bitOf (withBit w n b) m = bitOf w m := by
  have h2 : fieldOf (withBit w n b) m 1 = fieldOf w m 1 := by
    rcases Nat.lt_or_ge m n with hl | hl
    · exact fieldOf_withField_below w n 1 _ m 1 (by omega)
    · exact fieldOf_withField_above w n 1 _ m 1 (by omega)
  have h3 : withBit w n b / 2 ^ m % 2 = w / 2 ^ m % 2 := by simpa [fieldOf] using h2
  unfold bitOf
  rw [h3]

/-- An event raising latches its bit. -/
theorem raise_latched (s : State) (a : Alarm) : (s.raise a).mgt.latched = withBit s.mgt.latched (alarmBit a) true := rfl

@[simp] theorem raise_bit (s : State) (a : Alarm) : bitOf (s.raise a).mgt.latched (alarmBit a) = true :=
  bitOf_withBit_same _ _ _

theorem settle_mgt_frame {β : Type} (p : MgtState → β)
    (hp : ∀ m c n, p { m with counts := c, notify := n } = p m) (s t : State) : p (settle s t).mgt = p t.mgt :=
  settle_frame (fun u => p u.mgt) (fun u _ => hp u.mgt _ _) s t

@[simp] theorem settle_latched (s t : State) : (settle s t).mgt.latched = t.mgt.latched :=
  settle_mgt_frame MgtState.latched (fun _ _ _ => rfl) s t

/-- Every field of the management state but the counts and the notification is kept. -/
theorem settle_mgt (s t : State) :
    (settle s t).mgt = { t.mgt with counts := (settle s t).mgt.counts, notify := (settle s t).mgt.notify } := by
  have h1 := settle_mgt_frame MgtState.slots (fun _ _ _ => rfl) s t
  have h2 := settle_mgt_frame MgtState.staged (fun _ _ _ => rfl) s t
  have h3 := settle_mgt_frame MgtState.keysApplied (fun _ _ _ => rfl) s t
  have h4 := settle_mgt_frame MgtState.nextSeq (fun _ _ _ => rfl) s t
  have h5 := settle_mgt_frame MgtState.requests (fun _ _ _ => rfl) s t
  have h6 := settle_mgt_frame MgtState.latched (fun _ _ _ => rfl) s t
  have h7 := settle_mgt_frame MgtState.healthDue (fun _ _ _ => rfl) s t
  have h8 := settle_mgt_frame MgtState.trunkDown (fun _ _ _ => rfl) s t
  have h7a := settle_mgt_frame MgtState.notifySent (fun _ _ _ => rfl) s t
  have h7b := settle_mgt_frame MgtState.healthSent (fun _ _ _ => rfl) s t
  have h9 := settle_mgt_frame MgtState.noBank (fun _ _ _ => rfl) s t
  have h10 := settle_mgt_frame MgtState.i2c (fun _ _ _ => rfl) s t
  have h11 := settle_mgt_frame MgtState.ir (fun _ _ _ => rfl) s t
  have h12 := settle_mgt_frame MgtState.boundary (fun _ _ _ => rfl) s t
  generalize (settle s t).mgt = m at *
  cases m
  simp_all

/-- Counting the conditions that began changes the alarm counts and the notification alone. -/
theorem settle_only (s t : State) :
    settle s t = { t with mgt := { t.mgt with
      counts := (settle s t).mgt.counts, notify := (settle s t).mgt.notify } } := by
  rw [← settle_mgt]
  apply State.eq_of_fields <;> simp

/-- A raising of one bit leaves the count of every other. -/
theorem countAlarm_getD_ne (s : State) (b n : Nat) (h : n ≠ b) :
    (s.countAlarm b).mgt.counts.getD n 0 = s.mgt.counts.getD n 0 := by
  simp only [State.countAlarm, List.getD_eq_getElem?_getD, List.getElem?_mapIdx, h, if_false]
  cases s.mgt.counts[n]? <;> rfl

/-- A raising advances the count of its bit. -/
theorem countAlarm_getD_same (s : State) (b : Nat) (h : b < s.mgt.counts.length) :
    (s.countAlarm b).mgt.counts.getD b 0 = min 255 (s.mgt.counts.getD b 0 + 1) := by
  simp [State.countAlarm, List.getD_eq_getElem?_getD, h]

/-- The bits that conditions hold. -/
def condBitNos : List Nat := [0, 3, 4, 7, 8, 9, 11]

/-- Conditions that begin leave the counts of the event bits. -/
theorem settle_getD (s t : State) (n : Nat) (h : n ∉ condBitNos) :
    (settle s t).mgt.counts.getD n 0 = t.mgt.counts.getD n 0 := by
  have key : ∀ (l : List (Nat × Bool)) (u : State), (∀ c ∈ l, n ≠ c.1) →
      (l.foldl (fun u c => if c.2 && !(bitOf s.condBits c.1) then u.countAlarm c.1 else u) u).mgt.counts.getD n 0
        = u.mgt.counts.getD n 0 := by
    intro l
    induction l with
    | nil => intros; rfl
    | cons c r ih =>
      intro u hl
      rw [List.foldl_cons, ih _ (fun c hc => hl c (List.mem_cons_of_mem _ hc))]
      split
      · exact countAlarm_getD_ne _ _ _ (hl c List.mem_cons_self)
      · rfl
  refine key t.alarmConds t ?_
  intro c hc hn
  apply h
  simp only [State.alarmConds, List.mem_cons, List.not_mem_nil, or_false] at hc
  rcases hc with rfl | rfl | rfl | rfl | rfl | rfl | rfl <;> simp_all [condBitNos]

/-- The bits that hold are those of the conditions. -/
theorem condBits_bit (s : State) (c : Nat × Bool) (hc : c ∈ s.alarmConds) : bitOf s.condBits c.1 = c.2 := by
  simp only [State.condBits, State.alarmConds, List.foldl] at *
  generalize (s.fbit GLB_PWR_STATUS_TEMP_ALARM || s.fbit GLB_PWR_STATUS_SENSOR_FAULT) = b0 at *
  generalize s.fbit HRT_STATUS_NO_HOLDER = b3 at *
  generalize (!s.mgt.trunkDown.isEmpty) = b4 at *
  generalize (s.fbit CAL_STATUS_FACTORY_LOST || s.fbit CAL_STATUS_GROUP_FAIL) = b7 at *
  generalize (!s.mgt.noBank.isEmpty) = b8 at *
  generalize s.fbit GLB_STATUS_CFG_DEFAULTED = b9 at *
  generalize s.openAccess = b11 at *
  simp only [List.mem_cons, List.not_mem_nil, or_false] at hc
  clear s
  rcases hc with rfl | rfl | rfl | rfl | rfl | rfl | rfl <;>
    revert b0 b3 b4 b7 b8 b9 b11 <;> decide

/-- Where the conditions are those of before, nothing is counted. -/
theorem settle_of_same (s t : State) (h : t.alarmConds = s.alarmConds) : settle s t = t := by
  unfold settle
  rw [h]
  have key : ∀ (l : List (Nat × Bool)) (u : State), (∀ c ∈ l, bitOf s.condBits c.1 = c.2) →
      l.foldl (fun u c => if c.2 && !(bitOf s.condBits c.1) then u.countAlarm c.1 else u) u = u := by
    intro l
    induction l with
    | nil => intros; rfl
    | cons c r ih =>
      intro u hl
      rw [List.foldl_cons, hl c List.mem_cons_self]
      have : (c.2 && !c.2) = false := by cases c.2 <;> rfl
      rw [this, if_neg (by simp)]
      exact ih u (fun c hc => hl c (List.mem_cons_of_mem _ hc))
  exact key _ t (condBits_bit s)

@[simp] theorem settle_self (s : State) : settle s s = s := settle_of_same s s rfl

/-- An update that touches no register and no management state begins no condition. -/
theorem alarmConds_congr {s t : State} (hp : t.part = s.part) (hr : t.regs = s.regs) (hm : t.mgt = s.mgt) :
    t.alarmConds = s.alarmConds := by
  simp only [State.alarmConds, State.openAccess, fbit_congr hp hr, hm]

/-- The outcome of a command that writes no register and no management state. -/
theorem done_plain (s t : State) (hp : t.part = s.part) (hr : t.regs = s.regs) (hm : t.mgt = s.mgt) :
    done s t = .next { t with pending := s.pending } := by
  unfold done
  rw [settle_of_same s t (alarmConds_congr hp hr hm)]

@[simp] theorem done_self (s : State) : done s s = .next s := done_plain s s rfl rfl rfl

end Sys2Proof.Machine
end

