-- ==== Sys2Proof/Laws/Outcomes.lean ====
section
/-! SUPPORT. The endings that meanings share: they always answer a next state, with the queue as it was, and what decides
whether the effect takes place. -/

namespace Sys2Proof.Machine

/-- A meaning that ends so answers a next state and leaves the queue. -/
theorem done_next (s t : State) : ∃ u, done s t = .next u ∧ u.pending = s.pending := ⟨_, rfl, rfl⟩

theorem whenUp_next (s t : State) : ∃ u, whenUp s t = .next u ∧ u.pending = s.pending := done_next s _

theorem whenTaken_next (s : State) (q : Requester) (t : State) :
    ∃ u, whenTaken s q t = .next u ∧ u.pending = s.pending := whenUp_next s _

theorem whenGated_next (s : State) (q : Requester) (t : State) :
    ∃ u, whenGated s q t = .next u ∧ u.pending = s.pending := whenUp_next s _

/-- While the blocks run the effect takes place. -/
theorem whenUp_of_up {s : State} (h : s.up = true) (t : State) : whenUp s t = done s t := by simp [whenUp, h]

/-- While the blocks do not run nothing happens. -/
theorem whenUp_of_not_up {s : State} (h : s.up = false) (t : State) : whenUp s t = .next s := by simp [whenUp, h]

/-- A write of a requester that acts takes effect (13 R360). -/
theorem whenTaken_of_takes {s : State} {q : Requester} (h : s.takes q = true) (t : State) :
    whenTaken s q t = whenUp s t := by simp [whenTaken, h]

/-- A write of a hearth that is not active is discarded (13 R360). -/
theorem whenTaken_of_not_takes {s : State} {q : Requester} (h : s.takes q = false) (t : State) :
    whenTaken s q t = .next s := by simp [whenTaken, whenUp, h]

theorem whenGated_of_takes {s : State} {q : Requester} (h : s.takes q = true) (t : State) :
    whenGated s q t = whenUp s t := by simp [whenGated, h]

/-- A write to a function of the holder by another hearth is refused (13 R354). -/
theorem whenGated_of_not_takes {s : State} {q : Requester} (h : s.takes q = false) (t : State) :
    whenGated s q t = whenUp s (s.gateRefused q) := by simp [whenGated, h]

@[simp] theorem takes_agent (s : State) : s.takes .agent = true := rfl

@[simp] theorem takes_uart (s : State) : s.takes .uart = true := rfl

/-- A refused write of a hearth shows in GATE_VIOL_SEEN alone. -/
theorem gateRefused_keeps (s : State) (q : Requester) (hf : HRT_EVENTS_GATE_VIOL_SEEN.fits = true) :
    keepsBut [HRT_EVENTS_GATE_VIOL_SEEN] s (s.gateRefused q) := by
  unfold State.gateRefused
  split
  · exact keepsBut_fon _ (by simp) hf (keepsBut_refl _ _)
  · exact keepsBut_refl _ _

end Sys2Proof.Machine
end

