-- ==== Sys2Proof/Tests/Slice0.lean ====
section
/-! SUPPORT. The model's own tests: ill-formed commands that WellFormed refuses, effects taken from the worked examples and
tables of the spec, and, for every statement with hypotheses, states and operands that meet them. -/

namespace Sys2Proof.Tests

open Sys2Proof.Machine

set_option Elab.async false

/-! ## Small states -/

def run : State := { State.reset with life := .running, phase := 0 }

def kindling (n : Nat) : State := { State.reset with life := .kindling, phase := n }

def dormant : State := { State.reset with life := .dormant, phase := 0 }

def session (x : SessState) : State := { run with cfg := { run.cfg with sess := x, owner := some .uart } }

def laneUp : State := (run.fset (LANE_CTRL_ENABLE 63) 1).lset (LANE_STATUS_SIGNAL 63) 1

def laneClocked : State := laneUp.lset (LANE_STATUS_CDR_LOCK 63) 1

def clkUp : State := run.fset (CLKL_CTRL_ENABLE 15) 1

def held : State := { run with hrt := { run.hrt with holder := some .b, b := ⟨.active, true, false, false, false, false, 0, false, none⟩ } }

def paired : State := { held with hrt := { held.hrt with a := ⟨.standby, true, true, false, false, false, 0, false, none⟩ } }

def standbyB : State := { held with hrt := { held.hrt with holder := some .a, a := ⟨.active, true, false, false, false, false, 0, false, none⟩, b := ⟨.standby, true, true, false, false, false, 0, false, none⟩ } }

def takes (g : TakeoverStage) : State := { held.fon HRT_STATUS_TAKEOVER with hrt := { held.hrt with takeover := some ⟨1, .a, 0, 0, g⟩ } }

def info (src : Nat) : FrameInfo := ⟨src, 0, false, 0, 0, 1, 0, false, false, 0, true, .keep, 0, none, [], none, none, true, false, .none⟩

def rx (src v : Nat) (w : List Byte) : RxFrame := ⟨info src, w, v, none, [], [], false, false, false, w.length⟩

def receiving (f : RxFrame) : State := { run with fwd := { run.fwd with rx := [f] } }

def wholeFrame : List Byte := withFcs (List.replicate 60 0)

def copyOf (h : Held) : Copy := ⟨h, 0, info 3, false⟩

def queued (q : Nat) (cs : List Copy) : State :=
  { run with buf := { run.buf with queues := [(queueKey 63 q, cs)], pools := List.replicate 4 ⟨16, 5, [3]⟩, bufs := [(0, ⟨1, wholeFrame, false, false, true, false⟩)] } }

def opened (w : OpenWin) : State := { run with qw := { run.qw with opens := [(63, some w)] } }

def qf : QFrame := ⟨[1, 2, 3, 4, 5, 6], 7, false, 0, 0, 0, 0⟩

def qfWhole : QFrame := ⟨wholeFrame.take 20, 7, false, 0, 0, 0, 0⟩

def window : State := { run.fset (QW_PORT_CFG_ENABLE 63) 1 with qw := { run.qw with entries := [(winKey 0 63 0, [0x80000000, 0, 0, 0, 0, 0, 0, 0])] } }

def nibs (v : NibInput) : State := { run with nib := { run.nib with ins := [(15, v)] } }

def gateNew : NibGate := ⟨0, 0, 0, [], false, false, false, false⟩

def entry : NibEntry := ⟨1, true, false, true, false, false, false, false, false, false, false, 0xFFFFF⟩

def nibRun : State := (run.fset (NIB_CFG_ENABLE 15) 1)

def fwOf2 (p : FwPart) : State := { run with upd := { run.upd with parts := List.replicate 4 p, fuse := some 0 } }

def part0 : FwPart := ⟨⟨3, .factory⟩, ⟨0, .erased⟩, 0, 0, 0, false, none, none, 0⟩

def header (kind : Byte) : List Byte :=
  ([0x55, 0x4C, 0x46, 0x57, 1, 0, kind, 0] ++ leBytes 4 0 ++ leBytes 4 0 ++ leBytes 4 176 ++ List.replicate 156 0)

def down (st : DownState) : State := { run with upd := { run.upd with down := st, owner := some .uart, targets := 15, length := 176, fuse := some 0 } }

def agent (msg : List Byte) : State :=
  { run with mgt := { run.mgt with keysApplied := true, requests := [⟨63, List.replicate 12 0 ++ [0x88, 0xB5] ++ msg⟩] } }

def msg (type auth : Byte) (body : List Byte) : List Byte :=
  [1, type, auth, 0] ++ [0, 0, 0, 0] ++ List.replicate 8 0 ++ [0, 0, 0, 0] ++ beBytes 2 body.length ++ [0, 0] ++ body ++ List.replicate 16 0

def rq (type auth : Byte) (body : List Byte) : AgentReq := ⟨63, List.replicate 12 0 ++ [0x88, 0xB5] ++ msg type auth body⟩

def console : State := run.fset MGT_UART_CFG_EN 1

def ref (st : Nat) : State := ((run.fset (SYN_PRIO_VALID 31) 1).fset (SYN_REF_STATUS_STATE 31) st)

def noClear : State := { run with fwd := { run.fwd with tables := [] } }


def winOpens : State := (((window.fset (PORT_STATUS_LINK 63) 1).fset (PORT_STATUS_LINK 0) 1).fset (PORT_TRUNK_IS_TRUNK 0) 1).fset (PORT_TRUNK_IS_TRUNK 15) 1


def refOf (st : RefState) (left : Nat) : State := ((run.fset (SYN_PRIO_VALID 31) 1).fset (SYN_PRIO_SOURCE 31) 3).setMon 3 ⟨st, left, 0, 0, [], [], 0⟩


def late (s : State) : State := { s with now := 10000000000000, time := { s.time with clock := 4000000000 * 2 ^ 48, sliceCopy := 4000000000 * 2 ^ 48, laneCopy := 4000000000 * 2 ^ 48 } }


def goodPartner : Partner := ⟨1, 0, 2, 77, 3, 9, 1, 1, 1, 1, 1, 1, 1, 1⟩

def candLink (k : Nat) : State := ((run.fset (LYD_LINK_CFG_TIME_EN k) 1).fset (LYD_LINK_STATUS_RUNNING k) 1).setLydLink k { linkIdle with partner := some goodPartner, missing := 0 }

def candUp (k : Nat) : State := let s := (((candLink k).fset LYD_STATUS_UP_VALID 1).fset LYD_STATUS_UPSTREAM_PG k); { s with trunk := { s.trunk with gm := some 9 } }

def cfgImg : List Byte := (header 4)

def downCfg : State := { down .receiving with upd := { (down .receiving).upd with targets := 16, data := header 4 } }

/-! ## Every statement with hypotheses has states and operands that meet them -/

theorem witness_PowerDownsRun :
    (∃ (s : State) (early : Bool) (i : Instr) (bit : Nat), (i, bit) ∈ [(Instr.vinBelowWarning early, 0), (.reverseCurrentTrip early, 1), (.overvoltageTimeout early, 2), (.currentLimitTimeout early, 3), (.thermalShutdown early, 4), (.enableLow early, 5)] ∧ s.life ≠ .dormant ∧ s.power.softStart = false) := by
  refine ⟨run, false, (.enableLow false), 5, ?_, ?_, ?_⟩ <;> decide +kernel

theorem witness_DormancyEntered :
    (∃ (s : State), s.power.down = true ∧ s.power.stored = false ∧ s.vbatInvalid = false) ∧
    (∃ (s : State), s.power.down = true ∧ s.power.stored = true) ∧
    (∃ (s : State), s.life = .dormant ∧ s.fbit GLB_VBAT_CTRL_DORMANT_OSC = true) := by
  refine ⟨⟨({ run with power := { run.power with down := true, mask := 33 } }), ?_, ?_, ?_⟩,
      ⟨({ run with power := { run.power with down := true, stored := true } }), ?_, ?_⟩,
      ⟨(dormant.fset GLB_VBAT_CTRL_DORMANT_OSC 1), ?_, ?_⟩⟩ <;> decide +kernel

theorem witness_SoftStartRuns :
    (∃ (s : State) (returned : Bool) (temp8 : BitVec 16), s.life = .dormant ∧
      (s.power.thermalLatch = false ∨ ((s.power.enableCycled = true ∨ returned = true) ∧ temp8.toInt < 140 * 16))) ∧
    (∃ (s : State), s.power.softStart = true) := by
  refine ⟨⟨({ dormant with power := { dormant.power with thermalLatch := true, enableCycled := true } }), false, 2239, ?_, ?_⟩,
      ⟨({ dormant with power := { dormant.power with softStart := true } }), ?_⟩⟩ <;> decide +kernel

theorem witness_SupplyWarnings :
    (∃ (s : State), s.up = true ∧ s.fbit GLB_PWR_STATUS_OV_WARN = false) ∧
    (∃ (s : State), s.up = true) ∧
    (∃ (s : State), s.up = true) ∧
    (∃ (s : State), s.up = true ∧ s.vbatInvalid = false ∧ s.fbit GLB_VBAT_STATUS_LOW = false) ∧
    (∃ (s : State), s.up = true ∧ s.vbatInvalid = false ∧ s.fbit GLB_VBAT_STATUS_LOW = true) ∧
    (∃ (s : State), s.up = true) := by
  refine ⟨⟨run, ?_, ?_⟩,
      ⟨run, ?_⟩,
      ⟨run, ?_⟩,
      ⟨run, ?_, ?_, ?_⟩,
      ⟨(run.fset GLB_VBAT_STATUS_LOW 1), ?_, ?_, ?_⟩,
      ⟨run, ?_⟩⟩ <;> decide +kernel

theorem witness_DeviceResets :
    (∃ (s : State) (q : Requester) (value : Word) (i : Instr) (cause : Nat), (s.up = true ∧ s.life = .kindling ∧
      (i, cause) = (.kindlingWatchdog, 6) ∨ s.up = true ∧ s.takes q = true ∧ value.toNat / 2 ^ 16 = 0xC3A5 ∧
      value.toNat % 2 = 1 ∧ (i, cause) = (.resetCtrlWrite q value, match q with | .hearthA => 3 | .hearthB => 3 | .agent => 4 | .uart => 5) ∨ s.power.rstLow = true ∧ s.life ≠ .dormant ∧ s.power.down = false ∧ (i, cause) = (.rstNRelease, 2))) := by
  refine ⟨run, .uart, 0xC3A50001, (.resetCtrlWrite .uart 0xC3A50001), 5, ?_⟩ <;> decide +kernel

theorem witness_RstNHolds :
    (∃ (s : State), s.life ≠ .dormant ∧ s.power.down = false) ∧
    (∃ (s : State), (s.life = .dormant ∨ s.power.down = true)) := by
  refine ⟨⟨run, ?_, ?_⟩,
      ⟨dormant, ?_⟩⟩ <;> decide +kernel

theorem witness_KindlingBegins :
    (∃ (s : State), s.up = true ∧ s.life = .reset ∧ s.fromDormant = false ∧ lowest s.causes < 256) ∧
    (∃ (s : State) (mv : BitVec 12), s.up = true ∧ s.life = .reset ∧ s.fromDormant = true ∧ lowest s.causes < 256 ∧
      1900 ≤ mv.toNat) ∧
    (∃ (s : State) (mv : BitVec 12) (checkOk : Bool), s.up = true ∧ s.life = .reset ∧ s.fromDormant = true ∧
      lowest s.causes < 256 ∧ (checkOk = false ∨ mv.toNat < 1900)) := by
  refine ⟨⟨({ State.reset with causes := [2], fromDormant := false }), ?_, ?_, ?_, ?_⟩,
      ⟨({ State.reset with causes := [1], fromDormant := true }), 1900, ?_, ?_, ?_, ?_, ?_⟩,
      ⟨({ State.reset with causes := [1], fromDormant := true }), 1899, true, ?_, ?_, ?_, ?_, ?_⟩⟩ <;> decide +kernel

theorem witness_KindlingSteps :
    (∃ (s : State), s.up = true ∧ s.life = .kindling ∧ s.phase < 4 ∧ (s.fw 0).starting = none ∧
      (s.fw 1).starting = none ∧ s.hrt.a.verified = true) ∧
    (∃ (s : State), s.up = true ∧ s.life = .kindling ∧ s.phase = 4 ∧ s.cfg.bank0 = .erased ∧
      s.cfg.bank1 = .erased ∧ s.cfg.updateBank = none) ∧
    (∃ (s : State) (h : Hearth), s.up = true ∧ s.life = .kindling ∧ s.phase = 6 ∧ s.hrt.holder = some h) ∧
    (∃ (s : State), s.up = true ∧ s.life = .kindling ∧ s.phase = 7 ∧ s.fbit CAL_STATUS_RUNNING = false) ∧
    (∃ (s : State), s.up = true ∧ s.life = .kindling ∧ s.phase < 4 ∧ (s.fw 0).starting = none ∧
      (s.fw 1).starting = none ∧ s.hrt.a.verified = false ∧ s.hrt.b.verified = true) ∧
    (∃ (s : State), s.up = true ∧ s.life = .kindling ∧ s.phase < 4 ∧ (s.fw 0).starting = none ∧
      (s.fw 1).starting = none ∧ s.hrt.a.verified = false ∧ s.hrt.b.verified = false) ∧
    (∃ (s : State) (u : State) (heads : Bool × Bool) (ecc0 : Bool) (ecc1 : Bool) (h0 : Nat × Nat) (h1 : Nat × Nat) (b : Nat) (r : List Nat), s.up = true ∧ s.life = .kindling ∧ s.phase = 4 ∧ h0 = s.readHead 0 heads.1 ∧ h1 = s.readHead 1 heads.2 ∧ s.candidates (decide (h0.1 = 0)) (decide (h1.1 = 0)) = b :: r ∧ u = (s.showBank 0 h0.1 h0.2).showBank 1 h1.1 h1.2 ∧ (u.judgeBank b (if b = 0 then ecc0 else ecc1)).1 = 0) := by
  refine ⟨⟨({ kindling 3 with hrt := { State.reset.hrt with a := { State.reset.hrt.a with verified := true } }, upd := { State.reset.upd with parts := List.replicate 4 part0 } }), ?_, ?_, ?_, ?_, ?_, ?_⟩,
      ⟨(kindling 4), ?_, ?_, ?_, ?_, ?_, ?_⟩,
      ⟨({ kindling 6 with hrt := held.hrt }), .b, ?_, ?_, ?_, ?_⟩,
      ⟨({ kindling 7 with hrt := held.hrt }), ?_, ?_, ?_, ?_⟩,
      ⟨({ kindling 3 with hrt := { State.reset.hrt with b := { State.reset.hrt.b with verified := true } }, upd := { State.reset.upd with parts := List.replicate 4 part0 } }), ?_, ?_, ?_, ?_, ?_, ?_, ?_⟩,
      ⟨({ kindling 2 with upd := { State.reset.upd with parts := List.replicate 4 part0 } }), ?_, ?_, ?_, ?_, ?_, ?_, ?_⟩,
      ⟨({ kindling 4 with cfg := { (kindling 4).cfg with bank1 := .snapshot 7 [] } }), ((({ kindling 4 with cfg := { (kindling 4).cfg with bank1 := .snapshot 7 [] } }).showBank 0 1 0xFFFFFFFF).showBank 1 0 7), ((false, false)), false, false, ((1, 0xFFFFFFFF)), ((0, 7)), 1, ([]), ?_, ?_, ?_, ?_, ?_, ?_, rfl, ?_⟩⟩ <;> decide +kernel

theorem witness_FirmwareStarts :
    (∃ (s : State) (p : Fin 4) (b : Nat), s.up = true ∧ s.upd.parts.length = 4 ∧ (s.fw p).starting = some b ∧
      ((s.fw p).bank b).status = 3) ∧
    (∃ (s : State) (p : Fin 4) (b : Nat) (r : Nat) (g : Nat) (err0 : Bool) (err1 : Bool), s.up = true ∧
      s.upd.parts.length = 4 ∧ (s.fw p).starting = some b ∧ (s.fw p).trial = some b ∧ (s.fw p).active = 1 - b ∧
      ((s.fw p).bank (1 - b)).status = 3 ∧ r = s.verifyBank p b (if b = 0 then err0 else err1) ∧
      g = s.verifyBank p (1 - b) (if b = 0 then err1 else err0)) := by
  refine ⟨⟨(fwOf2 { part0 with starting := some 0 }), 3, 0, ?_, ?_, ?_, ?_⟩,
      ⟨(fwOf2 { part0 with starting := some 1, bank1 := ⟨4, .written (header 1)⟩ }), 3, 1, ((fwOf2 { part0 with starting := some 1, bank1 := ⟨4, .written (header 1)⟩ }).verifyBank 3 1 false), ((fwOf2 { part0 with starting := some 1, bank1 := ⟨4, .written (header 1)⟩ }).verifyBank 3 0 false), false, false, ?_, ?_, ?_, ?_, ?_, ?_, rfl, rfl⟩⟩ <;> decide +kernel

theorem witness_SessionAdvances :
    (∃ (s : State) (q : Requester), s.takes q = true ∧ s.inService = true ∧ s.cfg.sess = .idle) ∧
    (∃ (s : State) (q : Requester), s.takes q = true ∧ s.inService = true ∧ s.cfg.owner = some q ∧
      s.cfg.sess ∈ [SessState.opened, .checked, .failed]) ∧
    (∃ (s : State), s.up = true ∧ s.cfg.sess = .checking ∧ s.cfg.overflow = false) ∧
    (∃ (s : State) (q : Requester) (flags : Word), s.takes q = true ∧ s.inService = true ∧ s.cfg.owner = some q ∧
      s.cfg.sess = .checked ∧ flags.toNat / 2 ^ 5 % 2 = 0 ∧ s.hrt.holder ≠ none) ∧
    (∃ (s : State), s.up = true ∧ s.cfg.sess = .arming) ∧
    (∃ (s : State) (q : Requester) (flags : Word), s.takes q = true ∧ s.inService = true ∧ s.cfg.owner = some q ∧
      s.cfg.sess = .checked ∧ flags.toNat / 2 ^ 5 % 2 = 1 ∧ s.hrt.holder ≠ none ∧
      s.fget CFG_COMMIT_TIME_NS_NS < 1000000000 ∧ s.time.clock + s.commitLead * 2 ^ 48 ≤ s.commitTimeNs * 2 ^ 48 ∧
      s.commitTimeNs * 2 ^ 48 ≤ s.time.clock + 3600 * 1000000000 * 2 ^ 48 ∧
      (s.timeMode = .locked ∨ s.timeMode = .holdover)) ∧
    (∃ (s : State), s.up = true ∧ s.cfg.sess = .checking ∧ s.cfg.overflow = true) := by
  refine ⟨⟨run, .uart, ?_, ?_, ?_⟩,
      ⟨(session .failed), .uart, ?_, ?_, ?_, ?_⟩,
      ⟨(session .checking), ?_, ?_, ?_⟩,
      ⟨({ session .checked with hrt := held.hrt }), .uart, 0, ?_, ?_, ?_, ?_, ?_, ?_⟩,
      ⟨(session .arming), ?_, ?_⟩,
      ⟨(let x := ({ held with cfg := (session .checked).cfg } : State); ((x.fset CFG_COMMIT_TIME_NS_NS 999999999).fset TIME_STATE_STATE 2).setReg CFG_COMMIT_TIME_SEC_LO 5), .uart, 0x2A, ?_, ?_, ?_, ?_, ?_, ?_, ?_, ?_, ?_, ?_⟩,
      ⟨({ session .checking with cfg := { (session .checking).cfg with overflow := true } }), ?_, ?_, ?_⟩⟩ <;> decide +kernel

theorem witness_StagedWriteKept :
    (∃ (s : State) (q : Requester) (addr : Word) (d : RegDef) (ix : List Nat), s.takes q = true ∧ s.up = true ∧
      findReg addr.toNat = some (d, ix) ∧ absentAt s.part d ix = false ∧ stagedMask d ≠ 0 ∧ s.cfg.owner = some q ∧
      s.cfg.sess ∈ [SessState.opened, .checked, .failed] ∧ recsCharge s.cfg.records + 8 ≤ 4 * 2 ^ 20) ∧
    (∃ (s : State) (q : Requester) (addr : Word) (d : RegDef) (ix : List Nat), s.takes q = true ∧ s.up = true ∧
      findReg addr.toNat = some (d, ix) ∧ absentAt s.part d ix = false ∧ stagedMask d ≠ 0 ∧ s.cfg.owner = some q ∧
      s.cfg.sess ∈ [SessState.opened, .checked, .failed] ∧ 4 * 2 ^ 20 < recsCharge s.cfg.records + 8) ∧
    (∃ (s : State) (q : Requester), (s.cfg.owner ≠ some q ∨ s.cfg.sess ∈ [SessState.idle, .checking, .arming, .armed])) := by
  refine ⟨⟨(session .failed), .uart, 304, (((findReg 304).get (by decide)).1), ([]), ?_, ?_, ?_, ?_, ?_, ?_, ?_, ?_⟩,
      ⟨({ session .failed with cfg := { (session .failed).cfg with records := List.replicate 100000 (.table 1 0 []) ++ List.replicate 5000 (.table 1 0 []) } }), .uart, 304, (((findReg 304).get (by decide)).1), ([]), ?_, ?_, ?_, ?_, ?_, ?_, ?_, ?_⟩,
      ⟨(session .armed), .uart, ?_⟩⟩ <;> decide +kernel

theorem witness_SessionEnds :
    (∃ (s : State) (q : Requester), s.takes q = true ∧ s.inService = true ∧
      (s.cfg.owner = some q ∨ s.isHolder q = true) ∧
      (s.cfg.sess ∈ [SessState.opened, .checked, .failed] ∨ (s.cfg.sess ∈ [SessState.arming, .armed] ∧
      s.time.clock + 10000 * 2 ^ 48 ≤ s.cfg.instant * 2 ^ 48))) ∧
    (∃ (s : State), s.up = true ∧ s.cfg.sess ∈ [SessState.opened, .checked, .failed]) ∧
    (∃ (s : State), s.cfg.sess = .armed ∧ s.time.clock < s.cfg.instant * 2 ^ 48) ∧
    (∃ (s : State), s.up = true ∧ s.cfg.sess = .armed ∧ s.cfg.instant * 2 ^ 48 ≤ s.time.clock) ∧
    (∃ (s : State) (q : Requester), s.takes q = true ∧ s.inService = true ∧ s.cfg.sess ≠ .idle) ∧
    (∃ (s : State) (q : Requester), s.takes q = true ∧ s.inService = true ∧ s.cfg.sess ≠ .idle ∧
      s.cfg.owner ≠ some q) ∧
    (∃ (s : State) (q : Requester), s.takes q = true ∧ s.inService = true ∧ s.cfg.owner = some q ∧
      s.cfg.sess ∈ [SessState.opened, .checking, .failed]) := by
  refine ⟨⟨(session .failed), .uart, ?_, ?_, ?_, ?_⟩,
      ⟨(session .failed), ?_, ?_⟩,
      ⟨({ session .armed with cfg := { (session .armed).cfg with instant := 5 } }), ?_, ?_⟩,
      ⟨({ session .armed with cfg := { (session .armed).cfg with owner := none } }), ?_, ?_, ?_⟩,
      ⟨(session .opened), .uart, ?_, ?_, ?_⟩,
      ⟨(session .opened), .agent, ?_, ?_, ?_, ?_⟩,
      ⟨(session .failed), .uart, ?_, ?_, ?_, ?_⟩⟩ <;> decide +kernel

theorem witness_PersistRuns :
    (∃ (s : State) (q : Requester), s.takes q = true ∧ s.up = true ∧ s.life ≠ .reset ∧ s.cfg.persist = none ∧
      s.persistReason (s.snapshotSize s.snapshotRecs) (s.goodBlocks s.cfgTarget) = 0) ∧
    (∃ (s : State) (q : Requester), s.takes q = true ∧ s.up = true ∧ s.life ≠ .reset ∧ s.cfg.persist = none ∧
      s.persistReason (s.snapshotSize s.snapshotRecs) (s.goodBlocks s.cfgTarget) ≠ 0) ∧
    (∃ (s : State) (p : Persist), s.up = true ∧ s.cfg.persist = some p ∧ p.target < 2 ∧ p.seq < 2 ^ 32) ∧
    (∃ (s : State) (p : Persist) (result : Nat), s.up = true ∧ s.cfg.persist = some p ∧ result ∈ [2, 4, 8]) := by
  refine ⟨⟨run, .uart, ?_, ?_, ?_, ?_, ?_⟩,
      ⟨({ run with cfg := { run.cfg with locked := true } }), .uart, ?_, ?_, ?_, ?_, ?_⟩,
      ⟨({ run with cfg := { run.cfg with persist := some ⟨1, 7, [], true⟩ } }), (⟨1, 7, [], true⟩), ?_, ?_, ?_, ?_⟩,
      ⟨({ run with cfg := { run.cfg with persist := some ⟨1, 7, [], true⟩ } }), (⟨1, 7, [], true⟩), 8, ?_, ?_, ?_⟩⟩ <;> decide +kernel

theorem witness_RateSearch :
    (∃ (s : State) (n : Fin 64), s.up = true ∧ s.seeking n = true ∧ s.links.ctlRestart = false) ∧
    (∃ (s : State) (n : Fin 64), s.up = true ∧ s.seeking n = true ∧ s.links.ctlRestart = false ∧
      s.lget (LANE_STATUS_BLOCK_LOCK n) = 1 ∧ s.tried n < 4) ∧
    (∃ (s : State) (n : Fin 64), s.up = true ∧ s.laneOn n = true ∧ s.searches n = true ∧
      s.link (s.portOf n) = false ∧ s.links.ctlRestart = false) := by
  refine ⟨⟨laneUp, 63, ?_, ?_, ?_⟩,
      ⟨(laneUp.lset (LANE_STATUS_BLOCK_LOCK 63) 1), 63, ?_, ?_, ?_, ?_, ?_⟩,
      ⟨laneUp, 63, ?_, ?_, ?_, ?_, ?_⟩⟩ <;> decide +kernel

theorem witness_LanesComeUp :
    (∃ (s : State) (n : Fin 64), s.up = true ∧ s.laneOn n = true) ∧
    (∃ (s : State) (k : Fin 16), s.up = true ∧ s.clklOn k = true) ∧
    (∃ (s : State) (n : Fin 64), s.up = true ∧ s.laneOn n = true ∧ s.lget (LANE_STATUS_SIGNAL n) = 1) ∧
    (∃ (s : State) (k : Fin 16), s.up = true ∧ s.clklOn k = true ∧ s.fget (CLKL_ALIGN_STATUS_SIGNAL k) = 1) ∧
    (∃ (s : State) (n : Fin 64), s.up = true ∧ s.laneOn n = true ∧ s.laneClock n = true ∧ s.seeking n = false ∧
      s.fbit (LANE_PRBS_CTRL_TX_EN n) = false) ∧
    (∃ (s : State) (p : Fin 64), s.up = true ∧ s.portReady p = true) ∧
    (∃ (s : State) (n : Fin 64) (ofs : Int), s.up = true ∧ s.laneOn n = true ∧ s.laneClock n = true ∧
      -32767 ≤ ofs ∧ ofs ≤ 32767) := by
  refine ⟨⟨laneUp, 63, ?_, ?_⟩,
      ⟨clkUp, 15, ?_, ?_⟩,
      ⟨laneUp, 63, ?_, ?_, ?_⟩,
      ⟨(clkUp.fset (CLKL_ALIGN_STATUS_SIGNAL 15) 1), 15, ?_, ?_, ?_⟩,
      ⟨(laneClocked.lset (LANE_STATUS_RATE_FOUND 63) 2), 63, ?_, ?_, ?_, ?_, ?_⟩,
      ⟨((((laneClocked.lset (LANE_STATUS_RATE_FOUND 63) 2).lset (LANE_STATUS_BLOCK_LOCK 63) 1).lset (LANE_STATUS_LSTATE 63) 3).fset (PORT_MODE_ENABLE 63) 1), 63, ?_, ?_⟩,
      ⟨laneClocked, 63, (-32767), ?_, ?_, ?_, ?_, ?_⟩⟩ <;> decide +kernel

theorem witness_LanesAreLost :
    (∃ (s : State) (n : Fin 64), s.up = true ∧ s.lget (LANE_STATUS_SIGNAL n) = 1) ∧
    (∃ (s : State) (n : Fin 64), s.up = true ∧ s.lget (LANE_STATUS_CDR_LOCK n) = 1) ∧
    (∃ (s : State) (n : Fin 64), s.up = true ∧ s.lget (LANE_STATUS_BLOCK_LOCK n) = 1) ∧
    (∃ (s : State) (n : Fin 64), s.up = true ∧ s.laneOn n = true ∧ s.laneClock n = true) ∧
    (∃ (s : State) (p : Fin 64), s.up = true ∧ s.hasPort p = true ∧ s.fbit (PORT_MODE_ENABLE p) = true ∧
      s.lanesOf p ≠ []) := by
  refine ⟨⟨laneUp, 63, ?_, ?_⟩,
      ⟨laneClocked, 63, ?_, ?_⟩,
      ⟨(laneClocked.lset (LANE_STATUS_BLOCK_LOCK 63) 1), 63, ?_, ?_⟩,
      ⟨laneClocked, 63, ?_, ?_, ?_⟩,
      ⟨(run.fset (PORT_MODE_ENABLE 63) 1), 63, ?_, ?_, ?_, ?_⟩⟩ <;> decide +kernel

theorem witness_LaneRestarts :
    (∃ (s : State) (n : Fin 64), s.up = true ∧ s.laneOn n = true ∧ s.laneInvalid n = true ∧
      s.lget (LANE_STATUS_SIGNAL n) = 1 ∧ s.links.ctlRestart = false ∧ n.val ∉ s.links.restarting) ∧
    (∃ (s : State) (q : Requester) (n : Fin 64), s.takes q = true ∧ s.up = true ∧ s.laneOn n = true ∧
      s.fget (LANE_CMD_RESTART n) = 0) ∧
    (∃ (s : State) (n : Fin 64), s.fget (LANE_CMD_RESTART n) = 1) ∧
    (∃ (s : State) (n : Fin 64), s.up = true ∧ n.val ∈ s.links.restarting ∧ s.links.ctlRestart = false) := by
  refine ⟨⟨(laneUp.fset (xingLane 63) 1), 63, ?_, ?_, ?_, ?_, ?_, ?_⟩,
      ⟨laneUp, .uart, 63, ?_, ?_, ?_, ?_⟩,
      ⟨(run.fset (LANE_CMD_RESTART 63) 1), 63, ?_⟩,
      ⟨({ laneUp with links := { run.links with restarting := [63] } }), 63, ?_, ?_, ?_⟩⟩ <;> decide +kernel

theorem witness_ClockLanesAlign :
    (∃ (s : State) (q : Requester) (k : Fin 16), s.takes q = true ∧ s.up = true ∧ s.hasClkl k = true ∧
      s.fget (CLKL_ALIGN_STATUS_ALIGNED k) = 0 ∧ s.fget (CLKL_SLIP_CONFIRM k) = 0) ∧
    (∃ (s : State) (k : Fin 16), (s.fget (CLKL_ALIGN_STATUS_ALIGNED k) = 1 ∨ s.fget (CLKL_SLIP_CONFIRM k) = 1)) ∧
    (∃ (s : State) (q : Requester) (k : Fin 16), s.takes q = true ∧ s.up = true ∧ s.hasClkl k = true ∧
      s.fget (CLKL_SLIP_CONFIRM k) = 0) ∧
    (∃ (s : State) (k : Fin 16), s.up = true ∧ s.maySearch k = true ∧ (∀ x ∈ s.links.searches, x.clkl ≠ k) ∧
      k.val ∉ s.links.retry) ∧
    (∃ (s : State) (k : Fin 16), s.up = true ∧ s.maySearch k = true ∧ k.val ∈ s.links.retry) := by
  refine ⟨⟨run, .uart, 15, ?_, ?_, ?_, ?_, ?_⟩,
      ⟨(run.fset (CLKL_SLIP_CONFIRM 15) 1), 15, ?_⟩,
      ⟨run, .uart, 15, ?_, ?_, ?_, ?_⟩,
      ⟨({ clkUp.fset (CLKL_ALIGN_STATUS_RX_LOCK 15) 1 with hrt := held.hrt }), 15, ?_, ?_, ?_, ?_⟩,
      ⟨({ clkUp.fset (CLKL_ALIGN_STATUS_RX_LOCK 15) 1 with hrt := held.hrt, links := { run.links with retry := [15] } }), 15, ?_, ?_, ?_⟩⟩ <;> decide +kernel

theorem witness_AlignmentJudged :
    (∃ (s : State) (k : Fin 16), s.up = true ∧ s.clklOn k = true ∧ mapGet (fun _ => 0) s.links.confirm k = 0 ∧
      (∀ x ∈ s.links.searches, x.clkl ≠ k) ∧ s.fget (CLKL_PRBS_CTRL_LOCK k) = 0) ∧
    (∃ (s : State) (k : Fin 16), s.up = true ∧ s.fget (CLKL_ALIGN_STATUS_ALIGNED k) = 1 ∧ s.isTrunk k = false) ∧
    (∃ (s : State) (g : Fin 16), s.up = true ∧ s.life = .running ∧ s.fget (PORT_TRUNK_REQUIRED g) = 1 ∧
      s.isTrunk g = false ∧ g.val ∉ s.mgt.trunkDown) ∧
    (∃ (s : State) (k : Fin 16), s.up = true ∧ s.fget (CLKL_ALIGN_STATUS_ALIGNED k) = 1 ∧ s.isTrunk k = true) ∧
    (∃ (s : State) (k : Fin 16) (commas : Fin 1025) (codeErr : Nat), s.up = true ∧ s.clklOn k = true ∧
      mapGet (fun _ => 0) s.links.confirm k = 1 ∧ (∀ x ∈ s.links.searches, x.clkl ≠ k) ∧ s.clklQuiet k = true ∧
      51 ≤ commas.val ∧ codeErr = 0) ∧
    (∃ (s : State) (k : Fin 16), s.up = true ∧ s.clklOn k = true ∧ s.fget (CLKL_PRBS_CTRL_LOCK k) = 1) := by
  refine ⟨⟨clkUp, 15, ?_, ?_, ?_, ?_, ?_⟩,
      ⟨(run.fset (CLKL_ALIGN_STATUS_ALIGNED 15) 1), 15, ?_, ?_, ?_⟩,
      ⟨(run.fset (PORT_TRUNK_REQUIRED 15) 1), 15, ?_, ?_, ?_, ?_, ?_⟩,
      ⟨((run.fset (CLKL_ALIGN_STATUS_ALIGNED 15) 1).fset (PORT_TRUNK_IS_TRUNK 15) 1), 15, ?_, ?_, ?_⟩,
      ⟨({ clkUp with links := { clkUp.links with confirm := [(15, 1)] } }), 15, 51, 0, ?_, ?_, ?_, ?_, ?_, ?_, ?_⟩,
      ⟨(clkUp.fset (CLKL_PRBS_CTRL_LOCK 15) 1), 15, ?_, ?_, ?_⟩⟩ <;> decide +kernel

theorem witness_TestPatterns :
    (∃ (s : State) (n : Fin 64), s.up = true ∧ s.laneOn n = true ∧ s.laneClock n = true ∧
      s.fget (LANE_PRBS_CTRL_RX_EN n) = 1) ∧
    (∃ (s : State) (k : Fin 16), s.up = true ∧ s.clklOn k = true ∧ s.fget (CLKL_ALIGN_STATUS_RX_LOCK k) = 1 ∧
      s.fget (CLKL_PRBS_CTRL_RX_EN k) = 1) ∧
    (∃ (s : State) (n : Fin 64), s.up = true ∧ s.fget (LANE_PRBS_CTRL_LOCK n) = 1) ∧
    (∃ (s : State) (k : Fin 16), s.up = true ∧ s.fget (CLKL_PRBS_CTRL_LOCK k) = 1) ∧
    (∃ (s : State) (q : Requester) (n : Fin 64), s.takes q = true ∧ s.up = true ∧ s.hasLane n = true) ∧
    (∃ (s : State) (q : Requester) (k : Fin 16), s.takes q = true ∧ s.up = true ∧ s.hasClkl k = true) ∧
    (∃ (s : State) (q : Requester) (n : Fin 64), s.takes q = true ∧ s.up = true ∧ s.laneOn n = true) ∧
    (∃ (s : State) (q : Requester) (k : Fin 16), s.takes q = true ∧ s.up = true ∧ s.clklOn k = true) ∧
    (∃ (s : State) (q : Requester) (n : Fin 64), s.takes q = true ∧ s.up = true ∧ s.hasLane n = true) ∧
    (∃ (s : State) (q : Requester) (k : Fin 16), s.takes q = true ∧ s.up = true ∧ s.hasClkl k = true) := by
  refine ⟨⟨(laneClocked.fset (LANE_PRBS_CTRL_RX_EN 63) 1), 63, ?_, ?_, ?_, ?_⟩,
      ⟨((clkUp.fset (CLKL_ALIGN_STATUS_RX_LOCK 15) 1).fset (CLKL_PRBS_CTRL_RX_EN 15) 1), 15, ?_, ?_, ?_, ?_⟩,
      ⟨(run.fset (LANE_PRBS_CTRL_LOCK 63) 1), 63, ?_, ?_⟩,
      ⟨(run.fset (CLKL_PRBS_CTRL_LOCK 15) 1), 15, ?_, ?_⟩,
      ⟨run, .uart, 63, ?_, ?_, ?_⟩,
      ⟨run, .uart, 15, ?_, ?_, ?_⟩,
      ⟨laneUp, .uart, 63, ?_, ?_, ?_⟩,
      ⟨clkUp, .uart, 15, ?_, ?_, ?_⟩,
      ⟨run, .uart, 63, ?_, ?_, ?_⟩,
      ⟨run, .uart, 15, ?_, ?_, ?_⟩⟩ <;> decide +kernel

theorem witness_FramesAreReceived :
    (∃ (s : State) (n : Fin 64) (window : List Byte), s.up = true ∧ s.mayReceive n = true ∧ window ≠ []) ∧
    (∃ (s : State) (h : Hearth) (window : List Byte), s.up = true ∧ s.hrt.holder = some h ∧
      s.mayReceive (if h = .a then 64 else 65) = true ∧ window ≠ []) := by
  refine ⟨⟨(run.fset (PORT_STATUS_LINK 63) 1), 63, (List.replicate 64 1), ?_, ?_, ?_⟩,
      ⟨held, .b, (List.replicate 64 1), ?_, ?_, ?_, ?_⟩⟩ <;> decide +kernel

theorem witness_FramesEnd :
    (∃ (s : State) (n : Fin 64) (f : RxFrame) (rest : List Byte), s.up = true ∧ s.rxOf n = some f ∧
      f.info.src = n ∧ f.window.length + rest.length < 64 ∧ s.fbit CNT_STATUS_FROZEN = false ∧
      s.cntVal n 41 + 1 < 2 ^ 48) ∧
    (∃ (s : State) (n : Fin 64) (f : RxFrame) (rest : List Byte), s.up = true ∧ s.rxOf n = some f ∧
      f.info.src = n ∧ f.info.seq = none ∧ f.verdict = 11 ∧ endJudge (f.window ++ rest) .whole = none) ∧
    (∃ (s : State) (n : Fin 64) (f : RxFrame) (rest : List Byte), s.up = true ∧ s.rxOf n = some f ∧
      f.info.src = n ∧ f.info.queue < 10 ∧ endJudge (f.window ++ rest) .whole = none ∧
      s.fbit CNT_STATUS_FROZEN = false ∧ s.cntVal n (4 * f.info.queue) + 1 < 2 ^ 48 ∧
      s.cntVal n (4 * f.info.queue + 1) + (f.window ++ rest).length < 2 ^ 48) := by
  refine ⟨⟨(receiving (rx 63 11 [1])), 63, (rx 63 11 [1]), ([]), ?_, ?_, ?_, ?_, ?_, ?_⟩,
      ⟨(receiving (rx 63 11 wholeFrame)), 63, (rx 63 11 wholeFrame), ([]), ?_, ?_, ?_, ?_, ?_, ?_⟩,
      ⟨(receiving (rx 63 0 wholeFrame)), 63, (rx 63 0 wholeFrame), ([]), ?_, ?_, ?_, ?_, ?_, ?_, ?_, ?_⟩⟩ <;> decide +kernel

theorem witness_TablesChange :
    (∃ (s : State) (slice : Fin 4) (l : Learn) (n : Nat), s.up = true ∧
      s.fwd.learns.find? (fun l => decide (l.slice = slice.val)) = some l ∧
      findKey s.fwd.tables 1 (macKey l.vid l.mac) = none ∧ freeWay s.fwd.tables 1 (macKey l.vid l.mac) = some n) ∧
    (∃ (s : State) (i : Fin 262144), s.up = true ∧ s.fget FWD_LEARN_CFG_AGE_S ≠ 0 ∧ isDynamic (s.entry 1 i) = true) ∧
    (∃ (s : State) (q : Requester), s.takes q = true ∧ s.up = true ∧ s.hrt.holder ≠ none ∧
      s.fget FWD_LEARN_CMD_FLUSH = 0 ∧ mapWf (fun _ => zeroEntry) s.fwd.tables = true) ∧
    (∃ (s : State), s.up = true) ∧
    (∃ (s : State), s.up = true) ∧
    (∃ (s : State) (i : Fin 16384), s.up = true ∧ entryBit (s.entry 3 i) 3 31 = true ∧
      entryBit (s.entry 3 i) 4 29 = true) ∧
    (∃ (s : State) (slice : Fin 4) (l : Learn) (n : Nat), s.up = true ∧
      s.fwd.learns.find? (fun l => decide (l.slice = slice.val)) = some l ∧
      findKey s.fwd.tables 1 (macKey l.vid l.mac) = some n) := by
  refine ⟨⟨({ run with fwd := { run.fwd with learns := [⟨3, 1, 5, 9⟩] } }), 3, (⟨3, 1, 5, 9⟩), ((freeWay [] 1 (macKey 1 5)).get (by decide +kernel)), ?_, ?_, ?_, ?_⟩,
      ⟨({ run with fwd := { run.fwd with tables := [(tableKey 1 7, [0, 0xC0000000, 0, 0, 0, 0, 0, 0])] } }), 7, ?_, ?_, ?_⟩,
      ⟨held, .uart, ?_, ?_, ?_, ?_, ?_⟩,
      ⟨run, ?_⟩,
      ⟨run, ?_⟩,
      ⟨({ run with fwd := { run.fwd with tables := [(tableKey 3 9, [0, 0, 0, 0x80000000, 0x20000000, 0, 0, 0])] } }), 9, ?_, ?_, ?_⟩,
      ⟨({ run with fwd := { run.fwd with learns := [⟨3, 5, 0x21, 7⟩], tables := [(tableKey 1 ((freeWay [] 1 (macKey 5 0x21)).getD 0), learnedEntry [] 5 0x21 9)] } }), 3, (⟨3, 5, 0x21, 7⟩), ((freeWay [] 1 (macKey 5 0x21)).getD 0), ?_, ?_, ?_⟩⟩ <;> decide +kernel

theorem witness_TableCommands :
    (∃ (s : State) (q : Requester), s.takes q = true ∧ s.up = true ∧ s.readsShadow q = false) ∧
    (∃ (s : State) (q : Requester), s.takes q = true ∧ s.up = true ∧ s.mayStage q = true ∧
      recsCharge s.cfg.records + 40 ≤ 4 * 2 ^ 20) ∧
    (∃ (s : State) (q : Requester) (table : Fin 16), s.takes q = true ∧ s.up = true ∧
      (table.val = 1 ∨ table.val = 3)) ∧
    (∃ (s : State) (q : Requester), s.takes q = true ∧ s.up = true ∧ inTable 5 (s.tblAddr q) = true) ∧
    (∃ (s : State) (q : Requester), s.takes q = true ∧ s.up = true ∧ s.hrt.holder ≠ none ∧
      inTable 5 (s.tblAddr q) = true) ∧
    (∃ (s : State), s.hrt.holder = none) ∧
    (∃ (s : State) (q : Requester), s.takes q = true ∧ s.up = true ∧ inTable 3 (s.tblAddr q) = true) ∧
    (∃ (s : State) (q : Requester), s.takes q = true ∧ s.up = true ∧ s.hrt.holder ≠ none ∧
      inTable 3 (s.tblAddr q) = true) ∧
    (∃ (s : State) (q : Requester) (table : Fin 16), s.takes q = true ∧ s.up = true ∧ table.val ≠ 1 ∧ table.val ≠ 3) ∧
    (∃ (s : State) (q : Requester) (table : Fin 16) (i : Instr), s.takes q = true ∧ s.up = true ∧
      s.hrt.holder ≠ none ∧ (table.val ≠ 3 ∧ table.val ≠ 5 ∨ inTable table (s.tblAddr q) = false) ∧
      i ∈ [Instr.fwdTblReadState q table, .fwdTblClearState q table]) := by
  refine ⟨⟨run, .uart, ?_, ?_, ?_⟩,
      ⟨(session .opened), .uart, ?_, ?_, ?_, ?_⟩,
      ⟨run, .uart, 3, ?_, ?_, ?_⟩,
      ⟨run, .uart, ?_, ?_, ?_⟩,
      ⟨held, .uart, ?_, ?_, ?_, ?_⟩,
      ⟨run, ?_⟩,
      ⟨run, .uart, ?_, ?_, ?_⟩,
      ⟨held, .uart, ?_, ?_, ?_, ?_⟩,
      ⟨run, .uart, 15, ?_, ?_, ?_, ?_⟩,
      ⟨held, .uart, 15, (.fwdTblReadState .uart 15), ?_, ?_, ?_, ?_, ?_⟩⟩ <;> decide +kernel

theorem witness_CopiesLeave :
    (∃ (s : State) (u : State) (p : Fin 64) (q : Nat), s.up = true ∧ s.inService = true ∧ s.link p = true ∧
      s.txOf p = none ∧ (s.credit p).choose p = some (u, q) ∧ u.queueOf p q ≠ []) ∧
    (∃ (s : State) (p : Fin 64), s.up = true ∧ (s.txOf p).isSome = true) ∧
    (∃ (s : State) (p : Fin 64) (x : TxCopy) (c : Copy) (rest : List Copy), s.up = true ∧ s.txOf p = some x ∧
      s.queueOf p x.queue = c :: rest ∧ s.receivingCopy c = false) ∧
    (∃ (s : State) (p : Fin 64), s.up = true ∧ s.link p = false) ∧
    (∃ (s : State) (p : Fin 64), s.link p = true) ∧
    (∃ (s : State) (p : Fin 64) (c : ResCopy), s.up = true ∧ s.fwd.residue = [c] ∧ c.port = p ∧
      (s.bufOf c.buf).endedGood = true ∧ s.judge p c.info.queue (bufPool c.buf) = none ∧
      s.spills p c.info.queue (bufPool c.buf) = false) ∧
    (∃ (s : State) (p : Fin 64) (c : ResCopy), s.up = true ∧
      s.fwd.residue.find? (fun c => decide (c.port = p.val)) = some c) := by
  refine ⟨⟨((queued 7 [copyOf (.ink 0)]).fset (PORT_STATUS_LINK 63) 1), (((queued 7 [copyOf (.ink 0)]).fset (PORT_STATUS_LINK 63) 1).credit 63), 63, 7, ?_, ?_, ?_, ?_, ?_, ?_⟩,
      ⟨({ run with buf := { run.buf with txs := [(63, some ⟨0, 0, false, none⟩)] } }), 63, ?_, ?_⟩,
      ⟨({ queued 0 [copyOf (.ink 0)] with buf := { (queued 0 [copyOf (.ink 0)]).buf with txs := [(63, some ⟨0, 0, false, none⟩)] } }), 63, (⟨0, 0, false, none⟩), (copyOf (.ink 0)), ([]), ?_, ?_, ?_, ?_⟩,
      ⟨run, 63, ?_, ?_⟩,
      ⟨(run.fset (PORT_STATUS_LINK 63) 1), 63, ?_⟩,
      ⟨(({ queued 0 [] with fwd := { run.fwd with residue := [⟨63, 0, info 3⟩] } }).fset (PORT_STATUS_LINK 63) 1), 63, (⟨63, 0, info 3⟩), ?_, ?_, ?_, ?_, ?_, ?_⟩,
      ⟨({ queued 0 [] with fwd := { run.fwd with residue := [⟨63, 0, info 3⟩] } }), 63, (⟨63, 0, info 3⟩), ?_, ?_⟩⟩ <;> decide +kernel

theorem witness_PeatBankServes :
    (∃ (s : State) (p : Fin 4), s.up = true ∧ s.fget (BUF_POOL_FREE_REBUILD p) = 1) ∧
    (∃ (s : State) (key : Nat) (k : Nat) (rest : List Nat), s.up = true ∧ s.buf.peatPend = key :: rest ∧
      firstPending (s.queueOf (key / 16) (key % 16)) = some k ∧ (s.bufOf k).receiving = false) ∧
    (∃ (s : State) (p : Fin 64) (q : Fin 10) (bs : List Byte), s.up = true ∧ firstPeat (s.queueOf p q) = some bs ∧
      s.readBack p + bs.length ≤ 32768) ∧
    (∃ (s : State) (p : Fin 64) (q : Fin 10) (bs : List Byte), s.up = true ∧ firstPeat (s.queueOf p q) = some bs) ∧
    (∃ (s : State) (q : Requester), s.takes q = true ∧ s.up = true ∧ s.buf.peatRestart = false) ∧
    (∃ (s : State), s.up = true ∧ s.buf.peatRestart = true) ∧
    (∃ (s : State) (key : Nat) (k : Nat) (rest : List Nat), s.up = true ∧ s.buf.peatPend = key :: rest ∧
      firstPending (s.queueOf (key / 16) (key % 16)) = some k ∧ (s.bufOf k).receiving = false) := by
  refine ⟨⟨(run.fset (BUF_POOL_FREE_REBUILD 3) 1), 3, ?_, ?_⟩,
      ⟨({ queued 0 [copyOf (.pending 0)] with buf := { (queued 0 [copyOf (.pending 0)]).buf with peatPend := [queueKey 63 0] } }), (queueKey 63 0), 0, ([]), ?_, ?_, ?_, ?_⟩,
      ⟨(queued 9 [copyOf (.peat wholeFrame)]), 63, 9, wholeFrame, ?_, ?_, ?_⟩,
      ⟨(queued 9 [copyOf (.peat wholeFrame)]), 63, 9, wholeFrame, ?_, ?_⟩,
      ⟨run, .uart, ?_, ?_, ?_⟩,
      ⟨({ run with buf := { run.buf with peatRestart := true } }), ?_, ?_⟩,
      ⟨({ queued 0 [copyOf (.pending 0)] with buf := { (queued 0 [copyOf (.pending 0)]).buf with peatPend := [queueKey 63 0] } }), (queueKey 63 0), 0, ([]), ?_, ?_, ?_, ?_⟩⟩ <;> decide +kernel

theorem witness_GatesMove :
    (∃ (s : State) (p : Fin 64), s.up = true ∧ s.hasPort p = true ∧ s.fbit (BUF_GATE_CFG_ENABLE p) = false) ∧
    (∃ (s : State) (p : Fin 64), s.up = true ∧ s.hasPort p = true ∧ s.fbit (BUF_GATE_CFG_ENABLE p) = true ∧
      s.gateIndices p ≠ []) ∧
    (∃ (s : State) (p : Fin 64) (g : GatePend), s.up = true ∧ mapGet (fun _ => none) s.buf.gates p = some g) := by
  refine ⟨⟨run, 63, ?_, ?_, ?_⟩,
      ⟨(((run.fset (BUF_GATE_CFG_ENABLE 63) 1).fset (BUF_GCL_STATE_VALID 63 0) 1).fset (BUF_GCL_INTERVAL_INTERVAL_NS 63 0) 500), 63, ?_, ?_, ?_, ?_⟩,
      ⟨({ run with buf := { run.buf with gates := [(63, some ⟨0, []⟩)] } }), 63, (⟨0, []⟩), ?_, ?_⟩⟩ <;> decide +kernel

theorem witness_WindowsOpenAndClose :
    (∃ (s : State) (u : State) (p : Fin 64) (i : Fin 1024) (arrivals : List Nat), s.up = true ∧
      s.inService = true ∧ s.fget (QW_PORT_CFG_ENABLE p) = 1 ∧ s.windowsRun p = true ∧ i.val ∈ s.windows p ∧
      s.roomToOpen p = true ∧ u = s.setArrivals (winIn (s.win p i)) arrivals ∧ u.mayOpen p i arrivals = true) ∧
    (∃ (s : State) (u : State) (p : Fin 64) (i : Fin 1024) (arrivals : List Nat), s.up = true ∧
      s.inService = true ∧ s.fget (QW_PORT_CFG_ENABLE p) = 1 ∧ s.windowsRun p = true ∧ i.val ∈ s.windows p ∧
      s.roomToOpen p = true ∧ u = s.setArrivals (winIn (s.win p i)) arrivals ∧ u.mayOpen p i arrivals = false) ∧
    (∃ (s : State) (p : Fin 64) (w : OpenWin), s.up = true ∧ s.openOf p = some w) ∧
    (∃ (s : State) (p : Fin 64) (w : OpenWin), s.up = true ∧ s.openOf p = some w) ∧
    (∃ (s : State) (p : Fin 64), s.up = true ∧ s.fget (QW_ACTIVE_BANK_PENDING p) = 1 ∧ s.bankOf p < 2) ∧
    (∃ (s : State) (p : Fin 64), s.up = true ∧ s.fget (QW_PORT_CFG_ENABLE p) = 1) ∧
    (∃ (s : State), s.up = true) := by
  refine ⟨⟨winOpens, (winOpens.setArrivals (winIn (winOpens.win 63 0)) []), 63, 0, ([]), ?_, ?_, ?_, ?_, ?_, ?_, rfl, ?_⟩,
      ⟨window, (window.setArrivals (winIn (window.win 63 0)) []), 63, 0, ([]), ?_, ?_, ?_, ?_, ?_, ?_, rfl, ?_⟩,
      ⟨(opened ⟨0, 0, 0, 0, [], false, some qf⟩), 63, (⟨0, 0, 0, 0, [], false, some qf⟩), ?_, ?_⟩,
      ⟨(opened ⟨0, 0, 0, 0, [], false, some qf⟩), 63, (⟨0, 0, 0, 0, [], false, some qf⟩), ?_, ?_⟩,
      ⟨((run.fset (QW_ACTIVE_BANK_PENDING 63) 1)), 63, ?_, ?_, ?_⟩,
      ⟨window, 63, ?_, ?_⟩,
      ⟨run, ?_⟩⟩ <;> decide +kernel

theorem witness_QuillFramesPass :
    (∃ (s : State) (p : Fin 64) (header : List Byte) (w : OpenWin), s.up = true ∧ s.openOf p = some w ∧
      w.closing = false ∧ w.frame = none ∧ headerFails (s.winEntry w.bank p w.index) header = none) ∧
    (∃ (s : State) (p : Fin 64) (header : List Byte) (w : OpenWin) (point : Nat), s.up = true ∧
      s.openOf p = some w ∧ w.closing = false ∧ w.frame = none ∧
      headerFails (s.winEntry w.bank p w.index) header = some point) ∧
    (∃ (s : State) (p : Fin 64) (rest : List Byte) (w : OpenWin) (f : QFrame), s.up = true ∧ s.openOf p = some w ∧
      w.frame = some f ∧ fcsGood (f.bytes ++ rest) = true) ∧
    (∃ (s : State) (p : Fin 64) (rest : List Byte) (errored : Bool) (w : OpenWin) (f : QFrame), s.up = true ∧
      s.openOf p = some w ∧ w.frame = some f ∧ (errored = true ∨ fcsGood (f.bytes ++ rest) = false)) ∧
    (∃ (s : State) (p : Fin 64) (w : OpenWin) (f : QFrame), s.up = true ∧ s.openOf p = some w ∧
      w.frame = some f) := by
  refine ⟨⟨(opened ⟨0, 0, 0, 0, [], false, none⟩), 63, (List.replicate 20 0), (⟨0, 0, 0, 0, [], false, none⟩), ?_, ?_, ?_, ?_, ?_⟩,
      ⟨(opened ⟨0, 0, 0, 0, [], false, none⟩), 63, (List.replicate 20 1), (⟨0, 0, 0, 0, [], false, none⟩), 8, ?_, ?_, ?_, ?_, ?_⟩,
      ⟨(opened ⟨0, 0, 0, 0, [], true, some qfWhole⟩), 63, (wholeFrame.drop 20), (⟨0, 0, 0, 0, [], true, some qfWhole⟩), qfWhole, ?_, ?_, ?_, ?_⟩,
      ⟨(opened ⟨0, 0, 0, 0, [], false, some qf⟩), 63, (List.replicate 60 9), false, (⟨0, 0, 0, 0, [], false, some qf⟩), qf, ?_, ?_, ?_, ?_⟩,
      ⟨(opened ⟨0, 0, 0, 0, [], false, some qf⟩), 63, (⟨0, 0, 0, 0, [], false, some qf⟩), qf, ?_, ?_, ?_⟩⟩ <;> decide +kernel

theorem witness_WindowTable :
    (∃ (s : State) (p : Fin 64), s.up = true ∧ s.hasPort p = true ∧ s.fget (QW_PORT_CFG_SRC_EN p) = 1 ∧
      (s.lanesOf (s.fget (QW_PORT_CFG_PHASE_SRC p))).all (fun l => s.laneClock l) = false) ∧
    (∃ (s : State) (q : Requester), s.takes q = true ∧ s.up = true ∧ s.readsShadow q = false) ∧
    (∃ (s : State) (q : Requester), s.takes q = true ∧ s.up = true ∧ s.mayStage q = true ∧
      recsCharge s.cfg.records + 40 ≤ 4 * 2 ^ 20) ∧
    (∃ (s : State) (q : Requester), s.takes q = true ∧ s.up = true) ∧
    (∃ (s : State) (q : Requester), s.takes q = true ∧ s.up = true ∧ s.hrt.holder ≠ none) ∧
    (∃ (s : State), s.hrt.holder = none) ∧
    (∃ (s : State) (u : State) (p : Fin 64) (arrivals : List Nat), s.up = true ∧ s.hasPort p = true ∧
      s.fget (QW_PORT_CFG_SRC_EN p) = 1 ∧ s.sourceClock p = true ∧ s.heldGroup 1 = false ∧
      u = s.setArrivals (s.fget (QW_PORT_CFG_PHASE_SRC p)) arrivals) ∧
    (∃ (s : State) (q : Requester), s.takes q = true ∧ s.up = true) := by
  refine ⟨⟨(run.fset (QW_PORT_CFG_SRC_EN 63) 1), 63, ?_, ?_, ?_, ?_⟩,
      ⟨run, .uart, ?_, ?_, ?_⟩,
      ⟨(session .opened), .uart, ?_, ?_, ?_, ?_⟩,
      ⟨run, .uart, ?_, ?_⟩,
      ⟨held, .uart, ?_, ?_, ?_⟩,
      ⟨run, ?_⟩,
      ⟨((((run.fset (QW_PORT_CFG_SRC_EN 63) 1).fset (PORT_MODE_ENABLE 63) 1).lset (LANE_STATUS_CDR_LOCK 0) 1).lset (LANE_STATUS_SIGNAL 0) 1), (((((run.fset (QW_PORT_CFG_SRC_EN 63) 1).fset (PORT_MODE_ENABLE 63) 1).lset (LANE_STATUS_CDR_LOCK 0) 1).lset (LANE_STATUS_SIGNAL 0) 1).setArrivals (((((run.fset (QW_PORT_CFG_SRC_EN 63) 1).fset (PORT_MODE_ENABLE 63) 1).lset (LANE_STATUS_CDR_LOCK 0) 1).lset (LANE_STATUS_SIGNAL 0) 1).fget (QW_PORT_CFG_PHASE_SRC 63)) [5]), 63, ([5]), ?_, ?_, ?_, ?_, ?_, rfl⟩,
      ⟨run, .uart, ?_, ?_⟩⟩ <;> decide +kernel

theorem witness_TimeMoves :
    (∃ (s : State) (q : Requester), s.up = true ∧ s.timeGate q = true) ∧
    (∃ (s : State) (q : Requester), s.up = true ∧ s.timeGate q = true) ∧
    (∃ (s : State) (q : Requester), s.up = true ∧ s.timeGate q = true ∧ 1000000000 ≤ s.fget TIME_STEP_NS_NS) ∧
    (∃ (s : State) (q : Requester) (mode : Fin 4), s.up = true ∧ s.timeGate q = true ∧
      s.fget TIME_STEP_NS_NS < 1000000000 ∧ (mode = 1 → s.stepOperand * 2 ^ 48 ≤ s.time.clock) ∧
      s.cfg.sess ≠ .arming ∧ s.cfg.sess ≠ .armed) ∧
    (∃ (s : State) (q : Requester) (h : Hearth) (i : Instr), s.up = true ∧ hearthOf q = some h ∧
      s.hrt.holder ≠ some h ∧ ((∃ low, i = .timeRateWrite q low) ∨ (∃ amount, i = .timeSlew q amount) ∨ (∃ mode, i = .timeStep q mode))) := by
  refine ⟨⟨((run.fset TIME_CTRL_MANUAL 1).setShadow .uart TIME_RATE_HI 0x8000), .uart, ?_, ?_⟩,
      ⟨(run.fset TIME_CTRL_MANUAL 1), .uart, ?_, ?_⟩,
      ⟨((run.fset TIME_CTRL_MANUAL 1).fset TIME_STEP_NS_NS 1000000000), .uart, ?_, ?_, ?_⟩,
      ⟨({ (run.fset TIME_CTRL_MANUAL 1).fset TIME_STEP_NS_NS 999999999 with time := { run.time with clock := 999999999 * 2 ^ 48 } }), .uart, 1, ?_, ?_, ?_, ?_, ?_, ?_⟩,
      ⟨held, .hearthA, .a, (.timeSlew .hearthA 5), ?_, ?_, ?_, .inr (.inl ⟨_, rfl⟩)⟩⟩ <;> decide +kernel

theorem witness_TimeSourcesSeen :
    (∃ (s : State), s.spineRuns = true) ∧
    (∃ (s : State) (q : Requester) (j : Fin 6), s.takes q = true ∧ s.up = true ∧ s.tsqOf j = []) ∧
    (∃ (s : State) (q : Requester) (j : Fin 6) (e : TsqEntry) (rest : List TsqEntry), s.takes q = true ∧
      s.up = true ∧ s.tsqOf j = e :: rest) ∧
    (∃ (s : State) (i : Fin 8), s.up = true ∧ s.fget (TIME_INST_CFG_ENABLE i) = 1 ∧
      s.fget (TIME_INST_STATUS_PARENT_VALID i) = 1 ∧ s.isTimeSource i = false) ∧
    (∃ (s : State) (i : Fin 8), s.up = true ∧ s.fget (TIME_INST_CFG_ENABLE i) = 1 ∧ s.isTimeSource i = false) ∧
    (∃ (s : State) (i : Fin 8), s.up = true ∧ s.fget (TIME_INST_CFG_ENABLE i) = 1 ∧
      s.fget (TIME_INST_STATUS_PARENT_VALID i) = 1 ∧ s.isTimeSource i = true) ∧
    (∃ (s : State) (i : Fin 8), s.up = true ∧ s.fget (TIME_INST_CFG_ENABLE i) = 1 ∧ s.isTimeSource i = true ∧
      s.fget (TIME_INST_STATUS_PARENT_VALID i) = 1) := by
  refine ⟨⟨run, ?_⟩,
      ⟨run, .uart, 5, ?_, ?_, ?_⟩,
      ⟨({ run with time := { run.time with tsq := [[], [], [], [], [], [⟨1, 2, 0xFFFF, 5 * 2 ^ 16, false, false⟩]] } }), .uart, 5, (⟨1, 2, 0xFFFF, 5 * 2 ^ 16, false, false⟩), ([]), ?_, ?_, ?_⟩,
      ⟨((run.fset (TIME_INST_CFG_ENABLE 7) 1).fset (TIME_INST_STATUS_PARENT_VALID 7) 1), 7, ?_, ?_, ?_, ?_⟩,
      ⟨((run.fset (TIME_INST_CFG_ENABLE 7) 1).fset (TIME_INST_STATUS_PARENT_VALID 7) 1), 7, ?_, ?_, ?_⟩,
      ⟨(((((run.fset (TIME_INST_CFG_ENABLE 7) 1).fset (TIME_INST_STATUS_PARENT_VALID 7) 1).fset (TIME_INST_STATUS_IS_SOURCE 7) 1).fset TIME_STATE_STATE 2).fset TIME_CTRL_SRC 2), 7, ?_, ?_, ?_, ?_⟩,
      ⟨(((((run.fset (TIME_INST_CFG_ENABLE 7) 1).fset (TIME_INST_STATUS_PARENT_VALID 7) 1).fset (TIME_INST_STATUS_IS_SOURCE 7) 1).fset TIME_STATE_STATE 2).fset TIME_CTRL_SRC 2), 7, ?_, ?_, ?_, ?_⟩⟩ <;> decide +kernel

theorem witness_SuperframesPass :
    (∃ (s : State) (k : Fin 16) (tx : Nat) (r : List Byte), s.up = true ∧ s.clklSends k = true ∧
      r = s.sfRecord k (s.txPlane k tx)) ∧
    (∃ (s : State) (k : Fin 16), s.up = true ∧ s.fget (LYD_LINK_STATUS_RUNNING k) = 1) ∧
    (∃ (s : State) (k : Fin 16) (r : List Byte), s.up = true ∧ s.fget (LYD_LINK_STATUS_RUNNING k) = 1 ∧
      beAt r 68 4 ≠ recordCheck r) ∧
    (∃ (s : State) (k : Fin 16) (r : List Byte) (rx : Nat) (bit : Nat) (edges : List (Nat × Int)) (plane : Nat) (trip : Nat), s.up = true ∧ s.fget (LYD_LINK_STATUS_RUNNING k) = 1 ∧ beAt r 68 4 = recordCheck r ∧ beAt r 0 1 = 1 ∧ bitOf (beAt r 1 1) 5 = true ∧ bitOf (beAt r 1 1) 3 = false ∧ bitOf (beAt r 1 1) 4 = false ∧ s.heldGroup 2 = false ∧ s.heldGroup 5 = false ∧ s.coasting = false ∧ s.fbit CAL_STATUS_RUNNING = false ∧ plane = s.useFree.rxPlane k rx bit (s.fitPhase edges) ∧ recordTime r 24 ≤ plane ∧ plane - recordTime r 24 ≤ 2000000 * 2 ^ 16 ∧ (trip : Int) = ((plane : Int) - recordTime r 24) - ((recordTime r 12 : Int) - recordTime r 36) ∧ trip ≤ 1000000 * 2 ^ 16) := by
  refine ⟨⟨clkUp, 15, 0, ((clkUp).sfRecord (15) ((clkUp).txPlane (15) (0))), ?_, ?_, rfl⟩,
      ⟨(run.fset (LYD_LINK_STATUS_RUNNING 15) 1), 15, ?_, ?_⟩,
      ⟨(run.fset (LYD_LINK_STATUS_RUNNING 15) 1), 15, (List.replicate 72 1), ?_, ?_, ?_⟩,
      ⟨(run.fset (LYD_LINK_STATUS_RUNNING 15) 1), ((15 : Fin 16)), ((let b : List Byte := [1, 0x20] ++ List.replicate 66 0; b ++ beBytes 4 (recordCheck (b ++ [0, 0, 0, 0])))), 2000000, 0, ([(0, 0), (1, 0)]), ((run.fset (LYD_LINK_STATUS_RUNNING 15) 1).useFree.rxPlane ((15 : Fin 16)) (2000000) (0) ((run.fset (LYD_LINK_STATUS_RUNNING 15) 1).fitPhase ([(0, 0), (1, 0)]))), ((((run.fset (LYD_LINK_STATUS_RUNNING 15) 1).useFree.rxPlane ((15 : Fin 16)) (2000000) (0) ((run.fset (LYD_LINK_STATUS_RUNNING 15) 1).fitPhase ([(0, 0), (1, 0)]))) : Int).toNat), ?_, ?_, ?_, ?_, ?_, ?_, ?_, ?_, ?_, ?_, ?_, rfl, ?_, ?_, ?_, ?_⟩⟩ <;> decide +kernel

theorem witness_TrunkTimeFollowed :
    (∃ (s : State), s.up = true ∧ s.fget LYD_NODE_GM_CAPABLE = 1 ∧ s.gmSelf = false ∧ s.upstream = none ∧
      (∀ k < 16, (s.lydLink k).partner = none)) ∧
    (∃ (s : State), s.up = true ∧ s.upstreamFails = true ∧ s.bmcaResult = none) ∧
    (∃ (s : State), s.up = true ∧ s.trunk.thetas ≠ [] ∧ s.upstream ≠ none ∧ s.trunkSteers = false ∧
      s.discards = false ∧ -2 ^ 63 ≤ s.thetaAvg ∧ s.thetaAvg < 2 ^ 63) ∧
    (∃ (s : State) (r : Nat × Nat), s.up = true ∧ s.upstreamFails = false ∧ s.bmcaResult = some r ∧
      (∀ c, s.bmcaNow = some c → c ≠ r ∧ (c.2 ≠ r.2 ∧ 16 ≤ s.winsOf r ∨ 64 ≤ s.winsOf r))) ∧
    (∃ (s : State) (r : Nat × Nat) (c : Nat × Nat), s.up = true ∧ s.upstreamFails = false ∧ s.bmcaResult = some r ∧
      s.bmcaNow = some c ∧ (c = r ∨ s.winsOf r < 64 ∧ (c.2 = r.2 ∨ s.winsOf r < 16))) ∧
    (∃ (s : State) (g : Nat), s.up = true ∧ s.upstreamFails = true ∧ s.linkRemains = false ∧
      s.bmcaResult = some (16, g)) ∧
    (∃ (s : State), s.up = true ∧ s.trunk.thetas ≠ [] ∧ s.upstream ≠ none ∧ s.trunkSteers = true ∧
      s.timeMode = .locked ∧ s.fget LYD_STATUS_ACQ_PHASE = 0 ∧ s.discards = false ∧ -2 ^ 63 ≤ s.thetaAvg ∧
      s.thetaAvg < 2 ^ 63) := by
  refine ⟨⟨(run.fset LYD_NODE_GM_CAPABLE 1), ?_, ?_, ?_, ?_, ?_⟩,
      ⟨((run.fset LYD_STATUS_UP_VALID 1).fset LYD_NODE_GM_CAPABLE 0), ?_, ?_, ?_⟩,
      ⟨({ run.fset LYD_STATUS_UP_VALID 1 with trunk := { run.trunk with thetas := [-7] } }), ?_, ?_, ?_, ?_, ?_, ?_, ?_⟩,
      ⟨(candLink 15), (((candLink 15).bmcaResult).getD (0, 0)), ?_, ?_, ?_, ?_⟩,
      ⟨(candUp 15), (((candUp 15).bmcaResult).getD (0, 0)), (((candUp 15).bmcaNow).getD (0, 0)), ?_, ?_, ?_, ?_, ?_⟩,
      ⟨((((run.fset LYD_STATUS_UP_VALID 1).fset LYD_NODE_GM_CAPABLE 1).fset TIME_CTRL_SRC 1).fset LYD_NODE_NODE_ID 5), 5, ?_, ?_, ?_, ?_⟩,
      ⟨(let x := ({ candUp 15 with trunk := { (candUp 15).trunk with thetas := [-7] } } : State); (x.fset TIME_CTRL_SRC 1).fset TIME_STATE_STATE 2), ?_, ?_, ?_, ?_, ?_, ?_, ?_, ?_, ?_⟩⟩ <;> decide +kernel

theorem witness_RegistersAreRead :
    (∃ (s : State) (q : Requester) (addr : Word), s.up = true ∧ s.busReg q addr.toNat = none) ∧
    (∃ (s : State) (q : Requester) (addr : Word) (b : BusReg), s.up = true ∧ s.busReg q addr.toNat = some b ∧
      b.d.wide = .single ∧ b.is (CNT_CAP_DATA 0) = false) ∧
    (∃ (s : State) (q : Requester) (addr : Word) (b : BusReg) (highs : List Int), s.up = true ∧
      s.busReg q addr.toNat = some b ∧ b.d.wide = .low highs) ∧
    (∃ (s : State) (q : Requester) (addr : Word) (b : BusReg) (low : Int), s.up = true ∧
      s.busReg q addr.toNat = some b ∧ b.d.wide = .high low) ∧
    (∃ (s : State) (n : Fin 64), s.up = true ∧ s.hasLane n = true ∧ s.laneClock n = true) := by
  refine ⟨⟨run, .uart, 0xFFFFFFFC, ?_, ?_⟩,
      ⟨run, .uart, (BitVec.ofNat 32 UPD_LENGTH), ((run.busReg .uart UPD_LENGTH).get (by decide +kernel)), ?_, ?_, ?_, ?_⟩,
      ⟨run, .uart, (BitVec.ofNat 32 TIME_FRAC), ((run.busReg .uart TIME_FRAC).get (by decide +kernel)), ([-4, -8, -12]), ?_, ?_, ?_⟩,
      ⟨run, .uart, (BitVec.ofNat 32 TIME_SEC_HI), ((run.busReg .uart TIME_SEC_HI).get (by decide +kernel)), 12, ?_, ?_, ?_⟩,
      ⟨((laneClocked.fset (LANE_PRBS_CTRL_LOCK 63) 1)), 63, ?_, ?_, ?_⟩⟩ <;> decide +kernel

theorem witness_RegistersAreWritten :
    (∃ (s : State) (q : Requester) (addr : Word) (value : Word) (i : Instr), s.busReg q addr.toNat = none ∧
      i ∈ [Instr.registerWrite q addr value, .wideLowWrite q addr value, .wideHighWrite q addr value]) ∧
    (∃ (s : State) (q : Requester) (addr : Word) (b : BusReg), s.up = true ∧ (s.takes q || b.gated) = true ∧
      s.busReg q addr.toNat = some b ∧ b.d.wide = .single ∧ stagedMask b.d = 0 ∧ b.acts = false) ∧
    (∃ (s : State) (q : Requester) (addr : Word) (b : BusReg) (low : Int), s.up = true ∧
      (s.takes q || b.gated) = true ∧ s.busReg q addr.toNat = some b ∧ b.d.wide = .high low ∧ writable b.d = true ∧
      (b.commitTime && s.armedUp) = false) ∧
    (∃ (s : State) (q : Requester) (addr : Word) (b : BusReg) (highs : List Int), s.up = true ∧
      (s.takes q || b.gated) = true ∧ s.busReg q addr.toNat = some b ∧ b.d.wide = .low highs ∧
      writable b.d = true ∧ (b.commitTime && s.armedUp) = false ∧ b.is TIME_RATE = false ∧
      (b.is TIME_STEP_NS = true → s.timeGate q = true)) ∧
    (∃ (s : State) (q : Requester), s.takes q = true) ∧
    (∃ (s : State) (addr : Word), s.armedUp = true ∧
      addr.toNat ∈ [CFG_COMMIT_TIME_SEC_HI, CFG_COMMIT_TIME_SEC_LO, CFG_COMMIT_TIME_NS]) ∧
    (∃ (s : State) (q : Requester) (value : Word) (n : Fin 64) (e : Fin 16) (i : Instr) (addr : Nat) (v : Nat), s.takes q = true ∧ s.up = true ∧ s.hasLane n = true ∧ s.nibReach e = true ∧ s.hasClkl e = true ∧ (i, addr, v) ∈ [(Instr.resetCtrlWrite q value, GLB_RESET_CTRL, value.toNat), (.timeSlew q value, TIME_SLEW, value.toNat), (.laneCmdRestart q n [], LANE_CMD n, 1), (.clklSlip q e, CLKL_SLIP e, 1), (.clklConfirm q e, CLKL_SLIP e, 2), (.peatRestart q, BUF_PEAT_CMD, 1), (.leaseRenew q, HRT_LEASE, 2 ^ 31), (.nibRestart q, NIB_CTRL, 1), (.nibFlush q e, NIB_CMD e, 4), (.nibAbort q e, NIB_CMD e, 2), (.nibArm q e, NIB_CMD e, 1), (.nibPop q e, NIB_POP 0 e % 2 ^ 32, 1), (.hrtHandover q, HRT_CMD, 0x5AE10001), (.hrtTest q, HRT_CMD, 0x5AE10020), (.updAllow q, UPD_CMD, 0x7C3E0004), (.synReeval, SYN_CMD, 1)]) ∧
    (∃ (s : State) (q : Requester) (i : Instr), s.takes q = false ∧ writerOf i = some q) ∧
    (∃ (s : State) (q : Requester) (addr : Word) (value : Word) (b : BusReg) (i : Instr), s.takes q = false ∧
      s.busReg q addr.toNat = some b ∧ b.gated = false ∧ clearsTables b value.toNat = false ∧
      i ∈ [Instr.registerWrite q addr value, .wideLowWrite q addr value, .wideHighWrite q addr value]) ∧
    (∃ (s : State) (q : Requester) (table : Fin 16) (inactive : Bool) (portOnly : Bool) (port : Fin 64) (i : Instr), s.up = true ∧ s.takes q = false ∧ i ∈ [Instr.fwdTblClearState q table, .qwTblClearState q inactive, .learnFlush q portOnly port]) := by
  refine ⟨⟨run, .uart, 0xFFFFFFFC, 0xFFFFFFFF, (.wideHighWrite .uart 0xFFFFFFFC 0xFFFFFFFF), ?_, ?_⟩,
      ⟨run, .uart, (BitVec.ofNat 32 GLB_PWR_STATUS), (((run).busReg (.uart) (BitVec.ofNat 32 GLB_PWR_STATUS).toNat).get (by decide +kernel)), ?_, ?_, ?_, ?_, ?_, ?_⟩,
      ⟨run, .uart, (BitVec.ofNat 32 CFG_COMMIT_TIME_SEC_HI), (((run).busReg (.uart) (BitVec.ofNat 32 CFG_COMMIT_TIME_SEC_HI).toNat).get (by decide +kernel)), 8, ?_, ?_, ?_, ?_, ?_, ?_⟩,
      ⟨run, .uart, (BitVec.ofNat 32 CFG_COMMIT_TIME_NS), (((run).busReg (.uart) (BitVec.ofNat 32 CFG_COMMIT_TIME_NS).toNat).get (by decide +kernel)), ([-4, -8]), ?_, ?_, ?_, ?_, ?_, ?_, ?_, ?_⟩,
      ⟨run, .uart, ?_⟩,
      ⟨(session .armed), (BitVec.ofNat 32 CFG_COMMIT_TIME_NS), ?_, ?_⟩,
      ⟨run, .uart, 0xFFFFFFFF, 63, 15, .synReeval, SYN_CMD, 1, ?_, ?_, ?_, ?_, ?_, ?_⟩,
      ⟨standbyB, .hearthB, (.stageOpen .hearthB 0), ?_, ?_⟩,
      ⟨standbyB, .hearthB, (BitVec.ofNat 32 UPD_LENGTH), 0xFFFFFFFF, ((((standbyB).busReg (.hearthB) (BitVec.ofNat 32 UPD_LENGTH).toNat).getD ⟨((findReg 304).get (by decide)).1, [], 0⟩)), (.registerWrite .hearthB (BitVec.ofNat 32 UPD_LENGTH) 0xFFFFFFFF), ?_, ?_, ?_, ?_, ?_⟩,
      ⟨standbyB, .hearthB, 15, false, false, 63, (.learnFlush .hearthB false 63), ?_, ?_, ?_⟩⟩ <;> decide +kernel

theorem witness_CrossingsAreHeld :
    (∃ (s : State), s.up = true ∧ s.vbatInvalid = false) ∧
    (∃ (s : State), s.up = true ∧ s.fbit GLB_XING_DOMAIN_NIB_INVALID = false) ∧
    (∃ (s : State), s.up = true ∧ s.fbit GLB_XING_DOMAIN_PEAT_INVALID = false) ∧
    (∃ (s : State) (n : Fin 64), s.up = true ∧ s.hasLane n = true ∧ s.laneInvalid n = false) ∧
    (∃ (s : State), s.up = true ∧ s.vbatInvalid = true) ∧
    (∃ (s : State), s.up = true ∧ s.vbatInvalid = true) := by
  refine ⟨⟨run, ?_, ?_⟩,
      ⟨run, ?_, ?_⟩,
      ⟨run, ?_, ?_⟩,
      ⟨run, 63, ?_, ?_, ?_⟩,
      ⟨(run.fset GLB_XING_DOMAIN_VBAT_INVALID 1), ?_, ?_⟩,
      ⟨(run.fset GLB_XING_DOMAIN_VBAT_INVALID 1), ?_, ?_⟩⟩ <;> decide +kernel

theorem witness_ReferencesMove :
    (∃ (s : State) (i : Fin 32) (src : Nat), s.up = true ∧ s.refValid i = true ∧ src = s.actualSource i ∧
      s.monitored src = true ∧ s.sourceActive src = true ∧ (s.monOf src).st = .absent ∧ s.loopHeld = false) ∧
    (∃ (s : State) (i : Fin 32) (src : Nat), s.up = true ∧ s.refValid i = true ∧ src = s.actualSource i ∧
      s.monitored src = true ∧ (s.monOf src).st ≠ .absent) ∧
    (∃ (s : State) (i : Fin 32) (src : Nat) (ofs : Int), s.up = true ∧ src = s.actualSource i ∧
      s.monitored src = true ∧ (s.monOf src).st = .disqualified ∧ s.freqLo ≤ ofs.natAbs ∧ -2 ^ 15 ≤ ofs ∧
      ofs < 2 ^ 15) ∧
    (∃ (s : State) (i : Fin 32) (src : Nat), s.up = true ∧ s.refValid i = true ∧ src = s.actualSource i ∧
      s.monitored src = true ∧ (s.monOf src).st = .disqualified ∧ (s.monOf src).left ≤ 1 ∧
      (s.monOf src).ofs.natAbs < s.freqLo ∧ s.loopHeld = false) ∧
    (∃ (s : State) (src : Nat), s.up = true ∧ (s.monOf src).st = .disqualified ∧
      s.freqLo ≤ (s.monOf src).ofs.natAbs) ∧
    (∃ (s : State) (b : Nat), s.up = true ∧ s.selecting = true ∧ s.loopHeld = false ∧ s.bestRef = some b) := by
  refine ⟨⟨(refOf .absent 5), 31, ((refOf .absent 5).actualSource 31), ?_, ?_, rfl, ?_, ?_, ?_, ?_⟩,
      ⟨(refOf .qualified 0), 31, ((refOf .qualified 0).actualSource 31), ?_, ?_, rfl, ?_, ?_⟩,
      ⟨(refOf .disqualified 5), 31, ((refOf .disqualified 5).actualSource 31), (-32768), ?_, rfl, ?_, ?_, ?_, ?_, ?_⟩,
      ⟨(refOf .disqualified 1), 31, ((refOf .disqualified 1).actualSource 31), ?_, ?_, rfl, ?_, ?_, ?_, ?_, ?_⟩,
      ⟨((refOf .disqualified 1).setMon 3 { (refOf .disqualified 1).monOf 3 with ofs := -32768 }), 3, ?_, ?_, ?_⟩,
      ⟨((refOf .qualified 0).fset SYN_CTRL_SEL_EN 1), 31, ?_, ?_, ?_, ?_⟩⟩ <;> decide +kernel

theorem witness_SynthesizersLock :
    (∃ (s : State) (x : Fin 6), s.up = true ∧ x.val < 2 ∧ s.fbit (SYN_SPINE_STATUS_POWERED x) = true) ∧
    (∃ (s : State) (x : Fin 6), s.up = true ∧ 2 ≤ x.val ∧ s.fbit (SYN_OSYN_CFG_ENABLE (x.val - 2)) = true) ∧
    (∃ (s : State) (x : Fin 6) (j : Fin 4), s.up = true ∧ x.val = j + 2 ∧ s.fbit (SYN_OSYN_STATUS_LOCK j) = true) ∧
    (∃ (s : State) (j : Fin 4), s.up = true ∧ s.fbit (SYN_OSYN_CFG_ENABLE j) = true ∧ j.val ∉ s.syn.refLost) ∧
    (∃ (s : State), s.up = true ∧ s.spineMode = 2 ∧ s.loopHeld = false ∧
      s.syn.pull.natAbs ≤ s.selected.elim 0 s.pullStep) ∧
    (∃ (s : State), s.loopHeld = true) ∧
    (∃ (s : State) (phase : Int) (i : Nat), s.up = true ∧ s.loopHeld = false ∧ s.selected = some i ∧
      s.spineMode = 1 ∧ s.fbit SYN_SEL_STATUS_LOCK = true ∧ 4 * s.lockWin < phase.natAbs ∧ 3 ≤ s.syn.outRun) ∧
    (∃ (s : State) (i : Nat), s.up = true ∧ s.selected = some i ∧ s.spineMode = 1 ∧
      s.fbit SYN_SEL_STATUS_LOCK = true ∧ s.refState i = .qualified ∧ s.fbit CAL_STATUS_RUNNING = false) ∧
    (∃ (s : State) (i : Nat) (h : Hearth), s.up = true ∧ s.loopHeld = false ∧ s.selected = some i ∧
      s.spineMode = 1 ∧ s.hrt.holder = some h) ∧
    (∃ (s : State) (i : Nat), s.up = true ∧ s.loopHeld = false ∧ s.selected = some i ∧ s.spineMode = 2 ∧
      s.pullStep i < s.syn.pull.natAbs) ∧
    (∃ (s : State) (x : Fin 6) (h : Hearth), s.up = true ∧ x.val = hearthIx h ∧
      s.fbit (SYN_SPINE_STATUS_INNER_LOCK x) = true ∧ s.hrt.holder ≠ some h) ∧
    (∃ (s : State) (x : Fin 6) (h : Hearth), s.up = true ∧ x.val = hearthIx h ∧
      s.fbit (SYN_SPINE_STATUS_INNER_LOCK x) = true ∧ s.hrt.holder = some h ∧ (s.hearth h).st = .active) := by
  refine ⟨⟨(run.fset (SYN_SPINE_STATUS_POWERED 1) 1), 1, ?_, ?_, ?_⟩,
      ⟨(run.fset (SYN_OSYN_CFG_ENABLE 3) 1), 5, ?_, ?_, ?_⟩,
      ⟨(run.fset (SYN_OSYN_STATUS_LOCK 3) 1), 5, 3, ?_, ?_, ?_⟩,
      ⟨(run.fset (SYN_OSYN_CFG_ENABLE 3) 1), 3, ?_, ?_, ?_⟩,
      ⟨((run.fset SYN_SEL_STATUS_MODE 2)), ?_, ?_, ?_, ?_⟩,
      ⟨({ run with cal := { run.cal with held := [4] } }), ?_⟩,
      ⟨({ (((run.fset SYN_SEL_STATUS_MODE 1).fset SYN_SEL_STATUS_LOCK 1).fset SYN_SEL_STATUS_ENTRY_VALID 1).fset SYN_SEL_STATUS_ENTRY 31 with syn := { run.syn with outRun := 3 } }), (-100000000), 31, ?_, ?_, ?_, ?_, ?_, ?_, ?_⟩,
      ⟨(((((refOf .qualified 0).fset SYN_SEL_STATUS_MODE 1).fset SYN_SEL_STATUS_LOCK 1).fset SYN_SEL_STATUS_ENTRY_VALID 1).fset SYN_SEL_STATUS_ENTRY 31), 31, ?_, ?_, ?_, ?_, ?_, ?_⟩,
      ⟨({ ((run.fset SYN_SEL_STATUS_MODE 1).fset SYN_SEL_STATUS_ENTRY_VALID 1).fset SYN_SEL_STATUS_ENTRY 31 with hrt := held.hrt }), 31, .b, ?_, ?_, ?_, ?_, ?_⟩,
      ⟨({ ((run.fset SYN_SEL_STATUS_MODE 2).fset SYN_SEL_STATUS_ENTRY_VALID 1).fset SYN_SEL_STATUS_ENTRY 31 with syn := { run.syn with pull := -1000000000000 } }), 31, ?_, ?_, ?_, ?_, ?_⟩,
      ⟨(run.fset (SYN_SPINE_STATUS_INNER_LOCK 1) 1), 1, .b, ?_, ?_, ?_, ?_⟩,
      ⟨(held.fset (SYN_SPINE_STATUS_INNER_LOCK 1) 1), 1, .b, ?_, ?_, ?_, ?_, ?_⟩⟩ <;> decide +kernel

theorem witness_OutputsAndBands :
    (∃ (s : State) (n : Fin 8), s.up = true ∧ s.poOn n = true ∧ s.fget (SYN_PO_STATUS_ALIGNING n) = 0) ∧
    (∃ (s : State) (n : Fin 8), s.up = true ∧ s.poOn n = true ∧ s.fget (SYN_PO_STATUS_ALIGNING n) = 1 ∧
      s.syn.poAligned.length = 8) ∧
    (∃ (s : State) (q : Requester) (x : Fin 8), s.takes q = true ∧ s.up = true ∧ x.val < 6 ∧
      s.readsShadow q = false) ∧
    (∃ (s : State) (q : Requester) (x : Fin 8), s.takes q = true ∧ s.up = true ∧ x.val < 6) ∧
    (∃ (s : State) (q : Requester) (x : Fin 8), s.takes q = true ∧ s.up = true ∧ x.val < 6 ∧ s.mayStage q = true ∧
      recsCharge s.cfg.records + 40 ≤ 4 * 2 ^ 20) := by
  refine ⟨⟨(run.fset (SYN_PO_CFG_ENABLE 7) 1), 7, ?_, ?_, ?_⟩,
      ⟨((run.fset (SYN_PO_CFG_ENABLE 7) 1).fset (SYN_PO_STATUS_ALIGNING 7) 1), 7, ?_, ?_, ?_, ?_⟩,
      ⟨run, .uart, 5, ?_, ?_, ?_, ?_⟩,
      ⟨run, .uart, 5, ?_, ?_, ?_⟩,
      ⟨(session .opened), .uart, 5, ?_, ?_, ?_, ?_, ?_⟩⟩ <;> decide +kernel

theorem witness_NibInputsMeasure :
    (∃ (s : State) (n : Fin 16) (falling : Bool) (stamp : Nat) (l : Nat), s.up = true ∧ s.hasEvent n = true ∧
      s.fbit (NIB_CFG_ENABLE n) = true ∧ s.edgeSelected n falling = true ∧
      s.fbit GLB_XING_DOMAIN_NIB_INVALID = false ∧ s.fbit NIB_CTRL_RESTART = false ∧ (s.nibIn n).last = some l ∧
      l ≤ stamp ∧ stamp < l + 3200) ∧
    (∃ (s : State) (n : Fin 16) (falling : Bool) (stamp : Nat), s.up = true ∧ s.hasEvent n = true ∧
      s.fbit (NIB_CFG_ENABLE n) = true ∧ s.edgeSelected n falling = true ∧
      s.fbit GLB_XING_DOMAIN_NIB_INVALID = false ∧ s.fbit NIB_CTRL_RESTART = false ∧
      (∀ l, (s.nibIn n).last = some l → l + 3200 ≤ stamp) ∧ s.nibIntervals n = false ∧
      (s.nibIn n).entries.length < 4096) ∧
    (∃ (s : State) (q : Requester) (n : Fin 16) (e : NibEntry) (rest : List NibEntry), s.takes q = true ∧
      s.up = true ∧ s.hasEvent n = true ∧ s.fbit GLB_XING_DOMAIN_NIB_INVALID = false ∧
      (s.nibIn n).entries = e :: rest ∧ e.type < 2) ∧
    (∃ (s : State) (q : Requester) (n : Fin 16), s.takes q = true ∧ s.up = true ∧ s.hasEvent n = true ∧
      s.fbit GLB_XING_DOMAIN_NIB_INVALID = false ∧ (s.nibIn n).entries = []) ∧
    (∃ (s : State) (q : Requester) (n : Fin 16), s.takes q = true ∧ s.up = true ∧ s.nibReach n = true ∧
      s.nibIntervals n = true ∧ (s.mstate n = 0 ∨ s.mstate n = 3)) ∧
    (∃ (s : State) (q : Requester) (n : Fin 16), s.takes q = true ∧ s.up = true ∧ s.nibReach n = true) ∧
    (∃ (s : State) (q : Requester) (n : Fin 16), s.takes q = true ∧ s.up = true ∧ s.nibReach n = true) ∧
    (∃ (s : State) (n : Fin 16) (g : NibGate), s.up = true ∧ s.hasEvent n = true ∧
      s.fbit (NIB_CFG_FREQ_EN n) = true ∧ s.fbit GLB_XING_DOMAIN_NIB_INVALID = false ∧
      s.fbit NIB_CTRL_RESTART = false ∧ (s.nibIn n).gate = some g) ∧
    (∃ (s : State) (q : Requester), s.takes q = true ∧ s.up = true ∧ s.fbit NIB_CTRL_RESTART = false) ∧
    (∃ (s : State), s.up = true ∧ s.fbit NIB_CTRL_RESTART = true) ∧
    (∃ (s : State) (n : Fin 16) (falling : Bool) (stamp : Nat), s.up = true ∧ s.hasEvent n = true ∧
      s.fbit (NIB_CFG_ENABLE n) = true ∧ s.edgeSelected n falling = true ∧
      s.fbit GLB_XING_DOMAIN_NIB_INVALID = false ∧ s.fbit NIB_CTRL_RESTART = false ∧
      (∀ l, (s.nibIn n).last = some l → l + 3200 ≤ stamp) ∧ s.nibIntervals n = true ∧ s.mstate n = 1 ∧
      s.fget (NIB_CFG_START_SRC n) = n ∧ (s.nibIn n).armAt + 200000 ≤ stamp ∧ (s.nibIn n).waiting = [] ∧
      (s.nibIn n).entries.length < 4096) ∧
    (∃ (s : State) (q : Requester) (n : Fin 16) (e : NibEntry) (rest : List NibEntry), s.takes q = true ∧
      s.up = true ∧ s.hasEvent n = true ∧ s.fbit GLB_XING_DOMAIN_NIB_INVALID = false ∧
      (s.nibIn n).entries = e :: rest ∧ e.type = 2) := by
  refine ⟨⟨({ nibRun with nib := (nibs { inputIdle with last := some 0 }).nib }), 15, false, 3199, 0, ?_, ?_, ?_, ?_, ?_, ?_, ?_, ?_, ?_⟩,
      ⟨({ nibRun with nib := (nibs { inputIdle with last := some 0 }).nib }), 15, false, 3200, ?_, ?_, ?_, ?_, ?_, ?_, by intro l h; cases h; decide, ?_, ?_⟩,
      ⟨(nibs { inputIdle with entries := [entry] }), .uart, 15, entry, ([]), ?_, ?_, ?_, ?_, ?_, ?_⟩,
      ⟨run, .uart, 15, ?_, ?_, ?_, ?_, ?_⟩,
      ⟨((nibs { inputIdle with entries := [entry] }).fset (NIB_CFG_MODE 15) 1), .uart, 15, ?_, ?_, ?_, ?_, ?_⟩,
      ⟨((nibs { inputIdle with entries := [entry] }).fset (NIB_CFG_MODE 15) 1), .uart, 15, ?_, ?_, ?_⟩,
      ⟨(nibs { inputIdle with entries := [entry] }), .uart, 15, ?_, ?_, ?_⟩,
      ⟨((nibs { inputIdle with gate := some gateNew }).fset (NIB_CFG_FREQ_EN 15) 1), 15, gateNew, ?_, ?_, ?_, ?_, ?_, ?_⟩,
      ⟨run, .uart, ?_, ?_, ?_⟩,
      ⟨(run.fset NIB_CTRL_RESTART 1), ?_, ?_⟩,
      ⟨(let x := ({ nibRun with nib := (nibs { inputIdle with last := some 0 }).nib } : State); ((x.fset (NIB_CFG_MODE 15) 1).fset (NIB_CFG_START_SRC 15) 15).fset (NIB_STATUS_MSTATE 15) 1), 15, false, 200000, ?_, ?_, ?_, ?_, ?_, ?_, by intro l h; cases h; decide, ?_, ?_, ?_, ?_, ?_, ?_⟩,
      ⟨(nibs { inputIdle with entries := [{ entry with type := 2 }] }), .uart, 15, ({ entry with type := 2 }), ([]), ?_, ?_, ?_, ?_, ?_, ?_⟩⟩ <;> decide +kernel

theorem witness_CalibrationRuns :
    (∃ (s : State) (q : Requester) (groups : BitVec 6), s.takes q = true ∧ s.up = true ∧ s.part = .ulk6416 ∧
      s.life ≠ .kindling ∧ s.life ≠ .reset ∧ s.fbit CAL_STATUS_RUNNING = false ∧ groups ≠ 0) ∧
    (∃ (s : State) (q : Requester), s.takes q = true ∧ s.up = true ∧ s.part = .ulk3208 ∧ s.life ≠ .kindling ∧
      s.life ≠ .reset ∧ s.fbit CAL_STATUS_RUNNING = false) ∧
    (∃ (s : State), s.up = true ∧ s.fbit CAL_STATUS_RUNNING = true ∧ (∀ g ∈ s.cal.groups, g < 6)) ∧
    (∃ (s : State) (g : Nat) (i : Nat) (o : Int), s.up = true ∧ s.fbit CAL_STATUS_RUNNING = true ∧
      s.cal.groups = [g] ∧ g < 6 ∧ s.calHas g i = true ∧ s.plausible g i o = true) ∧
    (∃ (s : State) (g : Nat) (i : Nat) (o : Int), s.up = true ∧ s.fbit CAL_STATUS_RUNNING = true ∧
      s.cal.groups = [g] ∧ g < 6 ∧ s.calHas g i = true ∧ s.plausible g i o = false) := by
  refine ⟨⟨run, .uart, 63, ?_, ?_, ?_, ?_, ?_, ?_, ?_⟩,
      ⟨({ run with part := .ulk3208 }), .uart, ?_, ?_, ?_, ?_, ?_, ?_⟩,
      ⟨({ run.fset CAL_STATUS_RUNNING 1 with cal := { run.cal with groups := [0, 5], held := [0, 5] } }), ?_, ?_, ?_⟩,
      ⟨({ run.fset CAL_STATUS_RUNNING 1 with cal := { run.cal with groups := [5], held := [5] } }), 5, 16, 500, ?_, ?_, ?_, ?_, ?_, ?_⟩,
      ⟨({ run.fset CAL_STATUS_RUNNING 1 with cal := { run.cal with groups := [5], held := [5] } }), 5, 16, (-501), ?_, ?_, ?_, ?_, ?_, ?_⟩⟩ <;> decide +kernel

theorem witness_HearthsLeaveService :
    (∃ (s : State) (q : Requester), s.up = true ∧ s.isHolder q = true ∧ s.now < s.hrt.leaseEnd) ∧
    (∃ (s : State) (q : Requester), s.up = true ∧ s.isHolder q = false) ∧
    (∃ (s : State) (h : Hearth), s.up = true ∧ s.hrt.holder = some h ∧ (s.hearth h).st = .active ∧
      s.hrt.leaseEnd ≤ s.now) ∧
    (∃ (s : State) (q : Requester) (h : Hearth) (i : Instr) (cause : Nat), s.takes q = true ∧ s.up = true ∧
      s.serves h = true ∧ (i, cause) ∈ [(Instr.hearthMemUncorr h, 3), (.hearthWatchdog h, 4), (.hrtCinder q h, 7)]) ∧
    (∃ (s : State) (h : Hearth) (crossed : List Byte) (i : Instr) (cause : Nat), s.up = true ∧
      (s.hearth h).st ≠ .offline ∧ (i, cause) ∈ [(Instr.islandPowerFail h, 8), (.clockAbsentDeclared (.hearth h) crossed, 9)]) ∧
    (∃ (s : State) (h : Hearth), s.up = true ∧ (s.hearth h).causeHolds = true) ∧
    (∃ (s : State) (h : Hearth), s.up = true ∧ s.hrt.holder = some h) := by
  refine ⟨⟨({ held with hrt := { held.hrt with leaseEnd := 1 } }), .hearthB, ?_, ?_, ?_⟩,
      ⟨run, .uart, ?_, ?_⟩,
      ⟨held, .b, ?_, ?_, ?_, ?_⟩,
      ⟨paired, .uart, .b, (.hrtCinder .uart .b), 7, ?_, ?_, ?_, ?_⟩,
      ⟨paired, .b, ([]), (.clockAbsentDeclared (.hearth .b) []), 9, ?_, ?_, ?_⟩,
      ⟨({ held with hrt := { held.hrt with b := { held.hrt.b with causeHolds := true } } }), .b, ?_, ?_⟩,
      ⟨held, .b, ?_, ?_⟩⟩ <;> decide +kernel

theorem witness_TakeoversRun :
    (∃ (s : State), s.up = true ∧ s.hrt.holder = none ∧ s.stageIs .free = true ∧ s.mayClaim .a = true) ∧
    (∃ (s : State) (h : Hearth), s.up = true ∧ s.hrt.holder = some h ∧ s.stageIs .claimed = true) ∧
    (∃ (s : State), s.up = true ∧ s.stageIs .innerLocked = true) ∧
    (∃ (s : State) (h : Hearth), s.up = true ∧ s.hrt.holder = some h ∧ s.stageIs .matched = true) ∧
    (∃ (s : State) (h : Hearth), s.up = true ∧ s.hrt.holder = some h ∧ s.stageIs .claimed = true ∧
      s.freeFor 120000 = true) ∧
    (∃ (s : State) (h : Hearth), s.up = true ∧ s.hrt.holder = some h ∧ s.fbit HRT_STATUS_LONG_TAKEOVER = true ∧
      s.stageIs .moved = false ∧ s.freeFor 5000000 = true ∧ (s.hearth h).st = .active) ∧
    (∃ (s : State), s.up = true ∧ s.hrt.holder = none ∧ s.takingOver = true ∧ s.stageIs .free = true ∧
      s.freeFor 150000 = true) ∧
    (∃ (s : State) (h : Hearth), s.up = true ∧ s.hrt.holder = some h ∧ s.stageIs .moved = true) ∧
    (∃ (s : State), s.up = true ∧ s.hrt.holder = none ∧ s.stageIs .free = true ∧ s.mayClaim .a = false ∧
      s.mayClaim .b = true) := by
  refine ⟨⟨({ run with hrt := { paired.hrt with holder := none, takeover := some ⟨1, .b, 0, 0, .free⟩ } }), ?_, ?_, ?_, ?_⟩,
      ⟨(takes .claimed), .b, ?_, ?_, ?_⟩,
      ⟨(takes .innerLocked), ?_, ?_⟩,
      ⟨(takes .matched), .b, ?_, ?_, ?_⟩,
      ⟨(late (takes .claimed)), .b, ?_, ?_, ?_, ?_⟩,
      ⟨(late ((takes .claimed).fset HRT_STATUS_LONG_TAKEOVER 1)), .b, ?_, ?_, ?_, ?_, ?_, ?_⟩,
      ⟨(late ({ takes .free with hrt := { (takes .free).hrt with holder := none } })), ?_, ?_, ?_, ?_, ?_⟩,
      ⟨(takes .moved), .b, ?_, ?_, ?_⟩,
      ⟨({ run with hrt := { standbyB.hrt with holder := none, takeover := some ⟨1, .a, 0, 0, .free⟩ } }), ?_, ?_, ?_, ?_, ?_⟩⟩ <;> decide +kernel

theorem witness_HearthsAreTested :
    (∃ (s : State) (q : Requester), s.takes q = true ∧ s.up = true ∧ s.fbit HRT_CMD_HANDOVER = false ∧
      s.handoverReason = 0) ∧
    (∃ (s : State) (q : Requester), s.takes q = true ∧ s.up = true ∧ s.fbit HRT_CMD_HANDOVER = false ∧
      s.handoverReason ≠ 0) ∧
    (∃ (s : State) (h : Hearth), s.up = true ∧ s.hrt.handover = .waiting ∧ s.hrt.holder = some h ∧
      s.inStep = true ∧ s.hrt.takeover = none) ∧
    (∃ (s : State) (q : Requester) (h : Hearth), s.takes q = true ∧ s.up = true ∧ s.hrt.holder ≠ some h) ∧
    (∃ (s : State) (h : Hearth), s.hrt.holder = some h) ∧
    (∃ (s : State) (h : Hearth), s.up = true ∧ s.hrt.holder ≠ some h ∧ (s.hearth h).autoDue = true ∧
      s.fbit HRT_LEASE_CFG_AUTO_RESTART = true ∧ 0 < s.fget (HRT_CAUSE_AUTO_LEFT (hearthIx h))) ∧
    (∃ (s : State), s.up = true) ∧
    (∃ (s : State) (h : Hearth), s.up = true ∧ (s.hearth h).restarting = true ∧ (s.hearth h).verified = true ∧
      (s.hearth h).causeHolds = false ∧ (s.fw (hearthIx h)).starting = none) ∧
    (∃ (s : State) (q : Requester) (h : Hearth) (i : Instr), s.takes q = true ∧ s.up = true ∧ s.standby = some h ∧
      (s.hearth h).testing = false ∧ (i = .selfTestRetry → (s.hearth h).fails ≠ 0) ∧
      i ∈ [Instr.hrtTest q, .selfTestPeriodic, .selfTestRetry]) ∧
    (∃ (s : State) (h : Hearth) (lockUs : Nat), s.up = true ∧ s.standby = some h ∧ (s.hearth h).testing = true ∧
      ((s.hearth h).fails = 0 ∨ lockUs ≤ 133)) ∧
    (∃ (s : State) (h : Hearth) (g : Hearth), s.up = true ∧ s.standby = some h ∧ s.hrt.holder = some g ∧
      (s.hearth h).inStep = true ∧ s.mixed = false) ∧
    (∃ (s : State) (h : Hearth) (g : Hearth), s.up = true ∧ s.standby = some h ∧ s.hrt.holder = some g ∧ g ≠ h ∧
      s.hrt.diagnosis = true ∧ (∀ n, s.hrt.lastPass = some n → n + minuteNs < s.now)) ∧
    (∃ (s : State) (h : Hearth) (g : Hearth), s.up = true ∧ s.standby = some h ∧ s.hrt.holder = some g ∧ g ≠ h ∧
      s.hrt.diagnosis = true) ∧
    (∃ (s : State) (h : Hearth) (g : Hearth), s.up = true ∧ s.hrt.resync = some h ∧ s.hrt.holder = some g ∧ g ≠ h ∧
      s.serves h = true) ∧
    (∃ (s : State) (h : Hearth) (lockUs : Nat), s.up = true ∧ s.standby = some h ∧
      s.hrt.holder = some (otherHearth h) ∧ (s.hearth h).testing = true ∧ 1 ≤ (s.hearth h).fails ∧ 133 < lockUs) ∧
    (∃ (s : State) (h : Hearth) (g : Hearth) (n : Nat), s.up = true ∧ s.standby = some h ∧ s.hrt.holder = some g ∧
      g ≠ h ∧ s.hrt.diagnosis = true ∧ s.hrt.lastPass = some n ∧ s.now ≤ n + minuteNs) ∧
    (∃ (s : State) (h : Hearth) (g : Hearth), s.up = true ∧ s.standby = some h ∧ s.hrt.holder = some g ∧ g ≠ h ∧
      (s.hearth g).st = .active ∧ s.hrt.diagnosis = true) := by
  refine ⟨⟨paired, .uart, ?_, ?_, ?_, ?_⟩,
      ⟨run, .uart, ?_, ?_, ?_, ?_⟩,
      ⟨({ paired with hrt := { paired.hrt with handover := .waiting } }), .b, ?_, ?_, ?_, ?_, ?_⟩,
      ⟨paired, .uart, .a, ?_, ?_, ?_⟩,
      ⟨held, .b, ?_⟩,
      ⟨({ held.fset HRT_LEASE_CFG_AUTO_RESTART 1 with hrt := { held.hrt with a := { held.hrt.a with autoDue := true } } }), .a, ?_, ?_, ?_, ?_, ?_⟩,
      ⟨run, ?_⟩,
      ⟨({ standbyB with hrt := { standbyB.hrt with b := { standbyB.hrt.b with st := .offline, restarting := true } } }), .b, ?_, ?_, ?_, ?_, ?_⟩,
      ⟨({ standbyB with hrt := { standbyB.hrt with b := { standbyB.hrt.b with fails := 1 } } }), .uart, .b, .selfTestRetry, ?_, ?_, ?_, ?_, ?_, ?_⟩,
      ⟨({ standbyB with hrt := { standbyB.hrt with b := { standbyB.hrt.b with testing := true } } }), .b, 134, ?_, ?_, ?_, ?_⟩,
      ⟨standbyB, .b, .a, ?_, ?_, ?_, ?_, ?_⟩,
      ⟨({ standbyB with hrt := { standbyB.hrt with diagnosis := true } }), .b, .a, ?_, ?_, ?_, ?_, ?_, ?_⟩,
      ⟨({ standbyB with hrt := { standbyB.hrt with diagnosis := true } }), .b, .a, ?_, ?_, ?_, ?_, ?_⟩,
      ⟨({ standbyB with hrt := { standbyB.hrt with resync := some .b } }), .b, .a, ?_, ?_, ?_, ?_, ?_⟩,
      ⟨({ standbyB with hrt := { standbyB.hrt with b := { standbyB.hrt.b with testing := true, fails := 1 } } }), .b, 134, ?_, ?_, ?_, ?_, ?_, ?_⟩,
      ⟨({ standbyB with hrt := { standbyB.hrt with diagnosis := true, lastPass := some 5 } }), .b, .a, 5, ?_, ?_, ?_, ?_, ?_, ?_, ?_⟩,
      ⟨({ standbyB with hrt := { standbyB.hrt with diagnosis := true } }), .b, .a, ?_, ?_, ?_, ?_, ?_, ?_⟩⟩ <;> decide +kernel

theorem witness_DownloadsRun :
    (∃ (s : State) (q : Requester) (target : BitVec 5), s.takes q = true ∧ s.up = true ∧ s.upd.parts.length = 4 ∧
      s.beginReason target.toNat (s.fget UPD_LENGTH_LENGTH) = 0) ∧
    (∃ (s : State) (q : Requester) (target : BitVec 5), s.takes q = true ∧ s.up = true ∧
      s.beginReason target.toNat (s.fget UPD_LENGTH_LENGTH) ≠ 0) ∧
    (∃ (s : State), s.up = true ∧ s.upd.down = .erasing) ∧
    (∃ (s : State), s.up = true ∧ s.upd.down = .erasing) ∧
    (∃ (s : State) (q : Requester) (data : Word), s.takes q = true ∧ s.up = true ∧ s.upd.down = .receiving ∧
      s.upd.owner = some q ∧ s.upd.data.length + 4 ≤ s.upd.length) ∧
    (∃ (s : State) (q : Requester), s.takes q = true ∧ s.up = true ∧ s.upd.down = .receiving ∧
      s.upd.owner = some q ∧ s.upd.data.length = s.upd.length ∧ s.upd.parts.length = 4 ∧ s.upd.targets ≠ 16 ∧
      s.headerReason s.upd.data = 0) ∧
    (∃ (s : State) (q : Requester), s.takes q = true ∧ s.up = true ∧ s.upd.down = .receiving ∧
      s.upd.owner = some q ∧ s.upd.data.length = s.upd.length ∧ s.upd.parts.length = 4 ∧
      s.headerReason s.upd.data ≠ 0) ∧
    (∃ (s : State) (q : Requester), s.takes q = true ∧ s.up = true ∧ s.upd.down ∈ [DownState.erasing, .receiving] ∧
      s.upd.owner = some q) ∧
    (∃ (s : State), s.up = true ∧ s.upd.down ∈ [DownState.erasing, .receiving]) ∧
    (∃ (s : State) (b : Nat), s.up = true ∧ s.upd.down = .closing ∧ s.cfg.updateBank = some b ∧ b < 2) ∧
    (∃ (s : State) (b : Nat), s.up = true ∧ s.upd.down = .closing ∧ s.cfg.updateBank = some b ∧ b < 2) ∧
    (∃ (s : State) (q : Requester) (c : List Byte) (good : Bool), s.takes q = true ∧ s.up = true ∧
      s.upd.down = .receiving ∧ s.upd.owner = some q ∧ s.upd.data.length = s.upd.length ∧ s.upd.targets = 16 ∧
      s.headerReason s.upd.data = 0 ∧ c = cfgPayload s.upd.data ∧
      good = (Config.signatureOk s.upd.data && Config.tagOk s.upd.data && cfgHeader c && s.headerPart c && cfgCrc c)) ∧
    (∃ (s : State) (q : Requester) (data : Word) (full : Bool) (flashFails : Bool), s.takes q = true ∧
      s.up = true ∧ s.upd.down = .receiving ∧ s.upd.owner = some q ∧
      (s.upd.length < s.upd.data.length + 4 ∨ full = true ∨ flashFails = true)) := by
  refine ⟨⟨({ (fwOf2 part0).fset UPD_LENGTH_LENGTH 176 with cfg := run.cfg }), .uart, 15, ?_, ?_, ?_, ?_⟩,
      ⟨(fwOf2 part0), .uart, 15, ?_, ?_, ?_⟩,
      ⟨(down .erasing), ?_, ?_⟩,
      ⟨(down .erasing), ?_, ?_⟩,
      ⟨({ down .receiving with upd := { (down .receiving).upd with length := 4 } }), .uart, 0xFFFFFFFF, ?_, ?_, ?_, ?_, ?_⟩,
      ⟨({ down .receiving with upd := { (down .receiving).upd with targets := 3, data := header 1 } }), .uart, ?_, ?_, ?_, ?_, ?_, ?_, ?_, ?_⟩,
      ⟨({ down .receiving with upd := { (down .receiving).upd with targets := 3, data := header 9 } }), .uart, ?_, ?_, ?_, ?_, ?_, ?_, ?_⟩,
      ⟨(down .receiving), .uart, ?_, ?_, ?_, ?_⟩,
      ⟨(down .receiving), ?_, ?_⟩,
      ⟨({ down .closing with cfg := { run.cfg with updateBank := some 1, updateImage := [1, 2] } }), 1, ?_, ?_, ?_, ?_⟩,
      ⟨({ down .closing with cfg := { run.cfg with updateBank := some 1, updateImage := [1, 2] } }), 1, ?_, ?_, ?_, ?_⟩,
      ⟨downCfg, .uart, (cfgPayload (downCfg).upd.data), ((Config.signatureOk (downCfg).upd.data && Config.tagOk (downCfg).upd.data && cfgHeader (cfgPayload (downCfg).upd.data) && (downCfg).headerPart (cfgPayload (downCfg).upd.data) && cfgCrc (cfgPayload (downCfg).upd.data))), ?_, ?_, ?_, ?_, ?_, ?_, ?_, rfl, rfl⟩,
      ⟨({ down .receiving with upd := { (down .receiving).upd with length := 4 } }), .uart, 0xFFFFFFFF, true, false, ?_, ?_, ?_, ?_, ?_⟩⟩ <;> decide +kernel

theorem witness_TrialsEnd :
    (∃ (s : State) (q : Requester) (p : Fin 4), s.takes q = true ∧ s.up = true ∧ s.upd.parts.length = 4 ∧
      s.activateReason p = 0 ∧ (s.fw p).trial = none ∧ (s.fw p).active < 2) ∧
    (∃ (s : State) (q : Requester) (p : Fin 4), s.takes q = true ∧ s.up = true ∧ s.activateReason p ≠ 0) ∧
    (∃ (s : State) (q : Requester) (p : Fin 4) (b : Nat), s.takes q = true ∧ s.up = true ∧ s.upd.parts.length = 4 ∧
      (s.fw p).trial = some b ∧ ((s.fw p).bank (1 - b)).status ≠ 4 ∧
      (2 ≤ p.val ∨ s.hrt.holder ≠ some (partHearth p))) ∧
    (∃ (s : State) (p : Fin 4), (s.fw p).trial = none) ∧
    (∃ (s : State) (q : Requester) (p : Nat), s.takes q = true ∧ s.up = true ∧ s.trialPart = some p) ∧
    (∃ (s : State) (p : Nat) (b : Nat), s.up = true ∧ s.upd.parts.length = 4 ∧ s.trialPart = some p ∧
      (s.fw p).trial = some b ∧ s.mayConfirm p = true ∧ (s.fw p).windowAt + s.soakNs ≤ s.now) ∧
    (∃ (s : State) (p : Nat) (b : Nat), s.up = true ∧ s.upd.parts.length = 4 ∧ s.trialPart = some p ∧
      (s.fw p).trial = some b ∧ ((s.fw p).bank (1 - b)).status ≠ 4 ∧ (2 ≤ p ∨ s.hrt.holder ≠ some (partHearth p)) ∧
      (s.fw p).windowAt + s.windowS * 1000000000 ≤ s.now) ∧
    (∃ (s : State) (b : Nat), s.up = true ∧ s.upd.parts.length = 4 ∧ s.trialPart = some 0 ∧
      (s.fw 0).trial = some b ∧ s.hrt.holder = some .a ∧ s.inStep = false ∧
      (s.fw 0).windowAt + s.windowS * 1000000000 ≤ s.now) ∧
    (∃ (s : State), s.up = true ∧ (s.fw 2).running.isSome = true ∧ s.upd.parts.length = 4) ∧
    (∃ (s : State), s.up = true ∧ (s.fw 3).running.isSome = true ∧ s.upd.parts.length = 4) ∧
    (∃ (s : State), s.up = true ∧ s.links.ctlRestart = true ∧ (s.fw 2).starting = none) ∧
    (∃ (s : State) (q : Requester) (p : Fin 4) (b : Nat), s.takes q = true ∧ s.up = true ∧ s.upd.parts.length = 4 ∧
      (s.fw p).trial = some b ∧ p.val < 2 ∧ s.hrt.holder = some (partHearth p) ∧ s.inStep = true ∧
      ((s.fw p).bank (1 - b)).status ≠ 4) ∧
    (∃ (s : State) (q : Requester) (p : Fin 4) (b : Nat), s.takes q = true ∧ s.up = true ∧ s.upd.parts.length = 4 ∧
      (s.fw p).trial = some b ∧ p.val < 2 ∧ s.hrt.holder = some (partHearth p) ∧ s.inStep = false) := by
  refine ⟨⟨(fwOf2 { part0 with bank1 := ⟨2, .written (header 1)⟩ }), .uart, 3, ?_, ?_, ?_, ?_, ?_, ?_⟩,
      ⟨(fwOf2 part0), .uart, 3, ?_, ?_, ?_⟩,
      ⟨(fwOf2 { part0 with bank1 := ⟨4, .written (header 1)⟩ }), .uart, 3, 1, ?_, ?_, ?_, ?_, ?_, ?_⟩,
      ⟨run, 3, ?_⟩,
      ⟨(fwOf2 { part0 with bank1 := ⟨4, .written (header 1)⟩ }), .uart, 0, ?_, ?_, ?_⟩,
      ⟨(late ({ run with upd := { run.upd with parts := [part0, part0, { part0 with bank1 := ⟨4, .written (header 2)⟩, running := some 1 }, part0], fuse := some 0 } })), 2, 1, ?_, ?_, ?_, ?_, ?_, ?_⟩,
      ⟨(late ({ run with upd := { run.upd with parts := [part0, part0, part0, { part0 with bank1 := ⟨4, .written (header 2)⟩ }], fuse := some 0 } })), 3, 1, ?_, ?_, ?_, ?_, ?_, ?_, ?_⟩,
      ⟨(late ({ fwOf2 { part0 with bank1 := ⟨4, .written (header 1)⟩ } with hrt := { run.hrt with holder := some .a, a := ⟨.active, true, false, false, false, false, 0, false, none⟩ } })), 1, ?_, ?_, ?_, ?_, ?_, ?_, ?_⟩,
      ⟨(fwOf2 { part0 with running := some 0 }), ?_, ?_, ?_⟩,
      ⟨(fwOf2 { part0 with running := some 0 }), ?_, ?_, ?_⟩,
      ⟨({ run with links := { run.links with ctlRestart := true }, upd := (fwOf2 part0).upd }), ?_, ?_, ?_⟩,
      ⟨({ standbyB with upd := (fwOf2 { part0 with bank1 := ⟨4, .written (header 1)⟩ }).upd }), .uart, 0, 1, ?_, ?_, ?_, ?_, ?_, ?_, ?_, ?_⟩,
      ⟨({ held with upd := (fwOf2 { part0 with bank1 := ⟨4, .written (header 1)⟩ }).upd }), .uart, 1, 1, ?_, ?_, ?_, ?_, ?_, ?_, ?_⟩⟩ <;> decide +kernel

theorem witness_CountersAreRead :
    (∃ (s : State) (q : Requester), s.takes q = true ∧ s.up = true) ∧
    (∃ (s : State) (q : Requester), s.takes q = true ∧ s.up = true) ∧
    (∃ (s : State) (q : Requester) (i : Instr) (v : Nat), s.takes q = true ∧ s.up = true ∧
      (i, v) ∈ [(Instr.cntFreeze q false, 1), (.cntThaw q false, 0)]) ∧
    (∃ (s : State) (q : Requester) (i : Instr) (op : Nat), s.takes q = true ∧ s.up = true ∧
      (i, op) ∈ [(Instr.cntSnapshot q true, 1), (.cntFreeze q true, 2), (.cntThaw q true, 3), (.cntSnapshotClear q true, 4)]) ∧
    (∃ (s : State) (q : Requester), s.takes q = true ∧ s.up = true) ∧
    (∃ (s : State) (ns : Nat), s.up = true ∧ s.cnt.timed = some (1, ns) ∧ ns * 2 ^ 48 ≤ s.time.clock) ∧
    (∃ (s : State) (w : Fin 64), s.up = true ∧ s.fbit (CNT_BW_CFG_ENABLE w) = true ∧ (s.bwOf w).running = true ∧
      s.bwDue w = true) ∧
    (∃ (s : State) (q : Requester) (r : CapRec) (rest : List CapRec), s.takes q = true ∧ s.up = true ∧
      s.cnt.ring = r :: rest ∧ reqIx q < s.cnt.bufs.length) ∧
    (∃ (s : State) (q : Requester), s.up = true ∧ reqIx q < s.cnt.bufs.length) ∧
    (∃ (s : State), s.up = true ∧ s.cnt.mirror ≠ [] ∧ s.fbit CNT_CAP_MIRROR_MIRROR_EN = true) ∧
    (∃ (s : State) (op : Nat) (ns : Nat), s.up = true ∧ s.cnt.timed = some (op, ns) ∧ op ∈ [2, 3] ∧
      ns * 2 ^ 48 ≤ s.time.clock) ∧
    (∃ (s : State) (ns : Nat), s.up = true ∧ s.cnt.timed = some (4, ns) ∧ ns * 2 ^ 48 ≤ s.time.clock) ∧
    (∃ (s : State), s.up = true ∧ (∀ a, s.cnt.timed = some a → s.time.clock < a.2 * 2 ^ 48)) := by
  refine ⟨⟨run, .uart, ?_, ?_⟩,
      ⟨run, .uart, ?_, ?_⟩,
      ⟨run, .uart, (.cntThaw .uart false), 0, ?_, ?_, ?_⟩,
      ⟨run, .uart, (.cntSnapshotClear .uart true), 4, ?_, ?_, ?_⟩,
      ⟨run, .uart, ?_, ?_⟩,
      ⟨(late ({ run with cnt := { run.cnt with timed := some (1, 1999999999) } })), 1999999999, ?_, ?_, ?_⟩,
      ⟨(late ({ run.fset (CNT_BW_CFG_ENABLE 63) 1 with cnt := { run.cnt with wins := [(63, ⟨true, 0, 5, 2 ^ 32, false, false, false⟩)] } })), 63, ?_, ?_, ?_, ?_⟩,
      ⟨({ run with cnt := { run.cnt with ring := [⟨1, [1]⟩] } }), .uart, (⟨1, [1]⟩), ([]), ?_, ?_, ?_, ?_⟩,
      ⟨run, .uart, ?_, ?_⟩,
      ⟨({ run.fset CNT_CAP_MIRROR_MIRROR_EN 1 with cnt := { run.cnt with mirror := [⟨1, List.replicate 160 0⟩] } }), ?_, ?_, ?_⟩,
      ⟨(late ({ run with cnt := { run.cnt with timed := some (2, 1999999999) } })), 2, 1999999999, ?_, ?_, ?_, ?_⟩,
      ⟨(late ({ run with cnt := { run.cnt with timed := some (4, 1999999999) } })), 1999999999, ?_, ?_, ?_⟩,
      ⟨({ run with cnt := { run.cnt with timed := some (4, 1999999999) } }), ?_, ?_⟩⟩ <;> decide +kernel

theorem witness_AgentAnswers :
    (∃ (s : State) (r : AgentReq) (rest : List AgentReq) (i : Instr), s.inService = true ∧
      s.mgt.requests = r :: rest ∧ r.auth = false ∧ s.openAccess = true ∧ r.bootId = s.getReg MGT_BOOT_ID ∧
      r.formed = true ∧ (i, r.type) ∈ [(Instr.mgmtRead, 1), (.mgmtReadRepeat, 4), (.mgmtHealth, 6)]) ∧
    (∃ (s : State) (r : AgentReq) (rest : List AgentReq) (i : Instr), s.inService = true ∧
      s.mgt.requests = r :: rest ∧ r.auth = false ∧ s.openAccess = true ∧ r.bootId = s.getReg MGT_BOOT_ID ∧
      r.formed = true ∧ r.length = 8 ∧ r.word 0 = UPD_LENGTH ∧
      (i, r.type) ∈ [(Instr.mgmtWrite, 2), (.mgmtWriteRepeat, 3)]) ∧
    (∃ (s : State) (r : AgentReq) (rest : List AgentReq), s.inService = true ∧ s.mgt.requests = r :: rest ∧
      r.auth = false ∧ s.openAccess = true ∧ r.bootId = s.getReg MGT_BOOT_ID ∧ r.formed = true ∧ r.type = 5) ∧
    (∃ (s : State) (r : AgentReq) (rest : List AgentReq) (i : Instr), s.inService = true ∧
      s.mgt.requests = r :: rest ∧ r.auth = true ∧ s.tagGood r = false ∧
      (i, r.served) ∈ [(Instr.mgmtRead, 1), (.mgmtWrite, 2), (.mgmtWriteRepeat, 3), (.mgmtReadRepeat, 4), (.mgmtReset, 5), (.mgmtHealth, 6)]) ∧
    (∃ (s : State) (at_ : Nat), s.inService = true ∧ s.mgt.notify = some at_ ∧ s.fbit MGT_NOTIFY_CFG_EN = true ∧
      s.heldOff s.mgt.notifySent = false) ∧
    (∃ (s : State), s.inService = true ∧ s.mgt.healthDue = true ∧ s.fbit MGT_NOTIFY_CFG_HEALTH_EN = true ∧
      s.heldOff s.mgt.healthSent = false) ∧
    (∃ (s : State) (q : Requester), s.takes q = true ∧ s.up = true) ∧
    (∃ (s : State) (i : Instr), s.up = true ∧ s.countsOk = true ∧ s.fbit GLB_PWR_STATUS_OV_WARN = false ∧
      i ∈ [Instr.ilimReached, .ovWarn]) := by
  refine ⟨⟨(agent (msg 4 0 (beBytes 4 UPD_LENGTH ++ beBytes 4 2))), (rq 4 0 (beBytes 4 UPD_LENGTH ++ beBytes 4 2)), ([]), .mgmtReadRepeat, ?_, ?_, ?_, ?_, ?_, ?_, ?_⟩,
      ⟨(agent (msg 2 0 (beBytes 4 UPD_LENGTH ++ beBytes 4 0xFFFFFFFF))), (rq 2 0 (beBytes 4 UPD_LENGTH ++ beBytes 4 0xFFFFFFFF)), ([]), .mgmtWrite, ?_, ?_, ?_, ?_, ?_, ?_, ?_, ?_, ?_⟩,
      ⟨(agent (msg 5 0 [0xC3, 0xA5])), (rq 5 0 [0xC3, 0xA5]), ([]), ?_, ?_, ?_, ?_, ?_, ?_, ?_⟩,
      ⟨(agent (msg 6 1 [])), (rq 6 1 []), ([]), .mgmtHealth, ?_, ?_, ?_, ?_, ?_⟩,
      ⟨({ (run.fset MGT_NOTIFY_CFG_EN 1).fset (PORT_STATUS_LINK 0) 1 with mgt := { run.mgt with notify := some 5 } }), 5, ?_, ?_, ?_, ?_⟩,
      ⟨({ (run.fset MGT_NOTIFY_CFG_HEALTH_EN 1).fset (PORT_STATUS_LINK 0) 1 with mgt := { run.mgt with healthDue := true } }), ?_, ?_, ?_, ?_⟩,
      ⟨({ run with mgt := { run.mgt with latched := 0x3FFF, counts := List.replicate 14 255 } }), .uart, ?_, ?_⟩,
      ⟨run, .ovWarn, ?_, ?_, ?_, ?_⟩⟩ <;> decide +kernel

theorem witness_PortsAnswer :
    (∃ (s : State), s.consoleOn = true) ∧
    (∃ (s : State), s.consoleOn = true ∧ s.fbit MGT_UART_CFG_READ_ONLY = true) ∧
    (∃ (s : State), s.consoleOn = true ∧ s.fbit MGT_UART_CFG_READ_ONLY = false) ∧
    (∃ (s : State) (count : Word), s.consoleOn = true ∧ 0 < count.toNat ∧ count.toNat ≤ 256) ∧
    (∃ (s : State) (count : Word), s.consoleOn = true ∧ (count.toNat = 0 ∨ 256 < count.toNat)) ∧
    (∃ (s : State), s.consoleOn = true) ∧
    (∃ (s : State), s.consoleOn = true) ∧
    (∃ (s : State), s.consoleOn = true) ∧
    (∃ (s : State) (addr : Word) (value : Word) (count : Word) (i : Instr), s.consoleOn = false ∧
      i ∈ [Instr.uartRead addr, .uartWrite addr value, .uartReadRepeat addr count, .uartHealth, .uartAlarm, .uartBadLine]) ∧
    (∃ (s : State) (q : Requester) (command : Word), s.takes q = true ∧ s.up = true ∧
      s.fbit (MGT_I2C_CMD_GO (reqIx q)) = false ∧ s.cageOff (fieldOf command.toNat 20 4) = false) ∧
    (∃ (s : State) (q : Requester) (command : Word), s.takes q = true ∧ s.up = true ∧
      s.fbit (MGT_I2C_CMD_GO (reqIx q)) = false ∧ s.cageOff (fieldOf command.toNat 20 4) = true) ∧
    (∃ (s : State) (cage : Fin 16) (x : I2cOp) (rest : List I2cOp), s.up = true ∧ s.mgt.i2c = x :: rest ∧
      x.cage = cage ∧ x.read = true ∧ x.len = 4) ∧
    (∃ (s : State) (load : BitVec 288) (i : Instr) (code : Nat), s.life ≠ .dormant ∧ s.power.scanHold = false ∧
      (i, code) ∈ [(Instr.jtagExtest load, 0), (.jtagClamp, 3), (.jtagHighz, 4)]) ∧
    (∃ (s : State), s.life ≠ .dormant ∧ s.power.scanHold = false) ∧
    (∃ (s : State), s.life ≠ .dormant ∧ s.power.scanHold = false) ∧
    (∃ (s : State) (i : Instr) (code : Nat), s.life ≠ .dormant ∧ s.power.scanHold = false ∧
      (i, code) ∈ [(Instr.jtagBypass, 0xFF), (.jtagTestExit, 2)]) ∧
    (∃ (s : State) (pins : BitVec 288) (load : BitVec 288) (i : Instr), s.life ≠ .dormant ∧
      s.power.scanHold = true ∧ i ∈ [Instr.jtagSamplePreload pins load, .jtagIdcode, .jtagBypass, .jtagTestExit]) ∧
    (∃ (s : State), s.consoleOn = true ∧ s.up = true ∧ s.fbit MGT_UART_CFG_READ_ONLY = false) ∧
    (∃ (s : State) (cage : Fin 16) (x : I2cOp) (rest : List I2cOp), s.up = true ∧
      takeOp cage s.mgt.i2c = some (x, rest)) := by
  refine ⟨⟨console, ?_⟩,
      ⟨(console.fset MGT_UART_CFG_READ_ONLY 1), ?_, ?_⟩,
      ⟨(console.fset MGT_UART_CFG_READ_ONLY 0), ?_, ?_⟩,
      ⟨console, 256, ?_, ?_, ?_⟩,
      ⟨console, 257, ?_, ?_⟩,
      ⟨console, ?_⟩,
      ⟨console, ?_⟩,
      ⟨console, ?_⟩,
      ⟨(console.fset MGT_UART_CFG_EN 0), 0xFFFFFFFF, 0xFFFFFFFF, 0xFFFFFFFF, .uartAlarm, ?_, ?_⟩,
      ⟨({ run with links := { run.links with cageUp := [15] } }), .uart, 0x04F00000, ?_, ?_, ?_, ?_⟩,
      ⟨run, .uart, 0x04F00000, ?_, ?_, ?_, ?_⟩,
      ⟨({ run with mgt := { run.mgt with i2c := [⟨.uart, 15, true, 4⟩] } }), 15, (⟨.uart, 15, true, 4⟩), ([]), ?_, ?_, ?_, ?_, ?_⟩,
      ⟨run, 5, (.jtagExtest 5), 0, ?_, ?_, ?_⟩,
      ⟨run, ?_, ?_⟩,
      ⟨run, ?_, ?_⟩,
      ⟨run, .jtagTestExit, 2, ?_, ?_, ?_⟩,
      ⟨({ State.reset with power := { run.power with scanHold := true } }), 5, 5, .jtagBypass, ?_, ?_, ?_⟩,
      ⟨(console.fset MGT_UART_CFG_READ_ONLY 0), ?_, ?_, ?_⟩,
      ⟨({ run with mgt := { run.mgt with i2c := [⟨.uart, 14, true, 4⟩, ⟨.uart, 15, true, 2⟩] } }), 15, (⟨.uart, 15, true, 2⟩), ([⟨.uart, 14, true, 4⟩]), ?_, ?_⟩⟩ <;> decide +kernel

theorem witness_RunningActionsIgnoreStarts :
    (∃ (s : State) (q : Requester) (n : Fin 64) (crossed : List Byte) (k : Fin 16) (po : Fin 8) (i : Instr) (runs : Bool), (i, runs) ∈ [(Instr.laneCmdRestart q n crossed, s.fbit (LANE_CMD_RESTART n)), (.clklConfirm q k, s.fbit (CLKL_SLIP_CONFIRM k)), (.persistStart q 1, s.cfg.persist.isSome), (.peatRestart q, s.buf.peatRestart), (.poAlign po, s.fbit (SYN_PO_STATUS_ALIGNING po)), (.nibRestart q, s.fbit NIB_CTRL_RESTART), (.hrtHandover q, s.fbit HRT_CMD_HANDOVER)] ∧ runs = true) ∧
    (∃ (s : State) (q : Requester), s.takes q = true ∧ s.up = true ∧ s.fbit FWD_LEARN_CMD_FLUSH = true) ∧
    (∃ (s : State) (q : Requester), s.takes q = true ∧ s.up = true ∧ s.fbit CAL_STATUS_RUNNING = true) ∧
    (∃ (s : State) (q : Requester), s.takes q = true ∧ s.up = true ∧ s.fbit (MGT_I2C_CMD_GO (reqIx q)) = true) := by
  refine ⟨⟨({ run.fset (LANE_CMD_RESTART 63) 1 with buf := { run.buf with peatRestart := true } }), .uart, 63, ([]), 15, 7, (.peatRestart .uart), true, ?_, ?_⟩,
      ⟨(run.fset FWD_LEARN_CMD_FLUSH 1), .uart, ?_, ?_, ?_⟩,
      ⟨(run.fset CAL_STATUS_RUNNING 1), .uart, ?_, ?_, ?_⟩,
      ⟨(run.fset (MGT_I2C_CMD_GO 3) 1), .uart, ?_, ?_, ?_⟩⟩ <;> decide +kernel

theorem witness_QuotaBoundsQueue :
    (∃ (s : State) (n : Nat) (q : Nat) (pool : Nat), s.judge n q pool = none) ∧
    (∃ (s : State) (n : Nat) (q : Nat), s.fget (BUF_QUOTA_QUOTA n q) = 0) ∧
    (∃ (s : State) (p : Fin 64) (c : ResCopy), s.fwd.residue = [c] ∧ c.port = p ∧
      s.fget (BUF_QUOTA_QUOTA p c.info.queue) = 0) := by
  refine ⟨⟨((queued 0 []).fset (PORT_STATUS_LINK 63) 1), 63, 0, 0, ?_⟩,
      ⟨((queued 0 []).fset (BUF_QUOTA_QUOTA 63 9) 0), 63, 9, ?_⟩,
      ⟨((({ queued 0 [] with fwd := { run.fwd with residue := [⟨63, 0, info 3⟩] } }).fset (PORT_STATUS_LINK 63) 1).fset (BUF_QUOTA_QUOTA 63 0) 0), 63, (⟨63, 0, info 3⟩), ?_, ?_, ?_⟩⟩ <;> decide +kernel

theorem witness_FullBufferKeepsOldest :
    (∃ (s : State) (n : Fin 16) (falling : Bool) (stamp : Nat), s.up = true ∧ s.hasEvent n = true ∧
      s.fbit (NIB_CFG_ENABLE n) = true ∧ s.edgeSelected n falling = true ∧
      s.fbit GLB_XING_DOMAIN_NIB_INVALID = false ∧ s.fbit NIB_CTRL_RESTART = false ∧
      (∀ l, (s.nibIn n).last = some l → l + 3200 ≤ stamp) ∧ s.nibIntervals n = false ∧
      (s.nibIn n).entries.length = 4096) ∧
    (∃ (s : State) (n : Fin 16) (falling : Bool) (stamp : Nat), s.up = true ∧ s.hasEvent n = true ∧
      s.fbit (NIB_CFG_ENABLE n) = true ∧ s.edgeSelected n falling = true ∧
      s.fbit GLB_XING_DOMAIN_NIB_INVALID = false ∧ s.fbit NIB_CTRL_RESTART = false ∧
      (∀ l, (s.nibIn n).last = some l → l + 3200 ≤ stamp) ∧ s.nibIntervals n = false ∧
      (s.nibIn n).entries.length < 4096 ∧ (s.nibIn n).gapMark = true) := by
  refine ⟨⟨({ nibRun with nib := (nibs { inputIdle with last := some 0, entries := List.replicate 4096 entry }).nib }), 15, false, 3200, ?_, ?_, ?_, ?_, ?_, ?_, by intro l h; cases h; decide, ?_, ?_⟩,
      ⟨({ nibRun with nib := (nibs { inputIdle with last := some 0, gapMark := true }).nib }), 15, false, 3200, ?_, ?_, ?_, ?_, ?_, ?_, by intro l h; cases h; decide, ?_, ?_, ?_⟩⟩ <;> decide +kernel

theorem witness_CommitMarksPersist :
    (∃ (s : State) (p : Persist), s.up = true ∧ s.cfg.sess = .armed ∧ s.cfg.instant * 2 ^ 48 ≤ s.time.clock ∧
      s.cfg.persist = some p) ∧
    (∃ (s : State) (p : Persist), s.up = true ∧ s.cfg.persist = some p ∧ p.stale = true) ∧
    (∃ (s : State), s.cfg.persist.isSome = true) := by
  refine ⟨⟨({ session .armed with cfg := { (session .armed).cfg with owner := none, persist := some ⟨1, 7, [], false⟩ } }), (⟨1, 7, [], false⟩), ?_, ?_, ?_, ?_⟩,
      ⟨({ run with cfg := { run.cfg with persist := some ⟨1, 7, [], true⟩ } }), (⟨1, 7, [], true⟩), ?_, ?_, ?_⟩,
      ⟨({ run with cfg := { run.cfg with persist := some ⟨1, 7, [], true⟩ } }), ?_⟩⟩ <;> decide +kernel

theorem witness_StepRunsFront :
    (∃ (s : State) (c : Instr) (rest : List Instr), s.pending = c :: rest) ∧
    (∃ (s : State), s.pending = [] ∧ s.spineRuns = true) ∧
    (∃ (s : State), s.pending = [] ∧ s.spineRuns = false) := by
  refine ⟨⟨({ run with pending := [.uartAlarm] }), .uartAlarm, ([]), ?_⟩,
      ⟨run, ?_, ?_⟩,
      ⟨dormant, ?_, ?_⟩⟩ <;> decide +kernel

theorem witness_QueuesAreServed :
    (∃ (s : State) (n : Nat), n ≤ s.pending.length) := by
  refine ⟨({ run with pending := [.uartAlarm, .cntAbort .uart] }), 2, ?_⟩ <;> decide +kernel

theorem witness_HeldBlocksIgnore :
    (∃ (i : Instr) (s : State), s.up = false ∧
      (∀ early, i ∉ [Instr.vinBelowWarning early, .reverseCurrentTrip early, .overvoltageTimeout early, .currentLimitTimeout early, .thermalShutdown early, .enableLow early]) ∧ (∀ returned temp8, i ≠ .softStart returned temp8) ∧ i ∉ [Instr.softStartComplete, .powerDownRecordStored, .dormantReached, .dormantSecond, .rstNAssert, .rstNRelease, .jtagIdcode, .jtagClamp, .jtagHighz, .jtagBypass, .jtagTestExit] ∧ (∀ pins load, i ≠ .jtagExtest load ∧ i ≠ .jtagSamplePreload pins load)) := by
  refine ⟨.uartAlarm, ({ run with power := { run.power with rstLow := true } }), ?_, by intros; simp, by intros; simp, ?_, by intros; simp⟩ <;> decide +kernel

theorem witness_StepsKeepOk :
    (∃ (s : State) (t : State), s.ok = true ∧ step s = .next t) := by
  refine ⟨dormant, ({ dormant with resetFresh := false }), ?_, rfl⟩ <;> decide +kernel

/-! ## Ill-formed commands -/

theorem test_wf_sensor_readings : (Instr.tempSensorUpdate [] 0 0).wf = false := by decide

theorem test_wf_persist_result : (Instr.persistDone ⟨1, 0⟩).wf = false ∧
  (Instr.persistDone ⟨0, 65⟩).wf = false := by decide

theorem test_wf_bad_blocks : (Instr.configRewriteDone ⟨true, 65⟩ ⟨true, 0⟩).wf = false ∧
    (Instr.configRewriteDone ⟨true, 0⟩ ⟨true, 65⟩).wf = false := by decide

theorem test_wf_commit_lane : (Instr.commitApply [(64, [])]).wf = false := by decide

theorem test_wf_parse_window : (Instr.frameParse (.port 0) (List.replicate 97 0) true 0 false false).wf = false ∧
    (Instr.frameParse (.port 0) [0] false 0 false false).wf = false := by decide

theorem test_wf_quill_header : (Instr.quillFrameStart 0 [0] 0).wf = false := by decide

theorem test_wf_superframe : (Instr.superframeReceive 0 (some [0]) 0 ⟨0, []⟩).wf = false ∧
    (Instr.superframeReceive 0 none 0 ⟨0, [(41250, 0)]⟩).wf = false := by decide

theorem test_wf_calibration_group : (Instr.calApply [(6, 0, 0)]).wf = false := by decide

theorem test_wf_accepts : (Instr.persistDone ⟨4, 64⟩).wf = true ∧
  (Instr.quillFrameStart 0 (List.replicate 16 0) 0).wf = true ∧
    (Instr.superframeReceive 0 none 0 ⟨0, [(41249, 5)]⟩).wf = true := by decide

/-! ## Effects, from the spec's own numbers -/

/-- 03 R80: the check value over the nine ASCII bytes of "123456789". -/
theorem test_crc32c : crc32c [0x31, 0x32, 0x33, 0x34, 0x35, 0x36, 0x37, 0x38, 0x39] = 0xE3069283 := by decide +kernel

/-- 03, worked example: 4,000 records give a commit lead of 180 microseconds. -/
theorem test_commit_lead :
    ({ run with cfg := { run.cfg with records := List.replicate 4000 (.reg 0 0 0 false) } } : State).commitLead
      = 180000 := by decide +kernel

/-- 03, worked example: second 1,742,000,000 reads as 0x67D4_CF80. -/
theorem test_seconds :
    ({ run with time := { run.time with clock := 1742000000 * 1000000000 * 2 ^ 48 } } : State).busWord .uart TIME_SEC_LO
      = 0x67D4CF80 := by decide +kernel

/-- 04, worked example: a slip takes POS from 0 to 1, and ten slips bring it back to 0. -/
theorem test_slip : (match exec (.clklSlip .uart 3) run with | .next t => t.fget (CLKL_SLIP_POS 3) | _ => 99) = 1 := by
  decide +kernel

theorem test_slip_wraps :
    (match exec (.clklSlip .uart 3) (run.fset (CLKL_SLIP_POS 3) 9) with | .next t => t.fget (CLKL_SLIP_POS 3) | _ => 99)
      = 0 := by decide +kernel

/-- 05 R166: the last four bytes of a blot are the complement of the right FCS. -/
theorem test_blot : fcsGood (blotBytes [1, 2, 3]) = false ∧ fcsGood (withFcs [1, 2, 3]) = true ∧
    (blotBytes [1, 2, 3]).length = 7 := by decide +kernel

/-- 07, worked example: the threshold of a queue with k = +1 and of one with k = -2. -/
theorem test_threshold : thresholdAdmits 1 4095 2049 = true ∧ thresholdAdmits 1 4096 2048 = false ∧
    thresholdAdmits (-2) 409 1639 = true ∧ thresholdAdmits (-2) 410 1638 = false ∧
      thresholdAdmits 1 4096 1638 = false := by
  decide

/-- 08, worked example: RATE 0x29F1_6B12 adds 703,687,442 units to each spine cycle. -/
theorem test_rate :
    (match exec (.timeRateWrite .uart 0x29F16B12) (run.fset TIME_CTRL_MANUAL 1) with
      | .next t => t.spineCycle.time.clock
      | _ => 0) = 2 ^ 48 + 703687442 := by decide +kernel

/-- 08, worked example: a residence of 122.5 ns adds 0x7A_8000 to correctionField. -/
theorem test_correction : addCorrection 0 (245 * 65536 / 2) = (0x7A8000, false) := by decide

/-- 08 R260: an addition beyond 0x7FFF_FFFF_FFFF_FFFF is saturated. -/
theorem test_correction_saturates : addCorrection (2 ^ 63 - 1) 1 = (2 ^ 63 - 1, true) := by decide

/-- 08, worked example: AMOUNT 22,937,600 is a remainder of 350 ns. -/
theorem test_slew :
    (match exec (.timeSlew .uart 22937600) (run.fset TIME_CTRL_MANUAL 1) with
      | .next t => t.time.slew
      | _ => 0) = 350 * 2 ^ 48 := by decide +kernel

/-- 10, worked example: one hour of holdover grows the error by 18.415 us while the ember is UNLEARNED. -/
theorem test_growth :
    ({ run.fset TIME_STATE_STATE 3 with now := 3600 * 1000000000 } : State).growthPs = 18414720 := by decide +kernel

/-- 10, worked example: and by 1.495 us once it is learned. -/
theorem test_growth_learned :
    ({ (run.fset TIME_STATE_STATE 3).fset SYN_EMB_STATUS_UNLEARNED 0 with now := 3600 * 1000000000 } : State).growthPs
      = 1494720 := by decide +kernel

/-- 10, worked example: an OSYN at 100 MHz takes divider 91 and factory band 3. -/
theorem test_osyn :
    (run.fset (SYN_OSYN_FREQ_FREQ_HZ 0) 100000000).osynChoice 0 = some (91, 3, false) := by decide +kernel

/-- 00 R5, 15 R400: the ULK-3208 has no registers of port 63. -/
theorem test_absent_port : ({ run with part := .ulk3208 } : State).busReg .uart (LANE_CTRL 63) = none := by decide +kernel

/-- 13 R354: the lease lasts PERIOD_US, 1,000 microseconds after reset. -/
theorem test_lease : run.leaseNs = 1000000 := by decide +kernel

/-- 00 R11: the device is in RESET right after reset. -/
theorem test_reset_life : State.reset.life = .reset := by decide


end Sys2Proof.Tests
end

/-! # The state after reset -/

namespace Sys2Proof.Machine

/-- Settles O60: at reset no register is written and every field of the state is its default. -/
theorem resetIsOk : Obligations.ResetIsOk := ⟨rfl, rfl, rfl, rfl, rfl, rfl, rfl, fun _ => rfl⟩

end Sys2Proof.Machine

/-! # What every step keeps (00 R10, 16 R428)

The invariant of `Obligations.StepsKeepOk`, proved one operation at a time: each operation of the model has one rule,
"from a state that is kept the operation leads to one that is kept", and the proof of a rule is the operation's own text
read as a chain of the rules it calls. -/

namespace Sys2Proof.Machine

/-- A state of a part of variant `vr` that meets the invariant of every step. -/
def Kept (vr : Variant) (s : State) : Prop := s.part = vr ∧ s.ok = true

/-- Whatever state a command answers is kept. -/
def KeptOut (vr : Variant) (o : Host.Outcome State Fault Refusal) : Prop := ∀ t, o = .next t → Kept vr t

/-! ## Rules of the state's shape and of the control structures -/

section
variable {α : Type} {vr : Variant} {s t : State}

/-- The invariant by its parts. -/
theorem kept_iff : Kept vr s ↔ s.part = vr ∧ s.regsOk = true ∧ s.countsOk = true := by
  simp [Kept, State.ok]

namespace Kept

/-- A state with the variant, the registers and the alarm counts of a kept one is kept. -/
theorem frameMgt {pending out freeCtr now hot life phase causes resetFresh fromDormant power vbat bus cfg links fwd qw
    buf cnt time trunk syn hrt nib cal upd m} (hs : Kept vr s) (hm : m.counts = s.mgt.counts) :
    Kept vr ⟨s.part, pending, out, freeCtr, now, s.regs, hot, life, phase, causes, resetFresh, fromDormant, power, vbat,
      bus, cfg, links, fwd, qw, buf, cnt, time, trunk, syn, hrt, nib, cal, upd, m⟩ := by
  obtain ⟨hp, hr, hc⟩ := kept_iff.mp hs
  refine kept_iff.mpr ⟨hp, hr, ?_⟩
  simpa only [State.countsOk, hm] using hc

/-- A state with the variant, the registers and the management state of a kept one is kept. -/
theorem frame {pending out freeCtr now hot life phase causes resetFresh fromDormant power vbat bus cfg links fwd qw buf
    cnt time trunk syn hrt nib cal upd} (hs : Kept vr s) :
    Kept vr ⟨s.part, pending, out, freeCtr, now, s.regs, hot, life, phase, causes, resetFresh, fromDormant, power, vbat,
      bus, cfg, links, fwd, qw, buf, cnt, time, trunk, syn, hrt, nib, cal, upd, s.mgt⟩ := hs.frameMgt rfl

theorem ite {c : Prop} [Decidable c] (hs : Kept vr s) (ht : Kept vr t) : Kept vr (if c then s else t) := by
  split <;> assumption

theorem foldl {f : State → α → State} {l : List α} (hs : Kept vr s) (hf : ∀ t a, Kept vr t → Kept vr (f t a)) :
    Kept vr (l.foldl f s) := by
  induction l generalizing s with
  | nil => exact hs
  | cons a l ih => exact ih (hf s a hs)

theorem fst_ite {c : Prop} [Decidable c] {x y : State × α} (hx : Kept vr x.1) (hy : Kept vr y.1) :
    Kept vr (if c then x else y).1 := by
  split <;> assumption

theorem fst_foldl {β : Type} {f : State × β → α → State × β} {l : List α} {x : State × β} (hx : Kept vr x.1)
    (hf : ∀ y a, Kept vr y.1 → Kept vr (f y a).1) : Kept vr (l.foldl f x).1 := by
  induction l generalizing x with
  | nil => exact hx
  | cons a l ih => exact ih (hf x a hx)

theorem fst_eq {x : State × α} {a : α} (hx : Kept vr x.1) (e : x = (t, a)) : Kept vr t := by
  rwa [e] at hx

theorem st_ite {c : Prop} [Decidable c] {x y : Path} (hx : Kept vr x.st) (hy : Kept vr y.st) :
    Kept vr (if c then x else y).st := by
  split <;> assumption

end Kept
end

namespace Kept
section
variable {vr : Variant} {s t u : State} {n k i j v addr at_ bank bit cause code hi inPort index len mask mv ns num op
  p point port reason rx seq src st stamp synth verdict w : Nat} {q : Requester} {a : Alarm} {arrivals : List Nat}
  {avg d phase theta : Int} {b : BusReg} {body bs crossed r : List Byte} {c : BlotCause} {checkOk ct err0 err1 falling
  finish good history inactive late nextBad on timed : Bool} {cs : List Copy} {e o : List Word} {f : Fld} {h : Hearth}
  {highs : List Int} {lane : AnyLane} {m : SMap (List Word)} {read : InkRead} {rs : List StagedRec} {x : Path}

/-! ## Regs -/

theorem setReg (hs : Kept vr s) : Kept vr (s.setReg k v) := by
  obtain ⟨hp, hr, hc⟩ := kept_iff.mp hs
  exact kept_iff.mpr ⟨hp, mapWf_mapSet _ _ _ _ hr, hc⟩

theorem fset (hs : Kept vr s) : Kept vr (s.fset f v) := hs.setReg
theorem fput {b : Bool} (hs : Kept vr s) : Kept vr (s.fput f b) := hs.fset
theorem mark (hs : Kept vr s) : Kept vr (s.mark f) := hs.frame
theorem fon (hs : Kept vr s) : Kept vr (s.fon f) := hs.fset.mark
theorem foff (hs : Kept vr s) : Kept vr (s.foff f) := hs.fset
theorem fcount (hs : Kept vr s) : Kept vr (s.fcount f n) := hs.fset
theorem fwrap (hs : Kept vr s) : Kept vr (s.fwrap f) := hs.fset
theorem setWide2 {lo : Nat} (hs : Kept vr s) : Kept vr (s.setWide2 lo hi v) := hs.setReg.setReg

/-! ## Ops -/

theorem emit {o : Output} (hs : Kept vr s) : Kept vr (s.emit o) := hs.frame
theorem useFree (hs : Kept vr s) : Kept vr s.useFree := hs.frame

/-- A raising keeps the number of counts and stops each at 255. -/
theorem countAlarm {b : Nat} (hs : Kept vr s) : Kept vr (s.countAlarm b) := by
  obtain ⟨hp, hr, hc⟩ := kept_iff.mp hs
  refine kept_iff.mpr ⟨hp, hr, ?_⟩
  simp only [State.countsOk, Bool.and_eq_true, decide_eq_true_eq, List.all_eq_true] at hc ⊢
  obtain ⟨hlen, hle⟩ := hc
  refine ⟨by simpa [State.countAlarm] using hlen, fun c h => ?_⟩
  obtain ⟨i, hi, rfl⟩ := List.mem_mapIdx.mp h
  have := hle _ (List.getElem_mem hi)
  split <;> omega

theorem raise (hs : Kept vr s) : Kept vr (s.raise a) := hs.countAlarm.mark.frameMgt (by rfl)
theorem seen (hs : Kept vr s) : Kept vr (s.seen f a) := hs.fon.raise
theorem settle (ht : Kept vr t) : Kept vr (settle s t) := ht.foldl (fun _ _ hu => .ite hu.countAlarm hu)

theorem domainEnters {invalid entered : Fld} (hs : Kept vr s) : Kept vr (s.domainEnters invalid entered) :=
  .ite hs hs.fon.fon.fcount.raise

/-! ## Time -/

theorem spineCycle (hs : Kept vr s) : Kept vr s.spineCycle := hs.frame

theorem gateRefused (hs : Kept vr s) : Kept vr (s.gateRefused q) := by
  unfold State.gateRefused
  split; exacts [hs.fon, hs]

theorem setTimeMode {m : TimeMode} (hs : Kept vr s) : Kept vr (s.setTimeMode m) := by
  refine .ite hs ?_
  extract_lets t _ t2
  have ht : Kept vr t := hs.fset.fon
  have ht2 : Kept vr t2 := .ite ht.frame ht
  exact .ite ht2.raise ht2

theorem writeRate (hs : Kept vr s) : Kept vr (s.writeRate v) := .ite hs.setWide2 hs.setWide2.fon
theorem addSlew {amount : Int} (hs : Kept vr s) : Kept vr (s.addSlew amount) := .ite hs.frame hs.frame.fon
theorem moveClock {c : Nat} (hs : Kept vr s) : Kept vr (s.moveClock c) := hs.frame.fwrap.fon
theorem setTsq {es : List TsqEntry} (hs : Kept vr s) : Kept vr (s.setTsq j es) := hs.frame
theorem tsqPut {e : TsqEntry} (hs : Kept vr s) : Kept vr (s.tsqPut j e) := .ite hs.setTsq hs.fcount.seen

theorem loadTsqWords {e : Option TsqEntry} (hs : Kept vr s) : Kept vr (s.loadTsqWords q j e) := by
  unfold State.loadTsqWords
  split <;> exact hs.setReg.setReg.setReg.setReg

theorem tsqPop (hs : Kept vr s) : Kept vr (s.tsqPop q j) := hs.loadTsqWords.setTsq
theorem assignTsq (hs : Kept vr s) : Kept vr s.assignTsq := hs.foldl (fun _ _ ht => .ite ht ht.setTsq.fon.fset.fput)
theorem servoStop (hs : Kept vr s) : Kept vr s.servoStop := hs.frame

/-! ## Stage -/

theorem stageRec {r : StagedRec} (hs : Kept vr s) : Kept vr (s.stageRec q r) := .ite (.ite hs.frame hs.frame) hs

/-! ## Lane -/

theorem lset (hs : Kept vr s) : Kept vr (s.lset f v) := hs.frame
theorem ldecl (hs : Kept vr s) : Kept vr (s.ldecl f v) := hs.lset.fset
theorem refreshLane (hs : Kept vr s) : Kept vr (s.refreshLane n) := hs.setReg.setReg
theorem linkFalls (hs : Kept vr s) : Kept vr (s.linkFalls p) := hs.foff.seen.fcount
theorem laneState (hs : Kept vr s) : Kept vr (s.laneState n st) := .ldecl (.ite hs.ldecl hs)
theorem setTried {r : Nat} (hs : Kept vr s) : Kept vr (s.setTried n r) := hs.frame

/-! ## Tally -/

theorem cntAdd (hs : Kept vr s) : Kept vr (s.cntAdd n i k) := .ite hs (.ite hs.frame hs.frame.fon)
theorem refreshCounters {is : List Nat} (hs : Kept vr s) : Kept vr (s.refreshCounters n is) := hs.frame
theorem setBw {b : BwWin} (hs : Kept vr s) : Kept vr (s.setBw w b) := hs.frame
theorem bwCount {f : BwFrame} (hs : Kept vr s) : Kept vr (s.bwCount f) := hs.foldl (fun _ _ ht => .ite ht.setBw ht)
theorem bwDiscard (hs : Kept vr s) : Kept vr (s.bwDiscard w) := hs.setBw

/-! ## Buffers -/

theorem setPool {v : PoolSt} (hs : Kept vr s) : Kept vr (s.setPool p v) := hs.frame
theorem setBuf {b : Buf} (hs : Kept vr s) : Kept vr (s.setBuf k b) := hs.frame
theorem inkUncorr (hs : Kept vr s) : Kept vr s.inkUncorr := hs.fcount.seen
theorem inkCorr (hs : Kept vr s) : Kept vr (s.inkCorr n) := .ite hs hs.fcount.fon
theorem startRebuild (hs : Kept vr s) : Kept vr (s.startRebuild p) := hs.inkUncorr.fon.raise

theorem alloc (hs : Kept vr s) : Kept vr (s.alloc p nextBad).1 :=
  .fst_ite hs.fwrap (by split; exacts [hs.fwrap, .fst_ite hs.startRebuild.fwrap hs.setPool.setBuf])

theorem takeRef (hs : Kept vr s) : Kept vr (s.takeRef k) := hs.setBuf
theorem dropRef (hs : Kept vr s) : Kept vr (s.dropRef k) := .ite hs.setBuf.setPool hs.setBuf
theorem partition {sizes : List Nat} (hs : Kept vr s) : Kept vr (s.partition sizes) := hs.frame
theorem setCredit {q : Nat} {v : Int} (hs : Kept vr s) : Kept vr (s.setCredit n q v) := hs.frame
theorem credit (hs : Kept vr s) : Kept vr (s.credit n) := .frame (hs.foldl (fun _ _ hu => .ite hu.setCredit hu))
theorem accrue (hs : Kept vr s) : Kept vr (s.accrue n) := .ite hs.credit hs
theorem setDeficit {q : Nat} (hs : Kept vr s) : Kept vr (s.setDeficit n q v) := hs.frame
theorem setTx {t : Option TxCopy} (hs : Kept vr s) : Kept vr (s.setTx n t) := hs.accrue.frame
theorem emptied {q : Nat} (hs : Kept vr s) : Kept vr (s.emptied n q) := hs.setDeficit.setCredit

theorem setQueue {q : Nat} (hs : Kept vr s) : Kept vr (s.setQueue n q cs) :=
  .ite hs.accrue.frame.emptied hs.accrue.frame

theorem countDrop {q : Nat} {c : DropCause} (hs : Kept vr s) : Kept vr (s.countDrop n q c) := hs.fwrap.fset
theorem append {q : Nat} {c : Copy} (hs : Kept vr s) : Kept vr (s.append n q k c) := hs.setQueue.takeRef

theorem place {q : Nat} {i : FrameInfo} (hs : Kept vr s) : Kept vr (s.place n q k i ct) :=
  .ite (.ite hs.countDrop (.ite hs.fon.countDrop (.ite hs.fon.countDrop hs.fon.append.frame))) hs.append

theorem endSpilling {q : Nat} (hs : Kept vr s) : Kept vr (s.endSpilling n q) := .ite hs hs.foff

theorem releaseAll (hs : Kept vr s) : Kept vr (s.releaseAll cs) :=
  hs.foldl (fun _ _ ht => by split; exacts [ht.dropRef, ht])

theorem removeCopies {q : Nat} {p : Copy → Bool} (hs : Kept vr s) : Kept vr (s.removeCopies n q p).1 :=
  hs.setQueue.frame.releaseAll.endSpilling

theorem dropCopies {q : Nat} {p : Copy → Bool} {c : DropCause} (hs : Kept vr s) : Kept vr (s.dropCopies n q p c) :=
  hs.removeCopies.foldl (fun _ _ => .countDrop)

theorem flushQueues (hs : Kept vr s) : Kept vr (s.flushQueues n) := hs.foldl (fun _ _ => .dropCopies)
theorem flushPort (hs : Kept vr s) : Kept vr (s.flushPort n) := hs.setTx.flushQueues

theorem cutReady (hs : Kept vr s) : Kept vr (s.cutReady n) := by
  unfold State.cutReady
  split
  · exact hs
  · split; exacts [hs.emit.useFree.setTx, hs]

theorem losePeat (hs : Kept vr s) : Kept vr s.losePeat := by
  unfold State.losePeat
  extract_lets _ _ t2
  have ht2 : Kept vr t2 := .foldl (hs.foldl (fun _ _ => .cutReady)) (fun _ _ => .dropCopies)
  exact .ite ht2.seen ht2

theorem linkDown (hs : Kept vr s) : Kept vr (s.linkDown p finish) :=
  .ite (.ite (.ite hs.linkFalls.flushQueues hs.linkFalls.flushPort) hs.linkFalls) hs

/-! ## Tables -/

theorem setEntry {t : Nat} (hs : Kept vr s) : Kept vr (s.setEntry t i e) := hs.frame
theorem setStream {v : StreamSt} (hs : Kept vr s) : Kept vr (s.setStream i v) := hs.frame
theorem setFilter {v : FilterSt} (hs : Kept vr s) : Kept vr (s.setFilter i v) := hs.frame

/-! ## Capture -/

theorem lostRecord (hs : Kept vr s) : Kept vr s.lostRecord := hs.fcount.seen
theorem ringState (hs : Kept vr s) : Kept vr s.ringState := hs.fput

theorem overwriteOldest (hs : Kept vr s) : Kept vr s.overwriteOldest := by
  unfold State.overwriteOldest
  split; exacts [hs, .frame (.ite hs.fcount.fcount hs.fcount)]

theorem putRecord {r : CapRec} (hs : Kept vr s) : Kept vr (s.putRecord r) := hs.frame.ringState

theorem writeRecord {make : Nat → List Byte} (hs : Kept vr s) : Kept vr (s.writeRecord make) :=
  .ite hs.lostRecord (.ite hs.putRecord (.ite hs.overwriteOldest.putRecord hs.lostRecord))

theorem capture {f : CapFrame} (hs : Kept vr s) : Kept vr (s.capture f) := .ite (.ite hs.writeRecord hs) hs

theorem inject {queue origin : Nat} {bytes : List Byte} (hs : Kept vr s) :
    Kept vr (s.inject port queue origin bytes).1 := by
  unfold State.inject
  extract_lets _
  split
  next _ e =>
    exact hs.alloc.fst_eq e
  next _ _ e2 =>
    extract_lets _ t
    have ht : Kept vr t := .setBuf (hs.alloc.fst_eq e2)
    split; exacts [ht.countDrop.dropRef, ht.place.dropRef]

theorem setCapBuf {b : CapBuf} (hs : Kept vr s) : Kept vr (s.setCapBuf q b) := hs.frame

/-! ## Forward -/

theorem andThen {x : Path} {f : Path → Path} (hx : Kept vr x.st) (hf : ∀ y : Path, Kept vr y.st → Kept vr (f y).st) :
    Kept vr (x.andThen f).st := .st_ite (hf x hx) hx

theorem drop {p : Path} {counter : Nat} (hp : Kept vr p.st) : Kept vr (p.drop v counter).st := hp.cntAdd
theorem vlanStage {p : Parsed} (hx : Kept vr x.st) : Kept vr (vlanStage m p x).st := .st_ite hx.drop hx

theorem classStage {p : Parsed} (hx : Kept vr x.st) : Kept vr (classStage m p x).st := by
  unfold Machine.classStage
  split; exacts [hx, .st_ite (.drop hx) hx]

theorem streamStage {p : Parsed} (hx : Kept vr x.st) : Kept vr (streamStage m p x).st := by
  unfold Machine.streamStage
  split <;> exact hx

theorem oversized (hs : Kept vr s) : Kept vr (s.oversized n e) := hs.setFilter

theorem filterStage (hx : Kept vr x.st) : Kept vr (filterStage m len x).st := by
  unfold Machine.filterStage
  split
  · exact hx
  · exact .st_ite hx (.st_ite (.drop hx.setFilter) (.st_ite (.drop hx.setFilter.oversized) hx.setFilter))

theorem sequenceStage {p : Parsed} (hx : Kept vr x.st) : Kept vr (sequenceStage m p x).st := by
  unfold Machine.sequenceStage
  split
  · exact hx
  · extract_lets e v _ _ y
    have hy : Kept vr y.st := by
      refine .st_ite ?_ hx
      split
      · exact hx.setStream
      · dsimp only
        split; exacts [hx.setStream, hx.setStream, hx]
    exact .st_ite hy.setStream hy

theorem destStage {p : Parsed} (hx : Kept vr x.st) : Kept vr (destStage m p x).st := .st_ite hx.drop hx
theorem learnLost (hs : Kept vr s) : Kept vr s.learnLost := hs.fcount.fon
theorem setLearned (hs : Kept vr s) : Kept vr (s.setLearned n e) := hs.frame

theorem learnStage {p : Parsed} (hx : Kept vr x.st) : Kept vr (learnStage m p x).st :=
  .st_ite (.st_ite hx.frame hx.learnLost) hx

theorem stages {old : Bool} (hs : Kept vr s) : Kept vr (s.stages src stamp bs old).st := by
  refine .st_ite (.st_ite hs hs.fcount) (.st_ite (.st_ite hs (.st_ite hs.drop ?_)) ?_)
  · exact .andThen (.andThen (.andThen hs fun _ => .vlanStage) fun _ => .learnStage) fun _ => .destStage
  · exact .andThen (.andThen (.andThen (.andThen (.andThen (.andThen (.andThen hs fun _ => .vlanStage) fun _ =>
      .classStage) fun _ => .streamStage) fun _ => .filterStage) fun _ => .sequenceStage) fun _ => .learnStage) fun _
      => .destStage

theorem hearthStages {dests : Nat} (hs : Kept vr s) : Kept vr (s.hearthStages src stamp dests bs).st := hs

theorem toResidue {i : FrameInfo} (hs : Kept vr s) : Kept vr (s.toResidue port k i) :=
  .ite hs.fwrap (.ite hs.fwrap.seen hs.takeRef.frame)

theorem dropResidue (hs : Kept vr s) : Kept vr (s.dropResidue k) := hs.frame.foldl (fun _ _ hu => hu.fwrap.dropRef)
theorem forgetResidue (hs : Kept vr s) : Kept vr (s.forgetResidue k) := hs.frame.foldl (fun _ _ => .dropRef)
theorem rejudgeCopy {c : ResCopy} (ht : Kept vr t) : Kept vr (t.rejudgeCopy c) := .ite ht.frame.place.dropRef ht
theorem rejudge (hs : Kept vr s) : Kept vr s.rejudge := hs.foldl (fun _ _ => .rejudgeCopy)
theorem requeueResidue (hs : Kept vr s) : Kept vr (s.requeueResidue port) := hs.foldl (fun _ _ => .rejudgeCopy)

theorem admitCopy {i : FrameInfo} {multi : Bool} (hs : Kept vr s) : Kept vr (s.admitCopy k port i multi ct).1 :=
  .fst_ite hs.fwrap (by split; exacts [hs.place, .ite hs.toResidue hs.countDrop])

theorem stage10 {f : RxFrame} (hs : Kept vr s) : Kept vr (s.stage10 k x f).1 := by
  refine .fst_foldl hs (fun _ _ hr => .fst_ite ?_ hr)
  extract_lets _ _ t
  have ht : Kept vr t := .ite hr.admitCopy.setBuf hr.admitCopy
  exact .fst_ite ht ht

theorem setRx {f : RxFrame} (hs : Kept vr s) : Kept vr (s.setRx f) := hs.frame
theorem dropRx (hs : Kept vr s) : Kept vr (s.dropRx src) := hs.frame

theorem parseWindow {stages : State → Path} (hs : Kept vr s) (hf : ∀ t, Kept vr t → Kept vr (stages t).st) :
    Kept vr (s.parseWindow stages bs whole nextBad) := by
  unfold State.parseWindow
  split
  next e => exact (hs.alloc.fst_eq e).setRx
  next e =>
    extract_lets _ t x
    have ht : Kept vr t := (hs.alloc.fst_eq e).setBuf
    exact .ite ht.setRx (.ite (hf t ht).stage10.setRx (hf t ht).setRx)

theorem countBlot (hs : Kept vr s) : Kept vr (s.countBlot src c) := .ite hs.fwrap.fon hs

theorem markBlot (hs : Kept vr s) : Kept vr (s.markBlot port point) := by
  unfold State.markBlot
  split; exacts [hs, hs.setTx.fwrap]

theorem dropUnsent (hs : Kept vr s) : Kept vr (s.dropUnsent k) := hs.foldl (fun _ _ => .removeCopies)

theorem turnBad (hs : Kept vr s) : Kept vr (s.turnBad src k point c).1 := by
  unfold State.turnBad
  extract_lets _ t
  have ht : Kept vr t := hs.foldl (fun _ _ => .markBlot)
  exact .dropResidue (.dropUnsent (.ite ht ht.countBlot))

theorem moveBuffer (hs : Kept vr s) : Kept vr (s.moveBuffer k len nextBad).1 := by
  refine .fst_ite hs ?_
  split
  next _ e =>
    exact .dropRef (.forgetResidue (hs.alloc.fst_eq e))
  next _ _ e2 =>
    exact .foldl (.foldl (.frame (.setBuf (hs.alloc.fst_eq e2))) (fun _ _ => .setQueue)) (fun _ _ => .dropRef)

theorem admitLater {f : RxFrame} (hs : Kept vr s) : Kept vr (s.admitLater k f).1 :=
  .fst_foldl hs (fun _ _ hr => .fst_ite hr.admitCopy hr.admitCopy)

theorem captureEnd {f : RxFrame} (hs : Kept vr s) : Kept vr (s.captureEnd f bs) := .ite hs.capture hs

theorem releaseRx {f : RxFrame} (hs : Kept vr s) : Kept vr (s.releaseRx f) := by
  unfold State.releaseRx
  split; exacts [hs.dropRef, hs]

theorem finishGood {f : RxFrame} (hs : Kept vr s) : Kept vr (s.finishGood f nextBad) := by
  unfold State.finishGood
  split
  · exact hs.captureEnd
  · extract_lets _
    split
    next _ e =>
      exact .captureEnd (hs.moveBuffer.fst_eq e)
    next _ _ e2 =>
      exact .dropRef (.captureEnd (.admitLater (hs.moveBuffer.fst_eq e2)))

theorem holdsDuplicate (hs : Kept vr s) : Kept vr (s.holdsDuplicate n num) :=
  hs.setStream.frame.foldl (fun _ _ hu => hu.captureEnd.releaseRx)

theorem holdsRelease (hs : Kept vr s) : Kept vr (s.holdsRelease n num) := by
  unfold State.holdsRelease
  extract_lets _
  split; exacts [hs.setStream, .ite hs.setStream.frame.finishGood.setStream.holdsDuplicate hs.setStream.setRx]

theorem seqEnd {f : RxFrame} (hs : Kept vr s) : Kept vr (s.seqEnd f good) := by
  unfold State.seqEnd
  split; exacts [.ite hs.setStream.holdsDuplicate hs.holdsRelease, hs]

theorem markYellow (hs : Kept vr s) : Kept vr (s.markYellow k) := .frame (hs.foldl (fun _ _ => .setQueue))

theorem filterEnd {f : RxFrame} (hs : Kept vr s) : Kept vr (s.filterEnd f len).1 := by
  unfold State.filterEnd
  split
  · exact hs
  · extract_lets e r v t u _ w
    refine .fst_ite hs.oversized (.fst_ite ?_ hs.setFilter)
    split
    · exact hs.setFilter
    · exact hs.setFilter
    · refine .fst_ite hs.setFilter ?_
      split; exacts [hs.setFilter.setFilter.markYellow, hs.setFilter.setFilter]

theorem finishBad {f : RxFrame} (hs : Kept vr s) : Kept vr (s.finishBad f bs verdict point c) := by
  unfold State.finishBad
  split; exacts [hs.captureEnd, .dropRef (.captureEnd (.ite hs.turnBad.cntAdd hs.turnBad))]

theorem deliver {f : RxFrame} (hs : Kept vr s) : Kept vr (s.deliver f bs) :=
  .ite (.ite hs.frame hs.fcount) (.ite hs.emit hs)

theorem fillBuffer {f : RxFrame} (hs : Kept vr s) : Kept vr (s.fillBuffer f bs good) := by
  unfold State.fillBuffer
  split; exacts [hs, hs.setBuf]

theorem endFrame {f : RxFrame} {rest : List Byte} {e : FrameEnd} (hs : Kept vr s) :
    Kept vr (s.endFrame f rest e nextBad) := by
  unfold State.endFrame
  extract_lets bs src t _ u w x
  have ht : Kept vr t := hs.dropRx
  have hu : Kept vr u := .ite ht.cntAdd.cntAdd ht
  have hx : Kept vr x := .fillBuffer (.ite hu.bwCount hu)
  split
  · extract_lets y z
    have hz : Kept vr z := .fillBuffer (.ite ht.cntAdd ht)
    split; exacts [hz.oversized.finishBad.seqEnd, hz.finishBad.seqEnd]
  · refine .ite hx.deliver.captureEnd.releaseRx.seqEnd ?_
    split
    next e => exact (hx.filterEnd.fst_eq e).finishBad.seqEnd
    next e =>
      have hy := hx.filterEnd.fst_eq e
      exact .ite hy.frame hy.finishGood.seqEnd

theorem truncateFrame (hs : Kept vr s) : Kept vr (s.truncateFrame src crossed) := by
  unfold State.truncateFrame
  split; exacts [hs.endFrame, .ite hs (.ite hs.cntAdd (.ite hs.cntAdd hs.cntAdd))]

/-! ## Egress -/

theorem withGates {g : GatePend} (hs : Kept vr s) : Kept vr (s.withGates g) := hs.foldl (fun _ _ => .setReg)
theorem setMember {q : Option Nat} (hs : Kept vr s) : Kept vr (s.setMember n q) := hs.frame

theorem dwrrRounds {ms : List Nat} {q : Nat} (hs : Kept vr s) : Kept vr (dwrrRounds n ms i s q).1 := by
  induction i generalizing s q with
  | zero => exact hs
  | succ i ih => exact .fst_ite hs.setDeficit.setMember (ih (.ite hs.setDeficit hs))

theorem dropFrameEcc (hs : Kept vr s) : Kept vr (s.dropFrameEcc k) := by
  unfold State.dropFrameEcc
  extract_lets _ _ t2
  have ht2 : Kept vr t2 :=
    .foldl (.forgetResidue (hs.foldl (fun _ _ => .dropCopies))) (fun _ _ => .countDrop)
  split; exacts [.dropRef (.setRx (ht2.foldl (fun _ _ => .countDrop))), ht2]

theorem startCopy {q : Nat} {blot : Option Nat} (hs : Kept vr s) : Kept vr (s.startCopy n q stamp blot) :=
  hs.useFree.setTx.cntAdd

theorem blotFrame {off : Nat} (hs : Kept vr s) : Kept vr (s.blotFrame src k off) := by
  unfold State.blotFrame
  extract_lets _
  split; exacts [hs.turnBad.setRx, hs.turnBad]

theorem startChosen {q : Nat} (hs : Kept vr s) : Kept vr (s.startChosen n q stamp read) := by
  unfold State.startChosen
  split
  · exact hs
  · split
    · exact hs.startCopy.inkCorr
    · extract_lets _
      split; exacts [hs.inkUncorr.startCopy.blotFrame, hs.inkUncorr.startCopy.countDrop]
    · extract_lets _
      split; exacts [hs.inkUncorr.dropFrameEcc, hs.inkUncorr]

theorem twoStep {i : FrameInfo} {t : TxCopy} (hs : Kept vr s) : Kept vr (s.twoStep n i t bs) := by
  unfold State.twoStep
  split; exacts [hs.tsqPut, hs]

theorem finishCopy {t : TxCopy} {c : Copy} {rest : List Copy} (hs : Kept vr s) :
    Kept vr (s.finishCopy n t c rest bs) := by
  unfold State.finishCopy
  extract_lets _ u
  have hu : Kept vr u := hs.emit.cntAdd
  exact .rejudge (.endSpilling (.releaseAll (.setQueue (.setTx (.twoStep (.ite hu.fwrap hu))))))

theorem writeEnds {q : Nat} (ht : Kept vr t) : Kept vr (t.writeEnds n q k read) := by
  unfold State.writeEnds
  split
  · exact ht.setQueue.dropRef.inkCorr
  · exact ht.setQueue.inkUncorr.countDrop.dropRef.endSpilling
  · exact ht.inkUncorr.dropFrameEcc

theorem startPeatRestart (hs : Kept vr s) : Kept vr s.startPeatRestart := by
  unfold State.startPeatRestart
  extract_lets _ _ t2
  have ht2 : Kept vr t2 := hs.losePeat.foff.fon.frame.rejudge
  exact .ite ht2.fon.frame ht2

theorem gateNow (hs : Kept vr s) : Kept vr (s.gateNow n) := .ite hs.accrue.fset.fset hs.accrue.fset.fset

theorem gateSwap (hs : Kept vr s) : Kept vr (s.gateSwap n) := by
  unfold State.gateSwap
  split; exacts [hs, hs.accrue.withGates.frame.foff.fon.gateNow]

/-! ## TableOps -/

theorem tblCmd {table : Nat} (hs : Kept vr s) : Kept vr (s.tblCmd q op table) := hs.fset.fset
theorem loadTbl (hs : Kept vr s) : Kept vr (s.loadTbl q e) := hs.foldl (fun _ _ => .setReg)
theorem tblDone (hs : Kept vr s) : Kept vr (s.tblDone q) := hs.fset
theorem tblRead {t : Nat} (hs : Kept vr s) : Kept vr (s.tblRead q t) := .tblDone (.ite hs.loadTbl hs.loadTbl)
theorem tblWrite {t : Nat} (hs : Kept vr s) : Kept vr (s.tblWrite q t) := .ite hs.stageRec.tblDone hs

theorem tblSearch {t : Nat} (hs : Kept vr s) : Kept vr (s.tblSearch q t) := by
  unfold State.tblSearch
  refine .ite (show Kept vr (match findKey s.fwd.tables t (s.tblData q) with | some i => _ | none => _) from ?_) hs
  split
  · exact hs.fset.loadTbl.fset
  · split; exacts [hs.fset.fset, hs.fset]

theorem tblReadState {t : Nat} (hs : Kept vr s) : Kept vr (s.tblReadState q t) :=
  .ite hs.loadTbl.tblDone (.ite hs.loadTbl.tblDone hs)

theorem tblClearState {t : Nat} (hs : Kept vr s) : Kept vr (s.tblClearState q t) :=
  .ite hs (.ite hs.setStream.tblDone (.ite hs.setFilter.tblDone hs))

theorem tblOp {t : Nat} (hs : Kept vr s) : Kept vr (s.tblOp q op t) := by
  unfold State.tblOp
  split; exacts [hs.tblRead, .tblWrite hs, hs.tblSearch, hs.tblReadState, hs.tblClearState, hs]

theorem learnFlush {portOnly : Bool} (hs : Kept vr s) : Kept vr (s.learnFlush portOnly port) := .ite hs hs.fon.frame

/-! ## Quill -/

theorem setTxph {lane : Nat} (hs : Kept vr s) : Kept vr (s.setTxph lane v) := hs.frame
theorem setOpen {w : Option OpenWin} (hs : Kept vr s) : Kept vr (s.setOpen port w) := hs.frame.fput
theorem noteShut {cycle : Nat} (hs : Kept vr s) : Kept vr (s.noteShut port bank index cycle) := .ite hs.frame hs
theorem shutWin {w : OpenWin} (hs : Kept vr s) : Kept vr (s.shutWin port w) := hs.noteShut.setOpen
theorem updWinOf {f : WinSt → WinSt} (hs : Kept vr s) : Kept vr (s.updWinOf bank port index f) := hs.frame
theorem updWin {f : WinSt → WinSt} (hs : Kept vr s) : Kept vr (s.updWin port index f) := hs.updWinOf
theorem missWindow (hs : Kept vr s) : Kept vr (s.missWindow port index) := hs.fwrap.fon.updWin

theorem openWindow (hs : Kept vr s) : Kept vr (s.openWindow port index arrivals) :=
  hs.setOpen.fon.fput.fput.fset.fset.updWin

theorem setArrivals (hs : Kept vr s) : Kept vr (s.setArrivals port arrivals) := hs.frame

theorem closeBoundary (hs : Kept vr s) : Kept vr (s.closeBoundary port) := by
  unfold State.closeBoundary
  split; exacts [hs, .ite hs.setOpen hs.shutWin]

theorem captureQuill {f : QFrame} (hs : Kept vr s) : Kept vr (s.captureQuill port inPort verdict f) := hs.capture

theorem frameLeft {w : OpenWin} {f : QFrame} {shut : Bool} (hs : Kept vr s) : Kept vr (s.frameLeft port w f shut) :=
  .ite hs.shutWin hs.setOpen

theorem quillBlot {w : OpenWin} {f : QFrame} (hs : Kept vr s) : Kept vr (s.quillBlot port w f point c) :=
  hs.fon.countBlot.fwrap.emit.cntAdd.cntAdd.captureQuill.frameLeft

theorem quillEgressDown (hs : Kept vr s) : Kept vr (s.quillEgressDown port) := by
  unfold State.quillEgressDown
  split; exacts [hs.shutWin, hs]

theorem quillIngressLost {passed : List Byte} (hs : Kept vr s) : Kept vr (s.quillIngressLost inPort passed) := by
  refine hs.foldl fun t _ ht => ?_
  split
  · exact ht
  · extract_lets u
    have hu : Kept vr u := by unfold u; split; exacts [.ite ht.quillBlot ht, ht]
    split; exacts [.ite hu.shutWin hu, hu]

theorem closeAllBoundary (hs : Kept vr s) : Kept vr s.closeAllBoundary := hs.foldl (fun _ _ => .closeBoundary)
theorem suspendWindows (hs : Kept vr s) : Kept vr s.suspendWindows := hs.closeAllBoundary.frame
theorem resumeWindows (hs : Kept vr s) : Kept vr s.resumeWindows := hs.frame
theorem startWindows (hs : Kept vr s) : Kept vr s.startWindows := hs.frame
theorem steerLane {lane arrival : Nat} (hs : Kept vr s) : Kept vr (s.steerLane port lane arrival) := hs.setTxph
theorem steerLock {err : Nat} (hs : Kept vr s) : Kept vr (s.steerLock port err) := .ite hs.fon (.ite hs.foff hs)

theorem relock (hs : Kept vr s) : Kept vr (s.relock port) := by
  unfold State.relock
  split; exacts [.ite hs.steerLock hs, hs]

theorem steerStops (hs : Kept vr s) : Kept vr (s.steerStops port) := hs.foff.foff

theorem sourceGone {lane : Nat} (hs : Kept vr s) : Kept vr (s.sourceGone lane) :=
  hs.frame.foldl (fun _ _ hu => .ite hu.steerStops hu)

theorem restartTxph {lane : Nat} {arrival : Option Nat} (hs : Kept vr s) : Kept vr (s.restartTxph lane arrival) := by
  unfold State.restartTxph
  extract_lets _
  split; exacts [.ite hs.setTxph.relock hs.setTxph, hs.setTxph.relock]

theorem swapBanks (hs : Kept vr s) : Kept vr (s.swapBanks port) := hs.closeBoundary.fset.fset.fwrap.fon.foff.frame
theorem loadQw (hs : Kept vr s) : Kept vr (s.loadQw q e) := hs.foldl (fun _ _ => .setReg)

theorem qwOp (hs : Kept vr s) : Kept vr (s.qwOp q op inactive) := by
  unfold State.qwOp
  split
  extract_lets bank
  split; exacts [.ite hs.loadQw hs.loadQw, hs.stageRec, hs.loadQw, .ite hs hs.updWin, hs]

theorem qwCmd (hs : Kept vr s) : Kept vr (s.qwCmd q op inactive) := hs.fset.fput

/-! ## Synth -/

theorem setBand {e : Nat × Nat} (hs : Kept vr s) : Kept vr (s.setBand synth i e) := hs.frame

theorem setSynth {v : Synth} (hs : Kept vr s) : Kept vr (s.setSynth h v) := by
  unfold State.setSynth
  split <;> exact hs.frame

theorem startSpine {factory : Bool} (hs : Kept vr s) : Kept vr (s.startSpine h factory) := by
  unfold State.startSpine
  extract_lets _ t
  have ht : Kept vr t := hs.fon.foff
  split
  · exact ht
  · extract_lets t2
    have ht2 : Kept vr t2 := ht.fset.fput
    exact .ite ht2.fon ht2

theorem stopSpine (hs : Kept vr s) : Kept vr (s.stopSpine h) := hs.setReg
theorem setSpineMode {m : Nat} (hs : Kept vr s) : Kept vr (s.setSpineMode m) := .frame (.foff (.ite hs.frame hs.fset))
theorem setMon {m : RefMon} (hs : Kept vr s) : Kept vr (s.setMon src m) := hs.frame

theorem loadLoop (hs : Kept vr s) : Kept vr s.loadLoop := by
  unfold State.loadLoop
  split; exacts [hs.setSynth, hs]

theorem followRef (hs : Kept vr s) : Kept vr (s.followRef i) := hs.loadLoop.frame.setSpineMode.fset
theorem selectRef (hs : Kept vr s) : Kept vr (s.selectRef i) := .ite hs hs.fcount.fon.fset.fon.followRef
theorem deselect (hs : Kept vr s) : Kept vr s.deselect := hs.foff.frame

theorem setHolderWord (hs : Kept vr s) : Kept vr (s.setHolderWord w) := by
  unfold State.setHolderWord
  split; exacts [hs.setSynth, hs]

theorem enterHold (hs : Kept vr s) : Kept vr s.enterHold :=
  .ite hs.deselect hs.deselect.setHolderWord.setSpineMode.seen.frame

theorem noReference (hs : Kept vr s) : Kept vr s.noReference :=
  .ite hs.enterHold (.ite hs.deselect hs.deselect.setSpineMode)

theorem selectBest (hs : Kept vr s) : Kept vr s.selectBest := by
  unfold State.selectBest
  split; exacts [hs.selectRef, hs.enterHold]

theorem runSelection (hs : Kept vr s) : Kept vr s.runSelection := by
  refine .ite hs.enterHold (.ite hs.noReference ?_)
  split
  · split; exacts [hs.selectRef, hs]
  · refine .ite hs.selectBest ?_
    split
    · exact hs.selectBest
    · exact hs.selectBest
    · exact .ite (.ite hs hs.selectBest) hs
    · split; exacts [.ite hs.selectRef hs, hs]

theorem reselect (hs : Kept vr s) : Kept vr s.reselect := .ite hs.frame hs.runSelection

theorem moveFlags {o n : RefState} (hs : Kept vr s) : Kept vr (s.moveFlags o n) := by
  unfold State.moveFlags
  extract_lets t
  have ht : Kept vr t := .ite hs.seen hs
  exact .ite ht.seen ht

theorem noteUp (hs : Kept vr s) : Kept vr s.noteUp := hs.frame

theorem putRefState {n : RefState} (hs : Kept vr s) : Kept vr (s.putRefState src n) :=
  .noteUp (.ite hs.setMon.moveFlags hs.setMon)

theorem undefer (hs : Kept vr s) : Kept vr (s.undefer src) := hs.frame

theorem setRefState {n : RefState} (hs : Kept vr s) : Kept vr (s.setRefState src n) :=
  .ite hs (.ite hs.undefer.frame hs.undefer.putRefState.reselect)

theorem followChanged (hs : Kept vr s) : Kept vr s.followChanged := by
  unfold State.followChanged
  split; exacts [.ite hs.followRef hs, hs]

theorem applyDeferred (hs : Kept vr s) : Kept vr s.applyDeferred := by
  unfold State.applyDeferred
  extract_lets _ _ _ _ t2 t3
  have ht2 : Kept vr t2 := hs.frame.foldl (fun _ _ hu => .ite hu hu.putRefState)
  have ht3 : Kept vr t3 := .ite ht2.runSelection.followChanged ht2
  exact .ite (by split; exacts [ht3.selectRef, ht3]) ht3

theorem sourceDown (hs : Kept vr s) : Kept vr (s.sourceDown src) := hs.setRefState
theorem sourceUp (hs : Kept vr s) : Kept vr (s.sourceUp src) := .ite hs.setRefState hs

theorem upstreamMoved (hs : Kept vr s) : Kept vr s.upstreamMoved := by
  unfold State.upstreamMoved
  split
  · exact hs
  · extract_lets t
    have ht : Kept vr t := hs.moveFlags.noteUp
    exact .ite ht.reselect.frame ht.reselect.followChanged

theorem reeval (hs : Kept vr s) : Kept vr s.reeval := .ite hs (.ite hs.frame (by split; exacts [hs.selectRef, hs]))
theorem driftSample (ht : Kept vr t) : Kept vr (s.driftSample t src).1 := ht.setMon

theorem driftJudge (ht : Kept vr t) : Kept vr (s.driftJudge t src) := by
  unfold State.driftJudge
  split
  next e =>
    have hu := ht.driftSample.fst_eq e
    extract_lets lim fails ofs m
    split
    · exact hu
    · exact .ite hu.setMon.undefer hu.setMon
    · exact .ite hu.setRefState hu
    · exact .ite hu.setMon.setRefState hu.setMon

theorem outerLock (hs : Kept vr s) : Kept vr (s.outerLock phase) :=
  .ite (.ite hs.frame.foff.seen hs.frame) (.ite hs.frame.fon hs.frame)

theorem loopStep {dir : Int} (hs : Kept vr s) : Kept vr (s.loopStep i phase dir) := by
  unfold State.loopStep
  split; exacts [hs, hs.setSynth]

theorem endPull (hs : Kept vr s) : Kept vr s.endPull := hs.frame.setSpineMode

theorem emberCorrect (hs : Kept vr s) : Kept vr s.emberCorrect :=
  .ite hs.setHolderWord.useFree (.ite hs.setHolderWord.useFree hs)

theorem startGrowth (hs : Kept vr s) : Kept vr s.startGrowth := hs.frame
theorem setBase (hs : Kept vr s) : Kept vr (s.setBase j d) := hs.frame
theorem setPoStart {t : Int} (hs : Kept vr s) : Kept vr (s.setPoStart n t) := hs.frame

theorem refreshPo (hs : Kept vr s) : Kept vr (s.refreshPo n) := by
  refine .ite ?_ hs.foff.foff.foff.frame
  extract_lets _ t
  have ht : Kept vr t := .ite hs.fon hs
  exact .fput (.fput (.ite ht.setPoStart ht))

theorem refreshPos (hs : Kept vr s) : Kept vr s.refreshPos := hs.foldl (fun _ _ => .refreshPo)
theorem refreshAlign (hs : Kept vr s) : Kept vr (s.refreshAlign n) := .fput (.ite hs.fon hs)
theorem refreshAligns (hs : Kept vr s) : Kept vr s.refreshAligns := hs.foldl (fun _ _ => .refreshAlign)

theorem startOsyn (hs : Kept vr s) : Kept vr (s.startOsyn j) := by
  unfold State.startOsyn
  extract_lets _ _ t u
  have ht : Kept vr t := hs.foff.frame
  have hu : Kept vr u := by
    unfold u
    split
    · exact ht
    · exact .ite ht.fset.fset.fput.fon ht.fset.fset.fput
  exact hu.refreshPos

theorem stopOsyn (hs : Kept vr s) : Kept vr (s.stopOsyn j) := hs.frame.foff.fset.fset.foff.refreshPos
theorem realignPo (hs : Kept vr s) : Kept vr (s.realignPo n) := hs.frame.fon.refreshPo

theorem alignOsyn (hs : Kept vr s) : Kept vr (s.alignOsyn j) :=
  .refreshAligns (hs.setBase.foldl (fun _ _ ht => .ite ht.realignPo ht))

theorem osynLost (hs : Kept vr s) : Kept vr (s.osynLost j) := .ite hs.seen.startOsyn hs
theorem loadBand {e : Nat × Nat} (hs : Kept vr s) : Kept vr (s.loadBand q e) := hs.setReg.setReg

theorem bandOp (hs : Kept vr s) : Kept vr (s.bandOp q op synth i) :=
  .ite hs (by split; exacts [.ite hs.loadBand hs.loadBand, hs.stageRec, hs.loadBand, hs])

theorem bandCmd (hs : Kept vr s) : Kept vr (s.bandCmd q op synth i) := hs.fset.fset.fset

/-! ## Trunk -/

theorem setLydLink {l : LydLink} (hs : Kept vr s) : Kept vr (s.setLydLink k l) := hs.frame
theorem refreshSource (hs : Kept vr s) : Kept vr s.refreshSource := .fset (.fset (hs.foldl (fun _ _ => .fput)))

theorem refreshLyd (hs : Kept vr s) : Kept vr s.refreshLyd := by
  unfold State.refreshLyd
  extract_lets g hop t _ u f w
  have hu : Kept vr u := hs.fset.fput.frame
  have hw : Kept vr w := by unfold w; clear_value f; split; exacts [hu.fset.fset.fset, hu]
  exact hw.refreshSource.refreshPos

theorem startAcquire (hs : Kept vr s) : Kept vr (s.startAcquire history) := hs.fset.fput.frame
theorem acquireEnds (hs : Kept vr s) : Kept vr s.acquireEnds := hs.fset.foff.frame

theorem sourceDelivers (hs : Kept vr s) : Kept vr (s.sourceDelivers history) := by
  unfold State.sourceDelivers
  split; exacts [hs.setTimeMode.startAcquire.refreshPos, hs.setTimeMode.startAcquire.refreshPos, hs]

theorem toHoldover (hs : Kept vr s) : Kept vr s.toHoldover := hs.setTimeMode.startGrowth.acquireEnds.frame

theorem sourceLost {masterChange : Bool} (hs : Kept vr s) : Kept vr (s.sourceLost masterChange) := by
  unfold State.sourceLost
  split
  · exact hs
  · exact .ite hs.toHoldover.refreshPos hs.setTimeMode.acquireEnds.frame
  · exact hs.toHoldover.refreshPos
  · exact hs

theorem trunkLost (hs : Kept vr s) : Kept vr s.trunkLost := .ite hs.fon.fcount.sourceLost hs

theorem judgeLink (hs : Kept vr s) : Kept vr (s.judgeLink k) := by
  unfold State.judgeLink
  extract_lets l r fails t u w x
  have hu : Kept vr u := hs.fset.fput.fput.fput
  have hw : Kept vr w := .ite hu.fon hu
  have hx : Kept vr x := .ite hw.fon hw
  exact .ite hx.fon hx

theorem sourceChanges {r : Nat × Nat} (hs : Kept vr s) : Kept vr (s.sourceChanges r) :=
  .ite hs (by split; exacts [.ite hs.servoStop.sourceLost (.ite hs.sourceLost hs), .ite hs.servoStop.sourceLost hs])

theorem follow {r : Nat × Nat} (hs : Kept vr s) : Kept vr (s.follow r) := .frame (.ite hs.fon.foff hs.foff.fon.fset)
theorem clearOffset (hs : Kept vr s) : Kept vr s.clearOffset := hs.setReg.setReg

theorem upstreamShown (hs : Kept vr s) : Kept vr s.upstreamShown :=
  .refreshLyd (.upstreamMoved (hs.foldl (fun _ _ => .judgeLink)))

theorem applyBmca {r : Nat × Nat} (hs : Kept vr s) : Kept vr (s.applyBmca r) := by
  unfold State.applyBmca
  extract_lets _ _ t _ t3 t4
  have ht : Kept vr t := .ite hs.fon hs
  have ht3 : Kept vr t3 := .follow (.sourceChanges (.ite ht ht.fon))
  have ht4 : Kept vr t4 := .ite ht3.sourceDelivers ht3
  exact .upstreamShown (.ite ht4.clearOffset ht4)

theorem noUpstream (hs : Kept vr s) : Kept vr s.noUpstream := hs.foff.clearOffset.upstreamShown
theorem dropUpstream (hs : Kept vr s) : Kept vr s.dropUpstream := hs.trunkLost.noUpstream

theorem replaceUpstream (hs : Kept vr s) : Kept vr s.replaceUpstream := by
  unfold State.replaceUpstream
  extract_lets t
  have ht : Kept vr t := .ite hs hs.trunkLost
  split; exacts [ht.applyBmca, ht.noUpstream]

theorem evaluate (hs : Kept vr s) : Kept vr s.evaluate := by
  refine .ite hs.replaceUpstream ?_
  split
  · exact .ite hs.foff.fon.refreshLyd hs
  · split; exacts [hs.applyBmca, .ite hs.frame (.ite hs.applyBmca hs.frame)]

theorem lydStart (hs : Kept vr s) : Kept vr (s.lydStart k) := hs.setLydLink.fon.judgeLink

theorem lydStop (hs : Kept vr s) : Kept vr (s.lydStop k) := by
  unfold State.lydStop
  extract_lets _ _ t2
  have ht2 : Kept vr t2 := hs.setLydLink.foff.judgeLink
  exact .ite ht2.replaceUpstream ht2

theorem countGmSeq (hs : Kept vr s) : Kept vr (s.countGmSeq k) := .ite (.ite hs.frame hs.frame) hs

theorem missSuperframe (hs : Kept vr s) : Kept vr (s.missSuperframe k) := by
  unfold State.missSuperframe
  extract_lets _ t
  have ht : Kept vr t := hs.fwrap.setLydLink
  exact .ite ht.judgeLink.replaceUpstream.refreshLyd ht.judgeLink

theorem keepTheta (hs : Kept vr s) : Kept vr (s.keepTheta theta) := hs.frame

theorem feedServo (hs : Kept vr s) : Kept vr (s.feedServo theta) :=
  .ite hs.sourceDelivers.frame.seen.trunkLost.refreshLyd hs.sourceDelivers.frame

theorem upstreamHeard {p : Partner} (hs : Kept vr s) : Kept vr (s.upstreamHeard k p) := .ite hs.frame.refreshLyd hs

theorem takeSample {trip : Int} (hs : Kept vr s) : Kept vr (s.takeSample k r rx phase trip) := by
  unfold State.takeSample
  extract_lets _ _ _ _ _ _ _ _ _ _ t7
  have ht7 : Kept vr t7 :=
    hs.useFree.setLydLink.setWide2.setWide2.setWide2.fset.fset.fset.judgeLink.upstreamHeard
  exact .ite (.refreshLyd (.ite ht7.feedServo ht7.keepTheta)) ht7

theorem discardSample (hs : Kept vr s) : Kept vr (s.discardSample k r) := hs.setLydLink.judgeLink.upstreamHeard
theorem hear (hs : Kept vr s) : Kept vr (s.hear k r rx) := hs.setLydLink

theorem goodSuperframe (hs : Kept vr s) : Kept vr (s.goodSuperframe k r rx phase) :=
  .ite hs.hear.missSuperframe (.ite hs.hear.missSuperframe (.ite hs.hear.setLydLink.missSuperframe (.ite
    hs.hear.discardSample hs.hear.takeSample)))

/-! ## Links -/

theorem portStops (hs : Kept vr s) : Kept vr (s.portStops p finish) :=
  hs.linkDown.quillEgressDown.foldl (fun _ _ hu => .ite hu.laneState hu)

theorem portFalls (hs : Kept vr s) : Kept vr (s.portFalls p) := hs.portStops
theorem portUnlocked (hs : Kept vr s) : Kept vr (s.portUnlocked p) := hs.foff.foff.foff

theorem laneFalls (hs : Kept vr s) : Kept vr (s.laneFalls n) := by
  unfold State.laneFalls
  extract_lets _ t
  have ht : Kept vr t := hs.laneState.portFalls.portUnlocked
  exact .ite ht.fon ht

theorem laneRef (hs : Kept vr s) : Kept vr (s.laneRef n) := .ite hs.sourceUp hs.sourceDown
theorem signalGone (hs : Kept vr s) : Kept vr (s.signalGone n) := .ite hs.ldecl.ldecl hs

theorem laneStarts (hs : Kept vr s) : Kept vr (s.laneStarts n) :=
  .laneRef (.laneState (.setTried (.ldecl (.ite hs hs.signalGone))))

theorem carryLane (hs : Kept vr s) : Kept vr (s.carryLane n) := by
  refine hs.frame.foldl fun _ _ hu => ?_
  extract_lets u
  have hw : Kept vr u := .ite hu.lset hu
  exact .ite hw.lset hw

theorem dropSearch (hs : Kept vr s) : Kept vr (s.dropSearch k) := hs.frame
theorem trunkRises (hs : Kept vr s) : Kept vr (s.trunkRises k) := (hs.fon.frameMgt (by rfl)).lydStart.sourceUp

theorem trunkFalls (hs : Kept vr s) : Kept vr (s.trunkFalls k) :=
  .ite hs.foff.fon.sourceDown.lydStop.upstreamMoved.refreshLyd hs

theorem align (hs : Kept vr s) : Kept vr (s.align k) := .ite hs hs.fon.trunkRises

theorem unalign {seen : Bool} (hs : Kept vr s) : Kept vr (s.unalign k seen) :=
  .ite (.trunkFalls (.ite hs.foff.fon hs.foff)) hs

theorem slip (hs : Kept vr s) : Kept vr (s.slip k) := .ite hs hs.fset
theorem askConfirm (hs : Kept vr s) : Kept vr (s.askConfirm k) := .ite hs hs.fon.frame

theorem judgeConfirm (hs : Kept vr s) : Kept vr (s.judgeConfirm k) := by
  unfold State.judgeConfirm
  split; exacts [hs, .ite hs.foff.frame.align hs.foff.frame, hs.frame]

theorem nextTry {x : ClkSearch} (hs : Kept vr s) : Kept vr (s.nextTry x) := by
  unfold State.nextTry
  extract_lets t
  have ht : Kept vr t := hs.dropSearch.slip
  exact .ite ht.frame ht.fon.frame

theorem advanceSearch (hs : Kept vr s) : Kept vr (s.advanceSearch k) := by
  unfold State.advanceSearch
  split
  · exact hs
  · split
    · exact .ite hs.dropSearch.frame (.ite hs.dropSearch.frame.askConfirm hs.nextTry)
    · exact .ite hs (.ite hs.dropSearch hs.nextTry)

theorem startSearch (hs : Kept vr s) : Kept vr (s.startSearch k) := hs.dropSearch.frame
theorem dropSearches (hs : Kept vr s) : Kept vr s.dropSearches := hs.frame
theorem checkerLoses (hs : Kept vr s) : Kept vr (s.checkerLoses n) := .ite hs.foff.fon hs

theorem clockGone (hs : Kept vr s) : Kept vr (s.clockGone n) := by
  unfold State.clockGone
  exact .sourceGone (.checkerLoses (.ldecl (.ldecl (.ldecl hs))))

theorem beginRestart (hs : Kept vr s) : Kept vr (s.beginRestart n crossed) :=
  hs.truncateFrame.quillIngressLost.clockGone.laneFalls.fset.fon.frame

theorem clearErrors (hs : Kept vr s) : Kept vr (s.clearErrors lane) := by
  unfold State.clearErrors
  split; exacts [.ite hs.ldecl hs, .ite hs.fset hs]

theorem setTxEn (hs : Kept vr s) : Kept vr (s.setTxEn lane on) := by
  unfold State.setTxEn
  split
  · exact .ite hs (.ite hs.fput (.ite (.laneState (.ite hs.fput.portStops hs.fput)) hs.fput.laneState))
  · exact .ite hs (.ite hs.fput.dropSearch.unalign hs.fput)

theorem setRxEn (hs : Kept vr s) : Kept vr (s.setRxEn lane on) := by
  unfold State.setRxEn
  split; exacts [.ite hs (.ite hs.fput hs.fput.foff), .ite hs (.ite hs.fput.dropSearch.unalign hs.fput.foff)]

theorem injectErrors (hs : Kept vr s) : Kept vr (s.injectErrors lane) := by
  unfold State.injectErrors
  split; exacts [.ite hs.emit.fcount hs, .ite hs.emit hs]

/-! ## Counters -/

theorem snapshotAt (hs : Kept vr s) : Kept vr (s.snapshotAt ns) := hs.frame.fwrap.fon.setReg.setReg
theorem clearCounters (hs : Kept vr s) : Kept vr s.clearCounters := hs.frame.foldl (fun _ _ ht => ht.setReg.setReg)

theorem cntAction (hs : Kept vr s) : Kept vr (s.cntAction op ns) := by
  unfold State.cntAction
  split; exacts [hs.snapshotAt, hs.fon, hs.foff, hs.snapshotAt.clearCounters, hs]

theorem setTimed {a : Option (Nat × Nat)} (hs : Kept vr s) : Kept vr (s.setTimed a) := hs.frame.fset
theorem cntGo (hs : Kept vr s) : Kept vr (s.cntGo op timed) := .ite hs.fon.fset (.ite hs.setTimed hs.cntAction)
theorem cntCmd (hs : Kept vr s) : Kept vr (s.cntCmd op timed) := hs.fset.fput.cntGo

theorem cntStep (hs : Kept vr s) : Kept vr s.cntStep := by
  unfold State.cntStep
  split; exacts [.ite hs.setTimed.cntAction.fon hs, hs]

theorem bwWrite {b : BwWin} (hs : Kept vr s) : Kept vr (s.bwWrite w b) :=
  hs.setReg.setReg.setReg.fset.fput.fput.fput.setReg

theorem bwStep (hs : Kept vr s) : Kept vr s.bwStep := hs.foldl (fun _ _ ht => .ite ht.setBw ht)
theorem bwCoast (hs : Kept vr s) : Kept vr s.bwCoast := hs.foldl (fun _ _ ht => .ite ht.setBw ht)

theorem capPop (hs : Kept vr s) : Kept vr (s.capPop q) := by
  unfold State.capPop
  split; exacts [hs.setCapBuf, hs.setCapBuf.frame.ringState]

theorem capAdvance (hs : Kept vr s) : Kept vr (s.capAdvance q) := hs.setCapBuf

/-! ## Nib -/

theorem setNibIn {v : NibInput} (hs : Kept vr s) : Kept vr (s.setNibIn n v) := hs.frame

theorem storeEntry {e : NibEntry} (hs : Kept vr s) : Kept vr (s.storeEntry n e) :=
  .ite hs.setNibIn hs.fcount.seen.setNibIn

theorem loadNib {e : Option NibEntry} (hs : Kept vr s) : Kept vr (s.loadNib q n e) := by
  unfold State.loadNib
  extract_lets _
  split
  · exact hs.setReg.setReg.setReg.setReg
  · exact .ite hs.setReg.setReg.setReg.setReg hs.setReg.setReg.setReg.setReg

theorem nibPop (hs : Kept vr s) : Kept vr (s.nibPop q n) := hs.loadNib.setNibIn

theorem storeStop {e : NibEntry} {size : Nat} {neg : Bool} (hs : Kept vr s) : Kept vr (s.storeStop n e size neg) := by
  unfold State.storeStop
  extract_lets _ t
  have ht : Kept vr t := .ite hs.fon hs
  exact .ite ht.storeEntry.setNibIn.fset ht.storeEntry.setNibIn

theorem judgeStop {ts : Nat} {e : NibEntry} (hs : Kept vr s) : Kept vr (s.judgeStop n ts e) :=
  .ite hs (.ite hs.fcount.fon (.ite hs.storeStop hs.storeStop))

theorem takeStart {e : NibEntry} (hs : Kept vr s) : Kept vr (s.takeStart n e) :=
  hs.storeEntry.fset.setNibIn.foldl (fun _ _ => .judgeStop)

theorem offerStart {m : Nat} {e : NibEntry} (hs : Kept vr s) : Kept vr (s.offerStart n m e) := .ite hs.takeStart hs

theorem offerStop {e : NibEntry} (hs : Kept vr s) : Kept vr (s.offerStop n e) := by
  unfold State.offerStop
  extract_lets _ _
  split; exacts [.ite hs.setNibIn hs, hs.judgeStop, hs]

theorem freqEdge {lost : Bool} (hs : Kept vr s) : Kept vr (s.freqEdge n stamp lost) := by
  unfold State.freqEdge
  extract_lets _
  split; exacts [hs, .ite hs (.ite hs.setNibIn hs.setNibIn)]

theorem writeGate {g : NibGate} (hs : Kept vr s) : Kept vr (s.writeGate n g) :=
  hs.useFree.setWide2.fset.fput.fput.fset.fset.fset.fset.setReg

theorem deadEdge (hs : Kept vr s) : Kept vr (s.deadEdge n falling stamp) := by
  unfold State.deadEdge
  extract_lets t
  have ht : Kept vr t := hs.fcount.fon
  exact .ite ht.setNibIn.freqEdge ht.setNibIn

theorem stampEdge (hs : Kept vr s) : Kept vr (s.stampEdge n falling stamp) := by
  unfold State.stampEdge
  extract_lets _ _ _ _ t2 _ t3
  have ht2 : Kept vr t2 := hs.setNibIn.foldl (fun _ _ => .offerStart)
  have ht3 : Kept vr t3 := .ite ht2.storeEntry (.ite ht2 ht2.offerStop)
  exact .ite ht3.freqEdge ht3

theorem endMeasure (hs : Kept vr s) : Kept vr (s.endMeasure n) := hs.setNibIn.fset
theorem nibArm (hs : Kept vr s) : Kept vr (s.nibArm n) := .ite (.fset (.setNibIn (.ite hs hs.fon))) hs
theorem nibFlush (hs : Kept vr s) : Kept vr (s.nibFlush n) := hs.setNibIn
theorem nibRestart (hs : Kept vr s) : Kept vr s.nibRestart := .fon (hs.foldl (fun _ _ hu => hu.setNibIn.fset))
theorem mapNib {f : NibInput → NibInput} (hs : Kept vr s) : Kept vr (s.mapNib f) := hs.foldl (fun _ _ => .setNibIn)
theorem nibStep (hs : Kept vr s) : Kept vr (s.nibStep d) := hs.mapNib
theorem discardStamps (hs : Kept vr s) : Kept vr (s.discardStamps n) := .ite hs.useFree hs.useFree.fcount.seen.setNibIn
theorem nibClockLost (hs : Kept vr s) : Kept vr s.nibClockLost := hs.foldl (fun _ _ ht => ht.discardStamps.setNibIn)
theorem nibMark {coast stale : Bool} (hs : Kept vr s) : Kept vr (s.nibMark coast stale) := hs.mapNib

theorem nibCommit {old : State} (hs : Kept vr s) : Kept vr (old.nibCommit s n) := by
  unfold State.nibCommit
  extract_lets changed shape off t w x drop
  have ht : Kept vr t := .ite hs.endMeasure hs
  have hx : Kept vr x := .ite ht.setNibIn ht
  exact .ite hx.setNibIn hx

/-! ## Calib -/

theorem sensorSubst (hs : Kept vr s) : Kept vr s.sensorSubst := hs.fput

theorem calMarks (hs : Kept vr s) : Kept vr s.calMarks :=
  .fput (.fput (.foldl (hs.foldl (fun _ _ => .fput)) (fun _ _ => .fput)))

theorem calBegin {gs : List Nat} {powerUp : Bool} (hs : Kept vr s) : Kept vr (s.calBegin gs powerUp) := by
  unfold State.calBegin
  extract_lets _ _ t2
  have ht2 : Kept vr t2 := hs.frame.fon.calMarks
  exact .ite ht2.nibMark ht2

theorem calStart (hs : Kept vr s) : Kept vr (s.calStart mask) :=
  .ite hs.fset (by split; exacts [hs.fset.fset, .ite hs.fset hs.fset.calBegin])

theorem settleGroup {m : List (Nat × Nat × Int)} {g : Nat} (ht : Kept vr t) : Kept vr (s.settleGroup t m g) :=
  .ite ht.frame.foff ht.fon.seen

theorem calRelease (hs : Kept vr s) : Kept vr s.calRelease := hs.frame.calMarks.applyDeferred

theorem calApply {m : List (Nat × Nat × Int)} (hs : Kept vr s) : Kept vr (s.calApply m) :=
  .calRelease (.fset (.fon (.fwrap (.fset (.foff (hs.foldl (fun _ _ => .settleGroup)))))))

theorem calTakeover (hs : Kept vr s) : Kept vr s.calTakeover := .ite hs.foff.fset.seen hs
theorem calTakeoverEnd (hs : Kept vr s) : Kept vr s.calTakeoverEnd := .ite hs hs.calRelease
theorem loadFactory {copy0 copy1 : Bool} (hs : Kept vr s) : Kept vr (s.loadFactory copy0 copy1) := hs.fput.fput.fput

/-! ## Firmware -/

theorem setFw {v : FwPart} (hs : Kept vr s) : Kept vr (s.setFw p v) := hs.frame
theorem setAttempts (hs : Kept vr s) : Kept vr (s.setAttempts p n) := .ite hs.frame hs.setFw
theorem clearAttempts (hs : Kept vr s) : Kept vr (s.clearAttempts p) := .ite hs.setFw.frame hs.setFw
theorem endTrial (hs : Kept vr s) : Kept vr s.endTrial := hs.frame

theorem rejectTrial (hs : Kept vr s) : Kept vr (s.rejectTrial p reason) := by
  unfold State.rejectTrial
  split; exacts [hs, hs.setFw.endTrial]

theorem rejectFallback (hs : Kept vr s) : Kept vr (s.rejectFallback p reason) := hs.rejectTrial.seen

theorem beginStart (hs : Kept vr s) : Kept vr (s.beginStart p) := by
  unfold State.beginStart
  extract_lets _ _
  split; exacts [.ite hs.setFw.setAttempts.setFw hs.setFw.rejectFallback.setFw, hs.setFw.setFw]

theorem stopPart (hs : Kept vr s) : Kept vr (s.stopPart p) := hs.setFw
theorem fuseAdvance (hs : Kept vr s) : Kept vr s.fuseAdvance := .ite hs.frame.fon hs
theorem runBank {b : Nat} (hs : Kept vr s) : Kept vr (s.runBank p b) := (hs.setFw.frameMgt (by rfl)).fuseAdvance
theorem startFails (hs : Kept vr s) : Kept vr (s.startFails p reason) := hs.setFw.frame

theorem startGood {b : Nat} {readErr : Bool} (hs : Kept vr s) : Kept vr (s.startGood p b readErr) :=
  .ite hs.startFails (.ite hs.runBank hs.startFails)

theorem verified (hs : Kept vr s) : Kept vr (s.verified p err0 err1) := by
  unfold State.verified
  split; exacts [hs, .ite (.ite hs.runBank hs.rejectTrial.startGood) hs.startGood]

/-! ## Hearth -/

theorem setHearth {u : HearthUnit} (hs : Kept vr s) : Kept vr (s.setHearth h u) := by
  unfold State.setHearth
  split <;> exact hs.frame

theorem endSession (hs : Kept vr s) : Kept vr s.endSession := hs.foff.frame
theorem loseSession (hs : Kept vr s) : Kept vr s.loseSession := hs.endSession.seen
theorem hearthSession (hs : Kept vr s) : Kept vr (s.hearthSession h) := .ite hs.loseSession hs
theorem orphanSession (hs : Kept vr s) : Kept vr (s.orphanSession h) := .ite hs.frame hs
theorem adoptSession (hs : Kept vr s) : Kept vr (s.adoptSession h) := .ite hs.frame hs
theorem takeSnapshot (hs : Kept vr s) : Kept vr (s.takeSnapshot h) := hs.fwrap.frame

theorem powerFromSnapshot (hs : Kept vr s) : Kept vr (s.powerFromSnapshot h) := by
  unfold State.powerFromSnapshot
  split; exacts [hs.setSynth.startSpine, hs.setSynth.fon.foff.fset.fput]

theorem renewLease (hs : Kept vr s) : Kept vr s.renewLease := hs.frame
theorem renew (hs : Kept vr s) : Kept vr (s.renew q) := .ite (.ite hs.renewLease hs) hs.fon
theorem endHandover (hs : Kept vr s) : Kept vr s.endHandover := hs.foff.frame
theorem refuseHandover {r : Nat} (hs : Kept vr s) : Kept vr (s.refuseHandover r) := hs.fset.fon.endHandover

theorem meetHandover (hs : Kept vr s) : Kept vr (s.meetHandover h) := by
  unfold State.meetHandover
  split; exacts [hs, hs.refuseHandover, .ite hs.endHandover hs, hs.endHandover]

theorem writeTakeover (hs : Kept vr s) : Kept vr (s.writeTakeover code) := by
  unfold State.writeTakeover
  split; exacts [hs, hs.fset.fset.fset.fset.fset]

theorem coast (hs : Kept vr s) : Kept vr s.coast := .ite hs hs.fset.foff.frame

theorem noHolder (hs : Kept vr s) : Kept vr s.noHolder := by
  unfold State.noHolder
  extract_lets t
  have ht : Kept vr t := hs.fon.fon
  exact .calTakeoverEnd (.frame (.endHandover (.foff (.foff (.ite ht.writeTakeover.fon ht)))))

theorem takeoverMarks (hs : Kept vr s) : Kept vr s.takeoverMarks :=
  .nibMark (.bwCoast (.calTakeover (.dropSearches (.suspendWindows (.fon (.ite hs hs.frame))))))

theorem freeToken (hs : Kept vr s) : Kept vr (s.freeToken cause) := by
  unfold State.freeToken
  split
  · exact hs
  · extract_lets _ t2
    have ht2 : Kept vr t2 := .stopSpine (.coast (.orphanSession (.hearthSession (.ite hs hs.takeSnapshot))))
    exact .ite ht2.frame.takeoverMarks ht2.frame.takeoverMarks.noHolder

theorem healthEvent (hs : Kept vr s) : Kept vr s.healthEvent := hs.frame
theorem recordCause (hs : Kept vr s) : Kept vr (s.recordCause h cause) := hs.fset.fset

theorem leaveFlags {off : Bool} (hs : Kept vr s) : Kept vr (s.leaveFlags h off) := by
  unfold State.leaveFlags
  extract_lets t t2
  have ht : Kept vr t := .ite (.ite hs.fon hs) hs.fon
  have ht2 : Kept vr t2 := .ite ht.raise ht
  exact .ite ht2.fon.fon.fcount ht2

theorem lateCause (hs : Kept vr s) : Kept vr (s.lateCause h cause) := by
  refine .ite ?_ hs
  extract_lets _ _ _
  split; exacts [.ite (.ite hs.fset.frame.fset hs.fset.frame) hs.fset, hs.fset]

theorem leaveService (hs : Kept vr s) : Kept vr (s.leaveService h cause) := by
  unfold State.leaveService
  extract_lets u off t w x y z
  have hy : Kept vr y := hs.meetHandover.recordCause.fcount.leaveFlags.healthEvent.setHearth.hearthSession
  have hz : Kept vr z := .ite hy.stopPart hy
  exact .ite hs.lateCause (.ite hz.freeToken hz.stopSpine.frame)

theorem cinder (hs : Kept vr s) : Kept vr (s.cinder h cause) := .ite hs.leaveService hs.lateCause

theorem islandFails (hs : Kept vr s) : Kept vr (s.islandFails h cause) := by
  refine .ite ?_ hs.leaveService
  extract_lets _ t
  have ht : Kept vr t := hs.setHearth.stopPart.lateCause
  exact .ite ht.domainEnters ht

theorem freshServo (hs : Kept vr s) : Kept vr s.freshServo := hs.frame
theorem hold (hs : Kept vr s) : Kept vr (s.hold h) := hs.setHearth.frame.renewLease.adoptSession

theorem claim (hs : Kept vr s) : Kept vr (s.claim h) := by
  unfold State.claim
  extract_lets _ t2
  have ht2 : Kept vr t2 := .powerFromSnapshot (.hold (.fon (.ite hs.foff.freshServo hs)))
  exact .ite ht2.frame.calBegin ht2.frame

theorem setStage {g : TakeoverStage} (hs : Kept vr s) : Kept vr (s.setStage g) := hs.frame
theorem modeBack (hs : Kept vr s) : Kept vr s.modeBack := hs.fset.frame
theorem startResync (hs : Kept vr s) : Kept vr (s.startResync h) := .frame (.setHearth (.ite hs.refuseHandover hs))

theorem hearthRestart (hs : Kept vr s) : Kept vr (s.hearthRestart h) := by
  refine .ite hs ?_
  extract_lets t
  have ht : Kept vr t := .ite hs.recordCause hs.leaveService
  exact .beginStart (.setTsq (.ite ht.setHearth ht.setHearth.foff))

theorem testResult {lockUs : Nat} (hs : Kept vr s) : Kept vr (s.testResult h lockUs) := by
  unfold State.testResult
  extract_lets _ _ _ _ _ t4
  have ht4 : Kept vr t4 := hs.fset.fset.fwrap.fset.stopSpine.setHearth
  exact .ite ht4 ht4.seen.healthEvent

theorem startTest (hs : Kept vr s) : Kept vr s.startTest := by
  unfold State.startTest
  split; exacts [hs, .ite hs hs.powerFromSnapshot.setHearth]

theorem handoverTested {passed : Bool} (hs : Kept vr s) : Kept vr (s.handoverTested passed) :=
  .ite (.ite hs.frame hs.refuseHandover) hs

theorem hearthVerified (hs : Kept vr s) : Kept vr (s.hearthVerified h err0 err1) :=
  .ite hs (.ite hs.verified.setHearth hs.verified.setHearth.recordCause)

theorem afterHandover (hs : Kept vr s) : Kept vr (s.afterHandover h) := .ite hs.startResync hs.endHandover

theorem endTakeover (hs : Kept vr s) : Kept vr (s.endTakeover h) := by
  unfold State.endTakeover
  extract_lets _ _ _ t3
  have ht3 : Kept vr t3 := hs.writeTakeover.foff.foff.fwrap.fon.frame.calTakeoverEnd
  split; exacts [ht3.afterHandover, ht3]

theorem startHandover (hs : Kept vr s) : Kept vr s.startHandover :=
  .ite hs (.ite hs.fon.frame.startTest hs.refuseHandover)

theorem bothPassed (hs : Kept vr s) : Kept vr (s.bothPassed h) := .ite hs.frame.leaveService hs.frame.startResync

/-! ## Power -/

/-- The reset of the blocks keeps the registers of the VBAT domain and starts the counts anew. -/
theorem resetBlocks (hs : Kept vr s) : Kept vr s.resetBlocks := by
  obtain ⟨hp, hr, -⟩ := kept_iff.mp hs
  exact kept_iff.mpr ⟨hp, mapWf_filter _ _ _ hr, rfl⟩

theorem clearBlocks (hs : Kept vr s) : Kept vr s.clearBlocks := .ite hs.resetBlocks.fset hs.resetBlocks
theorem deviceReset (hs : Kept vr s) : Kept vr (s.deviceReset cause) := hs.clearBlocks.frame
theorem resetCtrl (hs : Kept vr s) : Kept vr (s.resetCtrl q v) := .ite hs.deviceReset hs
theorem pushLog {detail : Nat} (hs : Kept vr s) : Kept vr (s.pushLog code detail hi) := .ite hs hs.frame

theorem loseStore (hs : Kept vr s) : Kept vr s.loseStore := by
  obtain ⟨hp, hr, hc⟩ := kept_iff.mp hs
  exact .seen (kept_iff.mpr ⟨hp, mapWf_filter _ _ _ hr, hc⟩)

theorem vbatLevel (hs : Kept vr s) : Kept vr (s.vbatLevel mv) := hs.fset.fput
theorem vbatLow (hs : Kept vr s) : Kept vr (s.vbatLow mv) := hs.vbatLevel.fon.seen.pushLog

theorem powerCause {early : Bool} (hs : Kept vr s) : Kept vr (s.powerCause bit early) := by
  unfold State.powerCause
  extract_lets _ _ t
  have ht : Kept vr t := .ite hs.frame hs
  exact .ite ht.frame (.ite hs (.ite (.ite ht.frame ht) ht.frame))

theorem showTemps {rs : List (BitVec 16)} (hs : Kept vr s) : Kept vr (s.showTemps rs) :=
  hs.foldl (fun _ _ ht => .ite ht.setReg.fon ht.setReg)

theorem judgeTemp (hs : Kept vr s) : Kept vr s.judgeTemp := by
  unfold State.judgeTemp
  split; exacts [hs, .ite (.ite hs.foff hs) (.ite hs.fon.fon hs)]

theorem growExcursion (hs : Kept vr s) : Kept vr s.growExcursion := .ite hs.frame hs

/-! ## Image -/

theorem applyReg (hs : Kept vr s) : Kept vr (s.applyReg addr mask v) := by
  unfold State.applyReg
  split; exacts [.ite hs hs.setReg, hs]

theorem setWindow (hs : Kept vr s) : Kept vr (s.setWindow bank port index e) := hs.frame

theorem applyLink {kind tx asym : Nat} (hs : Kept vr s) : Kept vr (s.applyLink kind i tx rx asym) :=
  .ite (.ite hs.setReg.setReg.setReg hs) (.ite hs.setReg.setReg.setReg hs)

theorem applyRec {r : StagedRec} (hs : Kept vr s) : Kept vr (s.applyRec r) := by
  unfold State.applyRec
  split; exacts [hs.applyReg, .ite hs.setEntry hs, hs.setWindow, hs.setBand, hs.applyLink, hs.frame]

theorem applyRecs (hs : Kept vr s) : Kept vr (s.applyRecs rs) := hs.foldl (fun _ _ => .applyRec)

/-! ## Update -/

theorem xferResult (hs : Kept vr s) : Kept vr (s.xferResult code) := hs.fset

theorem setTargets {m : Nat} {i : FwImage} (hs : Kept vr s) : Kept vr (s.setTargets m st i) :=
  hs.foldl (fun _ _ => .setFw)

theorem updBegin {m : Nat} (hs : Kept vr s) : Kept vr (s.updBegin q m) :=
  .ite hs.setTargets.xferResult.frame hs.xferResult

theorem downFails (hs : Kept vr s) : Kept vr (s.downFails code) := hs.xferResult.seen.frame

theorem updData {data : Word} {full flashFails : Bool} (hs : Kept vr s) : Kept vr (s.updData q data full flashFails) :=
  .ite hs.xferResult (.ite hs.xferResult (.ite hs.downFails (.ite hs.downFails (.ite hs.downFails hs.frame))))

theorem updAbort (hs : Kept vr s) : Kept vr (s.updAbort q) := .ite hs.xferResult (.ite hs.xferResult hs.fon.raise.frame)
theorem downIdle (hs : Kept vr s) : Kept vr s.downIdle := hs.frame
theorem endFails (hs : Kept vr s) : Kept vr s.endFails := hs.xferResult.seen.downIdle
theorem loseBlocks {b : Nat} (hs : Kept vr s) : Kept vr (s.loseBlocks b n) := hs.frame
theorem setCfgBank {b : Nat} {d : BankData} (hs : Kept vr s) : Kept vr (s.setCfgBank b d) := .ite hs.frame hs.frame
theorem showBank {b : Nat} (hs : Kept vr s) : Kept vr (s.showBank b st seq) := hs.fset.fset
theorem endConfig (hs : Kept vr s) : Kept vr s.endConfig := .ite hs.frame hs.endFails

theorem endImage (hs : Kept vr s) : Kept vr s.endImage :=
  .ite (hs.setTargets.endFails.foldl (fun _ _ => .setFw)) (.ite hs.endConfig hs.setTargets.xferResult.downIdle)

theorem updEnd (hs : Kept vr s) : Kept vr (s.updEnd q) :=
  .ite hs.xferResult (.ite hs.xferResult (.ite hs.downFails hs.endImage))

theorem clearMarker (hs : Kept vr s) : Kept vr s.clearMarker := hs.frame
theorem startLaneCtl (hs : Kept vr s) : Kept vr s.startLaneCtl := hs.frame.beginStart
theorem startPeatCtl (hs : Kept vr s) : Kept vr s.startPeatCtl := hs.startPeatRestart.beginStart

theorem startPart (hs : Kept vr s) : Kept vr (s.startPart p) :=
  .ite hs.hearthRestart (.ite hs.startLaneCtl hs.startPeatCtl)

theorem activate (hs : Kept vr s) : Kept vr (s.activate p) := hs.setFw.clearAttempts.frame.startPart
theorem updActivate (hs : Kept vr s) : Kept vr (s.updActivate p) := .ite hs.activate hs.fset.fon

theorem fallback (hs : Kept vr s) : Kept vr (s.fallback p reason) :=
  .ite (.ite (.ite hs.rejectFallback.freeToken.hearthRestart hs.rejectFallback.deviceReset)
    hs.rejectFallback.hearthRestart) hs.rejectFallback.startPart

theorem updReject (hs : Kept vr s) : Kept vr (s.updReject p) := .ite hs.fallback hs
theorem updAllow (hs : Kept vr s) : Kept vr s.updAllow := .ite hs.frame hs
theorem confirm {b : Nat} (hs : Kept vr s) : Kept vr (s.confirm p b) := hs.setFw.fon.endTrial.fuseAdvance
theorem lanesIdle (hs : Kept vr s) : Kept vr s.lanesIdle := hs.foldl (fun _ _ ht => .ite ht.laneFalls ht)

theorem ctlVerified (hs : Kept vr s) : Kept vr (s.ctlVerified p err0 err1) :=
  .ite hs (.ite hs.verified (.ite hs.verified.lanesIdle hs.verified.foff))

/-! ## Check -/

theorem showCheck {r : CheckResult} (hs : Kept vr s) : Kept vr (s.showCheck r) := hs.fset.fset.setReg

/-! ## Commit -/

theorem commitRegs {n : State} (hs : Kept vr s) : Kept vr (s.commitRegs n rs) := hs.foldl (fun _ _ => .setReg)

theorem dropDynamic (hs : Kept vr s) : Kept vr (s.dropDynamic i) :=
  .ite (hs.foldl (fun _ _ ht => .ite ht.setEntry ht)) hs

theorem commitStream (hs : Kept vr s) : Kept vr (s.commitStream i o) := .ite hs.setStream hs
theorem commitFilter (hs : Kept vr s) : Kept vr (s.commitFilter i o) := .ite hs.setFilter hs.setFilter

theorem commitTables {n : State} (hs : Kept vr s) : Kept vr (s.commitTables n rs) := by
  refine .foldl (hs.foldl (fun _ _ => .setEntry)) (fun _ _ hu => ?_)
  split; exacts [hu.dropDynamic, hu.commitStream, hu.commitFilter, hu]

theorem commitRest {n : State} (hs : Kept vr s) : Kept vr (s.commitRest n rs) := .frame (hs.foldl (fun _ _ => .setBand))

theorem fillBank {es : List (Nat × List Word)} (hs : Kept vr s) : Kept vr (s.fillBank bank port es) := hs.frame

theorem commitWindows {n : State} (hs : Kept vr s) : Kept vr (s.commitWindows n at_ port) :=
  .ite hs hs.fillBank.fon.frame

theorem commitGates {n : State} (hs : Kept vr s) : Kept vr (s.commitGates n rs at_ port) := .ite hs hs.fon.frame

theorem stopLanes {ns : List Nat} {crossed : List (Nat × List Byte)} (hs : Kept vr s) :
    Kept vr (s.stopLanes ns crossed) := hs.foldl (fun _ _ ht => ht.beginRestart.flushPort)

theorem clklOff (hs : Kept vr s) : Kept vr (s.clklOff k) := hs.foff.foff.unalign.dropSearch

theorem commitClkl (ht : Kept vr t) : Kept vr (t.commitClkl s k) := by
  unfold State.commitClkl
  extract_lets u u2
  have hu : Kept vr u := .ite ht.clklOff ht
  have hu2 : Kept vr u2 := .ite hu.dropSearch hu
  exact .ite hu2 hu2.frame

theorem refreshCages (hs : Kept vr s) : Kept vr s.refreshCages := hs.frame

theorem commitPort (ht : Kept vr t) : Kept vr (t.commitPort s p) := by
  unfold State.commitPort
  extract_lets t u steer w
  have ht : Kept vr t := ht.foldl fun _ _ hu => .ite hu.setDeficit hu
  have hu : Kept vr u := .ite ht ht.gateNow
  have hw : Kept vr w := .ite hu hu.steerStops.relock
  exact .ite hw hw.closeBoundary

theorem commitTime (ht : Kept vr t) : Kept vr (t.commitTime s) := by
  unfold State.commitTime
  extract_lets stop t u w x
  have ht : Kept vr t := ht.assignTsq
  have hu : Kept vr u := .ite (.ite ht ht.setTimeMode.acquireEnds.servoStop) (.ite ht.servoStop.sourceLost ht)
  have hw : Kept vr w := hu.foldl fun _ _ hu => hu.judgeLink
  have hx : Kept vr x := .ite hw.dropUpstream hw
  exact hx.refreshLyd

theorem commitMonitors (ht : Kept vr t) : Kept vr (t.commitMonitors s) := ht.frame
theorem commitRefin {x : Nat} (ht : Kept vr t) : Kept vr (t.commitRefin s x) := .ite ht ht.undefer.setMon
theorem commitEntry (ht : Kept vr t) : Kept vr (t.commitEntry s i) := .ite ht.moveFlags ht
theorem commitOsyn (ht : Kept vr t) : Kept vr (t.commitOsyn s j) := .ite (.ite ht.startOsyn ht) (.ite ht.stopOsyn ht)
theorem commitPo (ht : Kept vr t) : Kept vr (t.commitPo s n) := .ite (.realignPo (.ite ht ht.setBase)) ht

theorem commitSyn (ht : Kept vr t) : Kept vr (t.commitSyn s) := by
  unfold State.commitSyn
  extract_lets _ _ t4
  have ht4 : Kept vr t4 :=
    .noteUp (.foldl (ht.commitMonitors.foldl (fun _ _ => .commitRefin)) (fun _ _ => .commitEntry))
  exact .refreshAligns (.refreshPos (.foldl (.foldl (.ite (.ite ht4.reselect ht4.reselect.followChanged) ht4) (fun _ _
    => .commitOsyn)) (fun _ _ => .commitPo)))

theorem commitMeasure (ht : Kept vr t) : Kept vr (t.commitMeasure s) :=
  .foldl (.ringState (ht.foldl (fun _ _ => .nibCommit))) (fun _ _ hu => .ite hu.bwDiscard hu)

theorem commitEffects (ht : Kept vr t) : Kept vr (t.commitEffects s) :=
  .rejudge (.commitMeasure (.commitSyn (.commitTime (.foldl (.refreshCages (ht.foldl (fun _ _ => .commitClkl))) (fun _
    _ => .commitPort)))))

theorem applyCommit {crossed : List (Nat × List Byte)} (hs : Kept vr s) : Kept vr (s.applyCommit rs at_ crossed) :=
  .fon (.fwrap (.commitEffects (.foldl (.foldl (.foldl (.commitRest (.commitTables (.commitRegs (.frame (.stopLanes
    (hs.foldl (fun _ _ => .credit))))))) (fun _ _ => .commitWindows)) (fun _ _ => .commitGates)) (fun _ _ =>
    .laneStarts))))

/-! ## Session -/

theorem arm (hs : Kept vr s) : Kept vr s.arm := hs.frame

theorem stageTake (hs : Kept vr s) : Kept vr (s.stageTake q v) :=
  .ite hs.frame (.ite hs.frame (.ite hs.arm (.ite hs.endSession hs)))

theorem stageCommand (hs : Kept vr s) : Kept vr (s.stageCommand q v) :=
  .ite (by split; exacts [hs.stageTake, hs.fon.fset]) hs

theorem stageFlags (hs : Kept vr s) : Kept vr (s.stageFlags v) := .fput (.ite hs hs.fput)
theorem shadowFlag (hs : Kept vr s) : Kept vr (s.shadowFlag q v) := .ite hs.fput hs
theorem stageCtrl (hs : Kept vr s) : Kept vr (s.stageCtrl q v) := hs.stageFlags.stageCommand.shadowFlag

theorem stageWrite (hs : Kept vr s) : Kept vr (s.stageWrite q addr v) := by
  unfold State.stageWrite
  split; exacts [.ite hs hs.stageRec, hs]

theorem setCommitTime {t : Nat} (hs : Kept vr s) : Kept vr (s.setCommitTime t) := hs.fset.setReg.fset

theorem commitMarks (hs : Kept vr s) : Kept vr (s.commitMarks late) := by
  unfold State.commitMarks
  extract_lets t u w _ _ x y
  have ht : Kept vr t := .ite hs hs.setCommitTime
  have hw : Kept vr w := .fon (.fon (.fwrap (.ite ht.seen ht)))
  have hx : Kept vr x := by unfold x; split; exacts [hw.fon.frame, hw]
  have hy : Kept vr y := .ite hx.frame hx
  exact hy.endSession

theorem commitNow {crossed : List (Nat × List Byte)} (hs : Kept vr s) : Kept vr (s.commitNow late crossed) :=
  hs.applyCommit.commitMarks

theorem persistFails (hs : Kept vr s) : Kept vr (s.persistFails code) := hs.fset.raise
theorem persistStart (hs : Kept vr s) : Kept vr s.persistStart := .ite hs (.ite hs.fon.frame hs.persistFails)
theorem ackFlag (hs : Kept vr s) : Kept vr (s.ackFlag v f) := .ite hs.foff hs

theorem persistEnd {p : Persist} {result bad : Nat} (hs : Kept vr s) : Kept vr (s.persistEnd p result bad) := by
  unfold State.persistEnd
  extract_lets t _ _ torn
  have ht : Kept vr t := hs.loseBlocks.foff
  have htorn : Kept vr torn := ht.frame.setCfgBank.useFree
  split
  · exact ht.frame.setCfgBank.fset.fon.setReg.fset.fput.showBank
  · exact htorn.persistFails
  · exact ht.frame.setCfgBank.persistFails.showBank
  · exact htorn.persistFails.showBank
  · exact hs

/-! ## Kindling -/

theorem writeCause (hs : Kept vr s) : Kept vr s.writeCause := .ite hs hs.fset.fset.fcount

theorem checkStore (hs : Kept vr s) : Kept vr (s.checkStore mv checkOk) := by
  unfold State.checkStore
  extract_lets _ t _ t3
  have ht : Kept vr t := .ite hs hs.loseStore
  have ht3 : Kept vr t3 := .pushLog (.vbatLevel (.ite ht.foff ht))
  exact .ite ht3.vbatLow ht3

theorem vbatKindled {clockRuns : Bool} (hs : Kept vr s) : Kept vr (s.vbatKindled mv checkOk clockRuns) :=
  .ite (.ite hs.foff.checkStore hs.foff.vbatLevel) hs.fon

theorem firstClaim (hs : Kept vr s) : Kept vr (s.firstClaim h) := by
  unfold State.firstClaim
  extract_lets t
  have ht : Kept vr t := hs.hold.setSynth
  exact .beginStart (.beginStart (.frame (.ite ht.startResync ht)))

theorem kindlingBase (hs : Kept vr s) : Kept vr s.kindlingBase := hs.setReg.setReg
theorem applyKeys (hs : Kept vr s) : Kept vr s.applyKeys := hs.frame
theorem takeSizes (hs : Kept vr s) : Kept vr s.takeSizes := hs.partition.fset.fset.fset.fset.fput.fset

theorem kindlingCommit (hs : Kept vr s) : Kept vr (s.kindlingCommit rs) :=
  .commitEffects (.applyKeys (.takeSizes (hs.kindlingBase.applyRecs.foldl (fun _ _ hu => by split; exacts
    [hu.commitStream, hu.commitFilter, hu]))))

theorem settleMarker {loaded : Option Nat} (hs : Kept vr s) : Kept vr (s.settleMarker loaded) :=
  .frame (by split; exacts [.ite hs.setCfgBank.showBank hs, hs])

theorem loadFrom {ecc : Nat → Bool} {shown : Bool} {l : List Nat} (hs : Kept vr s) :
    Kept vr (s.loadFrom ecc shown l) := by
  induction l generalizing s shown with
  | nil => exact hs.kindlingCommit.fon.setReg.settleMarker
  | cons b l ih =>
    refine .ite hs.kindlingCommit.showBank.setReg.fset.settleMarker (ih ?_)
    split
    · exact .ite hs.showBank hs.showBank.showCheck
    · exact hs.showBank

theorem trainPeat {trained : Bool} (hs : Kept vr s) : Kept vr (s.trainPeat trained) := .ite hs.fon hs

theorem startHolder (hs : Kept vr s) : Kept vr s.startHolder := by
  unfold State.startHolder
  split; exacts [hs.startSpine, hs]

theorem loseMac (hs : Kept vr s) : Kept vr s.loseMac := by
  refine .ite ?_ hs
  extract_lets _ t
  have ht : Kept vr t := .ite hs hs.setReg
  exact .ite ht ht.setReg

theorem startLanes (hs : Kept vr s) : Kept vr s.startLanes := hs.foldl (fun _ _ ht => .ite ht.laneStarts ht)

/-! ## TimeStep -/

theorem rateWrite {low : Nat} (hs : Kept vr s) : Kept vr (s.rateWrite q low) := .ite hs.writeRate hs.gateRefused
theorem slewWrite {amount : Nat} (hs : Kept vr s) : Kept vr (s.slewWrite q amount) := .ite hs.addSlew hs.gateRefused

theorem phasesStep (hs : Kept vr s) : Kept vr (s.phasesStep d) :=
  .useFree (.frame (hs.foldl (fun _ _ hu => .ite hu.setTxph hu)))

theorem windowsStep {old : State} (hs : Kept vr s) : Kept vr (s.windowsStep old) := hs.phasesStep.frame
theorem portsStep (hs : Kept vr s) : Kept vr s.portsStep := hs.foldl (fun _ _ ht => .closeBoundary (.ite ht.gateNow ht))
theorem basesStep (hs : Kept vr s) : Kept vr (s.basesStep d) := hs.frame.refreshAligns
theorem commitStep (hs : Kept vr s) : Kept vr s.commitStep := .ite hs.commitNow hs

theorem stepClock {c : Nat} (hs : Kept vr s) : Kept vr (s.stepClock c) :=
  hs.moveClock.cntStep.bwStep.nibStep.basesStep.portsStep.windowsStep.commitStep

theorem timeStep {mode : Nat} (hs : Kept vr s) : Kept vr (s.timeStep q mode) := by
  refine .ite ?_ hs.gateRefused
  extract_lets _
  split; exacts [hs.fset.stepClock, hs.fset.fon]

theorem setRate {r : Int} (hs : Kept vr s) : Kept vr (s.setRate r) := .ite hs.setWide2 hs.setWide2.fon
theorem runLoop {bw : Nat} (hs : Kept vr s) : Kept vr (s.runLoop bw avg) := hs.frame.setRate
theorem acqTo {phase count : Nat} (hs : Kept vr s) : Kept vr (s.acqTo phase count) := hs.fset.frame

theorem servoStep {theta0 : Int} (hs : Kept vr s) : Kept vr (s.servoStep theta0) :=
  .ite hs.useFree.stepClock (.ite hs.useFree.fon hs.useFree.stepClock)

theorem collectEnds {ths : List Int} {interval : Nat × Nat} (hs : Kept vr s) :
    Kept vr (s.collectEnds ths interval) := by
  unfold State.collectEnds
  extract_lets theta0 t u _ w x
  have ht : Kept vr t := hs.useFree.useFree
  have hu : Kept vr u := ht.setRate
  have hw : Kept vr w := .ite ht hu.frame
  have hx : Kept vr x := .ite hw.servoStep hw
  exact hx.acqTo

theorem servoAverage (hs : Kept vr s) : Kept vr (s.servoAverage avg) := by
  unfold State.servoAverage
  extract_lets _ _
  split
  · exact hs.runLoop
  · exact .ite hs.runLoop.acqTo hs.runLoop.acqTo
  · exact .ite hs.runLoop.acqTo hs.runLoop.acqTo
  · exact hs.runLoop.acqTo
  · exact hs

theorem dropThetas (hs : Kept vr s) : Kept vr s.dropThetas := hs.frame
theorem locks (hs : Kept vr s) : Kept vr s.locks := hs.acquireEnds.setTimeMode.refreshPos

theorem steer (hs : Kept vr s) : Kept vr (s.steer avg) := by
  refine .ite (.ite hs.collectEnds.dropThetas hs) ?_
  extract_lets t
  have ht : Kept vr t := hs.servoAverage.dropThetas
  exact .ite ht.locks ht

theorem edgeSteer (hs : Kept vr s) : Kept vr (s.edgeSteer i) := by
  unfold State.edgeSteer
  extract_lets ths _ _ t
  have ht : Kept vr t := hs.useFree.frame
  exact .ite hs (.ite ht.collectEnds ht.servoAverage)

theorem edgeMeasures (hs : Kept vr s) : Kept vr (s.edgeMeasures i) := by
  unfold State.edgeMeasures
  extract_lets _ t
  have ht : Kept vr t := hs.useFree.sourceDelivers
  exact .ite ht.frame.locks.refreshLyd ht.frame.edgeSteer.refreshLyd

/-! ## BusRead -/

theorem setLatch (hs : Kept vr s) : Kept vr (s.setLatch q addr v) := hs.frame
theorem latchHighs (hs : Kept vr s) : Kept vr (s.latchHighs q addr highs) := hs.foldl (fun _ _ => .setLatch)

theorem busRead (hs : Kept vr s) : Kept vr (s.busRead q addr).1 := by
  unfold State.busRead
  split
  · exact hs
  · split; exacts [.useFree (.ite hs.capAdvance hs), hs.latchHighs.useFree, hs]

theorem answerRead (hs : Kept vr s) : Kept vr (s.answerRead q addr) := hs.busRead.emit

/-! ## Bus -/

theorem plainWrite {skip : Nat} (hs : Kept vr s) : Kept vr (s.plainWrite b skip v) := hs.setReg
theorem clearOn (hs : Kept vr s) : Kept vr (s.clearOn v bit f) := .ite hs.fset hs

theorem onBit {f : State → State} (hs : Kept vr s) (hf : ∀ t, Kept vr t → Kept vr (f t)) :
    Kept vr (s.onBit v bit f) := .ite (hf s hs) hs

theorem carryHigh (hs : Kept vr s) : Kept vr (s.carryHigh q addr d) := by
  unfold State.carryHigh
  extract_lets _
  split; exacts [hs.setReg, hs]

theorem carryWide (hs : Kept vr s) : Kept vr (s.carryWide q b addr highs v) :=
  .foldl (.plainWrite hs) (fun _ _ => .carryHigh)

theorem setShadow (hs : Kept vr s) : Kept vr (s.setShadow q addr v) := hs.frame

theorem writeGlb (hs : Kept vr s) : Kept vr (s.writeGlb q b v) :=
  .ite hs.resetCtrl (.ite (.fset (.plainWrite hs)) (.plainWrite hs))

theorem writeCfg (hs : Kept vr s) : Kept vr (s.writeCfg q b v) :=
  .ite hs.stageCtrl (.ite (.onBit (.plainWrite hs) (fun _ => .persistStart)) (.plainWrite hs))

theorem writeLaneStatus (hs : Kept vr s) : Kept vr (s.writeLaneStatus n b v) :=
  .ite (.carryLane (.frame (.plainWrite hs))) (.frame (.plainWrite hs))

theorem writePattern (hs : Kept vr s) : Kept vr (s.writePattern lane b v) :=
  .setRxEn (.setTxEn (.plainWrite (hs.onBit (fun _ => .clearErrors))))

theorem restartWrite (hs : Kept vr s) : Kept vr (s.restartWrite n) := .ite hs.beginRestart hs

theorem writeLane {n : Fin 64} (hs : Kept vr s) : Kept vr (s.writeLane n b v) :=
  .ite hs.writeLaneStatus (.ite hs.writePattern (.ite (.onBit (.plainWrite hs) (fun _ => .injectErrors)) (.ite
    (hs.onBit (fun _ => .restartWrite)) (.plainWrite hs))))

theorem writeClkl {k : Fin 16} (hs : Kept vr s) : Kept vr (s.writeClkl k b v) :=
  .ite (.onBit (hs.onBit (fun _ => .slip)) (fun _ => .askConfirm)) (.ite (hs.writePattern.onBit (fun _ =>
    .injectErrors)) (.plainWrite hs))

theorem writePort (hs : Kept vr s) : Kept vr (s.writePort b v) := .ite (.clearOn (.plainWrite hs)) (.plainWrite hs)

theorem writeFwd (hs : Kept vr s) : Kept vr (s.writeFwd q b v) :=
  .ite (.onBit (.plainWrite hs) (fun _ => .tblOp)) (.ite (.onBit (.plainWrite hs) (fun _ => .learnFlush)) (.ite
    (.clearOn (.plainWrite hs)) (.plainWrite hs)))

theorem writeQw (hs : Kept vr s) : Kept vr (s.writeQw q b v) :=
  .ite (.onBit (.plainWrite hs) (fun _ => .qwOp)) (.plainWrite hs)

theorem peatRestartWrite (hs : Kept vr s) : Kept vr s.peatRestartWrite := .ite hs hs.startPeatCtl

theorem writeBuf (hs : Kept vr s) : Kept vr (s.writeBuf b v) :=
  .ite (.onBit (.plainWrite hs) (fun _ => .peatRestartWrite)) (.ite (.clearOn (.clearOn (.clearOn (.plainWrite hs))))
    (.plainWrite hs))

theorem writeStep (hs : Kept vr s) : Kept vr (s.writeStep q b v) :=
  .ite (.onBit (.plainWrite hs) (fun _ => .timeStep)) hs.gateRefused

theorem writeTime (hs : Kept vr s) : Kept vr (s.writeTime q b v) :=
  .ite hs.writeStep (.ite (.slewWrite hs) (.ite (.clearOn (.plainWrite hs)) (.ite (hs.onBit (fun _ => .tsqPop))
    (.plainWrite hs))))

theorem writeLyd (hs : Kept vr s) : Kept vr (s.writeLyd b v) := .ite (.clearOn (.plainWrite hs)) (.plainWrite hs)
theorem alignWrite (hs : Kept vr s) : Kept vr (s.alignWrite n) := .ite hs hs.alignOsyn

theorem writeSyn (hs : Kept vr s) : Kept vr (s.writeSyn q b v) :=
  .ite (.onBit (.plainWrite hs) (fun _ => .reeval)) (.ite (.clearOn (.plainWrite hs)) (.ite (.onBit (.plainWrite hs)
    (fun _ => .bandOp)) (.ite (.onBit (.plainWrite hs) (fun _ => .alignWrite)) (.plainWrite hs))))

theorem nibRestartWrite (hs : Kept vr s) : Kept vr s.nibRestartWrite := .ite hs hs.nibRestart
theorem clearNib (hs : Kept vr s) : Kept vr (s.clearNib n v) := hs.clearOn.clearOn.clearOn

theorem nibCmd (hs : Kept vr s) : Kept vr (s.nibCmd n v) :=
  .onBit (.onBit (hs.onBit (fun _ => .nibFlush)) (fun _ => .endMeasure)) (fun _ => .nibArm)

theorem writeNib (hs : Kept vr s) : Kept vr (s.writeNib q b v) :=
  .ite (hs.onBit (fun _ => .nibRestartWrite)) (.ite hs.nibCmd (.ite (.clearNib (.plainWrite hs)) (.ite (hs.onBit (fun
    _ => .nibPop)) (.plainWrite hs))))

theorem writeCal (hs : Kept vr s) : Kept vr (s.writeCal b v) :=
  .ite (.onBit (.plainWrite hs) (fun _ => .calStart)) (.plainWrite hs)

theorem hrtCmd (hs : Kept vr s) : Kept vr (s.hrtCmd v) :=
  .ite (.onBit (.onBit (.onBit (.onBit (.onBit (hs.onBit (fun _ => .startTest)) (fun _ => .cinder)) (fun _ =>
    .cinder)) (fun _ => .hearthRestart)) (fun _ => .hearthRestart)) (fun _ => .startHandover)) hs

theorem writeHrt (hs : Kept vr s) : Kept vr (s.writeHrt q b v) :=
  .ite (hs.onBit (fun _ => .renew)) (.ite hs.hrtCmd (.plainWrite hs))

theorem updSession (hs : Kept vr s) : Kept vr (s.updSession q v) :=
  .ite hs.updAbort (.ite hs.updEnd (.ite hs.updBegin hs))

theorem updCmd (hs : Kept vr s) : Kept vr (s.updCmd v) :=
  .ite (.onBit (.onBit (hs.onBit (fun _ => .updAllow)) (fun _ => .updReject)) (fun _ => .updActivate)) hs

theorem writeUpd (hs : Kept vr s) : Kept vr (s.writeUpd q b v) :=
  .ite (.updSession (.plainWrite hs)) (.ite hs.updData (.ite hs.updCmd (.plainWrite hs)))

theorem cntCmdWrite (hs : Kept vr s) : Kept vr (s.cntCmdWrite v) :=
  .onBit (hs.onBit (fun _ => .setTimed)) (fun _ => .cntGo)

theorem clearLost (hs : Kept vr s) : Kept vr s.clearLost := hs.fset.fset.fset

theorem writeCnt (hs : Kept vr s) : Kept vr (s.writeCnt q b v) :=
  .ite (.cntCmdWrite (.plainWrite hs)) (.ite (.onBit (.plainWrite hs) (fun _ => .clearLost)) (.ite (.onBit
    (.plainWrite hs) (fun _ => .capPop)) (.plainWrite hs)))

/-- Clearing keeps the number of counts and raises none. -/
theorem clearAlarms (hs : Kept vr s) : Kept vr (s.clearAlarms v) := by
  have ht : ∀ l, Kept vr { s with mgt := { s.mgt with
      latched := l, counts := s.mgt.counts.mapIdx fun i c => if bitOf v i then 0 else c } } := fun l => by
    obtain ⟨hp, hr, hc⟩ := kept_iff.mp hs
    refine kept_iff.mpr ⟨hp, hr, ?_⟩
    simp only [State.countsOk, Bool.and_eq_true, decide_eq_true_eq, List.all_eq_true] at hc ⊢
    obtain ⟨hlen, hle⟩ := hc
    refine ⟨by simpa using hlen, fun c h => ?_⟩
    obtain ⟨i, hi, rfl⟩ := List.mem_mapIdx.mp h
    have := hle _ (List.getElem_mem hi)
    split <;> omega
  exact .ite (ht _).setReg (ht _)

theorem i2cGo (hs : Kept vr s) : Kept vr (s.i2cGo q) := .ite hs (.ite hs.fset (hs.fon.frameMgt (by rfl)))

theorem writeMgt (hs : Kept vr s) : Kept vr (s.writeMgt q b v) :=
  .ite hs.clearAlarms (.ite (.onBit (.plainWrite hs) (fun _ => .i2cGo)) (.plainWrite hs))

theorem writeBlock (hs : Kept vr s) : Kept vr (s.writeBlock q b v) := by
  unfold State.writeBlock
  split
  · exact hs.writeGlb
  · exact hs.writeCfg
  · exact hs.writeLane
  · exact hs.writeClkl
  · exact hs.writePort
  · exact hs.writeFwd
  · exact hs.writeQw
  · exact hs.writeBuf
  · exact hs.writeTime
  · exact hs.writeLyd
  · exact hs.writeSyn
  · exact hs.writeNib
  · exact hs.writeCal
  · exact hs.writeHrt
  · exact hs.writeUpd
  · exact hs.writeCnt
  · exact hs.writeMgt
  · exact .plainWrite hs

theorem writeLow (hs : Kept vr s) : Kept vr (s.writeLow q b addr highs v) :=
  .ite (.rateWrite hs) (.ite (.ite hs.carryWide hs.gateRefused) hs.carryWide)

theorem busTake (hs : Kept vr s) : Kept vr (s.busTake q b addr v) :=
  .ite hs.stageRec (.ite hs (by split; exacts [.ite hs.setShadow hs, .ite hs.writeLow hs, hs.writeBlock]))

theorem busWrite (hs : Kept vr s) : Kept vr (s.busWrite q addr v) := by
  unfold State.busWrite
  split; exacts [hs, .ite hs.busTake (.ite hs.gateRefused hs)]

theorem laneCounts {errBits fecCorr fecUncorr : Nat} (hs : Kept vr s) :
    Kept vr (s.laneCounts n errBits fecCorr fecUncorr) := .cntAdd (.cntAdd (.ite hs.lset hs))

theorem laneEnters {told : Bool} (hs : Kept vr s) : Kept vr (s.laneEnters n told) := by
  refine .ite hs ?_
  extract_lets t
  have ht : Kept vr t := hs.fon.fon.ldecl
  exact .ite ht ht.raise

theorem laneAbsent (hs : Kept vr s) : Kept vr (s.laneAbsent n crossed) :=
  hs.truncateFrame.quillIngressLost.clockGone.laneFalls.laneRef.laneEnters

theorem peatAbsent (hs : Kept vr s) : Kept vr s.peatAbsent := hs.losePeat.foff.rejudge.domainEnters

theorem clockAbsent {c : WatchedClock} (hs : Kept vr s) : Kept vr (s.clockAbsent c crossed) := by
  unfold State.clockAbsent
  split
  · exact .ite hs.laneAbsent.rejudge hs
  · exact hs.islandFails
  · exact hs.peatAbsent
  · exact hs.nibClockLost.domainEnters
  · exact hs.domainEnters

/-! ## Mgmt -/

theorem acceptSeq (hs : Kept vr s) : Kept vr (s.acceptSeq k seq) := hs.frame
theorem agentRefuses (hs : Kept vr s) : Kept vr (s.agentRefuses f) := hs.fcount.raise

theorem judgeRest {r : AgentReq} (hs : Kept vr s) : Kept vr (s.judgeRest r).1 :=
  .fst_ite hs (.fst_ite hs (.fst_ite hs.agentRefuses (.fst_ite hs hs)))

theorem judgeReq {r : AgentReq} (hs : Kept vr s) : Kept vr (s.judgeReq r).1 :=
  .fst_ite (.fst_ite hs.agentRefuses (.fst_ite hs.agentRefuses hs.acceptSeq.judgeRest)) hs.judgeRest

theorem mgmtUsed (hs : Kept vr s) : Kept vr s.mgmtUsed := hs.frame
theorem mgmtSend {h : MgmtHead} (hs : Kept vr s) : Kept vr (s.mgmtSend port h body) := hs.mgmtUsed.inject
theorem respond {r : AgentReq} {status : Nat} (hs : Kept vr s) : Kept vr (s.respond r status body) := hs.mgmtSend

theorem serve {run : State → AgentReq → State × List Byte} (hs : Kept vr s)
    (hr : ∀ t r, Kept vr t → Kept vr (run t r).1) : Kept vr (s.serve type run) := by
  unfold State.serve
  split
  · exact hs
  · refine .ite ?_ hs
    extract_lets _ j
    have hj : Kept vr j.1 := (hs.frameMgt (by rfl)).judgeReq
    split
    · exact hj
    · exact .ite (hr _ _ hj).respond (hr _ _ hj)
    · exact hj.respond

theorem agentReads {addrs : List Nat} (hs : Kept vr s) : Kept vr (s.agentReads addrs).1 :=
  .fst_foldl hs (fun _ _ => .busRead)

theorem agentWrites {ws : List (Nat × Nat)} (hs : Kept vr s) : Kept vr (s.agentWrites ws) :=
  hs.foldl (fun _ _ ht => .ite (.busWrite ht) ht)

theorem agentReset {r : AgentReq} (hs : Kept vr s) : Kept vr (s.agentReset r) :=
  .deviceReset (.mgmtUsed (.ite hs.emit hs))

theorem unprompted {type : Nat} (hs : Kept vr s) : Kept vr (s.unprompted type body) := .ite hs.mgmtSend hs
theorem reply {lines : List (List Char)} (hs : Kept vr s) : Kept vr (s.reply lines) := .ite hs.emit hs
theorem uartReads (hs : Kept vr s) : Kept vr (s.uartReads addr n).1 := .fst_foldl hs (fun _ _ => .busRead)
theorem setIr (hs : Kept vr s) : Kept vr (s.setIr code) :=
  .ite (hs.frameMgt (by rfl)).frame.deviceReset (hs.frameMgt (by rfl))
theorem holdCore (hs : Kept vr s) : Kept vr (s.holdCore code) := .frame (.ite hs hs.frame.clearBlocks.frame)

/-! ## The commands -/

theorem done (ht : Kept vr t) : KeptOut vr (done s t) := by
  rintro _ ⟨⟩
  exact ht.settle.frame

theorem whenUp (hs : Kept vr s) (ht : Kept vr t) : KeptOut vr (whenUp s t) := .done (.ite ht hs)

theorem whenTaken (hs : Kept vr s) (ht : Kept vr t) : KeptOut vr (whenTaken s q t) := hs.whenUp (.ite ht hs)

theorem whenGated (hs : Kept vr s) (ht : Kept vr t) : KeptOut vr (whenGated s q t) := hs.whenUp (.ite ht hs.gateRefused)

theorem dwrrChoose {ms : List Nat} {x : State × Nat} (hs : Kept vr s) (e : s.dwrrChoose n ms = some x) :
    Kept vr x.1 := by
  unfold State.dwrrChoose at e
  extract_lets heavy at e
  clear_value heavy
  split at e
  · exact nomatch e
  · exact Option.some.inj e ▸ hs
  · exact Option.some.inj e ▸ hs.dwrrRounds

theorem choose {x : State × Nat} (hs : Kept vr s) (e : s.choose n = some x) : Kept vr x.1 := by
  obtain ⟨k, -, hk⟩ := List.exists_of_findSome?_eq_some e
  split at hk
  · exact hs.dwrrChoose hk
  · split at hk <;> cases hk
    exact hs

theorem execLaneCopyRefresh {lane : Fin 64} {errBits fecCorr fecUncorr : Nat} (hs : Kept vr s) :
    KeptOut vr (execLaneCopyRefresh lane errBits fecCorr fecUncorr s) := by
  refine hs.whenUp ?_
  extract_lets t
  have ht : Kept vr t := .ite hs.refreshCounters hs
  exact .ite ht.laneCounts.refreshLane.refreshCounters ht

theorem execKindlingLeaseClaim (hs : Kept vr s) : KeptOut vr (execKindlingLeaseClaim s) := by
  refine hs.whenUp (.ite ?_ hs)
  extract_lets t
  have ht : Kept vr t := hs.hearthVerified.hearthVerified
  exact .ite ht.firstClaim (.ite ht.firstClaim ht.frame)

theorem execSpineFirstLock (hs : Kept vr s) : KeptOut vr (execSpineFirstLock s) := by
  refine hs.whenUp ?_
  split
  · refine .ite ?_ hs
    extract_lets t _ _
    have ht : Kept vr t := hs.fon.fon
    split; exacts [ht.modeBack.frame.calBegin, ht.modeBack.frame]
  · exact hs

theorem execPersistDone {outcome : PersistEnd} (hs : Kept vr s) : KeptOut vr (execPersistDone outcome s) :=
  hs.whenUp (by split; exacts [hs.persistEnd, hs])

theorem execSignalPresent (hs : Kept vr s) : KeptOut vr (execSignalPresent lane s) :=
  hs.whenUp (by split; exacts [.ite hs.ldecl.laneRef hs, .ite hs.fon hs])

theorem execCdrLockAcquired (hs : Kept vr s) : KeptOut vr (execCdrLockAcquired lane s) :=
  hs.whenUp (by split; exacts [.ite (.laneRef (.ite hs.ldecl hs.ldecl.carryLane)) hs, .ite hs.fon hs])

theorem execBlockLockAcquired {lane : Fin 64} (hs : Kept vr s) : KeptOut vr (execBlockLockAcquired lane s) := by
  refine hs.whenUp (.ite ?_ hs)
  extract_lets t t2
  have ht : Kept vr t := hs.ldecl.lset
  have ht2 : Kept vr t2 := .ite ht ht.foff
  exact .ite ht2 ht2.laneState

theorem execSignalLoss (hs : Kept vr s) : KeptOut vr (execSignalLoss lane s) :=
  hs.whenUp (by split; exacts [.ite hs.signalGone.laneFalls.laneRef hs, hs.foff.dropSearch.unalign])

theorem execCdrUnlock (hs : Kept vr s) : KeptOut vr (execCdrUnlock lane s) :=
  hs.whenUp (by split; exacts [.ite hs.clockGone.laneFalls.laneRef hs, hs.foff.dropSearch.unalign])

theorem execHiBer {lane : Fin 64} (hs : Kept vr s) : KeptOut vr (execHiBer lane s) := by
  refine hs.whenUp (.ite ?_ hs)
  extract_lets t
  have ht : Kept vr t := hs.lset.portFalls
  exact .ite ht.fon ht

theorem execClklWindowEnd {clkl : Fin 16} {commas : Fin 1025} {codeErr errBits : Nat} (hs : Kept vr s) :
    KeptOut vr (execClklWindowEnd clkl commas codeErr errBits s) := by
  refine hs.whenUp (.ite ?_ hs)
  extract_lets t
  have ht : Kept vr t := hs.fset.fset
  exact .advanceSearch (.judgeConfirm (.ite ht.fwrap.fcount ht.fwrap))

theorem execPrbsCheckerLock (hs : Kept vr s) : KeptOut vr (execPrbsCheckerLock lane s) :=
  hs.whenUp (by split <;> exact .ite hs.fon hs)

theorem execPrbsLockLost (hs : Kept vr s) : KeptOut vr (execPrbsLockLost lane s) :=
  hs.whenUp (by split; exacts [hs.checkerLoses, .ite hs.foff.fon hs])

theorem execFrameParse {src : Ingress} {window : List Byte} {whole old : Bool} (hs : Kept vr s) :
    KeptOut vr (execFrameParse src window whole stamp old nextBad s) := by
  unfold Machine.execFrameParse
  split
  · exact hs.whenUp (.ite (hs.useFree.parseWindow (fun _ => .stages)) hs)
  · exact hs.whenUp (.ite (hs.parseWindow (fun _ => .hearthStages)) hs)

theorem execLearnInsert {slice : Fin 4} (hs : Kept vr s) : KeptOut vr (execLearnInsert slice s) := by
  refine hs.whenUp ?_
  split
  · exact hs
  · extract_lets _ _ _
    split
    · exact .ite hs.frame.setLearned hs.frame
    · split; exacts [hs.frame.setLearned, hs.frame.learnLost]

theorem execFrameEnd {src : Fin 66} {rest : List Byte} {kind : FrameEnd} {reads : InkReads} (hs : Kept vr s) :
    KeptOut vr (execFrameEnd src rest kind reads s) := by
  refine hs.whenUp ?_
  split
  · exact hs
  · extract_lets t
    have ht : Kept vr t := hs.endFrame.inkCorr.rejudge
    split; exacts [.ite ht.edgeMeasures ht, ht]

theorem execResidueTimeout {port : Fin 64} (hs : Kept vr s) : KeptOut vr (execResidueTimeout port s) :=
  hs.whenUp (by split; exacts [hs, hs.frame.fwrap.dropRef.rejudge])

theorem execEgressSelect {port : Fin 64} (hs : Kept vr s) : KeptOut vr (execEgressSelect port stamp read s) := by
  refine hs.whenUp (.ite ?_ hs)
  split
  next => exact hs.credit
  next e => exact (hs.credit.choose e).startChosen.rejudge

theorem execCopySent {port : Fin 64} (hs : Kept vr s) : KeptOut vr (execCopySent port s) := by
  refine hs.whenUp ?_
  split
  · exact hs
  · split; exacts [hs.setTx, .ite hs hs.credit.finishCopy]

theorem execQuillFrameStart {port : Fin 64} {header : List Byte} (hs : Kept vr s) :
    KeptOut vr (execQuillFrameStart port header stamp s) := by
  refine hs.whenUp ?_
  split
  · exact hs
  · refine .ite hs ?_
    extract_lets _ _
    split; exacts [hs.useFree.setOpen, hs.useFree.fwrap.updWinOf.quillBlot]

theorem execQuillFrameEnd {port : Fin 64} {rest : List Byte} {errored : Bool} (hs : Kept vr s) :
    KeptOut vr (execQuillFrameEnd port rest errored s) := by
  refine hs.whenUp ?_
  split
  · exact hs
  · split
    · exact hs
    · exact .ite hs.quillBlot (.ite hs.quillBlot
        hs.emit.cntAdd.cntAdd.cntAdd.cntAdd.updWinOf.bwCount.captureQuill.frameLeft)

theorem execQuillOverrun {port : Fin 64} {sent : List Byte} (hs : Kept vr s) :
    KeptOut vr (execQuillOverrun port sent s) := by
  refine hs.whenUp ?_
  split
  · exact hs
  · split; exacts [hs, hs.quillBlot]

theorem execTxphSteer {port : Fin 64} (hs : Kept vr s) : KeptOut vr (execTxphSteer port arrivals s) :=
  hs.whenUp (.ite hs (.ite hs.steerStops (.steerLock (.fput (.ite hs.setArrivals (hs.setArrivals.foldl (fun _ _ =>
    .steerLane)))))))

theorem execSpillWriteDone (hs : Kept vr s) : KeptOut vr (execSpillWriteDone read s) := by
  refine hs.whenUp ?_
  split
  · exact hs
  · extract_lets _ _
    split
    · exact hs.frame
    · exact .ite hs (.rejudge (by split; exacts [hs.writeEnds, hs.frame.writeEnds]))

theorem execSpillReadbackDone {port : Fin 64} {queue : Fin 10} (hs : Kept vr s) :
    KeptOut vr (execSpillReadbackDone port queue good s) :=
  hs.whenUp (by split; exacts [hs, .ite (.ite hs hs.setQueue) hs.setQueue.countDrop.fcount.seen.endSpilling.rejudge])

theorem execPeatRestartDone (hs : Kept vr s) : KeptOut vr (execPeatRestartDone s) := by
  refine hs.whenUp (.ite ?_ hs)
  extract_lets _ _ _ t3
  have ht3 : Kept vr t3 := hs.ctlVerified.frame.foff.foff
  exact .ite ht3.fon ht3

theorem execMasterLost {inst : Fin 8} (hs : Kept vr s) : KeptOut vr (execMasterLost inst s) := by
  refine hs.whenUp (.ite ?_ hs)
  extract_lets t
  have ht : Kept vr t := hs.fon.foff
  exact .ite ht.servoStop.sourceLost.refreshLyd ht

theorem execMasterChange {inst : Fin 8} {parentPort : Fin 64} {stepsRemoved : Nat} (hs : Kept vr s) :
    KeptOut vr (execMasterChange inst parentPort stepsRemoved s) := by
  refine hs.whenUp (.ite ?_ hs)
  extract_lets t
  have ht : Kept vr t := hs.fon.fset.fset
  exact .ite (.ite ht.fon.servoStop.sourceLost.refreshLyd ht.fon) ht

theorem execSuperframeReceive {clkl : Fin 16} {record : Option (List Byte)} {samples : LaneSamples} (hs : Kept vr s) :
    KeptOut vr (execSuperframeReceive clkl record rx samples s) := by
  refine hs.whenUp (.ite hs ?_)
  split; exacts [hs.missSuperframe, .ite hs.useFree.useFree.goodSuperframe hs.fwrap.missSuperframe]

theorem execOffsetAverage (hs : Kept vr s) : KeptOut vr (execOffsetAverage s) := by
  refine hs.whenUp (.ite hs ?_)
  extract_lets _ t
  have ht : Kept vr t := hs.useFree.setWide2
  exact .refreshLyd (.ite ht.steer ht.dropThetas)

theorem execOuterLoopCompare (hs : Kept vr s) : KeptOut vr (execOuterLoopCompare phase s) := by
  refine hs.whenUp ?_
  split
  · exact hs
  · exact .ite hs (.ite hs.loopStep.outerLock (.ite (.ite hs.loopStep.endPull hs.loopStep.frame) hs))

theorem execEmberLearnSecond (hs : Kept vr s) : KeptOut vr (execEmberLearnSecond s) :=
  hs.whenUp (by split; exacts [hs, .ite (.ite hs.frame.fset.foff hs.frame.fset) hs])

theorem execSynthLockLoss {synth : Fin 6} (hs : Kept vr s) : KeptOut vr (execSynthLockLoss synth s) := by
  refine hs.whenUp (.ite (.ite ?_ hs.lateCause) hs.osynLost)
  extract_lets t
  have ht : Kept vr t := hs.foff.seen
  exact .ite ht.leaveService ht.lateCause

theorem execNibEdge {input : Fin 16} (hs : Kept vr s) : KeptOut vr (execNibEdge input falling stamp s) :=
  hs.whenUp (.ite (by split; exacts [.ite hs.deadEdge hs.stampEdge, hs.stampEdge]) hs)

theorem execFreqGateEnd {input : Fin 16} (hs : Kept vr s) : KeptOut vr (execFreqGateEnd input s) := by
  refine hs.whenUp (.ite ?_ hs)
  extract_lets _
  split; exacts [hs.setNibIn, hs.writeGate.setNibIn.foldl (fun _ _ => .freqEdge)]

theorem execLeaseExpired (hs : Kept vr s) : KeptOut vr (execLeaseExpired s) :=
  hs.whenUp (by split; exacts [.ite hs.leaveService hs, .ite hs.lateCause hs, hs])

theorem execLockstepMismatch (hs : Kept vr s) : KeptOut vr (execLockstepMismatch s) :=
  hs.whenUp (by split; exacts [.ite hs.fcount.fon.frame.healthEvent hs, hs])

theorem execDiagnosisDone {activePasses standbyPasses : Bool} (hs : Kept vr s) :
    KeptOut vr (execDiagnosisDone activePasses standbyPasses s) := by
  refine hs.whenUp (.ite hs ?_)
  extract_lets _ _
  split
  · extract_lets t2
    have ht2 : Kept vr t2 := .ite hs.frame hs.frame.leaveService
    exact .ite ht2.leaveService (.ite ht2.bothPassed ht2)
  · exact hs.frame

theorem execResyncDone (hs : Kept vr s) : KeptOut vr (execResyncDone s) :=
  hs.whenUp (by split; exacts [hs, .ite (.ite hs.setHearth.frame.fcount.endHandover hs.setHearth.frame.fcount) hs])

theorem execSnapshotTake (hs : Kept vr s) : KeptOut vr (execSnapshotTake s) :=
  hs.whenUp (by split; exacts [hs.takeSnapshot, hs])

theorem execTakeoverInnerLock (hs : Kept vr s) : KeptOut vr (execTakeoverInnerLock s) :=
  hs.whenUp (by split; exacts [.ite hs.fon.setStage hs, hs])

theorem execTakeoverMuxMove (hs : Kept vr s) : KeptOut vr (execTakeoverMuxMove s) :=
  hs.whenUp (by split; exacts [.ite hs.fon.modeBack.resumeWindows.setStage hs, hs])

theorem execTakeoverEnd (hs : Kept vr s) : KeptOut vr (execTakeoverEnd s) :=
  hs.whenUp (by split; exacts [.ite hs.endTakeover hs, hs])

theorem execTakeoverLockMiss (hs : Kept vr s) : KeptOut vr (execTakeoverLockMiss s) :=
  hs.whenUp (by split; exacts [.ite (.startSpine (.ite hs hs.fon.seen)) hs, hs])

theorem execLongTakeoverTimeout (hs : Kept vr s) : KeptOut vr (execLongTakeoverTimeout s) :=
  hs.whenUp (by split; exacts [.ite hs.leaveService hs, hs])

theorem execHearthRestartDone {lockUs : Nat} (hs : Kept vr s) : KeptOut vr (execHearthRestartDone h lockUs s) := by
  refine hs.whenUp (.ite ?_ hs.hearthVerified)
  extract_lets t
  have ht : Kept vr t := hs.hearthVerified.foff.testResult
  exact .ite ht.setHearth.fcount ht.setHearth

theorem execSelfTestDone {lockUs : Nat} (hs : Kept vr s) : KeptOut vr (execSelfTestDone lockUs s) := by
  refine hs.whenUp ?_
  split
  · exact hs
  · refine .ite ?_ hs
    extract_lets t
    have ht : Kept vr t := hs.testResult.handoverTested
    exact .ite ht.leaveService ht

theorem execSelfTestRetry (hs : Kept vr s) : KeptOut vr (execSelfTestRetry s) :=
  hs.whenUp (by split; exacts [.ite hs hs.startTest, hs])

theorem execTrialConfirm (hs : Kept vr s) : KeptOut vr (execTrialConfirm s) := by
  refine hs.whenUp ?_
  split
  · exact hs
  · split; exacts [hs, .ite hs.confirm hs]

theorem execTrialWindowExpired (hs : Kept vr s) : KeptOut vr (execTrialWindowExpired s) :=
  hs.whenUp (by split; exacts [.ite hs.fallback hs, hs])

theorem execCntTimedAction (hs : Kept vr s) : KeptOut vr (execCntTimedAction s) :=
  hs.whenUp (by split; exacts [.ite hs.setTimed.cntAction hs, hs])

theorem execNotifySend (hs : Kept vr s) : KeptOut vr (execNotifySend s) :=
  hs.whenUp (by split; exacts [hs, .ite hs (.ite (hs.frameMgt (by rfl)).unprompted (hs.frameMgt (by rfl)))])

theorem execHealthReportSend (hs : Kept vr s) : KeptOut vr (execHealthReportSend s) := by
  refine hs.whenUp (.ite ?_ hs)
  extract_lets _ _ t2
  have ht2 : Kept vr t2 := hs.useFree.frame
  exact .ite ht2.unprompted ht2

theorem execI2cDone {cage : Fin 16} {result : Fin 3} {data : Word} (hs : Kept vr s) :
    KeptOut vr (execI2cDone cage result data s) := by
  refine hs.whenUp ?_
  split; exacts [hs, (hs.useFree.frameMgt (by rfl)).setReg.fset.foff]

theorem execConfigRewriteDone {write erase : BankOp} (hs : Kept vr s) :
    KeptOut vr (execConfigRewriteDone write erase s) := by
  refine hs.whenUp ?_
  split
  · refine .ite hs.loseBlocks.setCfgBank.useFree.clearMarker.downFails ?_
    extract_lets t
    have ht : Kept vr t := hs.loseBlocks.setCfgBank.loseBlocks
    exact .ite ht.clearMarker.downFails ht.setCfgBank.clearMarker.showBank.showBank.xferResult.downIdle
  · exact hs

/-- Every command keeps the invariant. -/
theorem exec (hs : Kept vr s) : ∀ i, KeptOut vr (exec i s)
  | .registerWrite .. => hs.whenUp (.busWrite hs)
  | .wideLowRead .. => hs.whenUp hs.answerRead
  | .wideLowWrite .. => hs.whenUp (.busWrite hs)
  | .wideHighWrite .. => hs.whenUp (.busWrite hs)
  | .laneCopyRefresh .. => hs.execLaneCopyRefresh
  | .timeCopyReload => hs.whenUp (.ite hs.frame hs)
  | .clockAbsentDeclared .. => hs.whenUp hs.clockAbsent
  | .vbatCrossingRestart .. => hs.whenUp (.ite (.ite hs.foff hs.foff.loseStore) hs)
  | .softStart .. => .done (.ite hs.frame hs)
  | .softStartComplete => .done (.ite hs.clearBlocks.frame hs)
  | .enableLow .. => hs.powerCause.frame.done
  | .vinBelowWarning .. => hs.powerCause.done
  | .reverseCurrentTrip .. => hs.powerCause.done
  | .overvoltageTimeout .. => hs.powerCause.done
  | .currentLimitTimeout .. => hs.powerCause.done
  | .thermalShutdown .. => hs.powerCause.done
  | .ovWarn => hs.whenUp (.ite hs hs.fon.foff.seen)
  | .ilimReached => hs.whenUp hs.seen
  | .powerDownRecordStored => .done (.ite hs.frame.pushLog hs)
  | .dormantReached => .done (.ite (hs.resetBlocks.frameMgt (by rfl)) hs)
  | .tempSensorUpdate .. => hs.whenUp (.emberCorrect (.growExcursion (.sensorSubst (.setReg (.judgeTemp (.fput (.ite
      hs.showTemps.fon hs.showTemps)))))))
  | .vbatLow .. => hs.whenUp (.ite hs (.ite hs.vbatLevel hs.vbatLow))
  | .vbatRecover .. => hs.whenUp (.ite hs hs.vbatLevel.foff.pushLog)
  | .dormantSecond => .done (.ite hs.frame hs)
  | .rstNAssert => .done (.ite hs.frame hs.frame.clearBlocks.frame)
  | .rstNRelease => .done (.ite hs.frame hs.frame.deviceReset)
  | .resetCtrlWrite .. => hs.whenTaken hs.resetCtrl
  | .kindlingBegin .. => hs.whenUp (.ite hs.vbatKindled.writeCause.setReg.frame.beginStart.beginStart hs)
  | .firmwareVerified .. => hs.whenUp (.ite hs.hearthVerified hs.ctlVerified)
  | .kindlingLeaseClaim => hs.execKindlingLeaseClaim
  | .configImageLoad .. => hs.whenUp (.ite
      hs.showBank.showBank.loadFrom.ctlVerified.ctlVerified.trainPeat.startHolder.frame hs)
  | .spineFirstLock => hs.execSpineFirstLock
  | .kindlingComplete .. => hs.whenUp (.ite hs.loadFactory.loseMac.frame.startWindows.startLanes hs)
  | .kindlingWatchdog => hs.whenUp (.ite hs.deviceReset hs)
  | .stagedWrite .. => hs.whenTaken (.stageWrite hs)
  | .stageOpen .. => hs.whenTaken hs.stageCtrl
  | .stageCheck .. => hs.whenTaken hs.stageCtrl
  | .checkDone => hs.whenUp (.ite hs.showCheck.frame hs)
  | .stageArm .. => hs.whenTaken hs.stageCtrl
  | .armDistributed => hs.whenUp (.ite hs.frame hs)
  | .stageAbort .. => hs.whenTaken hs.stageCtrl
  | .commitApply .. => hs.whenUp (.ite hs.commitNow hs)
  | .sessionTimeout => hs.whenUp (.ite hs.loseSession hs)
  | .persistStart .. => hs.whenTaken hs.persistStart.ackFlag.ackFlag
  | .persistDone .. => hs.execPersistDone
  | .rateSearchDwell .. => hs.whenUp (.ite hs.setTried.ldecl hs)
  | .rateFound .. => hs.whenUp (.ite hs.ldecl.laneState.laneRef hs)
  | .rateSearchRestart .. => hs.whenUp (.ite hs.ldecl.laneStarts hs)
  | .signalPresent .. => hs.execSignalPresent
  | .cdrLockAcquired .. => hs.execCdrLockAcquired
  | .blockLockAcquired .. => hs.execBlockLockAcquired
  | .linkUp .. => hs.whenUp (.ite (.rejudge (.fput (.fput (.fon (.foff (.foff (hs.foldl (fun _ _ hu =>
      hu.laneState.lset)))))))) hs)
  | .signalLoss .. => hs.execSignalLoss
  | .cdrUnlock .. => hs.execCdrUnlock
  | .blockLockLoss .. => hs.whenUp (.ite hs.ldecl.laneFalls hs)
  | .hiBer .. => hs.execHiBer
  | .faultReceived .. => hs.whenUp (.ite hs.fput.fput.portFalls hs)
  | .laneRestart .. => hs.whenUp (.ite hs.beginRestart hs)
  | .laneCmdRestart .. => hs.whenTaken (.ite hs.beginRestart hs)
  | .laneRestartDone .. => hs.whenUp (.ite hs.frame.foff.ldecl.foff.carryLane.restartTxph.laneState hs)
  | .freqOfsUpdate .. => hs.whenUp (.ite hs.lset hs)
  | .clklSlip .. => hs.whenTaken hs.slip
  | .clklConfirm .. => hs.whenTaken hs.askConfirm
  | .clklWindowEnd .. => hs.execClklWindowEnd
  | .alignLost .. => hs.whenUp hs.unalign
  | .clklAlignSearch .. => hs.whenUp (.ite hs.startSearch hs)
  | .clklSearchRetry .. => hs.whenUp (.ite hs.startSearch hs)
  | .trunkDownAlarm .. => hs.whenUp (.ite hs.frame hs)
  | .prbsCheckerLock .. => hs.execPrbsCheckerLock
  | .prbsLockLost .. => hs.execPrbsLockLost
  | .prbsClr .. => hs.whenTaken hs.clearErrors
  | .prbsTxEn .. => hs.whenTaken hs.setTxEn
  | .errInjectGo .. => hs.whenTaken hs.injectErrors
  | .frameParse .. => hs.execFrameParse
  | .learnInsert .. => hs.execLearnInsert
  | .ageOut .. => hs.whenUp (.ite hs.setLearned hs)
  | .frameEnd .. => hs.execFrameEnd
  | .epochDrained => hs.whenUp hs.foff.frame
  | .residueQueue .. => hs.whenUp hs.requeueResidue
  | .residueTimeout .. => hs.execResidueTimeout
  | .recoveryReset .. => hs.whenUp (.ite hs.setStream hs)
  | .fwdTblRead .. => hs.whenTaken hs.tblCmd.tblOp
  | .fwdTblWrite .. => hs.whenTaken hs.tblCmd.tblOp
  | .fwdTblSearch .. => hs.whenTaken hs.tblCmd.tblOp
  | .fwdTblReadState .. => hs.whenTaken hs.tblCmd.tblOp
  | .fwdTblClearState .. => hs.whenGated hs.tblCmd.tblOp
  | .learnFlush .. => hs.whenGated hs.fput.fset.learnFlush
  | .egressSelect .. => hs.execEgressSelect
  | .copySent .. => hs.execCopySent
  | .windowOpen .. => hs.whenUp (.ite (.ite hs.setArrivals.openWindow hs.setArrivals.missWindow) hs)
  | .windowClose .. => hs.whenUp hs.closeBoundary
  | .guardBandStart .. => hs.whenUp (.ite hs.frame hs)
  | .guardBandEnd .. => hs.whenUp hs.frame
  | .quillFrameStart .. => hs.execQuillFrameStart
  | .quillFrameEnd .. => hs.execQuillFrameEnd
  | .quillOverrun .. => hs.execQuillOverrun
  | .elasticDrift .. => hs.whenUp (.ite hs.fon.closeBoundary hs)
  | .txphSteer .. => hs.execTxphSteer
  | .windowTableSwap .. => hs.whenUp (.ite hs.swapBanks hs)
  | .qwTblRead .. => hs.whenTaken hs.qwCmd.qwOp
  | .qwTblWrite .. => hs.whenTaken hs.qwCmd.qwOp
  | .qwTblReadState .. => hs.whenTaken hs.qwCmd.qwOp
  | .qwTblClearState .. => hs.whenGated hs.qwCmd.qwOp
  | .poolRebuildDone .. => hs.whenUp (.ite hs.setPool.foff.rejudge hs)
  | .spillWriteDone .. => hs.execSpillWriteDone
  | .spillReadbackDone .. => hs.execSpillReadbackDone
  | .peatRestart .. => hs.whenTaken (.ite hs hs.startPeatCtl)
  | .peatRestartDone => hs.execPeatRestartDone
  | .linkFlush .. => hs.whenUp (.ite hs hs.flushPort.rejudge)
  | .gateEntryChange .. => hs.whenUp (.ite hs.gateNow hs)
  | .gateListSwap .. => hs.whenUp (.ite hs.gateSwap hs)
  | .timeRateWrite .. => hs.whenUp (.rateWrite hs)
  | .timeStep .. => hs.whenUp hs.timeStep
  | .timeSlew .. => hs.whenUp (.slewWrite hs)
  | .masterLost .. => hs.execMasterLost
  | .masterChange .. => hs.execMasterChange
  | .tsqPop .. => hs.whenTaken hs.tsqPop
  | .superframeSend .. => hs.whenUp (.ite hs.useFree.emit.countGmSeq.setLydLink hs)
  | .superframeReceive .. => hs.execSuperframeReceive
  | .bmcaEvaluate => hs.whenUp (.refreshLyd (.evaluate (hs.foldl (fun _ _ => .judgeLink))))
  | .trunkSourceLost => hs.whenUp (.ite hs.replaceUpstream hs)
  | .offsetAverage => hs.execOffsetAverage
  | .outerLoopCompare .. => hs.execOuterLoopCompare
  | .refFreqUpdate .. => hs.whenUp (.ite hs (.ite (.ite hs.setMon.undefer hs.setMon) (.ite hs.setMon.setRefState
      hs.setMon)))
  | .refLoss .. => hs.whenUp (.ite hs.sourceDown hs)
  | .refActive .. => hs.whenUp (.ite hs.sourceUp hs)
  | .refQualified .. => hs.whenUp (.ite hs.setRefState hs)
  | .driftTest => hs.whenUp (hs.frame.foldl (fun _ _ => .driftJudge))
  | .synReeval => hs.whenUp hs.reeval
  | .pullDone => hs.whenUp (.ite hs.endPull hs)
  | .emberLearnSecond => hs.execEmberLearnSecond
  | .synthLock .. => hs.whenUp (.ite (.ite hs.fon hs) (.ite (.refreshPos (.fon (.ite hs.startOsyn hs))) hs))
  | .synthLockLoss .. => hs.execSynthLockLoss
  | .osynRefLoss .. => hs.whenUp (.ite hs.foff.seen.frame.refreshPos hs)
  | .poAlign .. => hs.whenUp (.ite hs hs.alignOsyn)
  | .poAlignRestart .. => hs.whenUp (.ite hs.foff.frame.refreshPo hs)
  | .synBandRead .. => hs.whenTaken hs.bandCmd.bandOp
  | .synBandWrite .. => hs.whenTaken hs.bandCmd.bandOp
  | .synBandReadFactory .. => hs.whenTaken hs.bandCmd.bandOp
  | .nibEdge .. => hs.execNibEdge
  | .nibPop .. => hs.whenTaken (.ite hs.nibPop hs)
  | .nibArm .. => hs.whenTaken (.ite hs.nibArm hs)
  | .nibAbort .. => hs.whenTaken (.ite hs.endMeasure hs)
  | .nibFlush .. => hs.whenTaken (.ite hs.nibFlush hs)
  | .freqGateEnd .. => hs.execFreqGateEnd
  | .nibRestart .. => hs.whenTaken (.ite hs hs.nibRestart)
  | .calStart .. => hs.whenTaken hs.calStart
  | .calApply .. => hs.whenUp (.ite hs.calApply hs)
  | .leaseRenew .. => hs.whenUp hs.renew
  | .leaseExpired => hs.execLeaseExpired
  | .hearthMemUncorr .. => hs.whenUp hs.cinder
  | .hearthWatchdog .. => hs.whenUp hs.cinder
  | .islandPowerFail .. => hs.whenUp hs.islandFails
  | .lockstepMismatch => hs.execLockstepMismatch
  | .diagnosisDone .. => hs.execDiagnosisDone
  | .resyncDone => hs.execResyncDone
  | .snapshotTake => hs.execSnapshotTake
  | .tokenClaim => hs.whenUp (.ite (.ite hs.claim (.ite hs.claim hs)) hs)
  | .takeoverInnerLock => hs.execTakeoverInnerLock
  | .takeoverAlignerMatch => hs.whenUp (.ite hs.setStage hs)
  | .takeoverMuxMove => hs.execTakeoverMuxMove
  | .takeoverEnd => hs.execTakeoverEnd
  | .takeoverLockMiss => hs.execTakeoverLockMiss
  | .longTakeoverTimeout => hs.execLongTakeoverTimeout
  | .noHolder => hs.whenUp (.ite hs.noHolder hs)
  | .hrtHandover .. => hs.whenTaken hs.startHandover
  | .hrtRestart .. => hs.whenTaken hs.hearthRestart
  | .hrtCinder .. => hs.whenTaken hs.cinder
  | .hrtTest .. => hs.whenTaken hs.startTest
  | .autoRestart .. => hs.whenUp (.ite hs (.ite hs.fset.hearthRestart hs.setHearth))
  | .hearthRestartDone .. => hs.execHearthRestartDone
  | .selfTestPeriodic => hs.whenUp hs.startTest
  | .selfTestDone .. => hs.execSelfTestDone
  | .selfTestRetry => hs.execSelfTestRetry
  | .updBegin .. => hs.whenTaken hs.fset.updBegin
  | .updEraseDone .. => hs.whenUp (.ite (.ite hs.downFails hs.frame) hs)
  | .updDataWrite .. => hs.whenTaken hs.updData
  | .updEnd .. => hs.whenTaken hs.updEnd
  | .updAbort .. => hs.whenTaken hs.updAbort
  | .updSessionTimeout => hs.whenUp (.ite hs.downFails hs)
  | .updActivate .. => hs.whenTaken hs.updActivate
  | .updReject .. => hs.whenTaken hs.updReject
  | .updAllow .. => hs.whenTaken hs.updAllow
  | .trialConfirm => hs.execTrialConfirm
  | .trialWindowExpired => hs.execTrialWindowExpired
  | .cntSnapshot .. => hs.whenTaken hs.cntCmd
  | .cntFreeze .. => hs.whenTaken hs.cntCmd
  | .cntThaw .. => hs.whenTaken hs.cntCmd
  | .cntSnapshotClear .. => hs.whenTaken hs.cntCmd
  | .cntAbort .. => hs.whenTaken hs.setTimed
  | .cntTimedAction => hs.execCntTimedAction
  | .bwPeriodEnd .. => hs.whenUp (.ite (.setBw (.ite (.bwWrite hs) hs)) hs)
  | .cntCapPop .. => hs.whenTaken hs.capPop
  | .cntCapDataRead .. => hs.whenUp hs.emit.capAdvance
  | .mirrorFrameSend => hs.whenUp (.ite hs (.ite hs.frame.inject hs.frame.inject.fcount))
  | .mgmtRead => hs.whenUp (hs.serve (fun _ _ => .agentReads))
  | .mgmtWrite => hs.whenUp (hs.serve (fun _ _ => .agentWrites))
  | .mgmtWriteRepeat => hs.whenUp (hs.serve (fun _ _ => .agentWrites))
  | .mgmtReadRepeat => hs.whenUp (hs.serve (fun _ _ => .agentReads))
  | .mgmtReset => hs.whenUp (hs.serve (fun _ _ => .agentReset))
  | .mgmtHealth => hs.whenUp (hs.serve (fun _ _ => .useFree))
  | .notifySend => hs.execNotifySend
  | .healthReportSend => hs.execHealthReportSend
  | .alarmClear .. => hs.whenTaken hs.clearAlarms
  | .uartRead .. => hs.whenUp (.ite hs.busRead.reply hs)
  | .uartWrite .. => hs.whenUp (.ite hs (.ite hs.reply (.reply (.busWrite hs))))
  | .uartReadRepeat .. => hs.whenUp (.ite hs (.ite hs.reply hs.uartReads.reply))
  | .uartHealth => hs.whenUp (.ite hs.useFree.reply hs)
  | .uartAlarm => hs.whenUp hs.reply
  | .uartBadLine => hs.whenUp hs.reply
  | .i2cTransaction .. => hs.whenUp (.busWrite hs)
  | .i2cDone .. => hs.execI2cDone
  | .jtagExtest .. => .done (.ite (hs.holdCore.frameMgt (by rfl)) hs)
  | .jtagSamplePreload .. => .done (.ite (hs.setIr.emit.frameMgt (by rfl)) hs)
  | .jtagIdcode => .done (.ite hs.setIr.emit hs)
  | .jtagClamp => .done (.ite hs.holdCore hs)
  | .jtagHighz => .done (.ite hs.holdCore hs)
  | .jtagBypass => .done (.ite hs.setIr hs)
  | .jtagTestExit => .done (.ite hs.setIr hs)
  | .handoverTokenRelease => hs.whenUp (.ite hs.frame.freeToken hs)
  | .controllerWatchdog .. => hs.whenUp (.ite hs.startPart hs)
  | .laneControllerRestartDone => hs.whenUp (.ite hs.ctlVerified.frame hs)
  | .islandCauseCleared .. => hs.whenUp (.ite hs.setHearth hs)
  | .autoLeftReplenish .. => hs.whenUp hs.fset
  | .ovWarnEnd => hs.whenUp hs.foff.fon
  | .learnFlushDone => hs.whenUp hs.foff
  | .nibRestartDone => hs.whenUp (.ite hs.foff.foff hs)
  | .configRewriteDone .. => hs.execConfigRewriteDone

theorem idle (hs : Kept vr s) : Kept vr (idle s) := .ite hs.frame.spineCycle hs.frame

theorem step (hs : Kept vr s) : KeptOut vr (step s) := by
  unfold Machine.step
  split
  · rintro _ ⟨⟩
    exact hs.idle
  · exact hs.frame.exec _

end
end Kept

/-- Settles O59: the invariant `Kept`, rule by rule over the operations of the model. -/
theorem stepsKeepOk : Obligations.StepsKeepOk := by
  intro s t hs h
  obtain ⟨hp, ht⟩ := Kept.step ⟨rfl, hs⟩ t h
  exact ⟨ht, hp⟩

end Sys2Proof.Machine

/-! # Starts of actions that run (00 R8) -/

namespace Sys2Proof.Machine

/-! ## Effects that begin no alarm condition -/

/-- The registers whose words hold alarm bits (16 R428). -/
def condKeys : List Nat := [GLB_PWR_STATUS, HRT_STATUS, CAL_STATUS, GLB_STATUS]

/-- An update that keeps the words of the conditions and the management state begins no condition. -/
theorem alarmConds_of_condKeys {s t : State} (hr : ∀ k ∈ condKeys, t.getReg k = s.getReg k) (hm : t.mgt = s.mgt) :
    t.alarmConds = s.alarmConds := by
  have hbit : ∀ f : Fld, f.key ∈ condKeys → t.fbit f = s.fbit f := fun f hf => by
    simp only [State.fbit, State.fget, hr _ hf]
  simp only [State.alarmConds, State.openAccess, hm]
  rw [hbit GLB_PWR_STATUS_TEMP_ALARM (by decide), hbit GLB_PWR_STATUS_SENSOR_FAULT (by decide),
    hbit HRT_STATUS_NO_HOLDER (by decide), hbit CAL_STATUS_FACTORY_LOST (by decide),
    hbit CAL_STATUS_GROUP_FAIL (by decide), hbit GLB_STATUS_CFG_DEFAULTED (by decide)]

/-- The outcome of a command that writes one register, none of the conditions', and no management state. -/
theorem done_of_reg {s t : State} {k : Nat} (hk : k ∉ condKeys) (hr : ∀ j, j ≠ k → t.getReg j = s.getReg j)
    (ht : t = { s with regs := t.regs }) : done s t = .next t := by
  have hcond : t.alarmConds = s.alarmConds :=
    alarmConds_of_condKeys (fun j hj => hr j (ne_of_mem_of_not_mem hj hk)) (by rw [ht])
  rw [done_queue (by rw [ht]), settle_of_same s t hcond]

/-! ## The plain write of a word (00 R6, R7) -/

/-- A write leaves the bits of a register that are neither RW nor W1C. -/
theorem testBit_plainWrite {s : State} {b : BusReg} {v i : Nat} (hi : i < 32)
    (hp : (plainMask b.d).testBit i = false) (hw : (w1cMask b.d).testBit i = false) :
    ((s.plainWrite b 0 v).getReg b.key).testBit i = (s.getReg b.key).testBit i := by
  have hones : Nat.testBit 0xFFFFFFFF i = true := (Nat.testBit_two_pow_sub_one 32 i).trans (decide_eq_true hi)
  unfold State.plainWrite maskWord
  rw [getReg_setReg_same, Nat.testBit_mod_two_pow]
  simp only [Nat.testBit_and, Nat.testBit_or, Nat.testBit_xor, hp, hw, hones, decide_eq_true hi]
  simp

theorem getReg_plainWrite_ne {s : State} {b : BusReg} {skip v j : Nat} (h : j ≠ b.key) :
    (s.plainWrite b skip v).getReg j = s.getReg j := getReg_setReg_ne _ _ _ _ h

/-- A field of one bit is a bit of its word. -/
theorem fbit_bit (s : State) (k i : Nat) : s.fbit ⟨k, i, 1⟩ = (s.getReg k).testBit i := by
  simp only [State.fbit, State.fget, fieldOf, pow_one, Nat.testBit_eq_decide_div_mod_eq]
  rcases Nat.mod_two_eq_zero_or_one (s.getReg k / 2 ^ i) with h | h <;> rw [h] <;> rfl

/-- The write of a register changes no part of the state but the registers. -/
theorem setReg_only {s t : State} (h : t = { s with regs := t.regs }) (k v : Nat) :
    t.setReg k v = { s with regs := (t.setReg k v).regs } := by
  have hm : ∀ m, { t with regs := m } = { s with regs := m } := fun m => by rw [h]
  exact hm _

/-- A register of one word without staged fields, not of the commit time, takes a write in its block. -/
theorem busTake_single {s : State} {q : Requester} {b : BusReg} (hst : stagedMask b.d = 0)
    (hc : b.commitTime = false) (hw : b.d.wide = .single) (addr v : Nat) :
    s.busTake q b addr v = s.writeBlock q b v := by
  simp [State.busTake, hst, hc, hw]

/-! ## MGT_I2C_CMD (16 R425) -/

/-- The definition of MGT_I2C_CMD. -/
def i2cReg : RegDef := mgtRegs[16]

/-- MGT_I2C_CMD as it answers a requester. -/
def i2cCmd (q : Requester) : BusReg := ⟨i2cReg, [], MGT_I2C_CMD (reqIx q)⟩

theorem busReg_i2cCmd (s : State) (q : Requester) : s.busReg q (MGT_I2C_CMD 0 % 2 ^ 32) = some (i2cCmd q) := rfl

/-- It is a register of block MGT, and neither staged nor wide. -/
theorem i2cReg_kind : blockNo i2cReg.addr = 28 ∧ stagedMask i2cReg = 0 ∧ i2cReg.wide = .single := by decide

/-- GO is no bit that the write itself changes. -/
theorem i2cReg_go : (plainMask i2cReg).testBit 31 = false ∧ (w1cMask i2cReg).testBit 31 = false := by decide

/-- A write by a requester that acts: the operands, then GO. -/
theorem busWrite_i2cCmd {s : State} {q : Requester} (h : s.takes q = true) (v : Nat) :
    s.busWrite q (MGT_I2C_CMD 0 % 2 ^ 32) v = (s.plainWrite (i2cCmd q) 0 v).onBit v 31 fun t => t.i2cGo q := by
  obtain ⟨hblock, hst, hw⟩ := i2cReg_kind
  have hmgt : s.writeBlock q (i2cCmd q) v = s.writeMgt q (i2cCmd q) v := by
    simp only [State.writeBlock, i2cCmd, hblock]
  unfold State.busWrite
  rw [busReg_i2cCmd]
  simp only [h, Bool.true_or, if_true]
  rw [busTake_single hst rfl hw, hmgt]
  rfl

/-! ## Starts that are ignored (00 R8) -/

@[simp] theorem whenUp_self (s : State) : whenUp s s = .next s := by simp [whenUp]

@[simp] theorem whenTaken_self (s : State) (q : Requester) : whenTaken s q s = .next s := by simp [whenTaken]

section
variable {s : State} {q : Requester} {k : Nat}

theorem askConfirm_of_confirm (h : s.fbit (CLKL_SLIP_CONFIRM k) = true) : s.askConfirm k = s := by
  simp [State.askConfirm, h]

theorem persistStart_of_persist (h : s.cfg.persist.isSome = true) : s.persistStart = s := by
  simp [State.persistStart, h]

/-- A flag that a write does not acknowledge stays. -/
theorem ackFlag_of_not {v : Nat} {f : Fld} (h : bitOf v f.lo = false) : s.ackFlag v f = s := by
  simp [State.ackFlag, h]

theorem startHandover_of_handover (h : s.fbit HRT_CMD_HANDOVER = true) : s.startHandover = s := by
  simp [State.startHandover, h]

theorem learnFlush_of_flush {portOnly : Bool} (h : s.fbit FWD_LEARN_CMD_FLUSH = true) :
    s.learnFlush portOnly k = s := by
  simp [State.learnFlush, h]

theorem calStart_of_running (h : s.fbit CAL_STATUS_RUNNING = true) : s.calStart k = s.fset CAL_CMD_GROUPS k := by
  simp [State.calStart, h]

theorem i2cGo_of_go (h : s.fbit (MGT_I2C_CMD_GO (reqIx q)) = true) : s.i2cGo q = s := by
  simp [State.i2cGo, h]

/-- A flush that runs keeps running; the write holds PORT_ONLY and PORT. -/
theorem learnFlush_ignored {portOnly : Bool} {port : Fin 64} (hq : s.takes q = true) (hup : s.up = true)
    (h : s.fbit FWD_LEARN_CMD_FLUSH = true) :
    ∃ t, exec (.learnFlush q portOnly port) s = .next t ∧ t.fwd = s.fwd ∧ t.fbit FWD_LEARN_CMD_FLUSH = true ∧
      keepsBut [FWD_LEARN_CMD_PORT_ONLY, FWD_LEARN_CMD_PORT] s t ∧ t = { s with regs := t.regs } := by
  let t := (s.fput FWD_LEARN_CMD_PORT_ONLY portOnly).fset FWD_LEARN_CMD_PORT port.val
  have hkeep : keepsBut [FWD_LEARN_CMD_PORT_ONLY, FWD_LEARN_CMD_PORT] s t :=
    keepsBut_fset _ _ (by simp) rfl (keepsBut_fput _ _ (by simp) rfl (keepsBut_refl _ s))
  have hflush : t.fbit FWD_LEARN_CMD_FLUSH = true := by
    rw [State.fbit, hkeep FWD_LEARN_CMD_FLUSH (by decide)]
    exact h
  have hreg : ∀ j, j ≠ FWD_LEARN_CMD → t.getReg j = s.getReg j := fun j hj =>
    (getReg_fset_ne _ _ _ _ hj).trans (getReg_fset_ne _ _ _ _ hj)
  have honly : t = { s with regs := t.regs } := setReg_only (setReg_only rfl _ _) _ _
  refine ⟨t, ?_, congrArg (·.fwd) honly, hflush, hkeep, honly⟩
  simp only [exec, execLearnFlush]
  rw [learnFlush_of_flush hflush, whenGated_of_takes hq, whenUp_up hup, done_of_reg (by decide) hreg honly]

/-- A calibration that runs keeps running; the write holds GROUPS. -/
theorem calStart_ignored {groups : BitVec 6} (hq : s.takes q = true) (hup : s.up = true)
    (h : s.fbit CAL_STATUS_RUNNING = true) :
    ∃ t, exec (.calStart q groups) s = .next t ∧ t.cal = s.cal ∧ t.fbit CAL_STATUS_RUNNING = true ∧
      keepsBut [CAL_CMD_GROUPS] s t ∧ t = { s with regs := t.regs } := by
  have hkeep : keepsBut [CAL_CMD_GROUPS] s (s.fset CAL_CMD_GROUPS groups.toNat) :=
    keepsBut_fset _ _ (by simp) rfl (keepsBut_refl _ s)
  refine ⟨s.fset CAL_CMD_GROUPS groups.toNat, ?_, rfl, ?_, hkeep, rfl⟩
  · simp only [exec, execCalStart]
    rw [calStart_of_running h, whenTaken_of_takes hq, whenUp_up hup,
      done_of_reg (by decide) (fun j hj => getReg_fset_ne _ _ _ _ hj) rfl]
  · rw [State.fbit, hkeep CAL_STATUS_RUNNING (by decide)]
    exact h

/-- A cage transaction that runs keeps running; the write holds the operands of the next one. -/
theorem i2cTransaction_ignored {command : Word} (hq : s.takes q = true) (hup : s.up = true)
    (h : s.fbit (MGT_I2C_CMD_GO (reqIx q)) = true) :
    ∃ t, exec (.i2cTransaction q command) s = .next t ∧ t.mgt.i2c = s.mgt.i2c ∧
      t.fbit (MGT_I2C_CMD_GO (reqIx q)) = true ∧ (∀ j, j ≠ MGT_I2C_CMD (reqIx q) → t.getReg j = s.getReg j) ∧
      t = { s with regs := t.regs } := by
  let t := s.plainWrite (i2cCmd q) 0 (command.toNat ||| 2 ^ 31)
  have hgo : t.fbit (MGT_I2C_CMD_GO (reqIx q)) = true := by
    obtain ⟨hp, hw⟩ := i2cReg_go
    have hbit : (t.getReg (i2cCmd q).key).testBit 31 = (s.getReg (i2cCmd q).key).testBit 31 :=
      testBit_plainWrite (by decide) hp hw
    rw [MGT_I2C_CMD_GO, fbit_bit] at h ⊢
    exact hbit.trans h
  have hreg : ∀ j, j ≠ MGT_I2C_CMD (reqIx q) → t.getReg j = s.getReg j := fun j hj => getReg_plainWrite_ne hj
  have hbus : s.busWrite q (MGT_I2C_CMD 0 % 2 ^ 32) (command.toNat ||| 2 ^ 31) = t := by
    rw [busWrite_i2cCmd hq, State.onBit, i2cGo_of_go hgo, ite_self]
  have hk : MGT_I2C_CMD (reqIx q) ∉ condKeys := by cases q <;> decide
  have honly : t = { s with regs := t.regs } := setReg_only rfl _ _
  refine ⟨t, ?_, congrArg (·.mgt.i2c) honly, hgo, hreg, honly⟩
  simp only [exec, execI2cTransaction]
  rw [hbus, whenUp_up hup, done_of_reg hk hreg honly]

end

/-- Settles O51: a start is ignored while its action runs; the three writes with operands still hold them. -/
theorem runningActionsIgnoreStarts : Obligations.RunningActionsIgnoreStarts := by
  refine ⟨?_, fun _ _ _ _ => learnFlush_ignored, fun _ _ _ => calStart_ignored, fun _ _ _ => i2cTransaction_ignored⟩
  rintro s q n crossed k po i _ h rfl
  simp only [List.mem_cons, Prod.mk.injEq, List.not_mem_nil, or_false] at h
  rcases h with ⟨rfl, h⟩ | ⟨rfl, h⟩ | ⟨rfl, h⟩ | ⟨rfl, h⟩ | ⟨rfl, h⟩ | ⟨rfl, h⟩ | ⟨rfl, h⟩
  · simp [exec, execLaneCmdRestart, ← h]
  · simp [exec, execClklConfirm, askConfirm_of_confirm h.symm]
  · have hdone : s.ackFlag 1 CFG_PERSIST_DONE = s := ackFlag_of_not (by decide)
    have hstale : s.ackFlag 1 CFG_PERSIST_SNAPSHOT_STALE = s := ackFlag_of_not (by decide)
    simp [exec, execPersistStart, persistStart_of_persist h.symm, hdone, hstale]
  · simp [exec, execPeatRestart, ← h]
  · simp [exec, execPoAlign, ← h]
  · simp [exec, execNibRestart, ← h]
  · simp [exec, execHrtHandover, startHandover_of_handover h.symm]

end Sys2Proof.Machine

/-! # Reads and writes of registers (00 R6, R7, 01 R27): two statements with a state that refutes them -/

namespace Sys2Proof.Machine

/-- Lane 0 has its receive clock and counter 50 of its port, the corrected codewords, stands before its wrap. -/
def beforeWrap : State :=
  { State.reset with
    bus := { State.reset.bus with laneLive := [(LANE_STATUS 0, BitVec.ofNat 32 (2 ^ (LANE_STATUS_CDR_LOCK 0).lo))] }
    cnt := { State.reset.cnt with vals := [(cntKey 0 50, 2 ^ 48 - 1)] } }

/-- The codeword that wraps counter 50 sets its wrap bit (15 R401), in a register that holds no copy of the lane. -/
theorem wrap_of_beforeWrap {t : State} (h : exec (.laneCopyRefresh 0 0 1 0) beforeWrap = .next t) :
    t.getReg (CNT_WRAP1 0) = 2 ^ 18 := by
  obtain rfl := next_inj h
  rfl

/-- Refutes O35: a refresh that wraps a FEC counter also sets the counter's bit in CNT_WRAP1, which is neither copy of the
lane; the last clause says that every other register stays. -/
theorem not_registersAreRead : ¬ Obligations.RegistersAreRead := by
  rintro ⟨-, -, -, -, h⟩
  obtain ⟨t, ht, -, -, hkeep, -⟩ := h beforeWrap 0 0 1 0 rfl rfl rfl
  have hwrap := hkeep (CNT_WRAP1 0) (by decide) (by decide)
  rw [wrap_of_beforeWrap ht] at hwrap
  exact absurd hwrap (by decide)

/-- BUF_PEAT_CMD stands in the register map at its reset value, which the canonical form leaves out, and a restart of the
peat bank runs. -/
def listedAtReset : State :=
  { State.reset with
    regs := [(BUF_PEAT_CMD, 0)]
    buf := { State.reset.buf with peatRestart := true } }

/-- The write of BUF_PEAT_CMD stores its word again: the canonical form drops the entry. -/
theorem registerWrite_listedAtReset :
    exec (.registerWrite .agent (BitVec.ofNat 32 BUF_PEAT_CMD) (BitVec.ofNat 32 1)) listedAtReset =
      .next { listedAtReset with regs := [] } := rfl

theorem peatRestart_listedAtReset : exec (.peatRestart .agent) listedAtReset = .next listedAtReset :=
  rfl

/-- Refutes O36: no hypothesis asks for registers in canonical form. Where a state lists BUF_PEAT_CMD at its reset value
while a restart runs, the command is ignored and the write of its bit, which has nothing to change either, drops the
listed entry: the two next states are not the same. -/
theorem not_registersAreWritten : ¬ Obligations.RegistersAreWritten := by
  rintro ⟨-, -, -, -, -, -, h, -⟩
  have heq := h listedAtReset .agent 0 0 0 (.peatRestart .agent) BUF_PEAT_CMD 1 rfl rfl rfl rfl rfl (by simp)
  rw [registerWrite_listedAtReset, peatRestart_listedAtReset] at heq
  exact absurd (congrArg State.regs (next_inj heq)) (by decide)

end Sys2Proof.Machine

/-! # The queue of commands (log entries 1 and 6): every command completes and every queue is served -/

namespace Sys2Proof.Machine

/-- Every arm of `exec` ends in `done`, which answers a next state and puts the queue back. A frame's arm splits first by
where the frame comes from. -/
theorem exec_eq_done (i : Instr) (s : State) : ∃ t, exec i s = done s t := by
  cases i
  case frameParse src _ _ _ _ _ => cases src <;> exact ⟨_, rfl⟩
  all_goals exact ⟨_, rfl⟩

/-- Settles O56: every arm of `exec` ends in `done`. -/
theorem everyCommandCompletes : Obligations.EveryCommandCompletes := by
  intro i s
  obtain ⟨t, ht⟩ := exec_eq_done i s
  rw [ht]
  exact done_next s t

/-- A step of a queue with a command at its front answers a next state whose queue is the rest. -/
theorem step_of_pending {s : State} {c : Instr} {rest : List Instr} (h : s.pending = c :: rest) :
    ∃ t, step s = .next t ∧ t.pending = rest := by
  have hstep : step s = exec c { s with pending := rest } := by simp only [step, h]
  rw [hstep]
  exact everyCommandCompletes c _

/-- Runs compose at their front: after a step that answers a next state the run goes on from there. -/
theorem run_succ_of_step {s u : State} (h : step s = .next u) (n : Nat) : core.run (n + 1) s = core.run n u := by
  have hcore : core.step s = .next u := h
  simp only [Host.Core.run, hcore]

/-- Settles O57, by induction on the number of steps: each step takes the front command off the queue. -/
theorem queuesAreServed : Obligations.QueuesAreServed := by
  intro s n
  induction n generalizing s with
  | zero => exact fun _ => ⟨s, rfl, rfl⟩
  | succ n ih =>
    intro hn
    obtain ⟨c, rest, hq⟩ := List.exists_cons_of_length_pos (Nat.zero_lt_of_lt hn)
    obtain ⟨u, hu, hrest⟩ := step_of_pending hq
    have hlen : n ≤ u.pending.length := by simpa [hq, hrest] using hn
    obtain ⟨t, ht, hdrop⟩ := ih u hlen
    refine ⟨t, (run_succ_of_step hu n).trans ht, ?_⟩
    rw [hdrop, hrest, hq, List.drop_succ_cons]

end Sys2Proof.Machine

/-! # Absent clocks (01 R30 to R38): a statement with a state that refutes it -/

namespace Sys2Proof.Machine

/-- A copy whose bytes are in the peat bank. -/
def spilledCopy : Copy := ⟨.peat [], 0, State.reset.firstInfo 1 0 (parseFrame []) false, false⟩

/-- Port 0 sends from queue 0, whose head is in the peat bank and not in the read-back store. -/
def sendingSpilled : State :=
  { State.reset with
    buf := { State.reset.buf with queues := [(queueKey 0 0, [spilledCopy])], txs := [(0, some ⟨0, 0, false, none⟩)] } }

/-- The loss of the peat bank's clock cuts off a copy that leaves from the read-back store and drops every copy but the
one being sent: this head is neither. -/
theorem queueOf_peatAbsent_sendingSpilled : sendingSpilled.peatAbsent.queueOf 0 0 = [spilledCopy] := by
  decide +kernel

/-- What the command answers has the queues of its effect: an alarm condition that begins changes none. -/
theorem queueOf_of_peatAbsent {s t : State} {crossed : List Byte} (hup : s.up = true)
    (h : exec (.clockAbsentDeclared .peat crossed) s = .next t) (n q : Nat) :
    t.queueOf n q = s.peatAbsent.queueOf n q := by
  have hdone : done s s.peatAbsent = .next t := (whenUp_up hup _).symm.trans h
  obtain rfl := next_inj hdone
  simp [State.queueOf]

/-- Refutes O37: no hypothesis says that a copy being sent has left the peat bank. In `sendingSpilled` the copy survives
the loss of the peat bank's clock in its queue, still in the bank; the peat clause says that no queue holds such a copy. -/
theorem not_crossingsAreHeld : ¬ Obligations.CrossingsAreHeld := by
  rintro ⟨-, -, hpeat, -⟩
  obtain ⟨t, ht, -, -, -, -, hnone, -⟩ := hpeat sendingSpilled [] rfl rfl
  have hmem : spilledCopy ∈ t.queueOf 0 0 := by
    rw [queueOf_of_peatAbsent rfl ht, queueOf_peatAbsent_sendingSpilled]
    exact List.mem_singleton_self _
  exact absurd (hnone 0 0 spilledCopy hmem) (by decide)

end Sys2Proof.Machine

/-! # Sources of the time core (01 R22, 08 R249, R250, R265) -/

namespace Sys2Proof.Machine

/-! ## Register words and alarm conditions under a frame of fields -/

section
variable {fs : List Fld} {s t : State} {k : Nat}

/-- A word is its field of 32 bits. -/
theorem fget_word (s : State) (k : Nat) : s.fget ⟨k, 0, 32⟩ = s.getReg k := by
  simpa [State.fget, fieldOf] using getReg_lt s k

theorem keepsBut_mono {gs : List Fld} (hsub : fs ⊆ gs) (h : keepsBut fs s t) : keepsBut gs s t :=
  fun g hg => h g fun f hf => hg f (hsub hf)

theorem getReg_of_keepsBut (h : keepsBut fs s t) (hk : ∀ f ∈ fs, k ≠ f.key) : t.getReg k = s.getReg k := by
  rw [← fget_word, ← fget_word]
  exact h _ fun f hf => by simp [Fld.apart, hk f hf]

/-- An update of fields outside the registers of the conditions begins no condition. -/
theorem settle_of_keepsBut (h : keepsBut fs s t) (hk : ∀ k ∈ condKeys, ∀ f ∈ fs, k ≠ f.key) (hm : t.mgt = s.mgt) :
    settle s t = t :=
  settle_of_same s t (alarmConds_of_condKeys (fun k hc => getReg_of_keepsBut h (hk k hc)) hm)

theorem rate_of_keepsBut (h : keepsBut fs s t) (hk : ∀ k ∈ [TIME_RATE, TIME_RATE_HI], ∀ f ∈ fs, k ≠ f.key) :
    t.rate = s.rate := by
  have hw : ∀ k ∈ [TIME_RATE, TIME_RATE_HI], t.getReg k = s.getReg k := fun k hm => getReg_of_keepsBut h (hk k hm)
  simp only [State.rate, State.wide2, hw TIME_RATE (by simp), hw TIME_RATE_HI (by simp)]

theorem timeMode_congr (hp : t.part = s.part) (hr : t.regs = s.regs) : t.timeMode = s.timeMode := by
  simp only [State.timeMode, fget_congr hp hr]

theorem timeMode_of_keepsBut (h : keepsBut fs s t) (hf : ∀ f ∈ fs, TIME_STATE_STATE.apart f = true) :
    t.timeMode = s.timeMode := by
  simp only [State.timeMode, h TIME_STATE_STATE hf]

end

/-! ## The copies of the time core (01 R22) -/

theorem exec_timeCopyReload {s : State} (h : s.spineRuns = true) :
    exec .timeCopyReload s = .next { s with
      time := { s.time with sliceCopy := s.time.clock, laneCopy := s.time.clock }
      syn := { s.syn with rho := s.rate + s.slewStep } } := by
  have hup : s.up = true := (Bool.and_eq_true_iff.mp h).1
  simp only [exec, execTimeCopyReload, whenUp_up hup, h, if_true]
  exact done_plain _ _ rfl rfl rfl

/-! ## Two-step queues (08 R262 to R265) -/

section
variable {s : State} {q : Requester} {j : Nat}

/-- What a queue holds after it is replaced; a queue that does not exist holds nothing and stays so. -/
theorem tsqOf_setTsq_same {es : List TsqEntry} (h : s.tsqOf j = [] → es = []) : (s.setTsq j es).tsqOf j = es := by
  by_cases hj : j < s.time.tsq.length
  · simp [State.tsqOf, State.setTsq, hj]
  · have hes : es = [] := h (by simp [State.tsqOf, hj])
    simp [State.tsqOf, State.setTsq, hj, hes]

theorem tsqOf_setTsq_ne {k : Nat} {es : List TsqEntry} (h : k ≠ j) : (s.setTsq j es).tsqOf k = s.tsqOf k := by
  simp [State.tsqOf, State.setTsq, List.getElem?_set_ne (Ne.symm h)]

/-- The entry words of a requester lie above every register that is there once. -/
theorem getReg_loadTsqWords_low {k : Nat} (e : Option TsqEntry) (h : k < 2 ^ 32) :
    (s.loadTsqWords q j e).getReg k = s.getReg k := by
  have hne : ∀ a, k ≠ a + 0x100000000 * (reqIx q + 1) := by omega
  unfold State.loadTsqWords
  split <;> simp only [getReg_setReg_ne _ _ _ _ (hne _), TSQ_ENTRY, TSQ_ENTRY_NS, TSQ_ENTRY_SEC_LO, TSQ_ENTRY_HI]

/-- The first entry word: VALID, the marks, the port, the message type and the sequence number. -/
def tsqHead (e : TsqEntry) : Nat :=
  2 ^ 31 + e.stale.toNat * 2 ^ 30 + e.blot.toNat * 2 ^ 29 + e.port % 64 * 2 ^ 20 + e.msgType % 16 * 2 ^ 16 +
    e.seqId % 2 ^ 16

theorem tsqHead_parts (e : TsqEntry) :
    tsqHead e < 2 ^ 32 ∧ tsqHead e / 2 ^ 31 = 1 ∧ tsqHead e % 2 ^ 16 = e.seqId % 2 ^ 16 := by
  have hs := Bool.toNat_le e.stale
  have hb := Bool.toNat_le e.blot
  unfold tsqHead
  omega

/-- The four entry words of a requester are four registers. -/
theorem tsqWords_apart (r j : Nat) :
    TSQ_ENTRY r j ≠ TSQ_ENTRY_NS r j ∧ TSQ_ENTRY r j ≠ TSQ_ENTRY_SEC_LO r j ∧ TSQ_ENTRY r j ≠ TSQ_ENTRY_HI r j ∧
      TSQ_ENTRY_NS r j ≠ TSQ_ENTRY_SEC_LO r j ∧ TSQ_ENTRY_NS r j ≠ TSQ_ENTRY_HI r j := by
  unfold TSQ_ENTRY TSQ_ENTRY_NS TSQ_ENTRY_SEC_LO TSQ_ENTRY_HI
  omega

theorem getReg_loadTsqWords_none : (s.loadTsqWords q j none).getReg (TSQ_ENTRY (reqIx q) j) = 0 := by
  obtain ⟨hns, hlo, hhi, -, -⟩ := tsqWords_apart (reqIx q) j
  simp [State.loadTsqWords, getReg_setReg_ne, hns, hlo, hhi]

theorem getReg_loadTsqWords_entry (e : TsqEntry) :
    (s.loadTsqWords q j (some e)).getReg (TSQ_ENTRY (reqIx q) j) = tsqHead e := by
  obtain ⟨hns, hlo, hhi, -, -⟩ := tsqWords_apart (reqIx q) j
  obtain ⟨hlt, -, -⟩ := tsqHead_parts e
  simp only [State.loadTsqWords, getReg_setReg_ne _ _ _ _ hns, getReg_setReg_ne _ _ _ _ hlo,
    getReg_setReg_ne _ _ _ _ hhi, getReg_setReg_same]
  exact Nat.mod_eq_of_lt hlt

theorem getReg_loadTsqWords_ns (e : TsqEntry) :
    (s.loadTsqWords q j (some e)).getReg (TSQ_ENTRY_NS (reqIx q) j) = e.stamp / 2 ^ 16 % 1000000000 := by
  obtain ⟨-, -, -, hlo, hhi⟩ := tsqWords_apart (reqIx q) j
  simp only [State.loadTsqWords, getReg_setReg_ne _ _ _ _ hlo, getReg_setReg_ne _ _ _ _ hhi, getReg_setReg_same, nsPerSec]
  omega

theorem loadTsqWords_only (e : Option TsqEntry) :
    s.loadTsqWords q j e = { s with regs := (s.loadTsqWords q j e).regs } := by
  unfold State.loadTsqWords
  split <;> exact setReg_only (setReg_only (setReg_only (setReg_only rfl _ _) _ _) _ _) _ _

/-- A pop changes the entry words of its requester and the queue, and begins no alarm condition. -/
theorem tsqPop_only : s.tsqPop q j = { s with regs := (s.tsqPop q j).regs, time := (s.tsqPop q j).time } := by
  unfold State.tsqPop State.setTsq
  rw [loadTsqWords_only]

theorem exec_tsqPop {j : Fin 6} (hq : s.takes q = true) (hup : s.up = true) :
    exec (.tsqPop q j) s = .next (s.tsqPop q j) := by
  have hlow : ∀ k ∈ condKeys, k < 2 ^ 32 := by decide
  have hcond : (s.tsqPop q j).alarmConds = s.alarmConds :=
    alarmConds_of_condKeys (fun k hk => getReg_loadTsqWords_low _ (hlow k hk)) (by rw [tsqPop_only])
  simp only [exec, execTsqPop]
  rw [whenTaken_of_takes hq, whenUp_up hup, done_queue (by rw [tsqPop_only]), settle_of_same _ _ hcond]

theorem getReg_tsqPop (k : Nat) : (s.tsqPop q j).getReg k = (s.loadTsqWords q j (s.tsqOf j).head?).getReg k := rfl

theorem tsqOf_tsqPop_same : (s.tsqPop q j).tsqOf j = (s.tsqOf j).tail := by
  refine tsqOf_setTsq_same fun h => ?_
  have hq : s.tsqOf j = [] := by rwa [loadTsqWords_only] at h
  rw [hq, List.tail_nil]

theorem tsqOf_tsqPop_ne {k : Nat} (h : k ≠ j) : (s.tsqPop q j).tsqOf k = s.tsqOf k := by
  unfold State.tsqPop
  rw [tsqOf_setTsq_ne h, loadTsqWords_only]
  rfl

end

/-! ## What follows a lost source (08 R249, 09 R285, R294, 10 R321) -/

/-- The fields of a pulse output that follow its gating cases. -/
def gatingFields : List Fld :=
  (List.range 8).flatMap fun n =>
    [SYN_PO_STATUS_GATED_SEEN n, SYN_PO_STATUS_GATED n, SYN_PO_STATUS_RUNNING n, SYN_PO_STATUS_ALIGNING n]

/-- The fields that show what the node follows and which source is in use, and those that follow them. -/
def followFields : List Fld :=
  [LYD_STATUS_HOP, LYD_STATUS_GM_VALID, LYD_GM_STATUS_GM_CLASS, LYD_GM_STATUS_GM_PRIORITY1, LYD_GM_STATUS_GM_ID,
    TIME_STATE_INST, TIME_STATE_SRC_ACTIVE] ++ (List.range 8).map TIME_INST_STATUS_IS_SOURCE ++ gatingFields

/-- The fields that the loss of the source changes beside them. -/
def lossFields : List Fld :=
  [TIME_STATE_STATE, TIME_STATE_STATE_CHG_SEEN, LYD_STATUS_ACQ_PHASE, LYD_STATUS_HISTORY] ++ followFields

/-- From s to t the clock does not step: besides the listed fields and their marks only the rest of the time core, the
trunk, the synthesizers and the alarms may change. -/
structure NoStep (fs : List Fld) (s t : State) : Prop where
  only : t = { s with regs := t.regs, hot := t.hot, time := t.time, trunk := t.trunk, syn := t.syn, mgt := t.mgt }
  clock : t.time.clock = s.time.clock
  keeps : keepsBut fs s t

namespace NoStep
section
variable {fs : List Fld} {s t u : State} {f : Fld} {v : Nat}

theorem pending (h : NoStep fs s t) : t.pending = s.pending := by rw [h.only]

theorem refl : NoStep fs s s := ⟨rfl, rfl, keepsBut_refl _ _⟩

/-- An update of the parts that may change, registers and clock apart. -/
theorem frame {hot time trunk syn mgt} (h : NoStep fs s t) (hc : time.clock = t.time.clock) :
    NoStep fs s { t with hot := hot, time := time, trunk := trunk, syn := syn, mgt := mgt } :=
  ⟨by rw [h.only], hc.trans h.clock, keepsBut_of_regs rfl rfl h.keeps⟩

theorem fset (h : NoStep fs s t) (hm : f ∈ fs) (hf : f.fits = true) : NoStep fs s (t.fset f v) :=
  ⟨by rw [h.only]; rfl, h.clock, keepsBut_fset f v hm hf h.keeps⟩

theorem fput {b : Bool} (h : NoStep fs s t) (hm : f ∈ fs) (hf : f.fits = true) : NoStep fs s (t.fput f b) := h.fset hm hf
theorem foff (h : NoStep fs s t) (hm : f ∈ fs) (hf : f.fits = true) : NoStep fs s (t.foff f) := h.fset hm hf
theorem fon (h : NoStep fs s t) (hm : f ∈ fs) (hf : f.fits = true) : NoStep fs s (t.fon f) := (h.fset hm hf).frame rfl
theorem raise {a : Alarm} (h : NoStep fs s t) : NoStep fs s (t.raise a) := h.frame rfl

theorem settle (h : NoStep fs s t) : NoStep fs s (settle u t) := by
  rw [settle_only]
  exact h.frame rfl

theorem ite {c : Prop} [Decidable c] (ht : NoStep fs s t) (hu : NoStep fs s u) : NoStep fs s (if c then t else u) := by
  split <;> assumption

/-- An update of each of the eight instances, or outputs. -/
theorem foldl_range {g : State → Nat → State} (h : NoStep fs s t)
    (hg : ∀ u, ∀ n < 8, NoStep fs s u → NoStep fs s (g u n)) :
    NoStep fs s ((List.range 8).foldl g t) :=
  List.foldlRecOn _ g h fun u hu n hn => hg u n (List.mem_range.mp hn) hu

end

section
variable {fs : List Fld} {s t : State} {n : Nat}

theorem refreshPo (hsub : gatingFields ⊆ fs) (hn : n < 8) (h : NoStep fs s t) : NoStep fs s (t.refreshPo n) := by
  have hm : [SYN_PO_STATUS_GATED_SEEN n, SYN_PO_STATUS_GATED n, SYN_PO_STATUS_RUNNING n, SYN_PO_STATUS_ALIGNING n] ⊆ fs :=
    fun f hf => hsub (List.mem_flatMap.mpr ⟨n, List.mem_range.mpr hn, hf⟩)
  unfold State.refreshPo
  split
  · extract_lets g u w
    have hu : NoStep fs s u := .ite (h.fon (hm (by simp)) rfl) h
    have hw : NoStep fs s w := .ite (hu.frame rfl) hu
    exact (hw.fput (hm (by simp)) rfl).fput (hm (by simp)) rfl
  · exact (((h.foff (hm (by simp)) rfl).foff (hm (by simp)) rfl).foff (hm (by simp)) rfl).frame rfl

theorem refreshPos (hsub : gatingFields ⊆ fs) (h : NoStep fs s t) : NoStep fs s t.refreshPos :=
  h.foldl_range fun _ _ hn => refreshPo hsub hn

theorem refreshSource (hsub : followFields ⊆ fs) (h : NoStep fs s t) : NoStep fs s t.refreshSource := by
  have hinst : ∀ n < 8, TIME_INST_STATUS_IS_SOURCE n ∈ fs := fun n hn =>
    hsub (List.mem_append_left _ (List.mem_append_right _ (List.mem_map.mpr ⟨n, List.mem_range.mpr hn, rfl⟩)))
  have hactive : [TIME_STATE_INST, TIME_STATE_SRC_ACTIVE] ⊆ fs := List.Subset.trans (by simp [followFields]) hsub
  unfold State.refreshSource
  exact ((h.foldl_range fun _ n hn hu => hu.fput (hinst n hn) rfl).fset (hactive (by simp)) rfl).fset (hactive (by simp)) rfl

theorem refreshLyd (hsub : followFields ⊆ fs) (h : NoStep fs s t) : NoStep fs s t.refreshLyd := by
  have hm : [LYD_STATUS_HOP, LYD_STATUS_GM_VALID, LYD_GM_STATUS_GM_CLASS, LYD_GM_STATUS_GM_PRIORITY1,
      LYD_GM_STATUS_GM_ID] ⊆ fs := List.Subset.trans (by simp [followFields]) hsub
  have hpos : gatingFields ⊆ fs := fun f hf => hsub (List.mem_append_right _ hf)
  unfold State.refreshLyd
  extract_lets g hop t _ u f w
  have hu : NoStep fs s u := ((h.fset (hm (by simp)) rfl).fput (hm (by simp)) rfl).frame rfl
  have hw : NoStep fs s w := by
    unfold w
    clear_value f
    split
    · exact ((hu.fset (hm (by simp)) rfl).fset (hm (by simp)) rfl).fset (hm (by simp)) rfl
    · exact hu
  exact (hw.refreshSource hsub).refreshPos hpos

theorem setTimeMode {m : TimeMode} (hsub : lossFields ⊆ fs) (h : NoStep fs s t) : NoStep fs s (t.setTimeMode m) := by
  have hm : [TIME_STATE_STATE, TIME_STATE_STATE_CHG_SEEN] ⊆ fs := List.Subset.trans (by simp [lossFields]) hsub
  unfold State.setTimeMode
  refine .ite h ?_
  extract_lets u _ w
  have hu : NoStep fs s u := (h.fset (hm (by simp)) rfl).fon (hm (by simp)) rfl
  have hw : NoStep fs s w := .ite (hu.frame rfl) hu
  exact .ite hw.raise hw

theorem acquireEnds (hsub : lossFields ⊆ fs) (h : NoStep fs s t) : NoStep fs s t.acquireEnds :=
  ((h.fset (hsub (by simp [lossFields])) rfl).foff (hsub (by simp [lossFields])) rfl).frame rfl

theorem startGrowth (h : NoStep fs s t) : NoStep fs s t.startGrowth := h.frame rfl

theorem toHoldover (hsub : lossFields ⊆ fs) (h : NoStep fs s t) : NoStep fs s t.toHoldover :=
  ((h.setTimeMode hsub).startGrowth.acquireEnds hsub).frame rfl

theorem sourceLost {masterChange : Bool} (hsub : lossFields ⊆ fs) (h : NoStep fs s t) :
    NoStep fs s (t.sourceLost masterChange) := by
  have hpos : gatingFields ⊆ fs := fun f hf => hsub (List.mem_append_right _ (List.mem_append_right _ hf))
  unfold State.sourceLost
  split
  · exact h
  · exact .ite ((h.toHoldover hsub).refreshPos hpos) (((h.setTimeMode hsub).acquireEnds hsub).frame rfl)
  · exact (h.toHoldover hsub).refreshPos hpos
  · exact h

theorem servoStop (h : NoStep fs s t) : NoStep fs s t.servoStop := h.frame rfl

end
end NoStep

/-- After the servo has stopped and the source is lost, what the node follows is shown anew. -/
theorem noStep_masterGone (s : State) (masterChange : Bool) :
    NoStep lossFields s (s.servoStop.sourceLost masterChange).refreshLyd :=
  (NoStep.refl.servoStop.sourceLost (fun _ hf => hf)).refreshLyd fun _ hf => List.mem_append_right _ hf

/-! ## The state of the time core after a lost source (08 R249) -/

theorem timeMode_fset (s : State) (m : TimeMode) : (s.fset TIME_STATE_STATE (timeModeCode m)).timeMode = m := by
  have hcode := fget_fset_same s TIME_STATE_STATE (timeModeCode m) rfl
  unfold State.timeMode
  rw [hcode]
  cases m <;> rfl

theorem timeMode_setTimeMode (s : State) (m : TimeMode) : (s.setTimeMode m).timeMode = m := by
  unfold State.setTimeMode
  split
  next h => exact h
  next =>
    extract_lets t _ u
    have ht : t.timeMode = m :=
      (timeMode_of_keepsBut (keepsBut_fon TIME_STATE_STATE_CHG_SEEN (List.mem_singleton_self _) rfl (keepsBut_refl _ _))
        (by decide)).trans (timeMode_fset s m)
    clear_value t
    have hu : u.timeMode = m := by
      unfold u
      split
      · exact Eq.trans (timeMode_congr (s := t) rfl rfl) ht
      · exact ht
    clear_value u
    split
    · exact Eq.trans (timeMode_congr (s := u) rfl rfl) hu
    · exact hu

theorem timeMode_refreshPos (s : State) : s.refreshPos.timeMode = s.timeMode :=
  timeMode_of_keepsBut (NoStep.refl.refreshPos fun _ hf => hf).keeps (by decide)

theorem timeMode_refreshLyd (s : State) : s.refreshLyd.timeMode = s.timeMode :=
  timeMode_of_keepsBut (NoStep.refl.refreshLyd fun _ hf => hf).keeps (by decide)

theorem timeMode_acquireEnds (s : State) : s.acquireEnds.timeMode = s.timeMode := by
  unfold State.acquireEnds
  extract_lets t
  have ht : keepsBut [LYD_STATUS_ACQ_PHASE, LYD_STATUS_HISTORY] s t :=
    keepsBut_foff _ (by simp) rfl (keepsBut_fset _ _ (by simp) rfl (keepsBut_refl _ _))
  exact Eq.trans (timeMode_congr (s := t) rfl rfl) (timeMode_of_keepsBut ht (by decide))

theorem timeMode_toHoldover (s : State) : s.toHoldover.timeMode = .holdover := calc
  s.toHoldover.timeMode = (s.setTimeMode .holdover).startGrowth.acquireEnds.timeMode := timeMode_congr rfl rfl
  _ = (s.setTimeMode .holdover).startGrowth.timeMode := timeMode_acquireEnds _
  _ = (s.setTimeMode .holdover).timeMode := timeMode_congr rfl rfl
  _ = .holdover := timeMode_setTimeMode s .holdover

/-- The loss of the source takes the time core from LOCKED into HOLDOVER (08 R249). -/
theorem timeMode_sourceLost_of_locked {s : State} {masterChange : Bool} (h : s.timeMode = .locked) :
    (s.sourceLost masterChange).timeMode = .holdover := by
  simp only [State.sourceLost, h, timeMode_refreshPos, timeMode_toHoldover]

/-! ## Updates of registers and their marks alone -/

/-- Only registers and the marks of the present cycle have changed. -/
def OnlyRegs (s t : State) : Prop := t = { s with regs := t.regs, hot := t.hot }

namespace OnlyRegs
section
variable {s t : State} {f : Fld} {v : Nat}

theorem refl : OnlyRegs s s := rfl

theorem fset (h : OnlyRegs s t) : OnlyRegs s (t.fset f v) := by
  have hm : ∀ m, { t with regs := m } = { s with regs := m, hot := t.hot } := fun m => by rw [h]
  exact hm _

theorem mark (h : OnlyRegs s t) : OnlyRegs s (t.mark f) := by
  have hm : ∀ m, { t with hot := m } = { s with regs := t.regs, hot := m } := fun m => by rw [h]
  exact hm _

theorem fon (h : OnlyRegs s t) : OnlyRegs s (t.fon f) := h.fset.mark
theorem foff (h : OnlyRegs s t) : OnlyRegs s (t.foff f) := h.fset

theorem mgt (h : OnlyRegs s t) : t.mgt = s.mgt := by rw [h]
theorem pending (h : OnlyRegs s t) : t.pending = s.pending := by rw [h]
theorem time (h : OnlyRegs s t) : t.time = s.time := by rw [h]

/-- The outcome of a command that updates registers alone, none of the conditions'. -/
theorem done {fs : List Fld} (h : OnlyRegs s t) (hk : keepsBut fs s t) (hc : ∀ k ∈ condKeys, ∀ f ∈ fs, k ≠ f.key) :
    done s t = .next t := by
  rw [done_queue h.pending, settle_of_keepsBut hk hc h.mgt]

/-- What `NoStep` lets change may have changed from the state before an update of registers. -/
theorem only_of_noStep {fs : List Fld} {u : State} (h : OnlyRegs s t) (hu : NoStep fs t u) :
    u = { s with regs := u.regs, hot := u.hot, time := u.time, trunk := u.trunk, syn := u.syn, mgt := u.mgt } :=
  hu.only.trans (by rw [h])

end
end OnlyRegs

/-! ## The parents of edge instances (08 R250) -/

/-- The parent at index i is lost: its flag is set and no parent is valid. -/
def State.parentLost (s : State) (i : Nat) : State :=
  (s.fon (TIME_INST_STATUS_MASTER_LOST_SEEN i)).foff (TIME_INST_STATUS_PARENT_VALID i)

/-- A parent is heard at index i: it is valid, with its port and its steps. -/
def State.parentHeard (s : State) (i port steps : Nat) : State :=
  ((s.fon (TIME_INST_STATUS_PARENT_VALID i)).fset (TIME_INST_STATUS_PARENT_PORT i) port).fset
    (TIME_INST_STATUS_STEPS_REMOVED i) (min 255 steps)

/-- A parent heard at index i has taken the place of another. -/
def State.parentChanged (s : State) (i port steps : Nat) : State :=
  (s.parentHeard i port steps).fon (TIME_INST_STATUS_MASTER_CHANGE_SEEN i)

/-- The source in use loses its master: the servo stops, the source is lost, and what the node follows is shown. -/
def State.masterGone (s : State) (masterChange : Bool) : State := (s.servoStop.sourceLost masterChange).refreshLyd

/-- The fields that show the parent at index i. -/
def parentFields (i : Nat) : List Fld :=
  [TIME_INST_STATUS_MASTER_LOST_SEEN i, TIME_INST_STATUS_PARENT_VALID i, TIME_INST_STATUS_PARENT_PORT i,
    TIME_INST_STATUS_STEPS_REMOVED i, TIME_INST_STATUS_MASTER_CHANGE_SEEN i]

/-- The loss of a source leaves the fields of a parent. -/
theorem parentFields_apart_lossFields (i : Fin 8) : ∀ g ∈ parentFields i, ∀ f ∈ lossFields, g.apart f = true := by
  decide +revert

/-- The fields of a parent leave the state of the time core. -/
theorem state_apart_parentFields (i : Fin 8) : ∀ f ∈ parentFields i, TIME_STATE_STATE.apart f = true := by
  decide +revert

/-- The fields of a parent lie outside RATE and the registers of the conditions. -/
theorem parentFields_keys (i : Fin 8) :
    ∀ k ∈ [TIME_RATE, TIME_RATE_HI] ++ condKeys, ∀ f ∈ parentFields i, k ≠ f.key := by
  decide +revert

section
variable {s t : State} {i : Fin 8} {port : Fin 64} {steps : Nat} {masterChange : Bool}

theorem exec_masterLost (hup : s.up = true) (he : s.fget (TIME_INST_CFG_ENABLE i) = 1)
    (hv : s.fget (TIME_INST_STATUS_PARENT_VALID i) = 1) :
    exec (.masterLost i) s =
      done s (if s.isTimeSource i then (s.parentLost i).masterGone false else s.parentLost i) := by
  have hon : (s.fbit (TIME_INST_CFG_ENABLE i) && s.fbit (TIME_INST_STATUS_PARENT_VALID i)) = true := by
    simp [State.fbit, he, hv]
  have hexec : exec (.masterLost i) s = whenUp s (
      if s.fbit (TIME_INST_CFG_ENABLE i) && s.fbit (TIME_INST_STATUS_PARENT_VALID i) then
        if s.isTimeSource i then (s.parentLost i).masterGone false else s.parentLost i
      else s) := rfl
  rw [hexec, whenUp_up hup, if_pos hon]

theorem exec_masterChange (hup : s.up = true) (he : s.fget (TIME_INST_CFG_ENABLE i) = 1) :
    exec (.masterChange i port steps) s =
      done s (if s.fbit (TIME_INST_STATUS_PARENT_VALID i) then
          if s.isTimeSource i then (s.parentChanged i port steps).masterGone true else s.parentChanged i port steps
        else s.parentHeard i port steps) := by
  have hon : s.fbit (TIME_INST_CFG_ENABLE i) = true := by simp [State.fbit, he]
  have hexec : exec (.masterChange i port steps) s = whenUp s (
      if s.fbit (TIME_INST_CFG_ENABLE i) then
        if s.fbit (TIME_INST_STATUS_PARENT_VALID i) then
          if s.isTimeSource i then (s.parentChanged i port steps).masterGone true else s.parentChanged i port steps
        else s.parentHeard i port steps
      else s) := rfl
  rw [hexec, whenUp_up hup, if_pos hon]

/-- A command that takes its master from the source in use, after an update of the parent's fields: the time does not
step, the parent stays as updated, and LOCKED becomes HOLDOVER. -/
theorem done_masterGone (hr : OnlyRegs s t) (hk : keepsBut (parentFields i) s t) :
    ∃ u, done s (t.masterGone masterChange) = .next u ∧ (∀ g ∈ parentFields i, u.fget g = t.fget g) ∧
      (s.timeMode = .locked → u.timeMode = .holdover) ∧ u.time.clock = s.time.clock ∧ u.rate = s.rate ∧
      u = { s with regs := u.regs, hot := u.hot, time := u.time, trunk := u.trunk, syn := u.syn, mgt := u.mgt } := by
  have hgone : NoStep lossFields t (t.masterGone masterChange) := noStep_masterGone t masterChange
  have hu : NoStep lossFields t (settle s (t.masterGone masterChange)) := hgone.settle
  have hrate : t.rate = s.rate := rate_of_keepsBut hk fun k h => parentFields_keys i k (List.mem_append_left _ h)
  refine ⟨settle s (t.masterGone masterChange), done_queue ?_,
    fun g hg => hu.keeps g (parentFields_apart_lossFields i g hg), fun hlocked => ?_,
    hu.clock.trans (by rw [hr.time]), (rate_of_keepsBut hu.keeps (by decide)).trans hrate, ?_⟩
  · exact hgone.pending.trans hr.pending
  · have ht : t.timeMode = .locked := (timeMode_of_keepsBut hk (state_apart_parentFields i)).trans hlocked
    have hstop : t.servoStop.timeMode = .locked := Eq.trans (timeMode_congr (s := t) rfl rfl) ht
    calc (settle s (t.masterGone masterChange)).timeMode
        = (t.masterGone masterChange).timeMode := timeMode_congr (settle_part _ _) (settle_regs _ _)
      _ = (t.servoStop.sourceLost masterChange).timeMode := timeMode_refreshLyd _
      _ = .holdover := timeMode_sourceLost_of_locked hstop
  · exact hr.only_of_noStep hu

/-! ### The loss of a parent -/

theorem parentLost_only (s : State) (i : Nat) : OnlyRegs s (s.parentLost i) := OnlyRegs.refl.fon.foff

theorem parentLost_keeps (s : State) (i : Nat) :
    keepsBut [TIME_INST_STATUS_MASTER_LOST_SEEN i, TIME_INST_STATUS_PARENT_VALID i] s (s.parentLost i) :=
  keepsBut_foff _ (by simp) rfl (keepsBut_fon _ (by simp) rfl (keepsBut_refl _ _))

theorem parentLost_shown (s : State) (i : Fin 8) :
    (s.parentLost i).fget (TIME_INST_STATUS_MASTER_LOST_SEEN i) = 1 ∧
      (s.parentLost i).fget (TIME_INST_STATUS_PARENT_VALID i) = 0 :=
  ⟨(fget_foff_apart _ _ _ rfl (by decide +revert)).trans (fget_fon_same _ _ rfl Nat.one_pos), fget_foff_same _ _ rfl⟩

theorem lostFields_subset (i : Nat) :
    [TIME_INST_STATUS_MASTER_LOST_SEEN i, TIME_INST_STATUS_PARENT_VALID i] ⊆ parentFields i := by
  simp [parentFields]

theorem masterLost_no_source (hup : s.up = true) (he : s.fget (TIME_INST_CFG_ENABLE i) = 1)
    (hv : s.fget (TIME_INST_STATUS_PARENT_VALID i) = 1) (hs : s.isTimeSource i = false) :
    ∃ t, exec (.masterLost i) s = .next t ∧ t.fget (TIME_INST_STATUS_MASTER_LOST_SEEN i) = 1 ∧
      t.fget (TIME_INST_STATUS_PARENT_VALID i) = 0 ∧
      keepsBut [TIME_INST_STATUS_MASTER_LOST_SEEN i, TIME_INST_STATUS_PARENT_VALID i] s t ∧
      t = { s with regs := t.regs, hot := t.hot } := by
  obtain ⟨hseen, hvalid⟩ := parentLost_shown s i
  have hdone : done s (s.parentLost i) = .next (s.parentLost i) :=
    (parentLost_only s i).done (keepsBut_mono (lostFields_subset i) (parentLost_keeps s i)) fun k h =>
      parentFields_keys i k (List.mem_append_right _ h)
  refine ⟨s.parentLost i, ?_, hseen, hvalid, parentLost_keeps s i, parentLost_only s i⟩
  rw [exec_masterLost hup he hv, hs, if_neg Bool.false_ne_true, hdone]

theorem masterLost_source (hup : s.up = true) (he : s.fget (TIME_INST_CFG_ENABLE i) = 1)
    (hv : s.fget (TIME_INST_STATUS_PARENT_VALID i) = 1) (hs : s.isTimeSource i = true) :
    ∃ t, exec (.masterLost i) s = .next t ∧ t.fget (TIME_INST_STATUS_MASTER_LOST_SEEN i) = 1 ∧
      t.fget (TIME_INST_STATUS_PARENT_VALID i) = 0 ∧ (s.timeMode = .locked → t.timeMode = .holdover) ∧
      t.time.clock = s.time.clock ∧ t.rate = s.rate ∧
      t = { s with regs := t.regs, hot := t.hot, time := t.time, trunk := t.trunk, syn := t.syn, mgt := t.mgt } := by
  obtain ⟨hseen, hvalid⟩ := parentLost_shown s i
  obtain ⟨t, ht, hparent, hrest⟩ := done_masterGone (masterChange := false) (parentLost_only s i)
    (keepsBut_mono (lostFields_subset i) (parentLost_keeps s i))
  refine ⟨t, ?_, (hparent _ (by simp [parentFields])).trans hseen, (hparent _ (by simp [parentFields])).trans hvalid, hrest⟩
  rw [exec_masterLost hup he hv, if_pos hs, ht]

/-! ### A new parent -/

theorem parentHeard_only (s : State) (i port steps : Nat) : OnlyRegs s (s.parentHeard i port steps) :=
  OnlyRegs.refl.fon.fset.fset

theorem parentHeard_keeps (s : State) (i port steps : Nat) : keepsBut (parentFields i) s (s.parentHeard i port steps) :=
  keepsBut_fset _ _ (by simp [parentFields]) rfl (keepsBut_fset _ _ (by simp [parentFields]) rfl
    (keepsBut_fon _ (by simp [parentFields]) rfl (keepsBut_refl _ _)))

theorem parentChanged_keeps (s : State) (i port steps : Nat) :
    keepsBut (parentFields i) s (s.parentChanged i port steps) :=
  keepsBut_fon _ (by simp [parentFields]) rfl (parentHeard_keeps s i port steps)

/-- What the fields of a parent show once it is heard. -/
theorem parentHeard_shown (s : State) (i : Fin 8) (port : Fin 64) (steps : Nat) :
    (s.parentHeard i port steps).fget (TIME_INST_STATUS_PARENT_VALID i) = 1 ∧
      (s.parentHeard i port steps).fget (TIME_INST_STATUS_PARENT_PORT i) = port ∧
      (s.parentHeard i port steps).fget (TIME_INST_STATUS_STEPS_REMOVED i) = min 255 steps ∧
      (s.parentHeard i port steps).fget (TIME_INST_STATUS_MASTER_CHANGE_SEEN i) =
        s.fget (TIME_INST_STATUS_MASTER_CHANGE_SEEN i) := by
  unfold State.parentHeard
  refine ⟨?_, ?_, ?_, ?_⟩
  · rw [fget_fset_apart _ _ _ _ rfl (by decide +revert), fget_fset_apart _ _ _ _ rfl (by decide +revert),
      fget_fon_same _ _ rfl Nat.one_pos]
  · rw [fget_fset_apart _ _ _ _ rfl (by decide +revert), fget_fset_same _ _ _ rfl]
    exact Nat.mod_eq_of_lt port.isLt
  · rw [fget_fset_same _ _ _ rfl]
    exact Nat.mod_eq_of_lt (Nat.lt_succ_of_le (Nat.min_le_left 255 steps))
  · rw [fget_fset_apart _ _ _ _ rfl (by decide +revert), fget_fset_apart _ _ _ _ rfl (by decide +revert),
      fget_fon_apart _ _ _ rfl (by decide +revert)]

/-- The flag of a change is none of the fields that show the parent itself. -/
theorem heardFields_apart_changeSeen (i : Fin 8) :
    (TIME_INST_STATUS_PARENT_VALID i).apart (TIME_INST_STATUS_MASTER_CHANGE_SEEN i) = true ∧
      (TIME_INST_STATUS_PARENT_PORT i).apart (TIME_INST_STATUS_MASTER_CHANGE_SEEN i) = true ∧
      (TIME_INST_STATUS_STEPS_REMOVED i).apart (TIME_INST_STATUS_MASTER_CHANGE_SEEN i) = true := by
  decide +revert

theorem parentChanged_shown (s : State) (i : Fin 8) (port : Fin 64) (steps : Nat) :
    (s.parentChanged i port steps).fget (TIME_INST_STATUS_PARENT_VALID i) = 1 ∧
      (s.parentChanged i port steps).fget (TIME_INST_STATUS_PARENT_PORT i) = port ∧
      (s.parentChanged i port steps).fget (TIME_INST_STATUS_STEPS_REMOVED i) = min 255 steps ∧
      (s.parentChanged i port steps).fget (TIME_INST_STATUS_MASTER_CHANGE_SEEN i) = 1 := by
  obtain ⟨hvalid, hport, hsteps, -⟩ := parentHeard_shown s i port steps
  obtain ⟨avalid, aport, asteps⟩ := heardFields_apart_changeSeen i
  exact ⟨(fget_fon_apart _ _ _ rfl avalid).trans hvalid, (fget_fon_apart _ _ _ rfl aport).trans hport,
    (fget_fon_apart _ _ _ rfl asteps).trans hsteps, fget_fon_same _ _ rfl Nat.one_pos⟩

theorem masterChange_no_source (hup : s.up = true) (he : s.fget (TIME_INST_CFG_ENABLE i) = 1)
    (hs : s.isTimeSource i = false) :
    ∃ t, exec (.masterChange i port steps) s = .next t ∧ t.fget (TIME_INST_STATUS_PARENT_VALID i) = 1 ∧
      t.fget (TIME_INST_STATUS_PARENT_PORT i) = port ∧
      t.fget (TIME_INST_STATUS_MASTER_CHANGE_SEEN i) =
        (if s.fbit (TIME_INST_STATUS_PARENT_VALID i) then 1 else s.fget (TIME_INST_STATUS_MASTER_CHANGE_SEEN i)) ∧
      t = { s with regs := t.regs, hot := t.hot } := by
  have hcond : ∀ k ∈ condKeys, ∀ f ∈ parentFields i, k ≠ f.key := fun k h =>
    parentFields_keys i k (List.mem_append_right _ h)
  have hheard := parentHeard_only s i port steps
  rw [exec_masterChange hup he, hs, if_neg Bool.false_ne_true]
  by_cases hv : s.fbit (TIME_INST_STATUS_PARENT_VALID i) = true
  · obtain ⟨hvalid, hport, -, hseen⟩ := parentChanged_shown s i port steps
    rw [if_pos hv, if_pos hv]
    exact ⟨_, hheard.fon.done (parentChanged_keeps s i port steps) hcond, hvalid, hport, hseen, hheard.fon⟩
  · obtain ⟨hvalid, hport, -, hseen⟩ := parentHeard_shown s i port steps
    rw [if_neg hv, if_neg hv]
    exact ⟨_, hheard.done (parentHeard_keeps s i port steps) hcond, hvalid, hport, hseen, hheard⟩

theorem masterChange_source (hup : s.up = true) (he : s.fget (TIME_INST_CFG_ENABLE i) = 1) (hs : s.isTimeSource i = true)
    (hv : s.fget (TIME_INST_STATUS_PARENT_VALID i) = 1) :
    ∃ t, exec (.masterChange i port steps) s = .next t ∧ t.fget (TIME_INST_STATUS_PARENT_VALID i) = 1 ∧
      t.fget (TIME_INST_STATUS_PARENT_PORT i) = port ∧ t.fget (TIME_INST_STATUS_STEPS_REMOVED i) = min 255 steps ∧
      t.fget (TIME_INST_STATUS_MASTER_CHANGE_SEEN i) = 1 ∧ (s.timeMode = .locked → t.timeMode = .holdover) ∧
      t = { s with regs := t.regs, hot := t.hot, time := t.time, trunk := t.trunk, syn := t.syn, mgt := t.mgt } := by
  obtain ⟨hvalid, hport, hsteps, hseen⟩ := parentChanged_shown s i port steps
  obtain ⟨t, ht, hparent, hmode, -, -, honly⟩ := done_masterGone (masterChange := true)
    (parentHeard_only s i port steps).fon (parentChanged_keeps s i port steps)
  have hbit : s.fbit (TIME_INST_STATUS_PARENT_VALID i) = true := by simp [State.fbit, hv]
  refine ⟨t, ?_, (hparent _ (by simp [parentFields])).trans hvalid, (hparent _ (by simp [parentFields])).trans hport,
    (hparent _ (by simp [parentFields])).trans hsteps, (hparent _ (by simp [parentFields])).trans hseen, hmode, honly⟩
  rw [exec_masterChange hup he, if_pos hbit, if_pos hs]
  exact ht

end

/-- Settles O32: the copies, the pops, and the parents of instances that are, or are not, the source in use. -/
theorem timeSourcesSeen : Obligations.TimeSourcesSeen := by
  refine ⟨fun _ => exec_timeCopyReload, fun s q j hq hup hempty => ?_, fun s q j e rest hq hup he => ?_,
    fun _ _ => masterLost_no_source, fun _ _ _ _ => masterChange_no_source, fun _ _ => masterLost_source,
    fun _ _ _ _ => masterChange_source⟩
  · refine ⟨s.tsqPop q j, exec_tsqPop hq hup, ?_, by rw [tsqOf_tsqPop_same, hempty, List.tail_nil], tsqPop_only⟩
    rw [getReg_tsqPop, hempty, List.head?_nil, getReg_loadTsqWords_none]
  · obtain ⟨-, hvalid, hseq⟩ := tsqHead_parts e
    have hentry : (s.tsqPop q j).getReg (TSQ_ENTRY (reqIx q) j) = tsqHead e := by
      rw [getReg_tsqPop, he, List.head?_cons, getReg_loadTsqWords_entry]
    have hns : (s.tsqPop q j).getReg (TSQ_ENTRY_NS (reqIx q) j) = e.stamp / 2 ^ 16 % 1000000000 := by
      rw [getReg_tsqPop, he, List.head?_cons, getReg_loadTsqWords_ns]
    exact ⟨s.tsqPop q j, exec_tsqPop hq hup, by rw [tsqOf_tsqPop_same, he, List.tail_cons], by rw [hentry, hvalid],
      by rw [hentry, hseq], hns, fun k hk => tsqOf_tsqPop_ne fun h => hk (Fin.ext h), tsqPop_only⟩

end Sys2Proof.Machine

/-! # Held blocks (02 R51, 03 R72, 16 R426) -/

namespace Sys2Proof.Machine

/-- Settles O58: the arm of every command that the hypotheses leave ends in `whenUp`. A frame's arm splits first by where
the frame comes from. -/
theorem heldBlocksIgnore : Obligations.HeldBlocksIgnore := by
  intro i s hup hcause hsoft hplain hscan
  have hexec : ∃ t, exec i s = whenUp s t := by
    cases i
    case vinBelowWarning early | reverseCurrentTrip early | overvoltageTimeout early | currentLimitTimeout early
      | thermalShutdown early | enableLow early => exact absurd (by simp) (hcause early)
    case softStart returned temp8 => exact absurd rfl (hsoft returned temp8)
    case softStartComplete | powerDownRecordStored | dormantReached | dormantSecond | rstNAssert | rstNRelease
      | jtagIdcode | jtagClamp | jtagHighz | jtagBypass | jtagTestExit => exact absurd (by simp) hplain
    case jtagExtest load => exact absurd rfl (hscan 0 load).1
    case jtagSamplePreload pins load => exact absurd rfl (hscan pins load).2
    case frameParse src _ _ _ _ _ => cases src <;> exact ⟨_, rfl⟩
    all_goals exact ⟨_, rfl⟩
  obtain ⟨t, ht⟩ := hexec
  rw [ht, whenUp_of_not_up hup]

end Sys2Proof.Machine

/-! # Causes of a power-down (02 R50, R51, R59, R60) -/

namespace Sys2Proof.Machine

section
variable {s : State} {bit : Nat} {early : Bool}

/-- The outcome of a command that changes the power stage alone. -/
theorem done_of_power (s : State) (p : PowerState) : done s { s with power := p } = .next { s with power := p } :=
  done_plain s { s with power := p } rfl rfl rfl

/-- A cause starts a power-down. -/
theorem powerCause_starts (hlife : s.life ≠ .dormant) (hsoft : s.power.softStart = false)
    (hdown : s.power.down = false) :
    s.powerCause bit early = { s with power := { s.power with
      down := true, mask := 2 ^ bit, stored := false, downSec := s.secLo,
      thermalLatch := s.power.thermalLatch || bit == 4, enableCycled := s.power.enableCycled && bit != 4 } } := by
  by_cases hbit : bit = 4 <;> simp [State.powerCause, hbit, hlife, hsoft, hdown]

/-- A cause joins the power-down that runs. -/
theorem powerCause_joins (hlife : s.life ≠ .dormant) (hsoft : s.power.softStart = false)
    (hdown : s.power.down = true) :
    s.powerCause bit early = { s with power := { s.power with
      mask := if early && !s.power.stored then withBit s.power.mask bit true else s.power.mask,
      thermalLatch := s.power.thermalLatch || bit == 4, enableCycled := s.power.enableCycled && bit != 4 } } := by
  by_cases hjoin : early = true ∧ s.power.stored = false
  · by_cases hbit : bit = 4 <;> simp [State.powerCause, hbit, hlife, hsoft, hdown, hjoin]
  · by_cases hbit : bit = 4
    · simp [State.powerCause, hbit, hlife, hsoft, hdown, hjoin]
    · have hsame : s.powerCause bit early = s := by simp [State.powerCause, hbit, hlife, hsoft, hdown, hjoin]
      have hne : (bit == 4) = false := beq_false_of_ne hbit
      rw [hsame]
      simp [hjoin, hne, bne]

/-- The power stage after a cause of number `bit`, ENABLE apart. -/
structure PowerDownRuns (s : State) (bit : Nat) (early : Bool) (p : PowerState) : Prop where
  down : p.down = true
  starts : s.power.down = false → p.mask = 2 ^ bit ∧ p.downSec = s.secLo ∧ p.stored = false
  joins : s.power.down = true → p.downSec = s.power.downSec ∧ p.stored = s.power.stored ∧
    p.mask = (if early && !s.power.stored then withBit s.power.mask bit true else s.power.mask)
  latch : p.thermalLatch = (s.power.thermalLatch || bit == 4)

/-- A cause acts on the power stage alone, and leaves ENABLE. -/
theorem powerCause_runs (hlife : s.life ≠ .dormant) (hsoft : s.power.softStart = false) (bit : Nat) (early : Bool) :
    ∃ p, s.powerCause bit early = { s with power := p } ∧ PowerDownRuns s bit early p ∧ p.enable = s.power.enable := by
  cases hdown : s.power.down
  · exact ⟨_, powerCause_starts hlife hsoft hdown, ⟨rfl, fun _ => ⟨rfl, rfl, rfl⟩, by simp [hdown], rfl⟩, rfl⟩
  · exact ⟨_, powerCause_joins hlife hsoft hdown, ⟨hdown, by simp [hdown], fun _ => ⟨rfl, rfl, rfl⟩, rfl⟩, rfl⟩

end

/-- Settles O1: every cause but ENABLE is `State.powerCause` alone; ENABLE then also falls. -/
theorem powerDownsRun : Obligations.PowerDownsRun := by
  intro s early i bit hi hlife hsoft
  obtain ⟨p, hp, hruns, henable⟩ := powerCause_runs hlife hsoft bit early
  have hcause : done s (s.powerCause bit early) = .next { s with power := p } := by rw [hp, done_of_power]
  obtain ⟨hdown, hstarts, hjoins, hlatch⟩ := hruns
  simp only [List.mem_cons, Prod.mk.injEq, List.not_mem_nil, or_false] at hi
  rcases hi with ⟨rfl, rfl⟩ | ⟨rfl, rfl⟩ | ⟨rfl, rfl⟩ | ⟨rfl, rfl⟩ | ⟨rfl, rfl⟩ | ⟨rfl, rfl⟩
  case inr.inr.inr.inr.inr =>
    have hexec : exec (.enableLow early) s = .next { s with power := { p with
        enable := false, enableCycled := p.enableCycled || p.thermalLatch } } := by
      simp only [exec, execEnableLow, hp, done_of_power]
    exact ⟨_, hexec, hdown, hstarts, hjoins, hlatch, by simp, rfl⟩
  all_goals exact ⟨_, hcause, hdown, hstarts, hjoins, hlatch, by simp [henable], rfl⟩

end Sys2Proof.Machine

/-! # The record of a power-down, DORMANT and the soft start (02 R46, R51, R57, R58, R60) -/

namespace Sys2Proof.Machine

section
variable {s : State} {k : Nat}

/-! ## The reset of the blocks (02 R56, 03 R72) -/

/-- The registers of the VBAT domain stay. -/
theorem getReg_resetBlocks (hk : k ∈ vbatKeys) : s.resetBlocks.getReg k = s.getReg k := by
  rw [getReg_of_filter s s.resetBlocks vbatKeys.contains rfl rfl, if_pos (List.contains_iff_mem.mpr hk)]

/-- Invalid VBAT crossings change no more than their register. -/
theorem clearBlocks_only (s : State) : s.clearBlocks = { s.resetBlocks with regs := s.clearBlocks.regs } := by
  unfold State.clearBlocks
  split <;> rfl

/-! ## The record of a power-down, and DORMANT (02 R51, R57, R58) -/

/-- The store with an entry in its log. -/
def VbatStore.noted (v : VbatStore) (code detail sec : Nat) : VbatStore :=
  { v with log := ((⟨code, v.nextSeq, detail, sec⟩ : VbatEntry) :: v.log).take 16, nextSeq := (v.nextSeq + 1) % 256 }

theorem pushLog_valid {code detail hi : Nat} (h : s.vbatInvalid = false) :
    s.pushLog code detail hi = { s with vbat := s.vbat.noted code (detail % 2 ^ 16) (hi % 2 ^ 32) } := by
  simp [State.pushLog, VbatStore.noted, h]

theorem exec_powerDownRecordStored (hdown : s.power.down = true) (hstored : s.power.stored = false)
    (hvalid : s.vbatInvalid = false) :
    exec .powerDownRecordStored s = .next { s with
      power := { s.power with stored := true }
      vbat := s.vbat.noted 1 (s.power.mask % 2 ^ 16) (s.power.downSec % 2 ^ 32) } := by
  have hpush := pushLog_valid (s := { s with power := { s.power with stored := true } }) (code := 1)
    (detail := s.power.mask) (hi := s.power.downSec) hvalid
  have hcond : s.power.down = true ∧ (!s.power.stored) = true := by simp [hdown, hstored]
  simp only [exec, execPowerDownRecordStored, if_pos hcond, hpush]
  exact done_plain _ _ rfl rfl rfl

/-- The state of DORMANT: every block in its Reset state, with the power stage at rest. -/
def State.atDormant (s : State) : State :=
  { s.resetBlocks with
    life := .dormant, causes := [], phase := 0, mgt := mgtNew
    power := { s.power with down := false, mask := 0, stored := false, scanHold := false }
    vbat := { s.vbat with dormantSec := 0, oscRan := s.fbit GLB_VBAT_CTRL_DORMANT_OSC } }

theorem exec_dormantReached (hdown : s.power.down = true) (hstored : s.power.stored = true) :
    exec .dormantReached s = .next (settle s s.atDormant) := by
  simp only [exec, execDormantReached, if_pos (And.intro hdown hstored)]
  exact done_queue (t := s.atDormant) rfl

theorem exec_dormantSecond (hlife : s.life = .dormant) (hosc : s.fbit GLB_VBAT_CTRL_DORMANT_OSC = true) :
    exec .dormantSecond s =
      .next { s with vbat := { s.vbat with dormantSec := (s.vbat.dormantSec + 1) % 2 ^ 32 } } := by
  simp only [exec, execDormantSecond, if_pos (And.intro hlife hosc)]
  exact done_plain _ _ rfl rfl rfl

end

/-- Settles O2: the record's entry, the state of DORMANT, and its seconds. -/
theorem dormancyEntered : Obligations.DormancyEntered := by
  refine ⟨fun s hdown hstored hvalid => ⟨_, exec_powerDownRecordStored hdown hstored hvalid, rfl, rfl, rfl⟩,
    fun s hdown hstored => ⟨_, exec_dormantReached hdown hstored, ?_⟩, fun s => exec_dormantSecond⟩
  have hup : (settle s s.atDormant).up = false := by simp [State.up, State.atDormant]
  have hparts : s.atDormant.upd.parts.length = s.upd.parts.length := List.length_map _
  have hcause : s.atDormant.getReg GLB_RESET_CAUSE = s.getReg GLB_RESET_CAUSE :=
    getReg_resetBlocks (s := s) (k := GLB_RESET_CAUSE) (by simp [vbatKeys])
  refine ⟨settle_life _ _, ?_, hup, ?_, ?_, ?_, settle_buf _ _, settle_time _ _, ?_⟩
  · rw [settle_power]; rfl
  · rw [settle_vbat]; rfl
  · rw [settle_vbat]; rfl
  · rw [settle_upd, hparts]
  · rw [getReg_settle, hcause]

/-! ## The cage interrupts across a reset (02 R46, 03 R72): two statements with a state that refutes them

CAGE_INT shows the level of a pin, which the modules drive: no reset of the device changes it. -/

section
variable {s t u : State}

theorem cageInt_clearBlocks (s : State) : s.clearBlocks.links.cageInt = s.links.cageInt := by
  rw [clearBlocks_only]
  rfl

theorem cageInt_of_done (hu : u.links.cageInt = s.links.cageInt) (h : done s u = .next t) :
    t.links.cageInt = s.links.cageInt := by
  obtain rfl := next_inj h
  rw [← hu, ← settle_links s u]

theorem cageInt_of_softStartComplete (h : exec .softStartComplete s = .next t) : t.links.cageInt = s.links.cageInt := by
  refine cageInt_of_done ?_ h
  split
  · exact cageInt_clearBlocks s
  · rfl

theorem cageInt_of_rstNAssert (h : exec .rstNAssert s = .next t) : t.links.cageInt = s.links.cageInt := by
  refine cageInt_of_done ?_ h
  split
  · rfl
  · exact cageInt_clearBlocks { s with power := { s.power with rstLow := true } }

end

/-- The device in RESET while a module in cage 0 asserts its interrupt. -/
def intAsserted : State := { State.reset with links := { State.reset.links with cageInt := [0] } }

/-- The device in DORMANT with a soft start under way while that interrupt is asserted. -/
def startingIntAsserted : State :=
  { intAsserted with life := .dormant, power := { powerUp with softStart := true } }

/-- Refutes O3: its second clause gives the whole of the links its Reset value, the asserted cage interrupts among them,
and the completion of a soft start leaves those as the modules drive them. -/
theorem not_softStartRuns : ¬ Obligations.SoftStartRuns := by
  rintro ⟨-, h⟩
  obtain ⟨t, ht, -, -, -, -, -, hlinks, -⟩ := h startingIntAsserted rfl
  have hint : t.links.cageInt = [0] := cageInt_of_softStartComplete ht
  rw [hlinks] at hint
  exact absurd hint (by decide)

/-- Refutes O6: its first clause, too, gives the whole of the links its Reset value, and RST_N leaves the asserted cage
interrupts as the modules drive them. -/
theorem not_rstNHolds : ¬ Obligations.RstNHolds := by
  rintro ⟨h, -⟩
  obtain ⟨t, ht, -, -, -, hlinks, -⟩ := h intAsserted (by decide) rfl
  have hint : t.links.cageInt = [0] := cageInt_of_rstNAssert ht
  rw [hlinks] at hint
  exact absurd hint (by decide)

end Sys2Proof.Machine

/-! # Supply warnings and the level of VBAT (02 R50, R58) -/

namespace Sys2Proof.Machine

/-! ## Outcomes and alarm conditions (16 R428) -/

section
variable {fs : List Fld} {s t u : State} {f : Fld}

/-- The fields that hold alarm conditions. -/
def condFields : List Fld :=
  [GLB_PWR_STATUS_TEMP_ALARM, GLB_PWR_STATUS_SENSOR_FAULT, HRT_STATUS_NO_HOLDER, CAL_STATUS_FACTORY_LOST,
    CAL_STATUS_GROUP_FAIL, GLB_STATUS_CFG_DEFAULTED]

theorem keepsBut_of_fget (h : keepsBut fs s u) (hf : ∀ g, t.fget g = u.fget g) : keepsBut fs s t :=
  fun g hg => (hf g).trans (h g hg)

/-- Conditions that begin change the management state alone. -/
theorem settle_mgt_only (s t : State) : settle s t = { t with mgt := (settle s t).mgt } := by
  apply State.eq_of_fields <;> simp

theorem fbit_of_keepsBut (h : keepsBut fs s t) (hf : ∀ g ∈ fs, f.apart g = true) : t.fbit f = s.fbit f := by
  rw [State.fbit, State.fbit, h f hf]

/-- An update of other fields than those of the conditions begins no condition. -/
theorem alarmConds_of_condFields (h : keepsBut fs s t) (hf : ∀ f ∈ condFields, ∀ g ∈ fs, f.apart g = true)
    (hm : t.mgt = s.mgt) : t.alarmConds = s.alarmConds := by
  have hbit : ∀ f ∈ condFields, t.fbit f = s.fbit f := fun f hc => fbit_of_keepsBut h (hf f hc)
  simp only [condFields, List.forall_mem_cons] at hbit
  obtain ⟨htemp, hsensor, hholder, hlost, hfail, hcfg, -⟩ := hbit
  simp only [State.alarmConds, State.openAccess, hm, htemp, hsensor, hholder, hlost, hfail, hcfg]

/-- The outcome of a command that leaves the conditions is its effect. -/
theorem done_of_condFields (h : keepsBut fs s t) (hf : ∀ f ∈ condFields, ∀ g ∈ fs, f.apart g = true)
    (hm : t.mgt = s.mgt) (hp : t.pending = s.pending) : done s t = .next t := by
  rw [done_queue hp, settle_of_same s t (alarmConds_of_condFields h hf hm)]

end

/-! ## Flags that raise SUPPLY (16 R428) -/

section
variable {s v : State} {f : Fld}

/-- From s to t only registers, the marks of the present cycle, the VBAT store and the alarms have changed. -/
def OnlyShown (s t : State) : Prop := t = { s with regs := t.regs, hot := t.hot, vbat := t.vbat, mgt := t.mgt }

theorem OnlyRegs.seen (h : OnlyRegs s v) (f : Fld) (a : Alarm) : OnlyShown s (v.seen f a) := by
  apply State.eq_of_fields <;> simp <;> rw [h]

theorem OnlyShown.withVbat (h : OnlyShown s v) (x : VbatStore) : OnlyShown s { v with vbat := x } := by
  have hframe : ∀ r h m, { v with regs := r, hot := h, vbat := x, mgt := m } =
      { s with regs := r, hot := h, vbat := x, mgt := m } := fun r h' m => by rw [h]
  exact hframe _ _ _

theorem OnlyShown.settle (h : OnlyShown s v) (u : State) : OnlyShown s (settle u v) := by
  have hframe : ∀ m, { v with mgt := m } = { s with regs := v.regs, hot := v.hot, vbat := v.vbat, mgt := m } :=
    fun m => by rw [h]
  rw [OnlyShown, settle_regs, settle_hot, settle_vbat]
  exact (settle_mgt_only u v).trans (hframe _)

/-- A flag that raises SUPPLY is set after an update of registers, and the VBAT store is given: the command shows the
update and the flag, and latches the alarm bit. -/
theorem done_seen_vbat (h : OnlyRegs s v) (f : Fld) (x : VbatStore) :
    ∃ t, done s { v.seen f .supply with vbat := x } = .next t ∧ (∀ g, t.fget g = (v.fon f).fget g) ∧
      bitOf t.mgt.latched 1 = true ∧ t.vbat = x ∧ OnlyShown s t := by
  have hpending : (v.seen f .supply).pending = s.pending := (seen_pending v f .supply).trans h.pending
  have hfld : ∀ g, (v.seen f .supply).fget g = (v.fon f).fget g := fget_raise (v.fon f) .supply
  have hlatched : bitOf (v.seen f .supply).mgt.latched 1 = true := raise_bit (v.fon f) .supply
  have honly := h.seen f .supply
  generalize v.seen f .supply = u at hpending hfld hlatched honly
  refine ⟨settle s { u with vbat := x }, done_queue hpending, fun g => ?_, ?_, settle_vbat _ _,
    (honly.withVbat x).settle s⟩
  · rw [fget_settle, ← hfld]
    rfl
  · rw [settle_latched]
    exact hlatched

theorem done_seen (h : OnlyRegs s v) (f : Fld) :
    ∃ t, done s (v.seen f .supply) = .next t ∧ (∀ g, t.fget g = (v.fon f).fget g) ∧ bitOf t.mgt.latched 1 = true ∧
      t = { s with regs := t.regs, hot := t.hot, mgt := t.mgt } := by
  obtain ⟨t, ht, hfld, hlatched, hvbat, honly⟩ := done_seen_vbat h f s.vbat
  have hsame : { v.seen f .supply with vbat := s.vbat } = v.seen f .supply := by
    have hv : s.vbat = (v.seen f .supply).vbat := by rw [seen_vbat, h]
    rw [hv]
  rw [hsame] at ht
  rw [OnlyShown, hvbat] at honly
  exact ⟨t, ht, hfld, hlatched, honly⟩

end

/-! ## Warnings of the input (02 R50) -/

section
variable {s : State}

theorem ovWarn_shown (hup : s.up = true) (hoff : s.fbit GLB_PWR_STATUS_OV_WARN = false) :
    ∃ t, exec .ovWarn s = .next t ∧ t.fget GLB_PWR_STATUS_OV_WARN = 1 ∧ t.fget GLB_PWR_STATUS_VIN_OK = 0 ∧
      t.fget GLB_PWR_STATUS_OV_WARN_SEEN = 1 ∧ bitOf t.mgt.latched 1 = true ∧
      keepsBut [GLB_PWR_STATUS_OV_WARN, GLB_PWR_STATUS_VIN_OK, GLB_PWR_STATUS_OV_WARN_SEEN] s t ∧
      t = { s with regs := t.regs, hot := t.hot, mgt := t.mgt } := by
  obtain ⟨t, ht, hfld, hlatched, honly⟩ :=
    done_seen (OnlyRegs.refl (s := s)).fon.foff GLB_PWR_STATUS_OV_WARN_SEEN
  have hexec : exec .ovWarn s = .next t := by
    simp only [exec, execOvWarn, whenUp_up hup, hoff, Bool.false_eq_true, if_false]
    exact ht
  have hkeep : keepsBut [GLB_PWR_STATUS_OV_WARN, GLB_PWR_STATUS_VIN_OK, GLB_PWR_STATUS_OV_WARN_SEEN] s
      (((s.fon GLB_PWR_STATUS_OV_WARN).foff GLB_PWR_STATUS_VIN_OK).fon GLB_PWR_STATUS_OV_WARN_SEEN) :=
    keepsBut_fon _ (by simp) rfl (keepsBut_foff _ (by simp) rfl (keepsBut_fon _ (by simp) rfl (keepsBut_refl _ _)))
  refine ⟨t, hexec, ?_, ?_, ?_, hlatched, keepsBut_of_fget hkeep hfld, honly⟩
  · calc t.fget GLB_PWR_STATUS_OV_WARN
      _ = _ := hfld _
      _ = ((s.fon GLB_PWR_STATUS_OV_WARN).foff GLB_PWR_STATUS_VIN_OK).fget GLB_PWR_STATUS_OV_WARN :=
        fget_fon_apart _ _ _ rfl (by decide)
      _ = (s.fon GLB_PWR_STATUS_OV_WARN).fget GLB_PWR_STATUS_OV_WARN := fget_foff_apart _ _ _ rfl (by decide)
      _ = 1 := fget_fon_same _ _ rfl Nat.one_pos
  · exact (hfld _).trans ((fget_fon_apart _ _ _ rfl (by decide)).trans (fget_foff_same _ _ rfl))
  · exact (hfld _).trans (fget_fon_same _ _ rfl Nat.one_pos)

theorem ovWarnEnd_shown (hup : s.up = true) :
    ∃ t, exec .ovWarnEnd s = .next t ∧ t.fget GLB_PWR_STATUS_OV_WARN = 0 ∧ t.fget GLB_PWR_STATUS_VIN_OK = 1 ∧
      keepsBut [GLB_PWR_STATUS_OV_WARN, GLB_PWR_STATUS_VIN_OK] s t ∧ t = { s with regs := t.regs, hot := t.hot } := by
  let t := (s.foff GLB_PWR_STATUS_OV_WARN).fon GLB_PWR_STATUS_VIN_OK
  have hkeep : keepsBut [GLB_PWR_STATUS_OV_WARN, GLB_PWR_STATUS_VIN_OK] s t :=
    keepsBut_fon _ (by simp) rfl (keepsBut_foff _ (by simp) rfl (keepsBut_refl _ _))
  have honly : OnlyRegs s t := OnlyRegs.refl.foff.fon
  have hexec : exec .ovWarnEnd s = .next t := by
    simp only [exec, execOvWarnEnd, whenUp_up hup]
    exact done_of_condFields hkeep (by decide) honly.mgt honly.pending
  exact ⟨t, hexec, (fget_fon_apart _ _ _ rfl (by decide)).trans (fget_foff_same _ _ rfl),
    fget_fon_same _ _ rfl Nat.one_pos, hkeep, honly⟩

theorem ilimReached_shown (hup : s.up = true) :
    ∃ t, exec .ilimReached s = .next t ∧ t.fget GLB_PWR_STATUS_ILIM_SEEN = 1 ∧ bitOf t.mgt.latched 1 = true ∧
      keepsBut [GLB_PWR_STATUS_ILIM_SEEN] s t ∧ t = { s with regs := t.regs, hot := t.hot, mgt := t.mgt } := by
  obtain ⟨t, ht, hfld, hlatched, honly⟩ := done_seen (OnlyRegs.refl (s := s)) GLB_PWR_STATUS_ILIM_SEEN
  have hkeep : keepsBut [GLB_PWR_STATUS_ILIM_SEEN] s (s.fon GLB_PWR_STATUS_ILIM_SEEN) :=
    keepsBut_fon _ (by simp) rfl (keepsBut_refl _ _)
  have hexec : exec .ilimReached s = .next t := by
    simp only [exec, execIlimReached, whenUp_up hup]
    exact ht
  exact ⟨t, hexec, (hfld _).trans (fget_fon_same _ _ rfl Nat.one_pos), hlatched, keepsBut_of_fget hkeep hfld, honly⟩

/-! ## The level of VBAT (02 R58) -/

theorem fget_vbatLevel (s : State) (mv : BitVec 12) :
    (s.vbatLevel mv.toNat).fget GLB_VBAT_STATUS_VBAT_MV = mv.toNat := calc
  _ = (s.fset GLB_VBAT_STATUS_VBAT_MV mv.toNat).fget GLB_VBAT_STATUS_VBAT_MV := fget_fset_apart _ _ _ _ rfl (by decide)
  _ = mv.toNat % 2 ^ 12 := fget_fset_same _ _ _ rfl
  _ = mv.toNat := Nat.mod_eq_of_lt mv.isLt

theorem keepsBut_vbatLevel {fs : List Fld} (mv : Nat)
    (hsub : [GLB_VBAT_STATUS_VBAT_MV, GLB_VBAT_STATUS_PRESENT] ⊆ fs) : keepsBut fs s (s.vbatLevel mv) :=
  keepsBut_fset _ _ (hsub (by simp)) rfl (keepsBut_fset _ _ (hsub (by simp)) rfl (keepsBut_refl _ _))

/-- An entry of the log holds a level of VBAT, and the second, whole. -/
theorem pushLog_vbat {u : State} {code : Nat} {mv : BitVec 12} (h : u.vbatInvalid = false) :
    u.pushLog code mv.toNat s.secLo = { u with vbat := u.vbat.noted code mv.toNat s.secLo } := by
  have hmv : mv.toNat % 2 ^ 16 = mv.toNat := Nat.mod_eq_of_lt (by omega)
  have hsec : s.secLo % 2 ^ 32 = s.secLo := Nat.mod_mod _ _
  rw [pushLog_valid h, hmv, hsec]

theorem vbatLevel_only (s : State) (mv : Nat) : OnlyRegs s (s.vbatLevel mv) := OnlyRegs.refl.fset.fset

theorem vbatLow_shown {mv : BitVec 12} (hup : s.up = true) (hvalid : s.vbatInvalid = false)
    (hlow : s.fbit GLB_VBAT_STATUS_LOW = false) :
    ∃ t, exec (.vbatLow mv) s = .next t ∧ t.fget GLB_VBAT_STATUS_VBAT_MV = mv.toNat ∧ t.fget GLB_VBAT_STATUS_LOW = 1 ∧
      t.fget GLB_VBAT_STATUS_LOW_SEEN = 1 ∧ bitOf t.mgt.latched 1 = true ∧
      t.vbat.log.head? = some ⟨3, s.vbat.nextSeq, mv.toNat, s.secLo⟩ ∧
      keepsBut [GLB_VBAT_STATUS_VBAT_MV, GLB_VBAT_STATUS_PRESENT, GLB_VBAT_STATUS_LOW, GLB_VBAT_STATUS_LOW_SEEN] s t ∧
      OnlyShown s t := by
  let v := (s.vbatLevel mv.toNat).fon GLB_VBAT_STATUS_LOW
  have honly : OnlyRegs s v := (vbatLevel_only s mv.toNat).fon
  have hkeep : keepsBut [GLB_VBAT_STATUS_VBAT_MV, GLB_VBAT_STATUS_PRESENT, GLB_VBAT_STATUS_LOW,
      GLB_VBAT_STATUS_LOW_SEEN] s (v.fon GLB_VBAT_STATUS_LOW_SEEN) :=
    keepsBut_fon _ (by simp) rfl (keepsBut_fon _ (by simp) rfl (keepsBut_vbatLevel _ (by simp)))
  have hinvalid : (v.seen GLB_VBAT_STATUS_LOW_SEEN .supply).vbatInvalid = false :=
    (fbit_raise _ _ _).trans ((fbit_of_keepsBut hkeep (by decide)).trans hvalid)
  have hvbat : (v.seen GLB_VBAT_STATUS_LOW_SEEN .supply).vbat = s.vbat := by rw [seen_vbat, honly]
  obtain ⟨t, ht, hfld, hlatched, hlog, honly'⟩ := done_seen_vbat honly GLB_VBAT_STATUS_LOW_SEEN
    (s.vbat.noted 3 mv.toNat s.secLo)
  have hexec : exec (.vbatLow mv) s = .next t := by
    simp only [exec, execVbatLow, whenUp_up hup, hvalid, hlow, Bool.false_eq_true, if_false, State.vbatLow]
    rw [← ht, pushLog_vbat hinvalid, hvbat]
  refine ⟨t, hexec, ?_, ?_, ?_, hlatched, by rw [hlog]; rfl, keepsBut_of_fget hkeep hfld, honly'⟩
  · calc t.fget GLB_VBAT_STATUS_VBAT_MV
      _ = _ := hfld _
      _ = v.fget GLB_VBAT_STATUS_VBAT_MV := fget_fon_apart _ _ _ rfl (by decide)
      _ = (s.vbatLevel mv.toNat).fget GLB_VBAT_STATUS_VBAT_MV := fget_fon_apart _ _ _ rfl (by decide)
      _ = mv.toNat := fget_vbatLevel s mv
  · exact (hfld _).trans ((fget_fon_apart _ _ _ rfl (by decide)).trans (fget_fon_same _ _ rfl Nat.one_pos))
  · exact (hfld _).trans (fget_fon_same _ _ rfl Nat.one_pos)

/-- A level of VBAT is logged after an update of registers that sets no mark and begins no condition. -/
theorem done_pushLog_vbat {fs : List Fld} {u : State} {code : Nat} {mv : BitVec 12}
    (honly : u = { s with regs := u.regs }) (hkeep : keepsBut fs s u)
    (hcond : ∀ f ∈ condFields, ∀ g ∈ fs, f.apart g = true) (hvalid : u.vbatInvalid = false) :
    ∃ t, done s (u.pushLog code mv.toNat s.secLo) = .next t ∧ (∀ g, t.fget g = u.fget g) ∧
      t.vbat = s.vbat.noted code mv.toNat s.secLo ∧ t = { s with regs := t.regs, vbat := t.vbat } := by
  have hframe : ∀ x, { u with vbat := x } = { s with regs := u.regs, vbat := x } := fun x => by rw [honly]
  have hvbat : u.vbat = s.vbat := by rw [honly]
  rw [pushLog_vbat hvalid, hvbat]
  generalize s.vbat.noted code mv.toNat s.secLo = x
  have hdone : done s { u with vbat := x } = .next { u with vbat := x } :=
    done_of_condFields (keepsBut_of_regs rfl rfl hkeep) hcond (by rw [hframe]) (by rw [hframe])
  exact ⟨_, hdone, fun _ => rfl, rfl, hframe x⟩

theorem vbatRecover_shown {mv : BitVec 12} (hup : s.up = true) (hvalid : s.vbatInvalid = false) :
    ∃ t, exec (.vbatRecover mv) s = .next t ∧ t.fget GLB_VBAT_STATUS_VBAT_MV = mv.toNat ∧
      t.fget GLB_VBAT_STATUS_LOW = 0 ∧ t.vbat.log.head? = some ⟨4, s.vbat.nextSeq, mv.toNat, s.secLo⟩ ∧
      keepsBut [GLB_VBAT_STATUS_VBAT_MV, GLB_VBAT_STATUS_PRESENT, GLB_VBAT_STATUS_LOW] s t ∧
      t = { s with regs := t.regs, vbat := t.vbat } := by
  let u := (s.vbatLevel mv.toNat).foff GLB_VBAT_STATUS_LOW
  have hkeep : keepsBut [GLB_VBAT_STATUS_VBAT_MV, GLB_VBAT_STATUS_PRESENT, GLB_VBAT_STATUS_LOW] s u :=
    keepsBut_foff _ (by simp) rfl (keepsBut_vbatLevel _ (by simp))
  have hregs : u = { s with regs := u.regs } := by
    have hshown : OnlyRegs s u := (vbatLevel_only s _).foff
    have hhot : u.hot = s.hot := by rw [foff_hot, State.vbatLevel, fput_hot, fset_hot]
    rwa [OnlyRegs, hhot] at hshown
  obtain ⟨t, ht, hfld, hlog, honly⟩ := done_pushLog_vbat (code := 4) (mv := mv) hregs hkeep (by decide)
    ((fbit_of_keepsBut hkeep (by decide)).trans hvalid)
  have hexec : exec (.vbatRecover mv) s = .next t := by
    simp only [exec, execVbatRecover, whenUp_up hup, hvalid, Bool.false_eq_true, if_false]
    exact ht
  exact ⟨t, hexec, (hfld _).trans ((fget_foff_apart _ _ _ rfl (by decide)).trans (fget_vbatLevel s mv)),
    (hfld _).trans (fget_foff_same _ _ rfl), by rw [hlog]; rfl, keepsBut_of_fget hkeep hfld, honly⟩

end

end Sys2Proof.Machine

/-! # Updates of the sensors (02 R60, R71) -/

namespace Sys2Proof.Machine

/-! ## Updates that show a measurement (02 R60, R71, 10 R312, 12 R342) -/

/-- The write of a register is the write of its one field of 32 bits. -/
theorem setReg_eq_fset (s : State) (k v : Nat) : s.setReg k v = s.fset ⟨k, 0, 32⟩ v := by
  have hv : BitVec.ofNat 32 (withField (s.getReg k) 0 32 v) = BitVec.ofNat 32 v := by
    apply BitVec.eq_of_toNat_eq
    simp [withField_parts, Nat.mod_one]
  simp only [State.fset, State.setReg, hv]

/-- From s to t only the listed fields, their marks, the synthesizers and the free values may have changed. -/
structure Measured (fs : List Fld) (s t : State) : Prop where
  only : t = { s with freeCtr := t.freeCtr, regs := t.regs, hot := t.hot, syn := t.syn }
  keeps : keepsBut fs s t

namespace Measured
section
variable {fs gs : List Fld} {s t u : State} {f : Fld} {v k : Nat}

theorem refl : Measured fs s s := ⟨rfl, keepsBut_refl _ _⟩

theorem trans (h : Measured fs s t) (hu : Measured fs t u) : Measured fs s u :=
  ⟨hu.only.trans (by rw [h.only]), keepsBut_trans h.keeps hu.keeps⟩

theorem mono (hsub : fs ⊆ gs) (h : Measured fs s t) : Measured gs s t := ⟨h.only, keepsBut_mono hsub h.keeps⟩

/-- An update of the parts that may change, registers apart. -/
theorem frame {freeCtr hot syn} (h : Measured fs s t) :
    Measured fs s { t with freeCtr := freeCtr, hot := hot, syn := syn } :=
  ⟨by rw [h.only], keepsBut_of_regs rfl rfl h.keeps⟩

theorem fset (h : Measured fs s t) (hm : f ∈ fs) (hf : f.fits = true) : Measured fs s (t.fset f v) :=
  ⟨by rw [h.only]; rfl, keepsBut_fset f v hm hf h.keeps⟩

theorem fput {b : Bool} (h : Measured fs s t) (hm : f ∈ fs) (hf : f.fits = true) : Measured fs s (t.fput f b) :=
  h.fset hm hf
theorem foff (h : Measured fs s t) (hm : f ∈ fs) (hf : f.fits = true) : Measured fs s (t.foff f) := h.fset hm hf
theorem fon (h : Measured fs s t) (hm : f ∈ fs) (hf : f.fits = true) : Measured fs s (t.fon f) := (h.fset hm hf).frame

theorem setReg (h : Measured fs s t) (hm : ⟨k, 0, 32⟩ ∈ fs) : Measured fs s (t.setReg k v) := by
  rw [setReg_eq_fset]
  exact h.fset hm rfl

theorem ite {c : Prop} [Decidable c] (ht : Measured fs s t) (hu : Measured fs s u) :
    Measured fs s (if c then t else u) := by
  split <;> assumption

theorem setHolderWord (h : Measured fs s t) : Measured fs s (t.setHolderWord v) := by
  unfold State.setHolderWord State.setSynth
  split
  · split <;> exact h.frame
  · exact h

theorem emberCorrect (h : Measured fs s t) : Measured fs s t.emberCorrect :=
  .ite h.setHolderWord.frame (.ite h.setHolderWord.frame h)

theorem growExcursion (h : Measured fs s t) : Measured fs s t.growExcursion := .ite h.frame h

theorem sensorSubst (h : Measured fs s t) (hm : CAL_STATUS_SENSOR_SUBST ∈ fs) : Measured fs s t.sensorSubst :=
  h.fput hm rfl

theorem part (h : Measured fs s t) : t.part = s.part := by rw [h.only]
theorem pending (h : Measured fs s t) : t.pending = s.pending := by rw [h.only]

theorem sensors (h : Measured fs s t) : t.sensors = s.sensors := by rw [State.sensors, State.sensors, h.part]

end
end Measured

/-! ## The readings shown (02 R60) -/

/-- The word of each listed sensor, whole. -/
def tempFields (l : List Nat) : List Fld := l.map fun i => ⟨GLB_TEMP i, 0, 32⟩

/-- One sensor's reading is shown; one that becomes invalid sets the flag. -/
def State.showTemp (rs : List (BitVec 16)) (t : State) (i : Nat) : State :=
  let w := tempWord (rs.getD i 0)
  let fell := tempValid (t.getReg (GLB_TEMP i)) && !tempValid w
  let t := t.setReg (GLB_TEMP i) w
  if fell then t.fon GLB_PWR_STATUS_SENSOR_FAULT_SEEN else t

/-- The readings are shown, and SENSOR_FAULT with them. -/
def State.faultsShown (s : State) (rs : List (BitVec 16)) : State :=
  let t := s.showTemps rs
  let fault := t.sensorWords.any fun w => !tempValid w
  (if fault && !s.fbit GLB_PWR_STATUS_SENSOR_FAULT then t.fon GLB_PWR_STATUS_SENSOR_FAULT_SEEN else t).fput
    GLB_PWR_STATUS_SENSOR_FAULT fault

/-- The input's voltage and current are shown, and what follows the temperatures is brought up to date. -/
def State.inputShown (s : State) (vinMv iinMa : BitVec 16) : State :=
  (s.setReg GLB_PWR_MON (iinMa.toNat * 2 ^ 16 + vinMv.toNat)).sensorSubst.growExcursion.emberCorrect

/-- The fields that the faults, the judgement of the temperature, and the input change. -/
def faultFields : List Fld := [GLB_PWR_STATUS_SENSOR_FAULT_SEEN, GLB_PWR_STATUS_SENSOR_FAULT]
def tempAlarmFields : List Fld := [GLB_PWR_STATUS_TEMP_ALARM, GLB_PWR_STATUS_TEMP_ALARM_SEEN]
def inputFields : List Fld := [⟨GLB_PWR_MON, 0, 32⟩, CAL_STATUS_SENSOR_SUBST]

theorem exec_tempSensorUpdate {s : State} {rs : List (BitVec 16)} {vinMv iinMa : BitVec 16} (hup : s.up = true) :
    exec (.tempSensorUpdate rs vinMv iinMa) s = done s ((s.faultsShown rs).judgeTemp.inputShown vinMv iinMa) := by
  have hexec : exec (.tempSensorUpdate rs vinMv iinMa) s =
      whenUp s ((s.faultsShown rs).judgeTemp.inputShown vinMv iinMa) := rfl
  rw [hexec, whenUp_up hup]

section
variable {s t : State} {rs : List (BitVec 16)} {l : List Nat} {fs : List Fld} {i : Nat}

theorem lt_of_mem_sensors (h : i ∈ s.sensors) : i < 9 := List.mem_range.mp (List.mem_filter.mp h).1

theorem tempWord_lt (r : BitVec 16) : tempWord r < 2 ^ 32 := by
  have hr := r.isLt
  have hb := Bool.toNat_le (decide (-960 ≤ signedOf 16 r.toNat) && decide (signedOf 16 r.toNat ≤ 3200))
  simp only [tempWord]
  omega

theorem showTemp_measured (h : Measured fs s t) (hi : ⟨GLB_TEMP i, 0, 32⟩ ∈ fs)
    (hs : GLB_PWR_STATUS_SENSOR_FAULT_SEEN ∈ fs) : Measured fs s (t.showTemp rs i) :=
  .ite ((h.setReg hi).fon hs rfl) (h.setReg hi)

theorem foldl_showTemp_measured (l : List Nat) :
    Measured (tempFields l ++ [GLB_PWR_STATUS_SENSOR_FAULT_SEEN]) s (l.foldl (State.showTemp rs) s) :=
  List.foldlRecOn l _ .refl fun _ h _ hi =>
    showTemp_measured h (List.mem_append_left _ (List.mem_map_of_mem hi)) (List.mem_append_right _ (by simp))

theorem getReg_showTemp (hi : i < 9) : (s.showTemp rs i).getReg (GLB_TEMP i) = tempWord (rs.getD i 0) := by
  have hne : GLB_TEMP i ≠ GLB_PWR_STATUS_SENSOR_FAULT_SEEN.key := by
    simp only [GLB_TEMP, GLB_PWR_STATUS_SENSOR_FAULT_SEEN, GLB_PWR_STATUS]
    omega
  have hword : (s.setReg (GLB_TEMP i) (tempWord (rs.getD i 0))).getReg (GLB_TEMP i) = tempWord (rs.getD i 0) := by
    rw [getReg_setReg_same, Nat.mod_eq_of_lt (tempWord_lt _)]
  unfold State.showTemp
  extract_lets w fell t
  split
  · rw [State.fon, getReg_mark, getReg_fset_ne _ _ _ _ hne]
    exact hword
  · exact hword

/-- A sensor that the readings leave out keeps its word. -/
theorem getReg_foldl_showTemp_ne (hi : i < 9) (hl : i ∉ l) :
    (l.foldl (State.showTemp rs) s).getReg (GLB_TEMP i) = s.getReg (GLB_TEMP i) := by
  refine getReg_of_keepsBut (foldl_showTemp_measured l).keeps fun f hf => ?_
  simp only [tempFields, List.mem_append, List.mem_map, List.mem_singleton] at hf
  obtain ⟨j, hj, rfl⟩ | rfl := hf
  · have hij : i ≠ j := ne_of_mem_of_not_mem hj hl |>.symm
    simp only [GLB_TEMP]
    omega
  · simp only [GLB_TEMP, GLB_PWR_STATUS_SENSOR_FAULT_SEEN, GLB_PWR_STATUS]
    omega

theorem getReg_foldl_showTemp (hi : i < 9) (hl : i ∈ l) :
    (l.foldl (State.showTemp rs) s).getReg (GLB_TEMP i) = tempWord (rs.getD i 0) := by
  induction l generalizing s with
  | nil => cases hl
  | cons j r ih =>
    rw [List.foldl_cons]
    by_cases hr : i ∈ r
    · exact ih hr
    · obtain rfl : i = j := (List.mem_cons.mp hl).resolve_right hr
      rw [getReg_foldl_showTemp_ne hi hr, getReg_showTemp hi]

theorem faultsShown_measured : Measured faultFields (s.showTemps rs) (s.faultsShown rs) :=
  .fput (.ite (.fon .refl (by simp [faultFields]) rfl) .refl) (by simp [faultFields]) rfl

theorem judgeTemp_measured : Measured tempAlarmFields s s.judgeTemp := by
  have halarm : GLB_PWR_STATUS_TEMP_ALARM ∈ tempAlarmFields := by simp [tempAlarmFields]
  unfold State.judgeTemp
  split
  · exact .refl
  · exact .ite (.ite (.foff .refl halarm rfl) .refl)
      (.ite (.fon (.fon .refl halarm rfl) (by simp [tempAlarmFields]) rfl) .refl)

theorem inputShown_measured {vinMv iinMa : BitVec 16} : Measured inputFields s (s.inputShown vinMv iinMa) :=
  ((Measured.refl.setReg (by simp [inputFields])).sensorSubst (by simp [inputFields])).growExcursion.emberCorrect

/-- The words of the sensors stay where no sensor's word is listed. -/
theorem sensorWords_of_measured (h : Measured fs s t) (hk : ∀ i < 9, ∀ f ∈ fs, GLB_TEMP i ≠ f.key) :
    t.sensorWords = s.sensorWords := by
  rw [State.sensorWords, State.sensorWords, h.sensors]
  exact List.map_congr_left fun i hi => getReg_of_keepsBut h.keeps (hk i (lt_of_mem_sensors hi))

/-! ## The judgement of the highest temperature (02 R60) -/

theorem judgeTemp_of_highest {x : Int} (h : highest s.sensorWords = some x) :
    s.judgeTemp =
      if s.fbit GLB_PWR_STATUS_TEMP_ALARM then
        if x < min 2400 (s.fint GLB_TEMP_CFG_ALARM_THR) - s.fget GLB_TEMP_CFG_HYST then s.foff GLB_PWR_STATUS_TEMP_ALARM
        else s
      else if min 2400 (s.fint GLB_TEMP_CFG_ALARM_THR) ≤ x then
        (s.fon GLB_PWR_STATUS_TEMP_ALARM).fon GLB_PWR_STATUS_TEMP_ALARM_SEEN
      else s := by
  simp only [State.judgeTemp, h]

/-- A field of one bit reads 1 where it reads as a flag. -/
theorem fget_of_fbit {k n : Nat} (h : s.fbit ⟨k, n, 1⟩ = true) : s.fget ⟨k, n, 1⟩ = 1 := by
  simp only [State.fbit, State.fget, fieldOf, bne_iff_ne] at h ⊢
  omega

theorem judgeTemp_reached {x : Int} (h : highest s.sensorWords = some x)
    (hx : min 2400 (s.fint GLB_TEMP_CFG_ALARM_THR) ≤ x) :
    s.judgeTemp.fget GLB_PWR_STATUS_TEMP_ALARM = 1 ∧
      (s.fget GLB_PWR_STATUS_TEMP_ALARM = 0 → s.judgeTemp.fget GLB_PWR_STATUS_TEMP_ALARM_SEEN = 1) := by
  have hwarm : ¬ x < min 2400 (s.fint GLB_TEMP_CFG_ALARM_THR) - s.fget GLB_TEMP_CFG_HYST := by omega
  rw [judgeTemp_of_highest h, if_pos hx, if_neg hwarm]
  split
  next hbit =>
    have hone : s.fget GLB_PWR_STATUS_TEMP_ALARM = 1 := fget_of_fbit hbit
    exact ⟨hone, fun hzero => absurd hzero (by omega)⟩
  next =>
    exact ⟨(fget_fon_apart _ _ _ rfl (by decide)).trans (fget_fon_same _ _ rfl Nat.one_pos),
      fun _ => fget_fon_same _ _ rfl Nat.one_pos⟩

theorem judgeTemp_cooled {x : Int} (h : highest s.sensorWords = some x)
    (hx : x < min 2400 (s.fint GLB_TEMP_CFG_ALARM_THR) - s.fget GLB_TEMP_CFG_HYST) :
    s.judgeTemp.fget GLB_PWR_STATUS_TEMP_ALARM = 0 := by
  have hbelow : ¬ min 2400 (s.fint GLB_TEMP_CFG_ALARM_THR) ≤ x := by omega
  rw [judgeTemp_of_highest h, if_pos hx, if_neg hbelow]
  split
  next => exact fget_foff_same _ _ rfl
  next hbit => simpa [State.fbit] using hbit

end


/-! ## An update of the sensors (02 R60, R71) -/

/-- The fields that follow the readings. -/
def followingFields : List Fld := faultFields ++ tempAlarmFields ++ inputFields

/-- No sensor's word is among the fields that follow the readings. -/
theorem temp_apart_followingFields : ∀ i < 9, ∀ f ∈ followingFields, GLB_TEMP i ≠ f.key := by decide

section
variable {s t u v : State} {rs : List (BitVec 16)} {vinMv iinMa : BitVec 16} {k : Nat}

theorem showTemps_measured : Measured (tempFields s.sensors ++ [GLB_PWR_STATUS_SENSOR_FAULT_SEEN]) s (s.showTemps rs) :=
  foldl_showTemp_measured s.sensors

/-- From the readings on, only the fields that follow them change. -/
theorem following_measured :
    Measured followingFields (s.showTemps rs) ((s.faultsShown rs).judgeTemp.inputShown vinMv iinMa) :=
  ((faultsShown_measured.mono (by simp [followingFields])).trans
    (judgeTemp_measured.mono (by simp [followingFields]))).trans (inputShown_measured.mono (by simp [followingFields]))

theorem tempSensorUpdate_measured :
    Measured (tempFields s.sensors ++ followingFields) s ((s.faultsShown rs).judgeTemp.inputShown vinMv iinMa) :=
  (showTemps_measured.mono (by simp [followingFields, faultFields])).trans
    (following_measured.mono (List.subset_append_right _ _))

/-- A register that is no sensor's, and not of the status, the monitor or the calibration, stays. -/
theorem getReg_of_tempSensorUpdate (h : Measured (tempFields s.sensors ++ followingFields) s t)
    (hk : k ∉ s.sensors.map GLB_TEMP) (hk' : k ∉ [GLB_PWR_MON, GLB_PWR_STATUS, CAL_STATUS]) :
    t.getReg k = s.getReg k := by
  have hkeys : ∀ f ∈ followingFields, f.key ∈ [GLB_PWR_MON, GLB_PWR_STATUS, CAL_STATUS] := by decide
  refine getReg_of_keepsBut h.keeps fun f hf => ?_
  rcases List.mem_append.mp hf with hf | hf
  · obtain ⟨i, hi, rfl⟩ := List.mem_map.mp hf
    exact fun he => hk (List.mem_map.mpr ⟨i, hi, he.symm⟩)
  · exact fun he => hk' (he ▸ hkeys f hf)

theorem getReg_temp_of_following (h : Measured followingFields (s.showTemps rs) t) {i : Nat} (hi : i ∈ s.sensors) :
    t.getReg (GLB_TEMP i) = tempWord (rs.getD i 0) := calc
  _ = (s.showTemps rs).getReg (GLB_TEMP i) :=
    getReg_of_keepsBut h.keeps (temp_apart_followingFields i (lt_of_mem_sensors hi))
  _ = tempWord (rs.getD i 0) := getReg_foldl_showTemp (lt_of_mem_sensors hi) hi

theorem pwrMon_inputShown :
    (s.inputShown vinMv iinMa).fget GLB_PWR_MON_VIN_MV = vinMv.toNat ∧
      (s.inputShown vinMv iinMa).fget GLB_PWR_MON_IIN_MA = iinMa.toNat := by
  have hmeas : Measured [CAL_STATUS_SENSOR_SUBST] (s.setReg GLB_PWR_MON (iinMa.toNat * 2 ^ 16 + vinMv.toNat))
      (s.inputShown vinMv iinMa) := (Measured.refl.sensorSubst (List.mem_singleton_self _)).growExcursion.emberCorrect
  have hv := vinMv.isLt
  have hi := iinMa.isLt
  have hword : (s.inputShown vinMv iinMa).getReg GLB_PWR_MON = iinMa.toNat * 2 ^ 16 + vinMv.toNat := by
    rw [getReg_of_keepsBut hmeas.keeps (by decide), getReg_setReg_same, Nat.mod_eq_of_lt (by omega)]
  simp only [State.fget, fieldOf, GLB_PWR_MON_VIN_MV, GLB_PWR_MON_IIN_MA, hword]
  omega

/-- SENSOR_FAULT follows the words of the sensors. -/
theorem sensorFault_faultsShown :
    (s.faultsShown rs).fbit GLB_PWR_STATUS_SENSOR_FAULT = (s.showTemps rs).sensorWords.any fun w => !tempValid w := by
  rw [State.fbit, State.faultsShown, State.fput, fget_fset_same _ _ _ rfl]
  cases (s.showTemps rs).sensorWords.any fun w => !tempValid w <;> rfl

/-- The faults leave what the judgement reads. -/
theorem judged_faultsShown :
    (s.faultsShown rs).fint GLB_TEMP_CFG_ALARM_THR = s.fint GLB_TEMP_CFG_ALARM_THR ∧
      (s.faultsShown rs).fget GLB_TEMP_CFG_HYST = s.fget GLB_TEMP_CFG_HYST ∧
      (s.faultsShown rs).fget GLB_PWR_STATUS_TEMP_ALARM = s.fget GLB_PWR_STATUS_TEMP_ALARM := by
  have hmeas : Measured (tempFields s.sensors ++ faultFields) s (s.faultsShown rs) :=
    (showTemps_measured.mono (by simp [faultFields])).trans (faultsShown_measured.mono (List.subset_append_right _ _))
  have hfld : ∀ g ∈ [GLB_TEMP_CFG_ALARM_THR, GLB_TEMP_CFG_HYST, GLB_PWR_STATUS_TEMP_ALARM],
      (s.faultsShown rs).fget g = s.fget g := by
    have htemp : ∀ g ∈ [GLB_TEMP_CFG_ALARM_THR, GLB_TEMP_CFG_HYST, GLB_PWR_STATUS_TEMP_ALARM],
        (∀ i < 9, g.key ≠ GLB_TEMP i) ∧ ∀ f ∈ faultFields, g.apart f = true := by decide
    refine fun g hg => hmeas.keeps g fun f hf => ?_
    obtain ⟨hkey, hfault⟩ := htemp g hg
    rcases List.mem_append.mp hf with hf | hf
    · obtain ⟨i, hi, rfl⟩ := List.mem_map.mp hf
      simp [Fld.apart, hkey i (lt_of_mem_sensors hi)]
    · exact hfault f hf
  exact ⟨by rw [State.fint, State.fint, hfld _ (by simp)], hfld _ (by simp), hfld _ (by simp)⟩

theorem Measured.settle_only {fs : List Fld} (h : Measured fs s u) :
    settle s u = { s with
      freeCtr := (settle s u).freeCtr, regs := (settle s u).regs, hot := (settle s u).hot, syn := (settle s u).syn,
      mgt := (settle s u).mgt } := by
  have hframe : ∀ m, { u with mgt := m } =
      { s with freeCtr := u.freeCtr, regs := u.regs, hot := u.hot, syn := u.syn, mgt := m } := fun m => by rw [h.only]
  rw [settle_freeCtr, settle_regs, settle_hot, settle_syn]
  exact (settle_mgt_only s u).trans (hframe _)

/-- The judgement of an update, in the words that the update leaves. -/
theorem tempAlarm_of_tempSensorUpdate {x : Int}
    (h : highest ((s.faultsShown rs).judgeTemp.inputShown vinMv iinMa).sensorWords = some x) :
    (min 2400 (s.fint GLB_TEMP_CFG_ALARM_THR) ≤ x →
      ((s.faultsShown rs).judgeTemp.inputShown vinMv iinMa).fget GLB_PWR_STATUS_TEMP_ALARM = 1 ∧
      (s.fget GLB_PWR_STATUS_TEMP_ALARM = 0 →
        ((s.faultsShown rs).judgeTemp.inputShown vinMv iinMa).fget GLB_PWR_STATUS_TEMP_ALARM_SEEN = 1)) ∧
    (x < min 2400 (s.fint GLB_TEMP_CFG_ALARM_THR) - s.fget GLB_TEMP_CFG_HYST →
      ((s.faultsShown rs).judgeTemp.inputShown vinMv iinMa).fget GLB_PWR_STATUS_TEMP_ALARM = 0) := by
  obtain ⟨hthr, hhyst, halarm⟩ := judged_faultsShown (s := s) (rs := rs)
  have hwords : ((s.faultsShown rs).judgeTemp.inputShown vinMv iinMa).sensorWords = (s.faultsShown rs).sensorWords :=
    (sensorWords_of_measured inputShown_measured (by decide)).trans
      (sensorWords_of_measured judgeTemp_measured (by decide))
  rw [hwords] at h
  have hinput := (inputShown_measured (s := (s.faultsShown rs).judgeTemp) (vinMv := vinMv) (iinMa := iinMa)).keeps
  rw [hinput GLB_PWR_STATUS_TEMP_ALARM (by decide), hinput GLB_PWR_STATUS_TEMP_ALARM_SEEN (by decide), ← hthr, ← hhyst,
    ← halarm]
  exact ⟨judgeTemp_reached h, judgeTemp_cooled h⟩

theorem sensorFault_of_tempSensorUpdate :
    ((s.faultsShown rs).judgeTemp.inputShown vinMv iinMa).fbit GLB_PWR_STATUS_SENSOR_FAULT =
      ((s.faultsShown rs).judgeTemp.inputShown vinMv iinMa).sensorWords.any fun w => !tempValid w := calc
  _ = (s.faultsShown rs).judgeTemp.fbit GLB_PWR_STATUS_SENSOR_FAULT :=
    fbit_of_keepsBut inputShown_measured.keeps (by decide)
  _ = (s.faultsShown rs).fbit GLB_PWR_STATUS_SENSOR_FAULT := fbit_of_keepsBut judgeTemp_measured.keeps (by decide)
  _ = (s.showTemps rs).sensorWords.any fun w => !tempValid w := sensorFault_faultsShown
  _ = _ := by rw [sensorWords_of_measured following_measured temp_apart_followingFields]

end

/-- Settles O4: the warnings of the input, the level of VBAT, and an update of the sensors stage by stage. -/
theorem supplyWarnings : Obligations.SupplyWarnings := by
  refine ⟨fun _ => ovWarn_shown, fun _ => ovWarnEnd_shown, fun _ => ilimReached_shown, fun _ _ => vbatLow_shown,
    fun _ _ hup hvalid _ => vbatRecover_shown hup hvalid, fun s readings vinMv iinMa hup => ?_⟩
  obtain ⟨hvin, hiin⟩ := pwrMon_inputShown (s := (s.faultsShown readings).judgeTemp) (vinMv := vinMv) (iinMa := iinMa)
  have hfollow := following_measured (s := s) (rs := readings) (vinMv := vinMv) (iinMa := iinMa)
  have hmeas := tempSensorUpdate_measured (s := s) (rs := readings) (vinMv := vinMv) (iinMa := iinMa)
  have hfault := sensorFault_of_tempSensorUpdate (s := s) (rs := readings) (vinMv := vinMv) (iinMa := iinMa)
  have halarm := fun x =>
    tempAlarm_of_tempSensorUpdate (s := s) (rs := readings) (vinMv := vinMv) (iinMa := iinMa) (x := x)
  have hexec := exec_tempSensorUpdate (rs := readings) (vinMv := vinMv) (iinMa := iinMa) hup
  generalize (s.faultsShown readings).judgeTemp.inputShown vinMv iinMa = u at *
  have hwords : (settle s u).sensorWords = u.sensorWords := by simp [State.sensorWords, State.sensors]
  refine ⟨settle s u, hexec.trans (done_queue hmeas.pending), ?_⟩
  simp only [getReg_settle, fget_settle, fbit_settle, hwords]
  exact ⟨fun i => getReg_temp_of_following hfollow, hvin, hiin, hfault, fun x hx => (halarm x hx).1,
    fun x hx => (halarm x hx).2, fun k => getReg_of_tempSensorUpdate hmeas, hmeas.settle_only⟩

end Sys2Proof.Machine

/-! # The cage interrupts across a device reset (03 R73): a statement with a state that refutes it -/

namespace Sys2Proof.Machine

theorem cageInt_deviceReset (s : State) (cause : Nat) :
    (s.deviceReset cause).links.cageInt = s.links.cageInt := cageInt_clearBlocks s

theorem cageInt_of_kindlingWatchdog {s t : State} (hup : s.up = true) (hlife : s.life = .kindling)
    (h : exec .kindlingWatchdog s = .next t) : t.links.cageInt = s.links.cageInt := by
  have hdone : exec .kindlingWatchdog s = done s (s.deviceReset 6) := (whenUp_up hup _).trans (by rw [if_pos hlife])
  exact cageInt_of_done (cageInt_deviceReset s 6) (hdone.symm.trans h)

/-- Kindling runs while a module in cage 0 asserts its interrupt. -/
def kindlingIntAsserted : State := { intAsserted with life := .kindling }

/-- Refutes O5: the statement gives the whole of the links its Reset value, the asserted cage interrupts among them, and
a device reset leaves those as the modules drive them (16 R426; log entry 72). -/
theorem not_deviceResets : ¬ Obligations.DeviceResets := by
  intro h
  obtain ⟨t, ht, -, -, -, -, -, hlinks, -⟩ :=
    h kindlingIntAsserted .agent 0 .kindlingWatchdog 6 (.inl ⟨rfl, rfl, rfl⟩)
  have hint : t.links.cageInt = [0] := cageInt_of_kindlingWatchdog rfl rfl ht
  rw [hlinks] at hint
  exact absurd hint (by decide)

end Sys2Proof.Machine

/-! # Kindling (03 R73, R74, R82, 02 R58): two statements with a state that refutes each -/

namespace Sys2Proof.Machine

/-- The device enters RESET from a dormancy whose seconds do not fit the word of a log entry. -/
def dormantForAges : State :=
  { State.reset with vbat := { vbatNew with dormantSec := 2 ^ 32, oscRan := true } }

/-- The power-up entry holds the seconds of dormancy modulo 2^32 (02 R57, R58). -/
theorem log_of_dormantForAges {t : State} (h : exec (.kindlingBegin 2400 true true 0) dormantForAges = .next t) :
    t.vbat.log = [⟨2, 0, 2400, 0⟩] := by
  obtain rfl := next_inj h
  rfl

/-- Refutes O7: its second clause puts `dormantWord` in the log as it stands, and the log keeps 32 bits of it. No
hypothesis bounds the seconds of dormancy. -/
theorem not_kindlingBegins : ¬ Obligations.KindlingBegins := by
  rintro ⟨-, h, -⟩
  obtain ⟨t, ht, -, -, -, -, -, -, -, -, hlog⟩ := h dormantForAges 2400 0 rfl rfl rfl (by decide) (by decide)
  rw [log_of_dormantForAges ht] at hlog
  exact absurd hlog (by decide)

/-- Kindling is at step 4, and bank 0 holds an image whose SEQ does not fit CFG_ACTIVE_SEQ. -/
def longSeq : State :=
  { State.reset with life := .kindling, phase := 4, cfg := { cfgNew with bank0 := .snapshot (2 ^ 32) [] } }

/-- The header of bank 0 is in range. -/
theorem readHead_longSeq : longSeq.readHead 0 false = (0, 2 ^ 32) := by decide +kernel

/-- Bank 0 is the one candidate of `longSeq`, and its image checks. -/
theorem judgeBank_longSeq :
    (((longSeq.showBank 0 0 (2 ^ 32)).showBank 1 1 0xFFFFFFFF).judgeBank 0 false).1 = 0 := by
  decide +kernel

/-- Refutes O8: its last clause gives CFG_ACTIVE_SEQ the SEQ of the bank's image as it stands, and a register holds 32
bits of it. No hypothesis bounds the SEQ of a bank. -/
theorem not_kindlingSteps : ¬ Obligations.KindlingSteps := by
  rintro ⟨-, -, -, -, -, -, h⟩
  obtain ⟨t, -, -, -, -, hseq, -⟩ := h longSeq _ (false, false) false false false (0, 2 ^ 32) (1, 0xFFFFFFFF) 0 []
    rfl rfl rfl readHead_longSeq.symm rfl rfl rfl judgeBank_longSeq
  have hlt := getReg_lt t CFG_ACTIVE_SEQ
  rw [hseq] at hlt
  exact absurd hlt (by decide)

end Sys2Proof.Machine

/-! # The end of a persist (03 R87, R88): two statements with a state that refutes each

The address of CFG_BANK_SEQ of a third bank is that of CFG_PERSIST: a persist towards bank 2 would show its SEQ over START,
DONE and RESULT. -/

namespace Sys2Proof.Machine

/-- A persist runs towards a bank that no part has, with SEQ n. -/
def persistBeyond (n : Nat) : State :=
  { State.reset with cfg := { cfgNew with persist := some ⟨2, n, [], true⟩ } }

/-- The SEQ of a third bank stands over CFG_PERSIST. -/
theorem persist_of_persistBeyond {t : State} (h : exec (.persistDone ⟨0, 0⟩) (persistBeyond 0) = .next t) :
    t.getReg CFG_PERSIST = 0 := by
  obtain rfl := next_inj h
  decide +kernel

theorem persist_of_persistBeyond_fails {t : State} (h : exec (.persistDone ⟨4, 0⟩) (persistBeyond 1) = .next t) :
    t.getReg CFG_PERSIST = 1 := by
  obtain rfl := next_inj h
  decide +kernel

/-- Refutes O13: the clause of a failed persist does not bound the target bank. Towards bank 2 with SEQ 1 the SEQ is shown
over CFG_PERSIST and START reads 1. -/
theorem not_persistRuns : ¬ Obligations.PersistRuns := by
  rintro ⟨-, -, -, h⟩
  obtain ⟨t, ht, -, hstart, -⟩ := h (persistBeyond 1) _ 4 0 rfl rfl (by decide)
  rw [State.fget, show CFG_PERSIST_START.key = CFG_PERSIST from rfl, persist_of_persistBeyond_fails ht] at hstart
  exact absurd hstart (by decide)

/-- Refutes O54: the clause of a persist that succeeds after a commit does not bound the target bank. Towards bank 2 with
SEQ 0 the SEQ is shown over CFG_PERSIST and DONE reads 0. -/
theorem not_commitMarksPersist : ¬ Obligations.CommitMarksPersist := by
  rintro ⟨-, h, -⟩
  obtain ⟨t, ht, hdone, -⟩ := h (persistBeyond 0) _ 0 rfl rfl rfl
  rw [State.fget, show CFG_PERSIST_DONE.key = CFG_PERSIST from rfl, persist_of_persistBeyond ht] at hdone
  exact absurd hdone (by decide)

end Sys2Proof.Machine

/-! # Staging sessions (03 R91 to R99) -/

namespace Sys2Proof.Machine

/-! ## Staged writes (03 R91, R95) -/

section
variable {s : State} {q : Requester} {r : StagedRec} {addr value : Word} {d : RegDef} {ix : List Nat}

theorem mayStage_iff :
    s.mayStage q = true ↔ s.cfg.owner = some q ∧ s.cfg.sess ∈ [SessState.opened, .checked, .failed] := by
  simp [State.mayStage, or_assoc]

theorem stageRec_of_fits (h : s.mayStage q = true) (hfit : recsCharge s.cfg.records + recCharge r ≤ shadowBytes) :
    s.stageRec q r = { s with cfg := { s.cfg with sess := .opened, records := s.cfg.records ++ [r] } } := by
  rw [State.stageRec, if_pos h, if_pos hfit]

theorem stageRec_of_overflow (h : s.mayStage q = true) (hfit : shadowBytes < recsCharge s.cfg.records + recCharge r) :
    s.stageRec q r = { s with cfg := { s.cfg with sess := .opened, overflow := true } } := by
  rw [State.stageRec, if_pos h, if_neg (by omega)]

theorem stageRec_of_not_mayStage (h : s.mayStage q = false) : s.stageRec q r = s := by
  simp [State.stageRec, h]

/-- A write to a register of staged fields offers the session a record. -/
theorem stageWrite_of_findReg (hfind : findReg addr.toNat = some (d, ix)) (habs : absentAt s.part d ix = false)
    (hmask : stagedMask d ≠ 0) (v : Nat) :
    s.stageWrite q addr.toNat v = s.stageRec q (.reg addr.toNat (stagedMask d &&& liveBits d ix) v false) := by
  simp [State.stageWrite, hfind, habs, hmask]

theorem stageWrite_of_not_mayStage (h : s.mayStage q = false) (a v : Nat) : s.stageWrite q a v = s := by
  unfold State.stageWrite
  split
  · split
    · rfl
    · exact stageRec_of_not_mayStage h
  · rfl

theorem exec_stagedWrite (hq : s.takes q = true) (hup : s.up = true) :
    exec (.stagedWrite q addr value) s = done s (s.stageWrite q addr.toNat value.toNat) :=
  (whenTaken_of_takes hq _).trans (whenUp_up hup _)

/-- An update of the session alone is the whole outcome. -/
theorem done_cfg (s : State) (c : CfgState) : done s { s with cfg := c } = .next { s with cfg := c } :=
  done_plain s _ rfl rfl rfl

end

/-- Settles O11: the record that fits, the one that does not, and the writers that are ignored. -/
theorem stagedWriteKept : Obligations.StagedWriteKept := by
  refine ⟨fun s q addr value d ix hq hup hfind habs hmask hown hsess hfit => ?_,
    fun s q addr value d ix hq hup hfind habs hmask hown hsess hfit => ?_, fun s q addr value h => ?_⟩
  · rw [exec_stagedWrite hq hup, stageWrite_of_findReg hfind habs hmask,
      stageRec_of_fits (mayStage_iff.mpr ⟨hown, hsess⟩) (by exact hfit), done_cfg]
  · rw [exec_stagedWrite hq hup, stageWrite_of_findReg hfind habs hmask,
      stageRec_of_overflow (mayStage_iff.mpr ⟨hown, hsess⟩) (by exact hfit), done_cfg]
  · have hnot : s.mayStage q = false := by
      rw [← Bool.not_eq_true, mayStage_iff]
      rintro ⟨hown, hsess⟩
      rcases h with h | h
      · exact h hown
      · generalize s.cfg.sess = x at h hsess
        revert x
        decide
    show whenTaken s q (s.stageWrite q addr.toNat value.toNat) = .next s
    rw [stageWrite_of_not_mayStage hnot, whenTaken_self]

/-! ## The word of a session command (03 R92) -/

theorem bitOf_eq_testBit (w n : Nat) : bitOf w n = w.testBit n := by
  simp only [bitOf, Nat.testBit_eq_decide_div_mod_eq]
  rfl

/-- Of the four command bits a command's word has its own. -/
theorem bitOf_stageWord_command (bit : Nat) (flags : Word) {i : Nat} (hi : i < 4) :
    bitOf (stageWord bit flags) i = decide (bit = i) := by
  have hflag : Nat.testBit 0x130 i = false := by
    revert i
    decide
  rw [bitOf_eq_testBit, stageWord, Nat.testBit_or, Nat.testBit_and, hflag, Nat.testBit_two_pow, Bool.and_false,
    Bool.false_or]

/-- TIMED is that of the word. -/
theorem bitOf_stageWord_timed {bit : Nat} (flags : Word) (hbit : bit < 4) :
    bitOf (stageWord bit flags) CFG_STAGE_CTRL_TIMED.lo = bitOf flags.toNat 5 := by
  have hne : decide (bit = 5) = false := by simp; omega
  simp only [CFG_STAGE_CTRL_TIMED, bitOf_eq_testBit, stageWord, Nat.testBit_or, Nat.testBit_and, Nat.testBit_two_pow,
    hne, Bool.or_false]
  simp [show Nat.testBit 0x130 5 = true from rfl]

section
variable {s : State} {q : Requester} {flags : Word}

theorem refusals_open : s.refusals q (stageWord 0 flags) = s.openRefusals q := by
  simp [State.refusals, bitOf_stageWord_command]

theorem refusals_check : s.refusals q (stageWord 1 flags) = s.checkRefusals q := by
  simp [State.refusals, bitOf_stageWord_command]

theorem refusals_arm : s.refusals q (stageWord 2 flags) = s.armRefusals q := by
  simp [State.refusals, bitOf_stageWord_command]

theorem refusals_abort : s.refusals q (stageWord 3 flags) = s.abortRefusals q := by
  simp [State.refusals, bitOf_stageWord_command]

theorem stageTake_open : s.stageTake q (stageWord 0 flags) =
    { s with cfg := { s.cfg with sess := .opened, owner := some q, records := [], overflow := false } } := by
  simp [State.stageTake, bitOf_stageWord_command]

theorem stageTake_check : s.stageTake q (stageWord 1 flags) = { s with cfg := { s.cfg with sess := .checking } } := by
  simp [State.stageTake, bitOf_stageWord_command]

theorem stageTake_arm : s.stageTake q (stageWord 2 flags) = s.arm := by
  simp [State.stageTake, bitOf_stageWord_command]

theorem stageTake_abort : s.stageTake q (stageWord 3 flags) = s.endSession := by
  simp [State.stageTake, bitOf_stageWord_command]

end

/-! ## The write of CFG_STAGE_CTRL (03 R92, R93) -/

/-- The fields that a command of a session writes beside its refusal. -/
def stageCtrlFields : List Fld := [CFG_STAGE_CTRL_TIMED, CFG_STAGE_CTRL_FORCE_LOCAL, CFG_STAGE_CTRL_READ_SHADOW]

/-- The fields that a refusal shows. -/
def refusalFields : List Fld := [CFG_COMMIT_STATUS_REFUSED, CFG_COMMIT_STATUS_REFUSE_CODE]

/-- None of them holds an alarm condition. -/
theorem condFields_apart_stage : ∀ f ∈ condFields, ∀ g ∈ stageCtrlFields ++ refusalFields, f.apart g = true := by decide

section
variable {s t u : State} {q : Requester} {v : Nat}

theorem stageFlags_keeps : keepsBut stageCtrlFields s (s.stageFlags v) := by
  unfold State.stageFlags
  refine keepsBut_fput _ _ (by decide) rfl ?_
  split
  · exact keepsBut_refl _ _
  · exact keepsBut_fput _ _ (by decide) rfl (keepsBut_refl _ _)

theorem stageFlags_onlyRegs : OnlyRegs s (s.stageFlags v) := by
  unfold State.stageFlags
  split
  · exact OnlyRegs.refl.fset
  · exact OnlyRegs.refl.fset.fset

theorem shadowFlag_keeps : keepsBut stageCtrlFields s (s.shadowFlag q v) := by
  unfold State.shadowFlag
  split
  · exact keepsBut_fput _ _ (by decide) rfl (keepsBut_refl _ _)
  · exact keepsBut_refl _ _

theorem shadowFlag_onlyRegs : OnlyRegs s (s.shadowFlag q v) := by
  unfold State.shadowFlag
  split
  · exact OnlyRegs.refl.fset
  · exact OnlyRegs.refl

theorem OnlyRegs.trans (h : OnlyRegs s t) (hu : OnlyRegs t u) : OnlyRegs s u := Eq.trans hu (by rw [h])

theorem OnlyRegs.cfg (h : OnlyRegs s t) : t.cfg = s.cfg := by rw [h]
theorem OnlyRegs.hrt (h : OnlyRegs s t) : t.hrt = s.hrt := by rw [h]
theorem OnlyRegs.life (h : OnlyRegs s t) : t.life = s.life := by rw [h]
theorem OnlyRegs.power (h : OnlyRegs s t) : t.power = s.power := by rw [h]

theorem OnlyRegs.inService (h : OnlyRegs s t) : t.inService = s.inService := by
  simp only [State.inService, State.up, h.life, h.power]

theorem up_of_inService (h : s.inService = true) : s.up = true := by
  simp only [State.inService, Bool.and_eq_true] at h
  exact h.1

/-- The outcome of a session command in service is that of the write to CFG_STAGE_CTRL. -/
theorem whenTaken_inService (hq : s.takes q = true) (hserv : s.inService = true) : whenTaken s q t = done s t :=
  (whenTaken_of_takes hq t).trans (whenUp_up (up_of_inService hserv) t)

theorem stageCommand_taken (hserv : s.inService = true) (h : s.refusals q v = []) :
    s.stageCommand q v = s.stageTake q v := by
  simp [State.stageCommand, hserv, h]

theorem stageCommand_refused (hserv : s.inService = true) (h : s.refusals q v ≠ []) :
    s.stageCommand q v =
      (s.fon CFG_COMMIT_STATUS_REFUSED).fset CFG_COMMIT_STATUS_REFUSE_CODE (lowest (s.refusals q v)) := by
  unfold State.stageCommand
  rw [if_pos hserv]
  split
  next hnil => exact absurd hnil h
  next hcons => rw [hcons]

/-- A command that is taken gives the session its new state: `w` is the state before it but for registers. -/
theorem stageCtrl_taken {w : State} {c : CfgState} (hq : s.takes q = true) (hserv : s.inService = true)
    (hrefuse : (s.stageFlags v).refusals q v = []) (htake : (s.stageFlags v).stageTake q v = { w with cfg := c })
    (hw : OnlyRegs (s.stageFlags v) w) (hkw : keepsBut stageCtrlFields (s.stageFlags v) w) :
    ∃ t, whenTaken s q (s.stageCtrl q v) = .next t ∧ t.cfg = c ∧ keepsBut stageCtrlFields s t ∧
      t = { s with regs := t.regs, hot := t.hot, cfg := t.cfg } := by
  have hcommand : (s.stageFlags v).stageCommand q v = { w with cfg := c } :=
    (stageCommand_taken (stageFlags_onlyRegs.inService.trans hserv) hrefuse).trans htake
  have honly : OnlyRegs s w := stageFlags_onlyRegs.trans hw
  have hshadow : OnlyRegs { w with cfg := c } (s.stageCtrl q v) := by
    rw [State.stageCtrl, hcommand]
    exact shadowFlag_onlyRegs
  have hkeep : keepsBut stageCtrlFields s (s.stageCtrl q v) := by
    rw [State.stageCtrl, hcommand]
    exact keepsBut_trans (keepsBut_of_regs rfl rfl (keepsBut_trans stageFlags_keeps hkw)) shadowFlag_keeps
  have hcfg : (s.stageCtrl q v).cfg = c := hshadow.cfg
  have hall : s.stageCtrl q v = { s with regs := (s.stageCtrl q v).regs, hot := (s.stageCtrl q v).hot, cfg := c } :=
    Eq.trans hshadow (by rw [honly])
  refine ⟨_, (whenTaken_inService hq hserv).trans (done_of_condFields hkeep (fun f hf g hg => ?_) ?_ ?_), hcfg, hkeep, ?_⟩
  · exact condFields_apart_stage f hf g (List.mem_append_left _ hg)
  · rw [hall]
  · rw [hall]
  · rw [hcfg]
    exact hall

/-- A command that is refused shows the lowest code that applies, and changes nothing else. -/
theorem stageCtrl_refused {n : Nat} (hq : s.takes q = true) (hserv : s.inService = true) (hn : n ≠ 0)
    (hrefuse : lowest ((s.stageFlags v).refusals q v) = n) (hlt : n < 256) :
    ∃ t, whenTaken s q (s.stageCtrl q v) = .next t ∧ t.fget CFG_COMMIT_STATUS_REFUSED = 1 ∧
      t.fget CFG_COMMIT_STATUS_REFUSE_CODE = n ∧ t.cfg = s.cfg ∧ t = { s with regs := t.regs, hot := t.hot } := by
  have hsome : (s.stageFlags v).refusals q v ≠ [] := by
    intro hnil
    rw [hnil] at hrefuse
    exact hn hrefuse.symm
  have hctrl : s.stageCtrl q v = (((s.stageFlags v).fon CFG_COMMIT_STATUS_REFUSED).fset
      CFG_COMMIT_STATUS_REFUSE_CODE n).shadowFlag q v := by
    rw [State.stageCtrl, stageCommand_refused (stageFlags_onlyRegs.inService.trans hserv) hsome, hrefuse]
  generalize hu : (s.stageFlags v).fon CFG_COMMIT_STATUS_REFUSED = u at hctrl
  have hcode : OnlyRegs s (u.fset CFG_COMMIT_STATUS_REFUSE_CODE n) := hu ▸ stageFlags_onlyRegs.fon.fset
  have honly : OnlyRegs s (s.stageCtrl q v) := by
    rw [hctrl]
    exact hcode.trans shadowFlag_onlyRegs
  have hshadow : keepsBut stageCtrlFields (u.fset CFG_COMMIT_STATUS_REFUSE_CODE n) (s.stageCtrl q v) := by
    rw [hctrl]
    exact shadowFlag_keeps
  have hku : keepsBut (stageCtrlFields ++ refusalFields) s u := by
    rw [← hu]
    exact keepsBut_fon _ (by decide) rfl (keepsBut_mono (List.subset_append_left _ _) stageFlags_keeps)
  have hkeep : keepsBut (stageCtrlFields ++ refusalFields) s (s.stageCtrl q v) :=
    keepsBut_trans (keepsBut_fset _ n (by decide) rfl hku) (keepsBut_mono (List.subset_append_left _ _) hshadow)
  refine ⟨_, (whenTaken_inService hq hserv).trans
    (done_of_condFields hkeep condFields_apart_stage honly.mgt honly.pending), ?_, ?_, honly.cfg, honly⟩
  · rw [hshadow _ (by decide), fget_fset_apart _ _ _ _ rfl (by decide), ← hu, fget_fon_same _ _ rfl (by decide)]
  · rw [hshadow _ (by decide), fget_fset_same _ _ _ rfl]
    exact Nat.mod_eq_of_lt hlt

end

end Sys2Proof.Machine

/-! # The advance of a session (03 R92, R95, R96, R98, R99) -/

namespace Sys2Proof.Machine

/-! ## What OPEN, CHECK and ARM are refused for (03 R93, R97, R99) -/

section
variable {s t : State} {q : Requester} {v : Nat} {flags : Word}

theorem openRefusals_of_idle (h : s.cfg.sess = .idle) : s.openRefusals q = [] := if_pos h

theorem notOwner_of_owner (h : s.cfg.owner = some q) : s.notOwner q = [] := by
  simp [State.notOwner, h]

theorem checkRefusals_of_owner (hown : s.cfg.owner = some q)
    (hsess : s.cfg.sess ∈ [SessState.opened, .checked, .failed]) : s.checkRefusals q = [] := by
  have hstate : s.cfg.sess = .opened ∨ s.cfg.sess = .checked ∨ s.cfg.sess = .failed := by simpa using hsess
  rw [State.checkRefusals, notOwner_of_owner hown, if_pos hstate, List.append_nil]

theorem armRefusals_of_checked (hown : s.cfg.owner = some q) (hsess : s.cfg.sess = .checked)
    (hholder : s.hrt.holder ≠ none) (htimed : s.fbit CFG_STAGE_CTRL_TIMED = true → s.timedRefusals = []) :
    s.armRefusals q = [] := by
  have hsome : s.hrt.holder.isNone = false := by rwa [Option.isNone_eq_false_iff, Option.isSome_iff_ne_none]
  rw [State.armRefusals, notOwner_of_owner hown, if_pos hsess, hsome]
  split
  next htrue => simp [htimed htrue]
  next => simp

/-- A timed ARM of a session whose instant lies in reach of a locked clock is not refused (03 R99). -/
theorem timedRefusals_of_reach (hns : s.fget CFG_COMMIT_TIME_NS_NS < nsPerSec)
    (hlead : s.time.clock + s.commitLead * unitsPerNs ≤ s.commitTimeNs * unitsPerNs)
    (hhour : s.commitTimeNs * unitsPerNs ≤ s.time.clock + 3600 * nsPerSec * unitsPerNs)
    (hmode : s.timeMode = .locked ∨ s.timeMode = .holdover) : s.timedRefusals = [] := by
  have hclock : ¬((s.timeMode = .free ∨ s.timeMode = .acquiring) ∧ s.fbit CFG_STAGE_CTRL_FORCE_LOCAL = false) := by
    rintro ⟨hfree, -⟩
    rcases hmode with h | h <;> rw [h] at hfree <;> simp at hfree
  rw [State.timedRefusals, if_neg (by omega), if_neg (by omega), if_neg (by omega), if_neg hclock]
  rfl

/-! ## The instant of a commit (03 R98) -/

/-- An immediate commit comes at the first whole millisecond at least the lead ahead. -/
theorem nextTick_bounds (s : State) :
    s.nextTick % 1000000 = 0 ∧ s.commitLead * unitsPerNs + s.time.clock ≤ s.nextTick * unitsPerNs ∧
      s.nextTick * unitsPerNs < (1000000 + s.commitLead) * unitsPerNs + s.time.clock := by
  have hticks : ∀ t : Nat, t ≤ (t + 1000000 * unitsPerNs - 1) / (1000000 * unitsPerNs) * 1000000 * unitsPerNs ∧
      (t + 1000000 * unitsPerNs - 1) / (1000000 * unitsPerNs) * 1000000 * unitsPerNs < t + 1000000 * unitsPerNs := by
    intro t
    simp only [unitsPerNs]
    omega
  obtain ⟨hle, hlt⟩ := hticks (s.commitLead * unitsPerNs + s.time.clock)
  refine ⟨Nat.mul_mod_left _ _, hle, ?_⟩
  calc s.nextTick * unitsPerNs < s.commitLead * unitsPerNs + s.time.clock + 1000000 * unitsPerNs := hlt
    _ = (1000000 + s.commitLead) * unitsPerNs + s.time.clock := by ring

/-- The fields of CFG_STAGE_CTRL are none that the time of a commit is made of. -/
theorem commitTimeNs_of_keepsBut (h : keepsBut stageCtrlFields s t) : t.commitTimeNs = s.commitTimeNs := by
  rw [State.commitTimeNs, State.commitTimeNs, h _ (by decide), h _ (by decide), h _ (by decide)]

/-- A session in CHECKED takes TIMED from the word. -/
theorem fbit_timed_stageFlags (hsess : s.cfg.sess = .checked) :
    (s.stageFlags v).fbit CFG_STAGE_CTRL_TIMED = bitOf v CFG_STAGE_CTRL_TIMED.lo := by
  have harmed : s.armedUp = false := by simp [State.armedUp, hsess]
  have htimed : (s.stageFlags v).fget CFG_STAGE_CTRL_TIMED = (bitOf v 5).toNat := by
    rw [State.stageFlags, harmed]
    calc _ = (s.fput CFG_STAGE_CTRL_TIMED (bitOf v 5)).fget CFG_STAGE_CTRL_TIMED :=
        fget_fset_apart _ _ _ _ rfl (by decide)
      _ = (bitOf v 5).toNat := by
        rw [State.fput, fget_fset_same _ _ _ rfl]
        cases bitOf v 5 <;> rfl
  rw [State.fbit, htimed, show CFG_STAGE_CTRL_TIMED.lo = 5 from rfl]
  cases bitOf v 5 <;> rfl

/-! ## OPEN, CHECK and ARM taken -/

theorem stageOpen_taken (hq : s.takes q = true) (hserv : s.inService = true) (hsess : s.cfg.sess = .idle) :
    ∃ t, exec (.stageOpen q flags) s = .next t ∧
      t.cfg = { s.cfg with sess := .opened, owner := some q, records := [], overflow := false } ∧
      keepsBut stageCtrlFields s t ∧ t = { s with regs := t.regs, hot := t.hot, cfg := t.cfg } := by
  have hflags : OnlyRegs s (s.stageFlags (stageWord 0 flags)) := stageFlags_onlyRegs
  rw [← hflags.cfg]
  refine stageCtrl_taken hq hserv ?_ stageTake_open OnlyRegs.refl (keepsBut_refl _ _)
  rw [refusals_open, openRefusals_of_idle (by rw [hflags.cfg, hsess])]

theorem stageCheck_taken (hq : s.takes q = true) (hserv : s.inService = true) (hown : s.cfg.owner = some q)
    (hsess : s.cfg.sess ∈ [SessState.opened, .checked, .failed]) :
    ∃ t, exec (.stageCheck q flags) s = .next t ∧ t.cfg = { s.cfg with sess := .checking } ∧
      keepsBut stageCtrlFields s t ∧ t = { s with regs := t.regs, hot := t.hot, cfg := t.cfg } := by
  have hflags : OnlyRegs s (s.stageFlags (stageWord 1 flags)) := stageFlags_onlyRegs
  rw [← hflags.cfg]
  refine stageCtrl_taken hq hserv ?_ stageTake_check OnlyRegs.refl (keepsBut_refl _ _)
  rw [refusals_check, checkRefusals_of_owner (by rw [hflags.cfg, hown]) (by rwa [hflags.cfg])]

/-- ARM is taken with the instant that the flags of its word give; `u` is the state with those flags. -/
theorem stageArm_taken {u : State} (hu : u = s.stageFlags (stageWord 2 flags)) (hq : s.takes q = true)
    (hserv : s.inService = true) (hown : s.cfg.owner = some q) (hsess : s.cfg.sess = .checked)
    (hholder : s.hrt.holder ≠ none) (htimed : u.fbit CFG_STAGE_CTRL_TIMED = true → u.timedRefusals = []) :
    ∃ t, exec (.stageArm q flags) s = .next t ∧ t = { s with regs := t.regs, hot := t.hot, cfg := t.cfg } ∧
      t.cfg = { s.cfg with
        sess := .arming
        instant := if u.fbit CFG_STAGE_CTRL_TIMED then u.commitTimeNs else u.nextTick } := by
  subst hu
  have hflags : OnlyRegs s (s.stageFlags (stageWord 2 flags)) := stageFlags_onlyRegs
  rw [← hflags.cfg]
  obtain ⟨t, ht, hcfg, -, honly⟩ := stageCtrl_taken hq hserv
    (refusals_arm.trans (armRefusals_of_checked (by rw [hflags.cfg, hown]) (by rw [hflags.cfg, hsess])
      (by rwa [hflags.hrt]) htimed)) stageTake_arm OnlyRegs.refl (keepsBut_refl _ _)
  exact ⟨t, ht, honly, hcfg⟩

theorem stageArm_immediate (hq : s.takes q = true) (hserv : s.inService = true) (hown : s.cfg.owner = some q)
    (hsess : s.cfg.sess = .checked) (hholder : s.hrt.holder ≠ none) (hword : bitOf flags.toNat 5 = false) :
    ∃ t, exec (.stageArm q flags) s = .next t ∧ t = { s with regs := t.regs, hot := t.hot, cfg := t.cfg } ∧
      t.cfg = { s.cfg with sess := .arming, instant := s.nextTick } := by
  have hflags : OnlyRegs s (s.stageFlags (stageWord 2 flags)) := stageFlags_onlyRegs
  have htimed : (s.stageFlags (stageWord 2 flags)).fbit CFG_STAGE_CTRL_TIMED = false := by
    rw [fbit_timed_stageFlags hsess, bitOf_stageWord_timed flags (by decide), hword]
  have htick : (s.stageFlags (stageWord 2 flags)).nextTick = s.nextTick := by
    simp only [State.nextTick, State.commitLead, hflags.cfg, hflags.time]
  have htaken := stageArm_taken (flags := flags) rfl hq hserv hown hsess hholder (by simp [htimed])
  rwa [htimed, if_neg (by simp), htick] at htaken

theorem stageArm_timed (hq : s.takes q = true) (hserv : s.inService = true) (hown : s.cfg.owner = some q)
    (hsess : s.cfg.sess = .checked) (hholder : s.hrt.holder ≠ none) (hword : bitOf flags.toNat 5 = true)
    (hreach : ∀ u, OnlyRegs s u → keepsBut stageCtrlFields s u → u.timedRefusals = []) :
    ∃ t, exec (.stageArm q flags) s = .next t ∧ t = { s with regs := t.regs, hot := t.hot, cfg := t.cfg } ∧
      t.cfg = { s.cfg with sess := .arming, instant := s.commitTimeNs } := by
  have htimed : (s.stageFlags (stageWord 2 flags)).fbit CFG_STAGE_CTRL_TIMED = true := by
    rw [fbit_timed_stageFlags hsess, bitOf_stageWord_timed flags (by decide), hword]
  have htaken := stageArm_taken (flags := flags) rfl hq hserv hown hsess hholder
    (fun _ => hreach _ stageFlags_onlyRegs stageFlags_keeps)
  rwa [htimed, if_pos rfl, commitTimeNs_of_keepsBut stageFlags_keeps] at htaken

end

/-! ## Every failed condition has a code (03 R96) -/

/-- Every failure of a list has a code, and none is 0. -/
def Coded (fs : List Failure) : Prop := ∀ f ∈ fs, f.code ≠ 0

section
variable {α : Type} {s : State} {r : StagedRec} {image : Bool}

theorem coded_nil : Coded [] := by simp [Coded]

@[simp] theorem coded_append (a b : List Failure) : Coded (a ++ b) ↔ Coded a ∧ Coded b := by
  simp [Coded, or_imp, forall_and]

@[simp] theorem coded_flatMap (l : List α) (f : α → List Failure) : Coded (l.flatMap f) ↔ ∀ x ∈ l, Coded (f x) := by
  simp only [Coded, List.mem_flatMap]
  exact ⟨fun h x hx g hg => h g ⟨x, hx, hg⟩, fun h g ⟨x, hx, hg⟩ => h x hx g hg⟩

theorem coded_failIf (b : Bool) {code : Nat} (items : List CfgItem) (h : code ≠ 0) : Coded (failIf b code items) := by
  unfold failIf
  split
  · simpa [Coded] using h
  · exact coded_nil

theorem coded_ite {c : Prop} [Decidable c] {a b : List Failure} (ha : Coded a) (hb : Coded b) :
    Coded (if c then a else b) := by
  split <;> assumption

theorem coded_failPortGroup : Coded s.failPortGroup := by
  simp [State.failPortGroup, coded_failIf]

theorem coded_failLaneRate : Coded s.failLaneRate := by
  simp [State.failLaneRate, coded_failIf]

theorem coded_failFec : Coded s.failFec := by
  simp only [State.failFec, coded_flatMap]
  intro p _
  split <;> exact coded_failIf _ _ (by decide)

theorem coded_failTrunk : Coded s.failTrunk := by
  simp [State.failTrunk, coded_failIf]

theorem coded_failLag : Coded s.failLag := by
  simp [State.failLag, coded_failIf]

theorem coded_failRef (t i t2 i2 : Nat) : Coded (s.failRef t i t2 i2) := coded_failIf _ _ (by decide)

theorem coded_failPorts (t i m : Nat) : Coded (s.failPorts t i m) := coded_failIf _ _ (by decide)

theorem coded_failEntry (t i : Nat) (e : List Word) : Coded (s.failEntry t i e) := by
  unfold State.failEntry
  refine coded_ite coded_nil ?_
  split
  · exact coded_ite coded_nil
      ((coded_append _ _).mpr ⟨coded_failRef _ _ _ _, coded_ite (coded_failPorts _ _ _) coded_nil⟩)
  · exact coded_ite coded_nil (coded_failPorts _ _ _)
  · simp only [coded_append]
    exact ⟨⟨⟨coded_ite (coded_failRef _ _ _ _) coded_nil, coded_ite (coded_failRef _ _ _ _) coded_nil⟩,
      coded_ite (coded_failPorts _ _ _) coded_nil⟩,
      coded_ite ((coded_append _ _).mpr ⟨coded_failPorts _ _ _, coded_failIf _ _ (by decide)⟩) coded_nil⟩
  · exact (coded_append _ _).mpr
      ⟨coded_ite (coded_failRef _ _ _ _) coded_nil, coded_ite (coded_failPorts _ _ _) coded_nil⟩
  · exact coded_failPorts _ _ _
  · exact coded_nil

theorem coded_failTables : Coded s.failTables := by
  simp [State.failTables, coded_failEntry]

theorem coded_failJoin (p x : Nat) (item : CfgItem) : Coded (s.failJoin p x item) :=
  coded_ite coded_nil ((coded_append _ _).mpr ⟨coded_failIf _ _ (by decide), coded_failIf _ _ (by decide)⟩)

theorem coded_failQuill (p : Nat) : Coded (s.failQuill p) := by
  simp [State.failQuill, State.failWinCycle, State.failWinEgress, coded_failJoin, coded_failIf]

theorem coded_failWinIngress : Coded s.failWinIngress := by
  simp [State.failWinIngress, coded_failIf]

theorem coded_failBuffers : Coded s.failBuffers := by
  simp [State.failBuffers, State.failPools, State.failExponents, State.failSpill, State.failSched, State.failGates,
    coded_failIf]

theorem coded_failTime : Coded s.failTime := by
  simp [State.failTime, coded_failIf]

theorem coded_failRefs : Coded s.failRefs := by
  simp [State.failRefs, coded_failIf]

theorem coded_failBands (x : Nat) : Coded (s.failBands x) := by
  simp [State.failBands, coded_failIf]

theorem coded_failOutputs : Coded s.failOutputs := by
  simp [State.failOutputs, coded_failIf]

theorem coded_failures : Coded s.failures := by
  simp [State.failures, State.failNib, State.failLease, State.failMgmt, State.failCapture, State.failWindows,
    coded_failIf, coded_failPortGroup, coded_failLaneRate, coded_failFec, coded_failTrunk, coded_failLag,
    coded_failTables, coded_failQuill, coded_failWinIngress, coded_failBuffers, coded_failTime, coded_failRefs,
    coded_failBands, coded_failOutputs]

/-- Nor does a record fail on its own with the code 0. -/
theorem recCodes_ne_zero : ∀ n ∈ s.recCodes image r, n ≠ 0 := by
  have hcode : ∀ (b : Bool) (c : Nat), c ≠ 0 → ∀ n ∈ (if b = true then [c] else []), n ≠ 0 := by
    intro b c hc n hn
    cases b
    · simp at hn
    · simp only [if_true, List.mem_singleton] at hn
      exact hn ▸ hc
  intro n hn
  simp only [State.recCodes, List.mem_append] at hn
  rcases hn with ((hn | hn) | hn) | hn
  · exact hcode _ _ (by decide) n hn
  · exact hcode _ _ (by decide) n hn
  · exact hcode _ _ (by decide) n hn
  · exact hcode _ _ (by decide) n hn

/-- The lowest number of a list is one of the list. -/
theorem foldl_min_mem (l : List Nat) (x : Nat) : l.foldl min x ∈ x :: l := by
  induction l generalizing x with
  | nil => simp
  | cons y l ih =>
    have hmem := ih (min x y)
    rcases Nat.le_total x y with h | h
    · rw [Nat.min_eq_left h] at hmem
      rw [List.foldl_cons, Nat.min_eq_left h]
      grind
    · rw [Nat.min_eq_right h] at hmem
      rw [List.foldl_cons, Nat.min_eq_right h]
      grind

theorem foldl_min_le (l : List Nat) (x : Nat) : l.foldl min x ≤ x := by
  induction l generalizing x with
  | nil => exact le_rfl
  | cons y l ih => exact (ih (min x y)).trans (Nat.min_le_left x y)

/-- A check of an overflowed session fails, with a code that the field holds (03 R95, R96). -/
theorem checkSet_overflow (rs : List StagedRec) :
    (s.checkSet rs false [0x05]).code ≠ 0 ∧ (s.checkSet rs false [0x05]).code < 2 ^ CFG_CHECK_RESULT_CODE.width := by
  unfold State.checkSet
  extract_lets c fs staged idle recs active bad code count addr
  show code ≠ 0 ∧ code < 2 ^ 8
  have hcode : code ∈ 0x05 :: (bad.flatMap (·.2) ++ active.map (·.1)) := foldl_min_mem _ _
  have hle : code ≤ 0x05 := foldl_min_le _ _
  refine ⟨?_, by omega⟩
  have hfs : Coded fs := coded_failures
  rw [List.mem_cons, List.mem_append] at hcode
  rcases hcode with h | h | h
  · rw [h]
    decide
  · obtain ⟨p, hp, hmem⟩ := List.mem_flatMap.mp h
    obtain ⟨r, -, rfl⟩ := List.mem_map.mp (List.mem_of_mem_filter hp)
    rcases List.mem_append.mp hmem with hrec | hstaged
    · exact recCodes_ne_zero _ hrec
    · obtain ⟨f, hf, hfcode⟩ := List.mem_map.mp hstaged
      rw [← hfcode]
      exact hfs f (List.mem_of_mem_filter (List.mem_of_mem_filter hf))
  · obtain ⟨a, ha, hfst⟩ := List.mem_map.mp h
    obtain ⟨f, hf, hsome⟩ := List.mem_filterMap.mp (List.mem_eraseDups.mp ha)
    obtain ⟨i, -, rfl⟩ := Option.map_eq_some_iff.mp hsome
    rw [← hfst]
    exact hfs f (List.mem_of_mem_filter hf)

end

/-! ## The end of the check (03 R95, R96) -/

/-- The fields that show the result of a check. -/
def checkFields : List Fld := [CFG_CHECK_RESULT_CODE, CFG_CHECK_RESULT_FAIL_CNT, ⟨CFG_CHECK_ADDR, 0, 32⟩]

theorem condFields_apart_check : ∀ f ∈ condFields, ∀ g ∈ checkFields, f.apart g = true := by decide

section
variable {s : State} {r : CheckResult}

theorem showCheck_keeps : keepsBut checkFields s (s.showCheck r) := by
  rw [State.showCheck, setReg_eq_fset]
  exact keepsBut_fset _ _ (by decide) rfl (keepsBut_fset _ _ (by decide) rfl
    (keepsBut_fset _ _ (by decide) rfl (keepsBut_refl _ _)))

theorem fget_code_showCheck (h : r.code < 2 ^ CFG_CHECK_RESULT_CODE.width) :
    (s.showCheck r).fget CFG_CHECK_RESULT_CODE = r.code := by
  rw [State.showCheck, fget_setReg_ne _ _ _ _ (by decide), fget_fset_apart _ _ _ _ rfl (by decide),
    fget_fset_same _ _ _ rfl, Nat.mod_eq_of_lt h]

/-- The state after the check of a session ends with a result. -/
def State.checked (s : State) (r : CheckResult) : State :=
  { s.showCheck r with cfg := { s.cfg with sess := if r.code = 0 then .checked else .failed } }

theorem exec_checkDone (hup : s.up = true) (hsess : s.cfg.sess = .checking) : exec .checkDone s =
    done s (s.checked (s.checkSet s.cfg.records false (if s.cfg.overflow then [0x05] else []))) :=
  (whenUp_up hup _).trans (by rw [if_pos hsess]; rfl)

theorem checked_keeps : keepsBut checkFields s (s.checked r) :=
  keepsBut_of_regs (t := s.showCheck r) rfl rfl showCheck_keeps

theorem fget_checked (g : Fld) : (s.checked r).fget g = (s.showCheck r).fget g :=
  fget_congr (s := s.showCheck r) rfl rfl g

theorem checked_cfg : (s.checked r).cfg = { s.cfg with sess := if r.code = 0 then .checked else .failed } := rfl

theorem checked_only : s.checked r = { s with regs := (s.checked r).regs, cfg := (s.checked r).cfg } := rfl

theorem done_checked : done s (s.checked r) = .next (s.checked r) :=
  done_of_condFields checked_keeps condFields_apart_check (by rw [checked_only]) (by rw [checked_only])

theorem checkDone_shown (hup : s.up = true) (hsess : s.cfg.sess = .checking)
    (hr : s.checkSet s.cfg.records false (if s.cfg.overflow then [0x05] else []) = r) :
    ∃ t, exec .checkDone s = .next t ∧ t.cfg = { s.cfg with sess := if r.code = 0 then .checked else .failed } ∧
      (r.code < 2 ^ CFG_CHECK_RESULT_CODE.width → t.fget CFG_CHECK_RESULT_CODE = r.code) ∧ keepsBut checkFields s t ∧
      t = { s with regs := t.regs, cfg := t.cfg } := by
  have hexec := exec_checkDone hup hsess
  rw [hr, done_checked] at hexec
  exact ⟨_, hexec, checked_cfg, fun h => (fget_checked _).trans (fget_code_showCheck h), checked_keeps, checked_only⟩

end

/-! ## The advance -/

section
variable {s : State} {q : Requester} {flags : Word}

theorem stageArm_nextTick (hq : s.takes q = true) (hserv : s.inService = true) (hown : s.cfg.owner = some q)
    (hsess : s.cfg.sess = .checked) (hword : bitOf flags.toNat 5 = false) (hholder : s.hrt.holder ≠ none) :
    ∃ t, exec (.stageArm q flags) s = .next t ∧
      t = { s with regs := t.regs, hot := t.hot, cfg := t.cfg, mgt := t.mgt } ∧
      t.cfg.sess = .arming ∧ t.cfg.records = s.cfg.records ∧ t.cfg.instant % 1000000 = 0 ∧
      (100000 + 20 * s.cfg.records.length) * 2 ^ 48 + s.time.clock ≤ t.cfg.instant * 2 ^ 48 ∧
      t.cfg.instant * 2 ^ 48 < (1100000 + 20 * s.cfg.records.length) * 2 ^ 48 + s.time.clock := by
  obtain ⟨t, ht, honly, hcfg⟩ := stageArm_immediate (flags := flags) hq hserv hown hsess hholder hword
  obtain ⟨hms, hle, hlt⟩ := nextTick_bounds s
  have hlead : 1000000 + (100000 + 20 * s.cfg.records.length) = 1100000 + 20 * s.cfg.records.length := by omega
  rw [State.commitLead, unitsPerNs] at hle hlt
  rw [hlead] at hlt
  have hmgt : t = { s with regs := t.regs, hot := t.hot, cfg := t.cfg, mgt := t.mgt } := by rw [honly]
  refine ⟨t, ht, hmgt, ?_⟩
  rw [hcfg]
  exact ⟨rfl, rfl, hms, hle, hlt⟩

theorem stageArm_commitTime (hq : s.takes q = true) (hserv : s.inService = true) (hown : s.cfg.owner = some q)
    (hsess : s.cfg.sess = .checked) (hword : bitOf flags.toNat 5 = true) (hholder : s.hrt.holder ≠ none)
    (hns : s.fget CFG_COMMIT_TIME_NS_NS < nsPerSec)
    (hlead : s.time.clock + s.commitLead * unitsPerNs ≤ s.commitTimeNs * unitsPerNs)
    (hhour : s.commitTimeNs * unitsPerNs ≤ s.time.clock + 3600 * nsPerSec * unitsPerNs)
    (hmode : s.timeMode = .locked ∨ s.timeMode = .holdover) :
    ∃ t, exec (.stageArm q flags) s = .next t ∧
      t = { s with regs := t.regs, hot := t.hot, cfg := t.cfg, mgt := t.mgt } ∧
      t.cfg.sess = .arming ∧ t.cfg.records = s.cfg.records ∧ t.cfg.instant = s.commitTimeNs := by
  have hreach : ∀ u, OnlyRegs s u → keepsBut stageCtrlFields s u → u.timedRefusals = [] := by
    intro u hu hkeep
    refine timedRefusals_of_reach ?_ ?_ ?_ ?_
    · rwa [hkeep _ (by decide)]
    · rwa [commitTimeNs_of_keepsBut hkeep, State.commitLead, hu.cfg, hu.time]
    · rwa [commitTimeNs_of_keepsBut hkeep, hu.time]
    · rwa [timeMode_of_keepsBut hkeep (by decide)]
  obtain ⟨t, ht, honly, hcfg⟩ := stageArm_timed (flags := flags) hq hserv hown hsess hholder hword hreach
  have hmgt : t = { s with regs := t.regs, hot := t.hot, cfg := t.cfg, mgt := t.mgt } := by rw [honly]
  refine ⟨t, ht, hmgt, ?_⟩
  rw [hcfg]
  exact ⟨rfl, rfl, rfl⟩

theorem armDistributed_armed (hup : s.up = true) (hsess : s.cfg.sess = .arming) :
    exec .armDistributed s = .next { s with cfg := { s.cfg with sess := .armed } } :=
  ((whenUp_up hup _).trans (by rw [if_pos hsess])).trans (done_cfg s _)

end

/-- Settles O10: the commands of the owner in their order, the ends of the check and of the distribution. -/
theorem sessionAdvances : Obligations.SessionAdvances := by
  refine ⟨fun s q flags hq hserv hsess => ?opens, fun s q flags hq hserv hown hsess => ?check,
    fun s hup hsess hfits => ?checkDone, fun s q flags hq hserv hown hsess hword hholder => ?arm,
    fun s => armDistributed_armed,
    fun s q flags hq hserv hown hsess hword hholder => ?armTimed,
    fun s hup hsess hover => ?overflow⟩
  case opens =>
    obtain ⟨t, ht, hcfg, hkeep, honly⟩ := stageOpen_taken (flags := flags) hq hserv hsess
    exact ⟨t, ht, by rw [hcfg], by rw [hcfg], by rw [hcfg], hkeep _ (by decide), hkeep, honly⟩
  case check =>
    obtain ⟨t, ht, hcfg, -, honly⟩ := stageCheck_taken (flags := flags) hq hserv hown hsess
    exact ⟨t, ht, hcfg, honly⟩
  case checkDone =>
    obtain ⟨t, ht, hcfg, -, hkeep, honly⟩ := checkDone_shown hup hsess (by rw [hfits, if_neg Bool.false_ne_true])
    exact ⟨t, ht, hcfg, hkeep, honly⟩
  case arm => exact stageArm_nextTick hq hserv hown hsess (by rw [bitOf, hword]; rfl) hholder
  case armTimed => exact stageArm_commitTime hq hserv hown hsess (by rw [bitOf, hword]; rfl) hholder
  case overflow =>
    obtain ⟨hcode, hlt⟩ := checkSet_overflow (s := s) s.cfg.records
    obtain ⟨t, ht, hcfg, hshown, hkeep, honly⟩ := checkDone_shown hup hsess (by rw [hover, if_pos rfl])
    rw [if_neg hcode] at hcfg
    exact ⟨t, ht, hcfg, List.mem_singleton.mpr (hshown hlt), hkeep, honly⟩

end Sys2Proof.Machine

/-! # What a commit leaves unchanged (03 R86, R98, R100)

A commit reaches into nearly every block, and leaves the variant, the waiting commands, the progress of kindling, the
power stage, the VBAT domain, the hearths, the calibration and the firmware banks. -/

namespace Sys2Proof.Machine

/-- The parts of the state that a commit leaves unchanged. -/
def State.beside (s : State) :=
  (s.part, s.pending, s.freeCtr, s.now, s.phase, s.causes, s.resetFresh, s.fromDormant, s.power, s.vbat, s.hrt, s.cal,
    s.upd)

/-- The state has those parts of s₀. -/
def Beside (s₀ s : State) : Prop := s.beside = s₀.beside

namespace Beside

section
variable {s₀ s t : State} {n k i j v atNs bank inPort index len num p point port src st synth verdict w : Nat} {a : Alarm}
  {d : Int} {bs crossed : List Byte} {c : BlotCause} {ct finish good history late nextBad : Bool} {cs : List Copy}
  {e o : List Word} {f : Fld} {h : Hearth} {rs : List StagedRec} {α : Type}

theorem frame {out regs hot life bus cfg links fwd qw buf cnt time trunk syn nib mgt} (hs : Beside s₀ s) :
    Beside s₀ ⟨s.part, s.pending, out, s.freeCtr, s.now, regs, hot, life, s.phase, s.causes, s.resetFresh,
      s.fromDormant, s.power, s.vbat, bus, cfg, links, fwd, qw, buf, cnt, time, trunk, syn, s.hrt, nib, s.cal, s.upd,
      mgt⟩ := hs

theorem refl : Beside s₀ s₀ := rfl

theorem settle (ht : Beside s₀ t) : Beside s₀ (settle s t) := by
  unfold Beside State.beside at *
  simpa using ht

theorem pending (h : Beside s₀ s) : s.pending = s₀.pending := congrArg (fun x => x.2.1) h

/-- In the form in which statements put a frame. -/
theorem only (h : Beside s₀ s) : s = { s₀ with
    out := s.out, regs := s.regs, hot := s.hot, life := s.life, bus := s.bus, cfg := s.cfg, links := s.links,
    fwd := s.fwd, qw := s.qw, buf := s.buf, cnt := s.cnt, time := s.time, trunk := s.trunk, syn := s.syn,
    nib := s.nib, mgt := s.mgt } := by
  simp only [Beside, State.beside, Prod.mk.injEq] at h
  obtain ⟨hpart, hpending, hfree, hnow, hphase, hcauses, hfresh, hdormant, hpower, hvbat, hhrt, hcal, hupd⟩ := h
  exact State.eq_of_fields hpart hpending rfl hfree hnow rfl rfl rfl hphase hcauses hfresh hdormant hpower hvbat
    rfl rfl rfl rfl rfl rfl rfl rfl rfl rfl hhrt rfl hcal hupd rfl

theorem ite {c : Prop} [Decidable c] (hs : Beside s₀ s) (ht : Beside s₀ t) : Beside s₀ (if c then s else t) := by
  split <;> assumption

theorem foldl {f : State → α → State} {l : List α} (hs : Beside s₀ s) (hf : ∀ t a, Beside s₀ t → Beside s₀ (f t a)) :
    Beside s₀ (l.foldl f s) := by
  induction l generalizing s with
  | nil => exact hs
  | cons a l ih => exact ih (hf s a hs)

theorem fst_ite {c : Prop} [Decidable c] {x y : State × α} (hx : Beside s₀ x.1) (hy : Beside s₀ y.1) :
    Beside s₀ (if c then x else y).1 := by
  split <;> assumption

theorem fst_foldl {β : Type} {f : State × β → α → State × β} {l : List α} {x : State × β} (hx : Beside s₀ x.1)
    (hf : ∀ y a, Beside s₀ y.1 → Beside s₀ (f y a).1) : Beside s₀ (l.foldl f x).1 := by
  induction l generalizing x with
  | nil => exact hx
  | cons a l ih => exact ih (hf x a hx)

theorem fst_eq {x : State × α} {a : α} (hx : Beside s₀ x.1) (e : x = (t, a)) : Beside s₀ t := by
  rwa [e] at hx

/-! ## Registers and alarms -/

theorem setReg (hs : Beside s₀ s) : Beside s₀ (s.setReg k v) := hs

theorem fset (hs : Beside s₀ s) : Beside s₀ (s.fset f v) := hs

theorem fput {b : Bool} (hs : Beside s₀ s) : Beside s₀ (s.fput f b) := hs

theorem fon (hs : Beside s₀ s) : Beside s₀ (s.fon f) := hs

theorem foff (hs : Beside s₀ s) : Beside s₀ (s.foff f) := hs

theorem fcount (hs : Beside s₀ s) : Beside s₀ (s.fcount f n) := hs

theorem fwrap (hs : Beside s₀ s) : Beside s₀ (s.fwrap f) := hs

theorem emit {o : Output} (hs : Beside s₀ s) : Beside s₀ (s.emit o) := hs

theorem raise (hs : Beside s₀ s) : Beside s₀ (s.raise a) := hs

theorem seen (hs : Beside s₀ s) : Beside s₀ (s.seen f a) := hs

/-! ## Time -/

theorem setTimeMode {m : TimeMode} (hs : Beside s₀ s) : Beside s₀ (s.setTimeMode m) := by
  refine .ite hs ?_
  extract_lets t _ t2
  have ht : Beside s₀ t := hs.fset.fon
  have ht2 : Beside s₀ t2 := .ite ht.frame ht
  exact .ite ht2.raise ht2

theorem setTsq {es : List TsqEntry} (hs : Beside s₀ s) : Beside s₀ (s.setTsq j es) := hs.frame

theorem assignTsq (hs : Beside s₀ s) : Beside s₀ s.assignTsq := hs.foldl (fun _ _ ht => .ite ht ht.setTsq.fon.fset.fput)

theorem servoStop (hs : Beside s₀ s) : Beside s₀ s.servoStop := hs.frame

/-! ## Links -/

theorem lset (hs : Beside s₀ s) : Beside s₀ (s.lset f v) := hs.frame

theorem ldecl (hs : Beside s₀ s) : Beside s₀ (s.ldecl f v) := hs.lset.fset

theorem linkFalls (hs : Beside s₀ s) : Beside s₀ (s.linkFalls p) := hs.foff.seen.fcount

theorem laneState (hs : Beside s₀ s) : Beside s₀ (s.laneState n st) := .ldecl (.ite hs.ldecl hs)

theorem setTried {r : Nat} (hs : Beside s₀ s) : Beside s₀ (s.setTried n r) := hs.frame

/-! ## Counters -/

theorem cntAdd (hs : Beside s₀ s) : Beside s₀ (s.cntAdd n i k) := .ite hs (.ite hs.frame hs.frame.fon)

theorem setBw {b : BwWin} (hs : Beside s₀ s) : Beside s₀ (s.setBw w b) := hs.frame

theorem bwCount {f : BwFrame} (hs : Beside s₀ s) : Beside s₀ (s.bwCount f) := hs.foldl (fun _ _ ht => .ite ht.setBw ht)

theorem bwDiscard (hs : Beside s₀ s) : Beside s₀ (s.bwDiscard w) := hs.setBw

/-! ## Buffers -/

theorem setPool {v : PoolSt} (hs : Beside s₀ s) : Beside s₀ (s.setPool p v) := hs.frame

theorem setBuf {b : Buf} (hs : Beside s₀ s) : Beside s₀ (s.setBuf k b) := hs.frame

theorem inkUncorr (hs : Beside s₀ s) : Beside s₀ s.inkUncorr := hs.fcount.seen

theorem startRebuild (hs : Beside s₀ s) : Beside s₀ (s.startRebuild p) := hs.inkUncorr.fon.raise

theorem alloc (hs : Beside s₀ s) : Beside s₀ (s.alloc p nextBad).1 :=
  .fst_ite hs.fwrap (by split; exacts [hs.fwrap, .fst_ite hs.startRebuild.fwrap hs.setPool.setBuf])

theorem takeRef (hs : Beside s₀ s) : Beside s₀ (s.takeRef k) := hs.setBuf

theorem dropRef (hs : Beside s₀ s) : Beside s₀ (s.dropRef k) := .ite hs.setBuf.setPool hs.setBuf

theorem setCredit {q : Nat} {v : Int} (hs : Beside s₀ s) : Beside s₀ (s.setCredit n q v) := hs.frame

theorem credit (hs : Beside s₀ s) : Beside s₀ (s.credit n) := .frame (hs.foldl (fun _ _ hu => .ite hu.setCredit hu))

theorem accrue (hs : Beside s₀ s) : Beside s₀ (s.accrue n) := .ite hs.credit hs

theorem setDeficit {q : Nat} (hs : Beside s₀ s) : Beside s₀ (s.setDeficit n q v) := hs.frame

theorem setTx {t : Option TxCopy} (hs : Beside s₀ s) : Beside s₀ (s.setTx n t) := hs.accrue.frame

theorem emptied {q : Nat} (hs : Beside s₀ s) : Beside s₀ (s.emptied n q) := hs.setDeficit.setCredit

theorem setQueue {q : Nat} (hs : Beside s₀ s) : Beside s₀ (s.setQueue n q cs) :=
  .ite hs.accrue.frame.emptied hs.accrue.frame

theorem countDrop {q : Nat} {c : DropCause} (hs : Beside s₀ s) : Beside s₀ (s.countDrop n q c) := hs.fwrap.fset

theorem append {q : Nat} {c : Copy} (hs : Beside s₀ s) : Beside s₀ (s.append n q k c) := hs.setQueue.takeRef

theorem place {q : Nat} {i : FrameInfo} (hs : Beside s₀ s) : Beside s₀ (s.place n q k i ct) :=
  .ite (.ite hs.countDrop (.ite hs.fon.countDrop (.ite hs.fon.countDrop hs.fon.append.frame))) hs.append

theorem endSpilling {q : Nat} (hs : Beside s₀ s) : Beside s₀ (s.endSpilling n q) := .ite hs hs.foff

theorem releaseAll (hs : Beside s₀ s) : Beside s₀ (s.releaseAll cs) :=
  hs.foldl (fun _ _ ht => by split; exacts [ht.dropRef, ht])

theorem removeCopies {q : Nat} {p : Copy → Bool} (hs : Beside s₀ s) : Beside s₀ (s.removeCopies n q p).1 :=
  hs.setQueue.frame.releaseAll.endSpilling

theorem dropCopies {q : Nat} {p : Copy → Bool} {c : DropCause} (hs : Beside s₀ s) : Beside s₀ (s.dropCopies n q p c) :=
  hs.removeCopies.foldl (fun _ _ => .countDrop)

theorem flushQueues (hs : Beside s₀ s) : Beside s₀ (s.flushQueues n) := hs.foldl (fun _ _ => .dropCopies)

theorem flushPort (hs : Beside s₀ s) : Beside s₀ (s.flushPort n) := hs.setTx.flushQueues

theorem linkDown (hs : Beside s₀ s) : Beside s₀ (s.linkDown p finish) :=
  .ite (.ite (.ite hs.linkFalls.flushQueues hs.linkFalls.flushPort) hs.linkFalls) hs

/-! ## Tables -/

theorem setEntry {t : Nat} (hs : Beside s₀ s) : Beside s₀ (s.setEntry t i e) := hs.frame

theorem setStream {v : StreamSt} (hs : Beside s₀ s) : Beside s₀ (s.setStream i v) := hs.frame

theorem setFilter {v : FilterSt} (hs : Beside s₀ s) : Beside s₀ (s.setFilter i v) := hs.frame

/-! ## Capture -/

theorem lostRecord (hs : Beside s₀ s) : Beside s₀ s.lostRecord := hs.fcount.seen

theorem ringState (hs : Beside s₀ s) : Beside s₀ s.ringState := hs.fput

theorem overwriteOldest (hs : Beside s₀ s) : Beside s₀ s.overwriteOldest := by
  unfold State.overwriteOldest
  split; exacts [hs, .frame (.ite hs.fcount.fcount hs.fcount)]

theorem putRecord {r : CapRec} (hs : Beside s₀ s) : Beside s₀ (s.putRecord r) := hs.frame.ringState

theorem writeRecord {make : Nat → List Byte} (hs : Beside s₀ s) : Beside s₀ (s.writeRecord make) :=
  .ite hs.lostRecord (.ite hs.putRecord (.ite hs.overwriteOldest.putRecord hs.lostRecord))

theorem capture {f : CapFrame} (hs : Beside s₀ s) : Beside s₀ (s.capture f) := .ite (.ite hs.writeRecord hs) hs

theorem oversized (hs : Beside s₀ s) : Beside s₀ (s.oversized n e) := hs.setFilter

/-! ## Residue and reception -/

theorem toResidue {i : FrameInfo} (hs : Beside s₀ s) : Beside s₀ (s.toResidue port k i) :=
  .ite hs.fwrap (.ite hs.fwrap.seen hs.takeRef.frame)

theorem dropResidue (hs : Beside s₀ s) : Beside s₀ (s.dropResidue k) := hs.frame.foldl (fun _ _ hu => hu.fwrap.dropRef)

theorem forgetResidue (hs : Beside s₀ s) : Beside s₀ (s.forgetResidue k) := hs.frame.foldl (fun _ _ => .dropRef)

theorem rejudgeCopy {c : ResCopy} (ht : Beside s₀ t) : Beside s₀ (t.rejudgeCopy c) := .ite ht.frame.place.dropRef ht

theorem rejudge (hs : Beside s₀ s) : Beside s₀ s.rejudge := hs.foldl (fun _ _ => .rejudgeCopy)

theorem admitCopy {i : FrameInfo} {multi : Bool} (hs : Beside s₀ s) : Beside s₀ (s.admitCopy k port i multi ct).1 :=
  .fst_ite hs.fwrap (by split; exacts [hs.place, .ite hs.toResidue hs.countDrop])

theorem setRx {f : RxFrame} (hs : Beside s₀ s) : Beside s₀ (s.setRx f) := hs.frame

theorem dropRx (hs : Beside s₀ s) : Beside s₀ (s.dropRx src) := hs.frame

theorem countBlot (hs : Beside s₀ s) : Beside s₀ (s.countBlot src c) := .ite hs.fwrap.fon hs

theorem markBlot (hs : Beside s₀ s) : Beside s₀ (s.markBlot port point) := by
  unfold State.markBlot
  split; exacts [hs, hs.setTx.fwrap]

theorem dropUnsent (hs : Beside s₀ s) : Beside s₀ (s.dropUnsent k) := hs.foldl (fun _ _ => .removeCopies)

theorem turnBad (hs : Beside s₀ s) : Beside s₀ (s.turnBad src k point c).1 := by
  unfold State.turnBad
  extract_lets _ t
  have ht : Beside s₀ t := hs.foldl (fun _ _ => .markBlot)
  exact .dropResidue (.dropUnsent (.ite ht ht.countBlot))

theorem moveBuffer (hs : Beside s₀ s) : Beside s₀ (s.moveBuffer k len nextBad).1 := by
  refine .fst_ite hs ?_
  split
  next _ e =>
    exact .dropRef (.forgetResidue (hs.alloc.fst_eq e))
  next _ _ e2 =>
    exact .foldl (.foldl (.frame (.setBuf (hs.alloc.fst_eq e2))) (fun _ _ => .setQueue)) (fun _ _ => .dropRef)

theorem admitLater {f : RxFrame} (hs : Beside s₀ s) : Beside s₀ (s.admitLater k f).1 :=
  .fst_foldl hs (fun _ _ hr => .fst_ite hr.admitCopy hr.admitCopy)

theorem captureEnd {f : RxFrame} (hs : Beside s₀ s) : Beside s₀ (s.captureEnd f bs) := .ite hs.capture hs

theorem releaseRx {f : RxFrame} (hs : Beside s₀ s) : Beside s₀ (s.releaseRx f) := by
  unfold State.releaseRx
  split; exacts [hs.dropRef, hs]

theorem finishGood {f : RxFrame} (hs : Beside s₀ s) : Beside s₀ (s.finishGood f nextBad) := by
  unfold State.finishGood
  split
  · exact hs.captureEnd
  · extract_lets _
    split
    next _ e =>
      exact .captureEnd (hs.moveBuffer.fst_eq e)
    next _ _ e2 =>
      exact .dropRef (.captureEnd (.admitLater (hs.moveBuffer.fst_eq e2)))

theorem holdsDuplicate (hs : Beside s₀ s) : Beside s₀ (s.holdsDuplicate n num) :=
  hs.setStream.frame.foldl (fun _ _ hu => hu.captureEnd.releaseRx)

theorem holdsRelease (hs : Beside s₀ s) : Beside s₀ (s.holdsRelease n num) := by
  unfold State.holdsRelease
  extract_lets _
  split; exacts [hs.setStream, .ite hs.setStream.frame.finishGood.setStream.holdsDuplicate hs.setStream.setRx]

theorem seqEnd {f : RxFrame} (hs : Beside s₀ s) : Beside s₀ (s.seqEnd f good) := by
  unfold State.seqEnd
  split; exacts [.ite hs.setStream.holdsDuplicate hs.holdsRelease, hs]

theorem markYellow (hs : Beside s₀ s) : Beside s₀ (s.markYellow k) := .frame (hs.foldl (fun _ _ => .setQueue))

theorem filterEnd {f : RxFrame} (hs : Beside s₀ s) : Beside s₀ (s.filterEnd f len).1 := by
  unfold State.filterEnd
  split
  · exact hs
  · extract_lets e r v t u _ w
    refine .fst_ite hs.oversized (.fst_ite ?_ hs.setFilter)
    split
    · exact hs.setFilter
    · exact hs.setFilter
    · refine .fst_ite hs.setFilter ?_
      split; exacts [hs.setFilter.setFilter.markYellow, hs.setFilter.setFilter]

theorem finishBad {f : RxFrame} (hs : Beside s₀ s) : Beside s₀ (s.finishBad f bs verdict point c) := by
  unfold State.finishBad
  split; exacts [hs.captureEnd, .dropRef (.captureEnd (.ite hs.turnBad.cntAdd hs.turnBad))]

theorem deliver {f : RxFrame} (hs : Beside s₀ s) : Beside s₀ (s.deliver f bs) :=
  .ite (.ite hs.frame hs.fcount) (.ite hs.emit hs)

theorem fillBuffer {f : RxFrame} (hs : Beside s₀ s) : Beside s₀ (s.fillBuffer f bs good) := by
  unfold State.fillBuffer
  split; exacts [hs, hs.setBuf]

theorem endFrame {f : RxFrame} {rest : List Byte} {e : FrameEnd} (hs : Beside s₀ s) :
    Beside s₀ (s.endFrame f rest e nextBad) := by
  unfold State.endFrame
  extract_lets bs src t _ u w x
  have ht : Beside s₀ t := hs.dropRx
  have hu : Beside s₀ u := .ite ht.cntAdd.cntAdd ht
  have hx : Beside s₀ x := .fillBuffer (.ite hu.bwCount hu)
  split
  · extract_lets y z
    have hz : Beside s₀ z := .fillBuffer (.ite ht.cntAdd ht)
    split; exacts [hz.oversized.finishBad.seqEnd, hz.finishBad.seqEnd]
  · refine .ite hx.deliver.captureEnd.releaseRx.seqEnd ?_
    split
    next e => exact (hx.filterEnd.fst_eq e).finishBad.seqEnd
    next e =>
      have hy := hx.filterEnd.fst_eq e
      exact .ite hy.frame hy.finishGood.seqEnd

theorem truncateFrame (hs : Beside s₀ s) : Beside s₀ (s.truncateFrame src crossed) := by
  unfold State.truncateFrame
  split; exacts [hs.endFrame, .ite hs (.ite hs.cntAdd (.ite hs.cntAdd hs.cntAdd))]

/-! ## Egress -/

theorem gateNow (hs : Beside s₀ s) : Beside s₀ (s.gateNow n) := .ite hs.accrue.fset.fset hs.accrue.fset.fset

theorem setOpen {w : Option OpenWin} (hs : Beside s₀ s) : Beside s₀ (s.setOpen port w) := hs.frame.fput

theorem noteShut {cycle : Nat} (hs : Beside s₀ s) : Beside s₀ (s.noteShut port bank index cycle) := .ite hs.frame hs

theorem shutWin {w : OpenWin} (hs : Beside s₀ s) : Beside s₀ (s.shutWin port w) := hs.noteShut.setOpen

theorem closeBoundary (hs : Beside s₀ s) : Beside s₀ (s.closeBoundary port) := by
  unfold State.closeBoundary
  split; exacts [hs, .ite hs.setOpen hs.shutWin]

theorem captureQuill {f : QFrame} (hs : Beside s₀ s) : Beside s₀ (s.captureQuill port inPort verdict f) := hs.capture

theorem frameLeft {w : OpenWin} {f : QFrame} {shut : Bool} (hs : Beside s₀ s) : Beside s₀ (s.frameLeft port w f shut) :=
  .ite hs.shutWin hs.setOpen

theorem quillBlot {w : OpenWin} {f : QFrame} (hs : Beside s₀ s) : Beside s₀ (s.quillBlot port w f point c) :=
  hs.fon.countBlot.fwrap.emit.cntAdd.cntAdd.captureQuill.frameLeft

theorem quillEgressDown (hs : Beside s₀ s) : Beside s₀ (s.quillEgressDown port) := by
  unfold State.quillEgressDown
  split; exacts [hs.shutWin, hs]

theorem quillIngressLost {passed : List Byte} (hs : Beside s₀ s) : Beside s₀ (s.quillIngressLost inPort passed) := by
  refine hs.foldl fun t _ ht => ?_
  split
  · exact ht
  · extract_lets u
    have hu : Beside s₀ u := by unfold u; split; exacts [.ite ht.quillBlot ht, ht]
    split; exacts [.ite hu.shutWin hu, hu]

/-! ## Steering -/

theorem steerLock {err : Nat} (hs : Beside s₀ s) : Beside s₀ (s.steerLock port err) := .ite hs.fon (.ite hs.foff hs)

theorem relock (hs : Beside s₀ s) : Beside s₀ (s.relock port) := by
  unfold State.relock
  split; exacts [.ite hs.steerLock hs, hs]

theorem steerStops (hs : Beside s₀ s) : Beside s₀ (s.steerStops port) := hs.foff.foff

theorem sourceGone {lane : Nat} (hs : Beside s₀ s) : Beside s₀ (s.sourceGone lane) :=
  hs.frame.foldl (fun _ _ hu => .ite hu.steerStops hu)

/-! ## References and the spine -/

theorem setBand {e : Nat × Nat} (hs : Beside s₀ s) : Beside s₀ (s.setBand synth i e) := hs.frame

theorem setSynth {v : Synth} (hs : Beside s₀ s) : Beside s₀ (s.setSynth h v) := by
  unfold State.setSynth
  split <;> exact hs.frame

theorem setSpineMode {m : Nat} (hs : Beside s₀ s) : Beside s₀ (s.setSpineMode m) :=
  .frame (.foff (.ite hs.frame hs.fset))

theorem setMon {m : RefMon} (hs : Beside s₀ s) : Beside s₀ (s.setMon src m) := hs.frame

theorem loadLoop (hs : Beside s₀ s) : Beside s₀ s.loadLoop := by
  unfold State.loadLoop
  split; exacts [hs.setSynth, hs]

theorem followRef (hs : Beside s₀ s) : Beside s₀ (s.followRef i) := hs.loadLoop.frame.setSpineMode.fset

theorem selectRef (hs : Beside s₀ s) : Beside s₀ (s.selectRef i) := .ite hs hs.fcount.fon.fset.fon.followRef

theorem deselect (hs : Beside s₀ s) : Beside s₀ s.deselect := hs.foff.frame

theorem setHolderWord (hs : Beside s₀ s) : Beside s₀ (s.setHolderWord w) := by
  unfold State.setHolderWord
  split; exacts [hs.setSynth, hs]

theorem enterHold (hs : Beside s₀ s) : Beside s₀ s.enterHold :=
  .ite hs.deselect hs.deselect.setHolderWord.setSpineMode.seen.frame

theorem noReference (hs : Beside s₀ s) : Beside s₀ s.noReference :=
  .ite hs.enterHold (.ite hs.deselect hs.deselect.setSpineMode)

theorem selectBest (hs : Beside s₀ s) : Beside s₀ s.selectBest := by
  unfold State.selectBest
  split; exacts [hs.selectRef, hs.enterHold]

theorem runSelection (hs : Beside s₀ s) : Beside s₀ s.runSelection := by
  refine .ite hs.enterHold (.ite hs.noReference ?_)
  split
  · split; exacts [hs.selectRef, hs]
  · refine .ite hs.selectBest ?_
    split
    · exact hs.selectBest
    · exact hs.selectBest
    · exact .ite (.ite hs hs.selectBest) hs
    · split; exacts [.ite hs.selectRef hs, hs]

theorem reselect (hs : Beside s₀ s) : Beside s₀ s.reselect := .ite hs.frame hs.runSelection

theorem moveFlags {o n : RefState} (hs : Beside s₀ s) : Beside s₀ (s.moveFlags o n) := by
  unfold State.moveFlags
  extract_lets t
  have ht : Beside s₀ t := .ite hs.seen hs
  exact .ite ht.seen ht

theorem noteUp (hs : Beside s₀ s) : Beside s₀ s.noteUp := hs.frame

theorem putRefState {n : RefState} (hs : Beside s₀ s) : Beside s₀ (s.putRefState src n) :=
  .noteUp (.ite hs.setMon.moveFlags hs.setMon)

theorem undefer (hs : Beside s₀ s) : Beside s₀ (s.undefer src) := hs.frame

theorem setRefState {n : RefState} (hs : Beside s₀ s) : Beside s₀ (s.setRefState src n) :=
  .ite hs (.ite hs.undefer.frame hs.undefer.putRefState.reselect)

theorem followChanged (hs : Beside s₀ s) : Beside s₀ s.followChanged := by
  unfold State.followChanged
  split; exacts [.ite hs.followRef hs, hs]

theorem sourceDown (hs : Beside s₀ s) : Beside s₀ (s.sourceDown src) := hs.setRefState

theorem sourceUp (hs : Beside s₀ s) : Beside s₀ (s.sourceUp src) := .ite hs.setRefState hs

theorem upstreamMoved (hs : Beside s₀ s) : Beside s₀ s.upstreamMoved := by
  unfold State.upstreamMoved
  split
  · exact hs
  · extract_lets t
    have ht : Beside s₀ t := hs.moveFlags.noteUp
    exact .ite ht.reselect.frame ht.reselect.followChanged

/-! ## Outputs -/

theorem startGrowth (hs : Beside s₀ s) : Beside s₀ s.startGrowth := hs.frame

theorem setBase (hs : Beside s₀ s) : Beside s₀ (s.setBase j d) := hs.frame

theorem setPoStart {t : Int} (hs : Beside s₀ s) : Beside s₀ (s.setPoStart n t) := hs.frame

theorem refreshPo (hs : Beside s₀ s) : Beside s₀ (s.refreshPo n) := by
  refine .ite ?_ hs.foff.foff.foff.frame
  extract_lets _ t
  have ht : Beside s₀ t := .ite hs.fon hs
  exact .fput (.fput (.ite ht.setPoStart ht))

theorem refreshPos (hs : Beside s₀ s) : Beside s₀ s.refreshPos := hs.foldl (fun _ _ => .refreshPo)

theorem refreshAlign (hs : Beside s₀ s) : Beside s₀ (s.refreshAlign n) := .fput (.ite hs.fon hs)

theorem refreshAligns (hs : Beside s₀ s) : Beside s₀ s.refreshAligns := hs.foldl (fun _ _ => .refreshAlign)

theorem startOsyn (hs : Beside s₀ s) : Beside s₀ (s.startOsyn j) := by
  unfold State.startOsyn
  extract_lets _ _ t u
  have ht : Beside s₀ t := hs.foff.frame
  have hu : Beside s₀ u := by
    unfold u
    split
    · exact ht
    · exact .ite ht.fset.fset.fput.fon ht.fset.fset.fput
  exact hu.refreshPos

theorem stopOsyn (hs : Beside s₀ s) : Beside s₀ (s.stopOsyn j) := hs.frame.foff.fset.fset.foff.refreshPos

theorem realignPo (hs : Beside s₀ s) : Beside s₀ (s.realignPo n) := hs.frame.fon.refreshPo

theorem setLydLink {l : LydLink} (hs : Beside s₀ s) : Beside s₀ (s.setLydLink k l) := hs.frame

theorem refreshSource (hs : Beside s₀ s) : Beside s₀ s.refreshSource := .fset (.fset (hs.foldl (fun _ _ => .fput)))

theorem refreshLyd (hs : Beside s₀ s) : Beside s₀ s.refreshLyd := by
  unfold State.refreshLyd
  extract_lets g hop t _ u f w
  have hu : Beside s₀ u := hs.fset.fput.frame
  have hw : Beside s₀ w := by unfold w; clear_value f; split; exacts [hu.fset.fset.fset, hu]
  exact hw.refreshSource.refreshPos

/-! ## The source of the time -/

theorem startAcquire (hs : Beside s₀ s) : Beside s₀ (s.startAcquire history) := hs.fset.fput.frame

theorem acquireEnds (hs : Beside s₀ s) : Beside s₀ s.acquireEnds := hs.fset.foff.frame

theorem sourceDelivers (hs : Beside s₀ s) : Beside s₀ (s.sourceDelivers history) := by
  unfold State.sourceDelivers
  split; exacts [hs.setTimeMode.startAcquire.refreshPos, hs.setTimeMode.startAcquire.refreshPos, hs]

theorem toHoldover (hs : Beside s₀ s) : Beside s₀ s.toHoldover := hs.setTimeMode.startGrowth.acquireEnds.frame

theorem sourceLost {masterChange : Bool} (hs : Beside s₀ s) : Beside s₀ (s.sourceLost masterChange) := by
  unfold State.sourceLost
  split
  · exact hs
  · exact .ite hs.toHoldover.refreshPos hs.setTimeMode.acquireEnds.frame
  · exact hs.toHoldover.refreshPos
  · exact hs

theorem trunkLost (hs : Beside s₀ s) : Beside s₀ s.trunkLost := .ite hs.fon.fcount.sourceLost hs

theorem judgeLink (hs : Beside s₀ s) : Beside s₀ (s.judgeLink k) := by
  unfold State.judgeLink
  extract_lets l r fails t u w x
  have hu : Beside s₀ u := hs.fset.fput.fput.fput
  have hw : Beside s₀ w := .ite hu.fon hu
  have hx : Beside s₀ x := .ite hw.fon hw
  exact .ite hx.fon hx

theorem sourceChanges {r : Nat × Nat} (hs : Beside s₀ s) : Beside s₀ (s.sourceChanges r) :=
  .ite hs (by split; exacts [.ite hs.servoStop.sourceLost (.ite hs.sourceLost hs), .ite hs.servoStop.sourceLost hs])

theorem follow {r : Nat × Nat} (hs : Beside s₀ s) : Beside s₀ (s.follow r) := .frame (.ite hs.fon.foff hs.foff.fon.fset)

theorem clearOffset (hs : Beside s₀ s) : Beside s₀ s.clearOffset := hs.setReg.setReg

theorem upstreamShown (hs : Beside s₀ s) : Beside s₀ s.upstreamShown :=
  .refreshLyd (.upstreamMoved (hs.foldl (fun _ _ => .judgeLink)))

theorem applyBmca {r : Nat × Nat} (hs : Beside s₀ s) : Beside s₀ (s.applyBmca r) := by
  unfold State.applyBmca
  extract_lets _ _ t _ t3 t4
  have ht : Beside s₀ t := .ite hs.fon hs
  have ht3 : Beside s₀ t3 := .follow (.sourceChanges (.ite ht ht.fon))
  have ht4 : Beside s₀ t4 := .ite ht3.sourceDelivers ht3
  exact .upstreamShown (.ite ht4.clearOffset ht4)

theorem noUpstream (hs : Beside s₀ s) : Beside s₀ s.noUpstream := hs.foff.clearOffset.upstreamShown

theorem dropUpstream (hs : Beside s₀ s) : Beside s₀ s.dropUpstream := hs.trunkLost.noUpstream

theorem replaceUpstream (hs : Beside s₀ s) : Beside s₀ s.replaceUpstream := by
  unfold State.replaceUpstream
  extract_lets t
  have ht : Beside s₀ t := .ite hs hs.trunkLost
  split; exacts [ht.applyBmca, ht.noUpstream]

theorem lydStop (hs : Beside s₀ s) : Beside s₀ (s.lydStop k) := by
  unfold State.lydStop
  extract_lets _ _ t2
  have ht2 : Beside s₀ t2 := hs.setLydLink.foff.judgeLink
  exact .ite ht2.replaceUpstream ht2

/-! ## Ports and lanes that fall -/

theorem portStops (hs : Beside s₀ s) : Beside s₀ (s.portStops p finish) :=
  hs.linkDown.quillEgressDown.foldl (fun _ _ hu => .ite hu.laneState hu)

theorem portFalls (hs : Beside s₀ s) : Beside s₀ (s.portFalls p) := hs.portStops

theorem portUnlocked (hs : Beside s₀ s) : Beside s₀ (s.portUnlocked p) := hs.foff.foff.foff

theorem laneFalls (hs : Beside s₀ s) : Beside s₀ (s.laneFalls n) := by
  unfold State.laneFalls
  extract_lets _ t
  have ht : Beside s₀ t := hs.laneState.portFalls.portUnlocked
  exact .ite ht.fon ht

theorem laneRef (hs : Beside s₀ s) : Beside s₀ (s.laneRef n) := .ite hs.sourceUp hs.sourceDown

theorem signalGone (hs : Beside s₀ s) : Beside s₀ (s.signalGone n) := .ite hs.ldecl.ldecl hs

theorem laneStarts (hs : Beside s₀ s) : Beside s₀ (s.laneStarts n) :=
  .laneRef (.laneState (.setTried (.ldecl (.ite hs hs.signalGone))))

theorem dropSearch (hs : Beside s₀ s) : Beside s₀ (s.dropSearch k) := hs.frame

theorem trunkFalls (hs : Beside s₀ s) : Beside s₀ (s.trunkFalls k) :=
  .ite hs.foff.fon.sourceDown.lydStop.upstreamMoved.refreshLyd hs

theorem unalign {seen : Bool} (hs : Beside s₀ s) : Beside s₀ (s.unalign k seen) :=
  .ite (.trunkFalls (.ite hs.foff.fon hs.foff)) hs

theorem checkerLoses (hs : Beside s₀ s) : Beside s₀ (s.checkerLoses n) := .ite hs.foff.fon hs

theorem clockGone (hs : Beside s₀ s) : Beside s₀ (s.clockGone n) := by
  unfold State.clockGone
  exact .sourceGone (.checkerLoses (.ldecl (.ldecl (.ldecl hs))))

theorem beginRestart (hs : Beside s₀ s) : Beside s₀ (s.beginRestart n crossed) :=
  hs.truncateFrame.quillIngressLost.clockGone.laneFalls.fset.fon.frame

theorem setNibIn {v : NibInput} (hs : Beside s₀ s) : Beside s₀ (s.setNibIn n v) := hs.frame

theorem endMeasure (hs : Beside s₀ s) : Beside s₀ (s.endMeasure n) := hs.setNibIn.fset

theorem nibCommit {old : State} (hs : Beside s₀ s) : Beside s₀ (old.nibCommit s n) := by
  unfold State.nibCommit
  extract_lets changed shape off t w x drop
  have ht : Beside s₀ t := .ite hs.endMeasure hs
  have hx : Beside s₀ x := .ite ht.setNibIn ht
  exact .ite hx.setNibIn hx

/-! ## The parts of a commit -/

theorem endSession (hs : Beside s₀ s) : Beside s₀ s.endSession := hs.foff.frame

theorem commitRegs {n : State} (hs : Beside s₀ s) : Beside s₀ (s.commitRegs n rs) := hs.foldl (fun _ _ => .setReg)

theorem dropDynamic (hs : Beside s₀ s) : Beside s₀ (s.dropDynamic i) :=
  .ite (hs.foldl (fun _ _ ht => .ite ht.setEntry ht)) hs

theorem commitStream (hs : Beside s₀ s) : Beside s₀ (s.commitStream i o) := .ite hs.setStream hs

theorem commitFilter (hs : Beside s₀ s) : Beside s₀ (s.commitFilter i o) := .ite hs.setFilter hs.setFilter

theorem commitTables {n : State} (hs : Beside s₀ s) : Beside s₀ (s.commitTables n rs) := by
  refine .foldl (hs.foldl (fun _ _ => .setEntry)) (fun _ _ hu => ?_)
  split; exacts [hu.dropDynamic, hu.commitStream, hu.commitFilter, hu]

theorem commitRest {n : State} (hs : Beside s₀ s) : Beside s₀ (s.commitRest n rs) :=
  .frame (hs.foldl (fun _ _ => .setBand))

theorem fillBank {es : List (Nat × List Word)} (hs : Beside s₀ s) : Beside s₀ (s.fillBank bank port es) := hs.frame

theorem commitWindows {n : State} (hs : Beside s₀ s) : Beside s₀ (s.commitWindows n atNs port) :=
  .ite hs hs.fillBank.fon.frame

theorem commitGates {n : State} (hs : Beside s₀ s) : Beside s₀ (s.commitGates n rs atNs port) := .ite hs hs.fon.frame

theorem stopLanes {ns : List Nat} {crossed : List (Nat × List Byte)} (hs : Beside s₀ s) :
    Beside s₀ (s.stopLanes ns crossed) := hs.foldl (fun _ _ ht => ht.beginRestart.flushPort)

theorem clklOff (hs : Beside s₀ s) : Beside s₀ (s.clklOff k) := hs.foff.foff.unalign.dropSearch

theorem commitClkl (ht : Beside s₀ t) : Beside s₀ (t.commitClkl s k) := by
  unfold State.commitClkl
  extract_lets u u2
  have hu : Beside s₀ u := .ite ht.clklOff ht
  have hu2 : Beside s₀ u2 := .ite hu.dropSearch hu
  exact .ite hu2 hu2.frame

theorem refreshCages (hs : Beside s₀ s) : Beside s₀ s.refreshCages := hs.frame

theorem commitPort (ht : Beside s₀ t) : Beside s₀ (t.commitPort s p) := by
  unfold State.commitPort
  extract_lets t u steer w
  have ht : Beside s₀ t := ht.foldl fun _ _ hu => .ite hu.setDeficit hu
  have hu : Beside s₀ u := .ite ht ht.gateNow
  have hw : Beside s₀ w := .ite hu hu.steerStops.relock
  exact .ite hw hw.closeBoundary

theorem commitTime (ht : Beside s₀ t) : Beside s₀ (t.commitTime s) := by
  unfold State.commitTime
  extract_lets stop t u w x
  have ht : Beside s₀ t := ht.assignTsq
  have hu : Beside s₀ u := .ite (.ite ht ht.setTimeMode.acquireEnds.servoStop) (.ite ht.servoStop.sourceLost ht)
  have hw : Beside s₀ w := hu.foldl fun _ _ hu => hu.judgeLink
  have hx : Beside s₀ x := .ite hw.dropUpstream hw
  exact hx.refreshLyd

theorem commitMonitors (ht : Beside s₀ t) : Beside s₀ (t.commitMonitors s) := ht.frame

theorem commitRefin {x : Nat} (ht : Beside s₀ t) : Beside s₀ (t.commitRefin s x) := .ite ht ht.undefer.setMon

theorem commitEntry (ht : Beside s₀ t) : Beside s₀ (t.commitEntry s i) := .ite ht.moveFlags ht

theorem commitOsyn (ht : Beside s₀ t) : Beside s₀ (t.commitOsyn s j) :=
  .ite (.ite ht.startOsyn ht) (.ite ht.stopOsyn ht)

theorem commitPo (ht : Beside s₀ t) : Beside s₀ (t.commitPo s n) := .ite (.realignPo (.ite ht ht.setBase)) ht

theorem commitSyn (ht : Beside s₀ t) : Beside s₀ (t.commitSyn s) := by
  unfold State.commitSyn
  extract_lets _ _ t4
  have ht4 : Beside s₀ t4 :=
    .noteUp (.foldl (ht.commitMonitors.foldl (fun _ _ => .commitRefin)) (fun _ _ => .commitEntry))
  exact .refreshAligns (.refreshPos (.foldl (.foldl (.ite (.ite ht4.reselect ht4.reselect.followChanged) ht4) (fun _ _ =>
    .commitOsyn)) (fun _ _ => .commitPo)))

theorem commitMeasure (ht : Beside s₀ t) : Beside s₀ (t.commitMeasure s) :=
  .foldl (.ringState (ht.foldl (fun _ _ => .nibCommit))) (fun _ _ hu => .ite hu.bwDiscard hu)

theorem commitEffects (ht : Beside s₀ t) : Beside s₀ (t.commitEffects s) :=
  .rejudge (.commitMeasure (.commitSyn (.commitTime (.foldl (.refreshCages (ht.foldl (fun _ _ => .commitClkl))) (fun _ _ =>
    .commitPort)))))

theorem applyCommit {crossed : List (Nat × List Byte)} (hs : Beside s₀ s) : Beside s₀ (s.applyCommit rs atNs crossed) :=
  .fon (.fwrap (.commitEffects (.foldl (.foldl (.foldl (.commitRest (.commitTables (.commitRegs (.frame (.stopLanes
    (hs.foldl (fun _ _ => .credit))))))) (fun _ _ => .commitWindows)) (fun _ _ => .commitGates)) (fun _ _ =>
    .laneStarts))))

/-! ## The marks of a commit -/

theorem setCommitTime {t : Nat} (hs : Beside s₀ s) : Beside s₀ (s.setCommitTime t) := hs.fset.setReg.fset

theorem commitMarks (hs : Beside s₀ s) : Beside s₀ (s.commitMarks late) := by
  unfold State.commitMarks
  extract_lets t u w _ _ x y
  have ht : Beside s₀ t := .ite hs hs.setCommitTime
  have hw : Beside s₀ w := .fon (.fon (.fwrap (.ite ht.seen ht)))
  have hx : Beside s₀ x := by unfold x; split; exacts [hw.fon.frame, hw]
  have hy : Beside s₀ y := .ite hx.frame hx
  exact hy.endSession

end

end Beside

end Sys2Proof.Machine

/-! # The ends of a session (03 R93, R94, R98 to R100) -/

namespace Sys2Proof.Machine

/-! ## What a commit shows and leaves of its session (03 R86, R100) -/

/-- The fields that a commit writes for itself. -/
def commitMarkFields : List Fld :=
  [CFG_COMMIT_TIME_SEC_HI_SEC_HI, ⟨CFG_COMMIT_TIME_SEC_LO, 0, 32⟩, CFG_COMMIT_TIME_NS_NS, CFG_COMMIT_STATUS_LATE,
    CFG_COMMIT_STATUS_COMMIT_CNT, CFG_COMMIT_STATUS_APPLIED, CFG_BANK_STATUS_DIRTY, CFG_PERSIST_SNAPSHOT_STALE,
    CFG_STAGE_CTRL_READ_SHADOW]

section
variable {s t : State} {n : Nat} {late : Bool} {fs : List Fld}

theorem setCommitTime_keeps (h : keepsBut commitMarkFields s t) : keepsBut commitMarkFields s (t.setCommitTime n) := by
  rw [State.setCommitTime, setReg_eq_fset]
  exact keepsBut_fset _ _ (by decide) rfl (keepsBut_fset _ _ (by decide) rfl (keepsBut_fset _ _ (by decide) rfl h))

theorem keepsBut_ite {c : Prop} [Decidable c] {u : State} (ht : keepsBut fs s t) (hu : keepsBut fs s u) :
    keepsBut fs s (if c then t else u) := by
  split <;> assumption

theorem endSession_keeps (hm : CFG_STAGE_CTRL_READ_SHADOW ∈ fs) (h : keepsBut fs s t) : keepsBut fs s t.endSession :=
  keepsBut_of_regs (t := t.foff CFG_STAGE_CTRL_READ_SHADOW) rfl rfl (keepsBut_foff _ hm rfl h)

/-- The registers in which a commit shows itself, before it looks at a running persist and ends its session. -/
def State.commitShown (s : State) (late : Bool) : State :=
  let t := if s.fbit CFG_STAGE_CTRL_TIMED then s else s.setCommitTime s.cfg.instant
  let t := if late then t.seen CFG_COMMIT_STATUS_LATE .config else t
  ((t.fwrap CFG_COMMIT_STATUS_COMMIT_CNT).fon CFG_COMMIT_STATUS_APPLIED).fon CFG_BANK_STATUS_DIRTY

/-- A commit marks a snapshot that is being written as stale (03 R88). -/
def State.markStale (s : State) : State :=
  match s.cfg.persist with
  | some p => { s.fon CFG_PERSIST_SNAPSHOT_STALE with cfg := { s.cfg with persist := some { p with stale := true } } }
  | none => s

/-- A commit ends DEFAULTED (03 R85). -/
def State.endDefaulted (s : State) : State := if s.life = .defaulted then { s with life := .running } else s

theorem commitMarks_eq : s.commitMarks late = (s.commitShown late).markStale.endDefaulted.endSession := rfl

theorem commitShown_keeps : keepsBut commitMarkFields s (s.commitShown late) := by
  unfold State.commitShown
  extract_lets t u
  have ht : keepsBut commitMarkFields s t := keepsBut_ite (keepsBut_refl _ _) (setCommitTime_keeps (keepsBut_refl _ _))
  have hu : keepsBut commitMarkFields s u := keepsBut_ite (keepsBut_seen _ _ (by decide) rfl ht) ht
  exact keepsBut_fon _ (by decide) rfl (keepsBut_fon _ (by decide) rfl (keepsBut_fwrap _ (by decide) rfl hu))

theorem fget_applied_commitShown : (s.commitShown late).fget CFG_COMMIT_STATUS_APPLIED = 1 :=
  (fget_fon_apart _ _ _ rfl (by decide)).trans (fget_fon_same _ _ rfl (by decide))

theorem fget_dirty_commitShown : (s.commitShown late).fget CFG_BANK_STATUS_DIRTY = 1 := fget_fon_same _ _ rfl (by decide)

theorem markStale_keeps : keepsBut [CFG_PERSIST_SNAPSHOT_STALE] s s.markStale := by
  unfold State.markStale
  split
  · exact keepsBut_of_regs (t := s.fon CFG_PERSIST_SNAPSHOT_STALE) rfl rfl
      (keepsBut_fon _ (by decide) rfl (keepsBut_refl _ _))
  · exact keepsBut_refl _ _

theorem endDefaulted_keeps (h : keepsBut fs s t) : keepsBut fs s t.endDefaulted :=
  keepsBut_ite (keepsBut_of_regs (t := t) rfl rfl h) h

theorem endDefaulted_life : s.endDefaulted.life ≠ .defaulted := by
  unfold State.endDefaulted
  split
  next => simp
  next h => exact h

/-- What follows the showing of a commit leaves APPLIED and DIRTY as shown. -/
theorem commitMarks_keeps_shown :
    keepsBut [CFG_PERSIST_SNAPSHOT_STALE, CFG_STAGE_CTRL_READ_SHADOW] (s.commitShown late) (s.commitMarks late) := by
  rw [commitMarks_eq]
  exact endSession_keeps (by decide) (endDefaulted_keeps (keepsBut_mono (by decide) markStale_keeps))

theorem commitMarks_keeps : keepsBut commitMarkFields s (s.commitMarks late) :=
  keepsBut_trans commitShown_keeps (keepsBut_mono (by decide) commitMarks_keeps_shown)

theorem fget_applied_commitMarks : (s.commitMarks late).fget CFG_COMMIT_STATUS_APPLIED = 1 :=
  (commitMarks_keeps_shown _ (by decide)).trans fget_applied_commitShown

theorem fget_dirty_commitMarks : (s.commitMarks late).fget CFG_BANK_STATUS_DIRTY = 1 :=
  (commitMarks_keeps_shown _ (by decide)).trans fget_dirty_commitShown

/-- The session of a commit is over. -/
theorem commitMarks_ends : (s.commitMarks late).cfg.sess = .idle ∧ (s.commitMarks late).cfg.owner = none ∧
    (s.commitMarks late).cfg.records = [] := ⟨rfl, rfl, rfl⟩

theorem commitMarks_life : (s.commitMarks late).life ≠ .defaulted := endDefaulted_life

/-- The tables keep their old version until their frames have finished (05 R153). -/
theorem fget_draining_applyCommit {rs : List StagedRec} {crossed : List (Nat × List Byte)} :
    (s.applyCommit rs n crossed).fget FWD_EPOCH_DRAINING = 1 := fget_fon_same _ _ rfl (by decide)

theorem beside_commitNow {crossed : List (Nat × List Byte)} : Beside s (s.commitNow late crossed) :=
  Beside.refl.applyCommit.commitMarks

end

/-! ## The commit at its instant (03 R100, R101) -/

section
variable {s : State} {crossed : List (Nat × List Byte)}

/-- Before its instant an armed commit does nothing. -/
theorem commitApply_early (h : s.time.clock < s.cfg.instant * unitsPerNs) :
    exec (.commitApply crossed) s = .next s := by
  have hearly : ¬(s.cfg.sess = .armed ∧ s.instantCome = true) := by
    rintro ⟨-, hcome⟩
    exact absurd (of_decide_eq_true hcome) (by omega)
  show whenUp s (if s.cfg.sess = .armed ∧ s.instantCome = true then _ else s) = .next s
  rw [if_neg hearly, whenUp_self]

theorem exec_commitApply (hup : s.up = true) (hsess : s.cfg.sess = .armed)
    (h : s.cfg.instant * unitsPerNs ≤ s.time.clock) :
    exec (.commitApply crossed) s = .next (settle s (s.commitNow false crossed)) := by
  have hcome : s.cfg.sess = .armed ∧ s.instantCome = true := ⟨hsess, decide_eq_true h⟩
  have hdone : exec (.commitApply crossed) s = done s (s.commitNow false crossed) :=
    (whenUp_up hup _).trans (by rw [if_pos hcome])
  rw [hdone, done_queue beside_commitNow.pending]

end

/-! ## ABORT, the timeout and the refusals (03 R93, R94, R99) -/

section
variable {s : State} {q : Requester} {flags : Word}

theorem takesAbort_of_mem (h : s.cfg.sess ∈ [SessState.opened, .checked, .failed, .arming, .armed]) :
    s.takesAbort = true := by
  unfold State.takesAbort
  generalize s.cfg.sess = x at h
  revert x
  decide

/-- The owner, and the firmware of the holder, may abort a session that is not too near its instant. -/
theorem abortRefusals_of_may (hmay : s.cfg.owner = some q ∨ s.isHolder q = true)
    (hsess : s.cfg.sess ∈ [SessState.opened, .checked, .failed] ∨
      (s.cfg.sess ∈ [SessState.arming, .armed] ∧
        s.time.clock + 10000 * unitsPerNs ≤ s.cfg.instant * unitsPerNs)) : s.abortRefusals q = [] := by
  have habort : s.takesAbort = true := by
    refine takesAbort_of_mem ?_
    rcases hsess with h | ⟨h, -⟩ <;> simp at h ⊢ <;> tauto
  have hnear : ¬((s.cfg.sess = .arming ∨ s.cfg.sess = .armed) ∧
      s.cfg.instant * unitsPerNs < s.time.clock + 10000 * unitsPerNs) := by
    rintro ⟨harmed, hlt⟩
    rcases hsess with h | ⟨-, hle⟩
    · rcases harmed with ha | ha <;> rw [ha] at h <;> simp at h
    · omega
  have howner : (if s.isHolder q && s.takesAbort then [] else s.notOwner q) = [] := by
    rcases hmay with h | h
    · rw [notOwner_of_owner h, ite_self]
    · rw [h, habort, Bool.and_self, if_pos rfl]
  rw [State.abortRefusals, howner, if_pos habort, if_neg hnear]
  rfl

theorem OnlyRegs.isHolder {t : State} (h : OnlyRegs s t) : t.isHolder q = s.isHolder q := by
  rw [State.isHolder, State.isHolder, h.hrt]

theorem stageAbort_taken (hq : s.takes q = true) (hserv : s.inService = true)
    (hmay : s.cfg.owner = some q ∨ s.isHolder q = true)
    (hsess : s.cfg.sess ∈ [SessState.opened, .checked, .failed] ∨
      (s.cfg.sess ∈ [SessState.arming, .armed] ∧
        s.time.clock + 10000 * unitsPerNs ≤ s.cfg.instant * unitsPerNs)) :
    ∃ t, exec (.stageAbort q flags) s = .next t ∧
      t.cfg = { s.cfg with sess := .idle, owner := none, records := [], overflow := false } ∧
      keepsBut stageCtrlFields s t ∧ t = { s with regs := t.regs, hot := t.hot, cfg := t.cfg } := by
  have hflags : OnlyRegs s (s.stageFlags (stageWord 3 flags)) := stageFlags_onlyRegs
  rw [← hflags.cfg]
  refine stageCtrl_taken hq hserv ?_ stageTake_abort OnlyRegs.refl.foff
    (keepsBut_foff _ (by decide) rfl (keepsBut_refl _ _))
  rw [refusals_abort]
  refine abortRefusals_of_may ?_ ?_
  · rwa [hflags.cfg, hflags.isHolder]
  · rwa [hflags.cfg, hflags.time]

theorem settle_loseSession_only : settle s s.loseSession = { s with
    regs := s.loseSession.regs, hot := s.loseSession.hot, cfg := s.loseSession.cfg, mgt := (settle s s.loseSession).mgt } := by
  apply State.eq_of_fields <;> simp [State.loseSession, State.endSession]

theorem loseSession_pending : s.loseSession.pending = s.pending := by simp [State.loseSession, State.endSession]

/-- A session that has seen no write for 10 s is lost. -/
theorem sessionTimeout_lost (hup : s.up = true) (hsess : s.cfg.sess ∈ [SessState.opened, .checked, .failed]) :
    ∃ t, exec .sessionTimeout s = .next t ∧ t = { s with regs := t.regs, hot := t.hot, cfg := t.cfg, mgt := t.mgt } ∧
      t.cfg = { s.cfg with sess := .idle, owner := none, records := [], overflow := false } ∧
      t.fget CFG_COMMIT_STATUS_SESSION_LOST = 1 ∧ bitOf t.mgt.latched 9 = true ∧
      keepsBut [CFG_STAGE_CTRL_READ_SHADOW, CFG_COMMIT_STATUS_SESSION_LOST] s t := by
  have hedit : (s.editing && decide (s.cfg.sess ≠ .checking)) = true := by
    unfold State.editing
    generalize s.cfg.sess = x at hsess
    revert x
    decide
  have hexec : exec .sessionTimeout s = .next (settle s s.loseSession) :=
    (whenUp_up hup _).trans (by rw [if_pos hedit]; exact done_queue loseSession_pending)
  refine ⟨_, hexec, ?_, settle_cfg _ _, ?_, ?_, ?_⟩
  · rw [settle_regs, settle_hot, settle_cfg]
    exact settle_loseSession_only
  · rw [fget_settle, State.loseSession, State.seen, fget_raise]
    exact fget_fon_same _ _ rfl (by decide)
  · rw [settle_latched]
    exact raise_bit _ .config
  · exact keepsBut_settle (keepsBut_seen _ _ (by decide) rfl (endSession_keeps (by decide) (keepsBut_refl _ _)))

theorem lowest_eq {l : List Nat} {n : Nat} (hle : ∀ m ∈ l, n ≤ m) : lowest (n :: l) = n := by
  show l.foldl min n = n
  induction l with
  | nil => rfl
  | cons m l ih =>
    rw [List.forall_mem_cons] at hle
    rw [List.foldl_cons, Nat.min_eq_left hle.1]
    exact ih hle.2

theorem notOwner_le : ∀ m ∈ s.notOwner q, 0x50 ≤ m := by
  intro m hm
  unfold State.notOwner at hm
  split at hm <;> simp at hm
  omega

theorem lowest_openRefusals (h : s.cfg.sess ≠ .idle) : lowest (s.openRefusals q) = 0x50 := by
  rw [State.openRefusals, if_neg h]
  refine lowest_eq fun m hm => ?_
  rcases List.mem_cons.mp hm with rfl | hm
  · decide
  · exact notOwner_le m hm

theorem lowest_checkRefusals (h : s.cfg.sess ≠ .idle) (hown : s.cfg.owner ≠ some q) :
    lowest (s.checkRefusals q) = 0x51 := by
  rw [State.checkRefusals, State.notOwner, if_pos ⟨h, hown⟩]
  refine lowest_eq fun m hm => ?_
  split at hm <;> simp at hm
  omega

theorem lowest_armRefusals (hown : s.cfg.owner = some q) (h : s.cfg.sess ≠ .checked) :
    lowest (s.armRefusals q) = 0x52 := by
  have htimed : ∀ m ∈ s.timedRefusals, 0x52 ≤ m := by
    intro m hm
    simp only [State.timedRefusals, List.mem_append] at hm
    rcases hm with ((hm | hm) | hm) | hm <;> split at hm <;> simp at hm <;> omega
  rw [State.armRefusals, notOwner_of_owner hown, if_neg h, List.nil_append, List.append_assoc]
  refine lowest_eq (l := _ ++ _) fun m hm => ?_
  rw [List.nil_append] at hm
  rcases List.mem_append.mp hm with hm | hm
  · split at hm
    · exact htimed m hm
    · simp at hm
  · split at hm <;> simp at hm
    omega

end

/-- Settles O12: the three ends of a session and the three refusals of a command that is not allowed. -/
theorem sessionEnds : Obligations.SessionEnds := by
  refine ⟨fun s q flags hq hserv hmay hsess => ?abort, fun s hup hsess => ?timeout,
    fun s crossed _ hearly => commitApply_early hearly, fun s crossed hup hsess hcome => ?commit,
    fun s q flags hq hserv hsess => ?refuseOpen, fun s q flags hq hserv hsess hown => ?refuseCheck,
    fun s q flags hq hserv hown hsess => ?refuseArm⟩
  case abort =>
    obtain ⟨t, ht, hcfg, hkeep, honly⟩ := stageAbort_taken (flags := flags) hq hserv hmay hsess
    exact ⟨t, ht, by rw [hcfg], by rw [hcfg], by rw [hcfg], hkeep _ (by decide), honly⟩
  case timeout =>
    obtain ⟨t, ht, honly, hcfg, hlost, halarm, hkeep⟩ := sessionTimeout_lost hup hsess
    exact ⟨t, ht, honly, by rw [hcfg], by rw [hcfg], by rw [hcfg], hlost, halarm, hkeep⟩
  case commit =>
    obtain ⟨hidle, hown, hrecs⟩ := commitMarks_ends (late := false)
      (s := s.applyCommit s.cfg.records s.cfg.instant crossed)
    refine ⟨_, exec_commitApply hup hsess hcome, (beside_commitNow.settle).only, ?_⟩
    rw [settle_cfg, settle_life, fget_settle, fget_settle, fget_settle]
    exact ⟨hidle, hown, hrecs, fget_applied_commitMarks, fget_dirty_commitMarks,
      (commitMarks_keeps _ (by decide)).trans fget_draining_applyCommit, commitMarks_life⟩
  case refuseOpen =>
    refine stageCtrl_refused hq hserv (by decide) ?_ (by decide)
    rw [refusals_open]
    exact lowest_openRefusals (by rwa [stageFlags_onlyRegs.cfg])
  case refuseCheck =>
    refine stageCtrl_refused hq hserv (by decide) ?_ (by decide)
    rw [refusals_check]
    exact lowest_checkRefusals (by rwa [stageFlags_onlyRegs.cfg]) (by rwa [stageFlags_onlyRegs.cfg])
  case refuseArm =>
    have hnot : s.cfg.sess ≠ .checked := by
      intro h
      rw [h] at hsess
      simp at hsess
    refine stageCtrl_refused hq hserv (by decide) ?_ (by decide)
    rw [refusals_arm]
    exact lowest_armRefusals (by rwa [stageFlags_onlyRegs.cfg]) (by rwa [stageFlags_onlyRegs.cfg])

end Sys2Proof.Machine

/-! # From one state to another: which parts and which fields change -/

namespace Sys2Proof.Machine

set_option Elab.async false

/-! ## Fields that share no bit -/

section
variable {f g : Fld} {k lo w lo' w' : Nat}

theorem apart_of_key (h : g.key ≠ f.key) : g.apart f = true := by simp [Fld.apart, h]

theorem apart_of_bits (h : lo + w ≤ lo' ∨ lo' + w' ≤ lo) : Fld.apart ⟨k, lo, w⟩ ⟨k, lo', w'⟩ = true := by
  rcases h with h | h <;> simp [Fld.apart, h]

end

/-! ## What may change from one state to another -/

/-- The state without its registers and their marks. -/
def State.bare (s : State) : State := { s with regs := [], hot := [] }

/-- From s to t only registers, what `sans` takes out of a state, and of the registers only the fields in K may have
changed. -/
structure Within (sans : State → State) (K : Fld → Prop) (s t : State) : Prop where
  bare_eq : sans t.bare = sans s.bare
  keeps : ∀ g : Fld, (∀ f, K f → g.apart f = true) → t.fget g = s.fget g

namespace Within
section
variable {sans sans' : State → State} {K K' : Fld → Prop} {s t u : State} {f : Fld} {v : Nat}

theorem refl : Within sans K s s := ⟨rfl, fun _ _ => rfl⟩

theorem trans (h : Within sans K s t) (hu : Within sans K t u) : Within sans K s u :=
  ⟨hu.bare_eq.trans h.bare_eq, fun g hg => (hu.keeps g hg).trans (h.keeps g hg)⟩

theorem mono (h : Within sans K s t) (hK : ∀ f, K f → K' f) : Within sans K' s t :=
  ⟨h.bare_eq, fun g hg => h.keeps g fun f hf => hg f (hK f hf)⟩

/-- A part that is not taken out is as before. -/
theorem proj {β : Type} (h : Within sans K s t) (p : State → β) (hp : ∀ u, p (sans u.bare) = p u := by intro _; rfl) :
    p t = p s := by
  rw [← hp t, h.bare_eq, hp s]

/-- What takes more parts out of a state allows more. -/
theorem widen (h : Within sans K s t) (hsans : ∀ u, sans' (sans u) = sans' u := by intro _; rfl) :
    Within sans' K s t :=
  ⟨by rw [← hsans t.bare, h.bare_eq, hsans], h.keeps⟩

/-- An update of parts that may change, registers apart. -/
theorem frame (h : Within sans K s t) (hsans : sans u.bare = sans t.bare := by rfl) (hpart : u.part = t.part := by rfl)
    (hregs : u.regs = t.regs := by rfl) : Within sans K s u :=
  ⟨hsans.trans h.bare_eq, fun g hg => (fget_congr hpart hregs g).trans (h.keeps g hg)⟩

theorem fset (h : Within sans K s t) (hK : K f) (hf : f.fits = true := by rfl) : Within sans K s (t.fset f v) :=
  ⟨h.bare_eq, fun g hg => (fget_fset_apart t f g v hf (hg f hK)).trans (h.keeps g hg)⟩

theorem foff (h : Within sans K s t) (hK : K f) (hf : f.fits = true := by rfl) : Within sans K s (t.foff f) :=
  h.fset hK hf

theorem fput {b : Bool} (h : Within sans K s t) (hK : K f) (hf : f.fits = true := by rfl) :
    Within sans K s (t.fput f b) := h.fset hK hf

theorem fcount {n : Nat} (h : Within sans K s t) (hK : K f) (hf : f.fits = true := by rfl) :
    Within sans K s (t.fcount f n) := h.fset hK hf

theorem fwrap (h : Within sans K s t) (hK : K f) (hf : f.fits = true := by rfl) : Within sans K s (t.fwrap f) :=
  h.fset hK hf

theorem fon (h : Within sans K s t) (hK : K f) (hf : f.fits = true := by rfl) : Within sans K s (t.fon f) :=
  ⟨h.bare_eq, fun g hg => (fget_fon_apart t f g hf (hg f hK)).trans (h.keeps g hg)⟩

theorem setReg {k : Nat} (h : Within sans K s t) (hK : K ⟨k, 0, 32⟩) : Within sans K s (t.setReg k v) := by
  rw [setReg_eq_fset]
  exact h.fset hK

/-! An update of one part of the state, where it may change. -/

theorem out {x : List Output} (h : Within sans K s t)
    (hx : ∀ u x, sans { u with out := x } = sans u := by intro _ _; rfl) :
    Within sans K s { t with out := x } := h.frame (hx t.bare x)

theorem bus {x : BusState} (h : Within sans K s t)
    (hx : ∀ u x, sans { u with bus := x } = sans u := by intro _ _; rfl) :
    Within sans K s { t with bus := x } := h.frame (hx t.bare x)

theorem links {x : LinkState} (h : Within sans K s t)
    (hx : ∀ u x, sans { u with links := x } = sans u := by intro _ _; rfl) :
    Within sans K s { t with links := x } := h.frame (hx t.bare x)

theorem fwd {x : FwdState} (h : Within sans K s t)
    (hx : ∀ u x, sans { u with fwd := x } = sans u := by intro _ _; rfl) :
    Within sans K s { t with fwd := x } := h.frame (hx t.bare x)

theorem qw {x : QuillState} (h : Within sans K s t)
    (hx : ∀ u x, sans { u with qw := x } = sans u := by intro _ _; rfl) :
    Within sans K s { t with qw := x } := h.frame (hx t.bare x)

theorem buf {x : BufState} (h : Within sans K s t)
    (hx : ∀ u x, sans { u with buf := x } = sans u := by intro _ _; rfl) :
    Within sans K s { t with buf := x } := h.frame (hx t.bare x)

theorem cnt {x : CntState} (h : Within sans K s t)
    (hx : ∀ u x, sans { u with cnt := x } = sans u := by intro _ _; rfl) :
    Within sans K s { t with cnt := x } := h.frame (hx t.bare x)

theorem time {x : TimeState} (h : Within sans K s t)
    (hx : ∀ u x, sans { u with time := x } = sans u := by intro _ _; rfl) :
    Within sans K s { t with time := x } := h.frame (hx t.bare x)

theorem trunk {x : TrunkState} (h : Within sans K s t)
    (hx : ∀ u x, sans { u with trunk := x } = sans u := by intro _ _; rfl) :
    Within sans K s { t with trunk := x } := h.frame (hx t.bare x)

theorem syn {x : SynState} (h : Within sans K s t)
    (hx : ∀ u x, sans { u with syn := x } = sans u := by intro _ _; rfl) :
    Within sans K s { t with syn := x } := h.frame (hx t.bare x)

theorem mgt {x : MgtState} (h : Within sans K s t)
    (hx : ∀ u x, sans { u with mgt := x } = sans u := by intro _ _; rfl) :
    Within sans K s { t with mgt := x } := h.frame (hx t.bare x)

theorem raise {a : Alarm} (h : Within sans K s t)
    (hm : ∀ u m, sans { u with mgt := m } = sans u := by intro _ _; rfl) : Within sans K s (t.raise a) :=
  ⟨(hm t.bare _).trans h.bare_eq, fun g hg => (fget_congr (s := t) rfl rfl g).trans (h.keeps g hg)⟩

theorem seen {a : Alarm} (h : Within sans K s t) (hK : K f) (hf : f.fits = true := by rfl)
    (hm : ∀ u m, sans { u with mgt := m } = sans u := by intro _ _; rfl) : Within sans K s (t.seen f a) :=
  (h.fon hK hf).raise hm

theorem ite {c : Prop} [Decidable c] (ht : Within sans K s t) (hu : Within sans K s u) :
    Within sans K s (if c then t else u) := by
  split <;> assumption

theorem foldl {α : Type} {g : State → α → State} {l : List α} (h : Within sans K s t)
    (hg : ∀ u, ∀ a ∈ l, Within sans K s u → Within sans K s (g u a)) : Within sans K s (l.foldl g t) :=
  List.foldlRecOn l g h fun u hu a ha => hg u a ha hu

theorem fst_ite {α : Type} {c : Prop} [Decidable c] {x y : State × α} (hx : Within sans K s x.1)
    (hy : Within sans K s y.1) : Within sans K s (if c then x else y).1 := by
  split <;> assumption

theorem fst_foldl {α β : Type} {g : State × β → α → State × β} {l : List α} {x : State × β}
    (hx : Within sans K s x.1) (hg : ∀ y a, Within sans K s y.1 → Within sans K s (g y a).1) :
    Within sans K s (l.foldl g x).1 :=
  List.foldlRecOn (motive := fun y => Within sans K s y.1) l g hx fun y hy a _ => hg y a hy

theorem fst_eq {α : Type} {x : State × α} {a : α} (hx : Within sans K s x.1) (e : x = (t, a)) : Within sans K s t := by
  rwa [e] at hx

theorem settle (h : Within sans K s t) (hm : ∀ u m, sans { u with mgt := m } = sans u := by intro _ _; rfl) :
    Within sans K s (settle u t) := by
  rw [settle_only]
  exact h.mgt hm

theorem keepsBut {fs : List Fld} (h : Within sans (· ∈ fs) s t) : keepsBut fs s t := h.keeps

end
end Within

end Sys2Proof.Machine

/-! # Registers of lanes, clock lanes and ports -/

namespace Sys2Proof.Machine

set_option Elab.async false

/-! ## Receive-domain registers (01 R27) -/

section
variable {s t : State} {f g : Fld} {v : Nat}

theorem lget_congr (hp : t.part = s.part) (hb : t.bus = s.bus) (g : Fld) : t.lget g = s.lget g := by
  unfold State.lget
  rw [hp, hb]

theorem lget_lset_same (s : State) (f : Fld) (v : Nat) (hf : f.fits = true) :
    (s.lset f v).lget f = v % 2 ^ f.width := by
  unfold State.lset State.lget
  rw [mapGet_mapSet_same, BitVec.toNat_ofNat,
    Nat.mod_eq_of_lt (withField_lt _ _ _ _ (BitVec.isLt _) (of_decide_eq_true hf)), fieldOf_withField_same]

theorem lget_lset_apart (s : State) (f g : Fld) (v : Nat) (hf : f.fits = true) (h : g.apart f = true) :
    (s.lset f v).lget g = s.lget g := by
  unfold State.lset State.lget
  by_cases hk : g.key = f.key
  · simp only [hk, mapGet_mapSet_same, BitVec.toNat_ofNat]
    rw [Nat.mod_eq_of_lt (withField_lt _ _ _ _ (BitVec.isLt _) (of_decide_eq_true hf))]
    simp only [Fld.apart, hk, ne_eq, not_true_eq_false, decide_false, Bool.false_or, Bool.or_eq_true,
      decide_eq_true_eq] at h
    rcases h with h | h
    · exact fieldOf_withField_below _ _ _ _ _ _ h
    · exact fieldOf_withField_above _ _ _ _ _ _ h
  · rw [mapGet_mapSet_ne _ _ _ _ _ hk]

theorem fget_lset (s : State) (f g : Fld) (v : Nat) : (s.lset f v).fget g = s.fget g := fget_congr rfl rfl g

theorem lget_fset (s : State) (f g : Fld) (v : Nat) : (s.fset f v).lget g = s.lget g := lget_congr rfl rfl g

theorem lget_fon (s : State) (f g : Fld) : (s.fon f).lget g = s.lget g := lget_congr rfl rfl g

theorem lget_ldecl_same (s : State) (f : Fld) (v : Nat) (hf : f.fits = true) :
    (s.ldecl f v).lget f = v % 2 ^ f.width := (lget_fset _ _ _ _).trans (lget_lset_same s f v hf)

theorem lget_ldecl_apart (s : State) (f g : Fld) (v : Nat) (hf : f.fits = true) (h : g.apart f = true) :
    (s.ldecl f v).lget g = s.lget g := (lget_fset _ _ _ _).trans (lget_lset_apart s f g v hf h)

theorem fget_ldecl_same (s : State) (f : Fld) (v : Nat) (hf : f.fits = true) :
    (s.ldecl f v).fget f = v % 2 ^ f.width := fget_fset_same _ f v hf

theorem fget_ldecl_apart (s : State) (f g : Fld) (v : Nat) (hf : f.fits = true) (h : g.apart f = true) :
    (s.ldecl f v).fget g = s.fget g := (fget_fset_apart _ f g v hf h).trans (fget_lset s f g v)

@[simp] theorem lget_settle (s t : State) (g : Fld) : (settle s t).lget g = t.lget g :=
  lget_congr (settle_part s t) (settle_bus s t) g

theorem lbit_of_lget (h : s.lget f = 1) : s.lbit f = true := by simp [State.lbit, h]

theorem fbit_of_fget {b : Bool} (h : s.fget f = b.toNat) : s.fbit f = b := by
  cases b <;> simp [State.fbit, h]

theorem fbit_eq_of_fget (h : t.fget f = s.fget f) : t.fbit f = s.fbit f := by
  unfold State.fbit
  rw [h]

/-- A flag of one bit that is not set reads 0. -/
theorem fget_of_fbit_false (h : s.fbit f = false) : s.fget f = 0 := by simpa [State.fbit] using h

theorem fget_fcount_same (s : State) (f : Fld) (n : Nat) (hf : f.fits = true) :
    (s.fcount f n).fget f = min (s.fget f + n) (2 ^ f.width - 1) := by
  refine (fget_fset_same s f _ hf).trans (Nat.mod_eq_of_lt ?_)
  exact Nat.lt_of_le_of_lt (Nat.min_le_right _ _) (Nat.sub_lt (Nat.two_pow_pos _) Nat.one_pos)

end

/-! ## Outcomes of commands -/

section
variable {s t : State} {q : Requester} {fs : List Fld}

theorem whenUp_next_settle (hup : s.up = true) (hq : t.pending = s.pending) : whenUp s t = .next (settle s t) :=
  (whenUp_up hup t).trans (done_queue hq)

/-- The key of a register of lanes, clock lanes or ports. -/
def linkKey (x : Nat) : Prop := 0x200000 ≤ x ∧ x < 0x400000

theorem linkKey_laneStatus (n : Fin 64) : linkKey (LANE_STATUS n) := by unfold linkKey LANE_STATUS; omega
theorem linkKey_lanePrbsCtrl (n : Fin 64) : linkKey (LANE_PRBS_CTRL n) := by unfold linkKey LANE_PRBS_CTRL; omega
theorem linkKey_lanePrbsErrcnt (n : Fin 64) : linkKey (LANE_PRBS_ERRCNT n) := by unfold linkKey LANE_PRBS_ERRCNT; omega
theorem linkKey_laneErrInject (n : Fin 64) : linkKey (LANE_ERR_INJECT n) := by unfold linkKey LANE_ERR_INJECT; omega
theorem linkKey_clklSlip (k : Fin 16) : linkKey (CLKL_SLIP k) := by unfold linkKey CLKL_SLIP; omega
theorem linkKey_clklAlignStatus (k : Fin 16) : linkKey (CLKL_ALIGN_STATUS k) := by
  unfold linkKey CLKL_ALIGN_STATUS; omega
theorem linkKey_clklPrbsCtrl (k : Fin 16) : linkKey (CLKL_PRBS_CTRL k) := by unfold linkKey CLKL_PRBS_CTRL; omega
theorem linkKey_clklPrbsErrcnt (k : Fin 16) : linkKey (CLKL_PRBS_ERRCNT k) := by unfold linkKey CLKL_PRBS_ERRCNT; omega
theorem linkKey_portStatus (p : Fin 64) : linkKey (PORT_STATUS p) := by unfold linkKey PORT_STATUS; omega

/-- The registers of lanes, clock lanes and ports hold none of the conditions. -/
theorem condKeys_ne_link {k x : Nat} (hk : k ∈ condKeys) (hx : linkKey x) : k ≠ x := by
  obtain ⟨hlo, hhi⟩ := hx
  simp only [condKeys, List.mem_cons, List.not_mem_nil, or_false] at hk
  rcases hk with rfl | rfl | rfl | rfl <;> simp only [GLB_PWR_STATUS, HRT_STATUS, CAL_STATUS, GLB_STATUS] <;> omega

/-- The outcome of a command that updates fields of lanes, clock lanes and ports and no management state. -/
theorem whenUp_next_link (hup : s.up = true) (hk : keepsBut fs s t) (hfs : ∀ f ∈ fs, linkKey f.key)
    (hm : t.mgt = s.mgt := by rfl) (hq : t.pending = s.pending := by rfl) : whenUp s t = .next t := by
  rw [whenUp_next_settle hup hq, settle_of_keepsBut hk (fun k hc f hf => condKeys_ne_link hc (hfs f hf)) hm]

theorem Within.next_link {sans : State → State} (h : Within sans (· ∈ fs) s t) (hup : s.up = true)
    (hfs : ∀ f ∈ fs, linkKey f.key) (hm : ∀ u : State, (sans u.bare).mgt = u.mgt := by intro _; rfl)
    (hq : ∀ u : State, (sans u.bare).pending = u.pending := by intro _; rfl) : whenUp s t = .next t :=
  whenUp_next_link hup h.keepsBut hfs (h.proj State.mgt hm) (h.proj State.pending hq)

end

end Sys2Proof.Machine

/-! # Slip, confirmation and search of a clock lane (04 R121, R122, R124) -/

namespace Sys2Proof.Machine

set_option Elab.async false

section
variable {s : State} {q : Requester} {k : Nat}

theorem fbit_of_fget_zero {f : Fld} (h : s.fget f = 0) : s.fbit f = false := fbit_of_fget (b := false) h

theorem fbit_of_fget_one {f : Fld} (h : s.fget f = 1) : s.fbit f = true := fbit_of_fget (b := true) h

theorem slip_eq (hk : s.hasClkl k = true) (ha : s.fget (CLKL_ALIGN_STATUS_ALIGNED k) = 0)
    (hc : s.fget (CLKL_SLIP_CONFIRM k) = 0) :
    s.slip k = s.fset (CLKL_SLIP_POS k) ((s.fget (CLKL_SLIP_POS k) + 1) % 10) := by
  simp [State.slip, hk, fbit_of_fget_zero ha, fbit_of_fget_zero hc]

/-- A slip is ignored while ALIGNED or CONFIRM is 1. -/
theorem slip_ignored (h : s.fget (CLKL_ALIGN_STATUS_ALIGNED k) = 1 ∨ s.fget (CLKL_SLIP_CONFIRM k) = 1) :
    s.slip k = s := by
  rcases h with h | h <;> simp [State.slip, fbit_of_fget_one h]

theorem askConfirm_eq (hk : s.hasClkl k = true) (hc : s.fget (CLKL_SLIP_CONFIRM k) = 0) :
    s.askConfirm k = { s.fon (CLKL_SLIP_CONFIRM k) with
      links := { s.links with confirm := mapSet (fun _ => 0) s.links.confirm k 2 } } := by
  simp only [State.askConfirm, hk, fbit_of_fget_zero hc]
  rfl

theorem askConfirm_keeps (hk : s.hasClkl k = true) (hc : s.fget (CLKL_SLIP_CONFIRM k) = 0) :
    keepsBut [CLKL_SLIP_CONFIRM k] s (s.askConfirm k) := by
  rw [askConfirm_eq hk hc]
  exact keepsBut_of_regs (t := s.fon (CLKL_SLIP_CONFIRM k)) rfl rfl
    (keepsBut_fon _ (List.mem_singleton_self _) rfl (keepsBut_refl _ _))

theorem exec_clklSlip {k : Fin 16} (hq : s.takes q = true) (hup : s.up = true) (hk : s.hasClkl k = true)
    (ha : s.fget (CLKL_ALIGN_STATUS_ALIGNED k) = 0) (hc : s.fget (CLKL_SLIP_CONFIRM k) = 0) :
    exec (.clklSlip q k) s = .next (s.fset (CLKL_SLIP_POS k) ((s.fget (CLKL_SLIP_POS k) + 1) % 10)) := by
  have hexec : exec (.clklSlip q k) s = whenTaken s q (s.slip k) := rfl
  rw [hexec, whenTaken_of_takes hq, slip_eq hk ha hc]
  exact whenUp_next_link hup (keepsBut_fset _ _ (List.mem_singleton_self _) rfl (keepsBut_refl _ _))
    (List.forall_mem_singleton.mpr (linkKey_clklSlip k))

theorem exec_clklConfirm {k : Fin 16} (hq : s.takes q = true) (hup : s.up = true) (hk : s.hasClkl k = true)
    (hc : s.fget (CLKL_SLIP_CONFIRM k) = 0) : exec (.clklConfirm q k) s = .next (s.askConfirm k) := by
  have hexec : exec (.clklConfirm q k) s = whenTaken s q (s.askConfirm k) := rfl
  rw [hexec, whenTaken_of_takes hq]
  refine whenUp_next_link hup (askConfirm_keeps hk hc) (List.forall_mem_singleton.mpr (linkKey_clklSlip k)) ?_ ?_ <;>
    rw [askConfirm_eq hk hc] <;> rfl

/-- The start of a search where the firmware may search. -/
theorem whenUp_startSearch (hup : s.up = true) : whenUp s (s.startSearch k) = .next (s.startSearch k) :=
  (whenUp_up hup _).trans (done_plain _ _ rfl rfl rfl)

theorem exec_clklAlignSearch {k : Fin 16} (hup : s.up = true) (hmay : s.maySearch k = true)
    (hnone : ∀ x ∈ s.links.searches, x.clkl ≠ k) (hretry : k.val ∉ s.links.retry) :
    exec (.clklAlignSearch k) s = .next (s.startSearch k) := by
  have hexec : exec (.clklAlignSearch k) s = whenUp s (if s.maySearch k.val &&
    !(s.links.searches.any fun x => decide (x.clkl = k.val)) && !s.links.retry.contains k.val then s.startSearch k
    else s) := rfl
  rw [hexec, if_pos (by simpa [hmay, hretry] using hnone), whenUp_startSearch hup]

theorem exec_clklSearchRetry {k : Fin 16} (hup : s.up = true) (hmay : s.maySearch k = true)
    (hretry : k.val ∈ s.links.retry) : exec (.clklSearchRetry k) s = .next (s.startSearch k) := by
  have hexec : exec (.clklSearchRetry k) s = whenUp s (if s.links.retry.contains k.val && s.maySearch k.val then
    s.startSearch k else s) := rfl
  rw [hexec, if_pos (by simp [hmay, hretry]), whenUp_startSearch hup]

/-- A search that starts has made no try, and waits no more. -/
theorem startSearch_new (s : State) (k : Nat) :
    (⟨k, 0, .windows 2⟩ : ClkSearch) ∈ (s.startSearch k).links.searches ∧ k ∉ (s.startSearch k).links.retry :=
  ⟨List.mem_cons_self, by simp [State.startSearch, State.dropSearch]⟩

end

/-- Settles O18: the slip, taken and ignored, the confirmation, and the two starts of a search. -/
theorem clockLanesAlign : Obligations.ClockLanesAlign := by
  refine ⟨fun s q k hq hup hk ha hc => ?slip, fun s q k h => ?ignored, fun s q k hq hup hk hc => ?confirm,
    fun s k hup hmay hnone hretry => ?search, fun s k hup hmay hretry => ?retry⟩
  case slip =>
    refine ⟨_, exec_clklSlip hq hup hk ha hc, ?_,
      keepsBut_fset _ _ (List.mem_singleton_self _) rfl (keepsBut_refl _ _), rfl⟩
    rw [fget_fset_same _ _ _ rfl]
    show _ % 10 % 16 = _
    omega
  case ignored =>
    have hexec : exec (.clklSlip q k) s = whenTaken s q (s.slip k) := rfl
    rw [hexec, slip_ignored h, whenTaken_self]
  case confirm =>
    refine ⟨_, exec_clklConfirm hq hup hk hc, ?_, ?_, askConfirm_keeps hk hc, ?_⟩ <;> rw [askConfirm_eq hk hc]
    · exact fget_fon_same s (CLKL_SLIP_CONFIRM k) rfl Nat.one_pos
    · exact mapGet_mapSet_same (fun _ => 0) s.links.confirm k 2
    · rfl
  case search =>
    exact ⟨_, exec_clklAlignSearch hup hmay hnone hretry, (startSearch_new s k).1, rfl⟩
  case retry =>
    obtain ⟨hnew, hgone⟩ := startSearch_new s k
    exact ⟨_, exec_clklSearchRetry hup hmay hretry, hnew, hgone, rfl⟩

end Sys2Proof.Machine

/-! # References and trunk links follow a lane (09 R284 to R286, 10 R305 to R311) -/

namespace Sys2Proof.Machine

set_option Elab.async false

/-- A field of block TIME or above: of the time core, the trunk links, the synthesizers. -/
abbrev upperFld (f : Fld) : Prop := TIME_SEC_HI ≤ f.key

theorem apart_of_upper {f g : Fld} (hg : g.key < TIME_SEC_HI) (hf : upperFld f) : g.apart f = true :=
  apart_of_key (Nat.ne_of_lt (Nat.lt_of_lt_of_le hg hf))

/-- A field of the registers of an indexed block. -/
theorem upperFld_add {a b lo w : Nat} (h : TIME_SEC_HI ≤ a) : upperFld ⟨a + b, lo, w⟩ := Nat.le_add_right_of_le h

/-- The state without what a change of a reference may change. -/
def State.sansRefs (s : State) : State := { s with syn := synNew, mgt := mgtNew }

/-- From s to t a reference has changed. -/
abbrev RefStep (s t : State) : Prop := Within State.sansRefs upperFld s t

namespace RefStep
section
variable {s t : State} {i k n src w x : Nat} {h₀ : Hearth} {m : RefMon} {a b : RefState} {v : Synth}

theorem only (h : RefStep s t) : t = { s with regs := t.regs, hot := t.hot, syn := t.syn, mgt := t.mgt } :=
  congrArg (fun u : State => { u with regs := t.regs, hot := t.hot, syn := t.syn, mgt := t.mgt }) h.bare_eq

theorem setSynth (h : RefStep s t) : RefStep s (t.setSynth h₀ v) := by
  unfold State.setSynth
  split <;> exact h.syn

theorem setSpineMode (h : RefStep s t) : RefStep s (t.setSpineMode n) := by
  unfold State.setSpineMode
  extract_lets _ u w
  have hu : RefStep s u := .ite h.syn (h.fset (by decide))
  have hw : RefStep s w := hu.foff (by decide)
  exact hw.syn

theorem setMon (h : RefStep s t) : RefStep s (t.setMon src m) := h.syn

theorem loadLoop (h : RefStep s t) : RefStep s t.loadLoop := by
  unfold State.loadLoop
  split
  · exact setSynth h
  · exact h

theorem followRef (h : RefStep s t) : RefStep s (t.followRef i) := by
  unfold State.followRef
  extract_lets p u _ v w
  have hv : RefStep s v := Within.syn (t := u) (loadLoop h)
  have hw : RefStep s w := setSpineMode hv
  exact hw.fset (by decide)

theorem selectRef (h : RefStep s t) : RefStep s (t.selectRef i) := by
  unfold State.selectRef
  refine .ite h ?_
  extract_lets u
  have hu : RefStep s u := (h.fcount (by decide)).fon (by decide)
  exact followRef ((hu.fset (by decide)).fon (by decide))

theorem deselect (h : RefStep s t) : RefStep s t.deselect := by
  unfold State.deselect
  exact (h.foff (by decide)).syn

theorem setHolderWord (h : RefStep s t) : RefStep s (t.setHolderWord w) := by
  unfold State.setHolderWord
  split
  · exact setSynth h
  · exact h

theorem enterHold (h : RefStep s t) : RefStep s t.enterHold := by
  unfold State.enterHold
  refine .ite (deselect h) ?_
  extract_lets w u
  have hu : RefStep s u := (setSpineMode (setHolderWord (deselect h))).seen (by decide)
  exact hu.syn

theorem noReference (h : RefStep s t) : RefStep s t.noReference :=
  .ite (enterHold h) (.ite (deselect h) (setSpineMode (deselect h)))

theorem selectBest (h : RefStep s t) : RefStep s t.selectBest := by
  unfold State.selectBest
  split
  · exact selectRef h
  · exact enterHold h

theorem runSelection (h : RefStep s t) : RefStep s t.runSelection := by
  refine .ite (enterHold h) (.ite (noReference h) ?_)
  split
  · split
    · exact selectRef h
    · exact h
  · refine .ite (selectBest h) ?_
    split
    · exact selectBest h
    · exact selectBest h
    · exact .ite (.ite h (selectBest h)) h
    · split
      · exact .ite (selectRef h) h
      · exact h

theorem reselect (h : RefStep s t) : RefStep s t.reselect := .ite h.syn (runSelection h)

theorem moveFlags (h : RefStep s t) : RefStep s (t.moveFlags a b) := by
  unfold State.moveFlags
  extract_lets u
  have hu : RefStep s u := .ite (h.seen (by decide)) h
  exact .ite (hu.seen (by decide)) hu

theorem noteUp (h : RefStep s t) : RefStep s t.noteUp := h.syn

theorem putRefState (h : RefStep s t) : RefStep s (t.putRefState src a) :=
  noteUp (.ite (moveFlags (setMon h)) (setMon h))

theorem undefer (h : RefStep s t) : RefStep s (t.undefer src) := h.syn

theorem setRefState (h : RefStep s t) : RefStep s (t.setRefState src a) := by
  unfold State.setRefState
  exact .ite h (.ite (undefer h).syn (reselect (putRefState (undefer h))))

theorem followChanged (h : RefStep s t) : RefStep s t.followChanged := by
  unfold State.followChanged
  split
  · exact .ite (followRef h) h
  · exact h

theorem sourceDown (h : RefStep s t) : RefStep s (t.sourceDown src) := setRefState h

theorem sourceUp (h : RefStep s t) : RefStep s (t.sourceUp src) := .ite (setRefState h) h

theorem upstreamMoved (h : RefStep s t) : RefStep s t.upstreamMoved := by
  unfold State.upstreamMoved
  split
  · exact h
  · extract_lets u v
    have hv : RefStep s v := reselect (noteUp (moveFlags h))
    exact .ite hv.syn (followChanged hv)

theorem laneRef (h : RefStep s t) : RefStep s (t.laneRef n) := .ite (sourceUp h) (sourceDown h)

end
end RefStep

end Sys2Proof.Machine

/-! # The state of a lane (04 R112, R115, R131) -/

namespace Sys2Proof.Machine

set_option Elab.async false

/-! ## Updates of the receive domain -/

namespace Within
section
variable {sans : State → State} {K : Fld → Prop} {s t : State} {f : Fld} {n st v : Nat}

theorem lset (h : Within sans K s t) (hb : ∀ u x, sans { u with bus := x } = sans u := by intro _ _; rfl) :
    Within sans K s (t.lset f v) := h.bus hb

theorem ldecl (h : Within sans K s t) (hK : K f) (hf : f.fits = true := by rfl)
    (hb : ∀ u x, sans { u with bus := x } = sans u := by intro _ _; rfl) : Within sans K s (t.ldecl f v) :=
  (h.lset hb).fset hK hf

theorem laneState (h : Within sans K s t) (hst : K (LANE_STATUS_LSTATE n)) (hseen : K (LANE_STATUS_LINK_DOWN_SEEN n))
    (hb : ∀ u x, sans { u with bus := x } = sans u := by intro _ _; rfl) : Within sans K s (t.laneState n st) := by
  unfold State.laneState
  extract_lets st' u
  have hu : Within sans K s u := .ite (h.ldecl hseen rfl hb) h
  exact hu.ldecl hst rfl hb

end
end Within

/-- The state without the parts that the lane logic changes beside registers. -/
def State.sansBus (s : State) : State := { s with bus := ⟨[], [], [], []⟩ }

/-- From s to t only the receive domain and the fields in K have changed. -/
abbrev LaneStep (K : Fld → Prop) (s t : State) : Prop := Within State.sansBus K s t

section
variable {s t : State} {K : Fld → Prop} {f g : Fld} {n st : Nat}

theorem LaneStep.only (h : LaneStep K s t) : t = { s with regs := t.regs, hot := t.hot, bus := t.bus } :=
  congrArg (fun u : State => { u with regs := t.regs, hot := t.hot, bus := t.bus }) h.bare_eq

theorem LaneStep.only_unmarked (h : LaneStep K s t) (hhot : t.hot = s.hot) :
    t = { s with regs := t.regs, bus := t.bus } := by
  have ht : t = { t with hot := s.hot } := by rw [← hhot]
  exact ht.trans (congrArg (fun u : State => { u with regs := t.regs, hot := s.hot, bus := t.bus }) h.bare_eq)

/-- The state that a lane shows in place of another: PRBS where TX_EN is 1, if it is not disabled. -/
def State.shownState (s : State) (n st : Nat) : Nat := if st ≠ 0 ∧ s.fbit (LANE_PRBS_CTRL_TX_EN n) = true then 5 else st

theorem laneState_eq : s.laneState n st =
    (if s.lget (LANE_STATUS_LSTATE n) = 4 ∧ s.shownState n st ≠ 4 then s.ldecl (LANE_STATUS_LINK_DOWN_SEEN n) 1
      else s).ldecl (LANE_STATUS_LSTATE n) (s.shownState n st) := rfl

theorem lget_laneState_lstate : (s.laneState n st).lget (LANE_STATUS_LSTATE n) = s.shownState n st % 8 := by
  rw [laneState_eq]
  exact lget_ldecl_same _ _ _ rfl

theorem lget_laneState_apart (hst : g.apart (LANE_STATUS_LSTATE n) = true)
    (hseen : g.apart (LANE_STATUS_LINK_DOWN_SEEN n) = true) : (s.laneState n st).lget g = s.lget g := by
  rw [laneState_eq, lget_ldecl_apart _ _ _ _ rfl hst]
  split
  · exact lget_ldecl_apart _ _ _ _ rfl hseen
  · rfl

theorem shownState_of_off (h : s.fbit (LANE_PRBS_CTRL_TX_EN n) = false) : s.shownState n st = st := by
  simp [State.shownState, h]

theorem shownState_of_ne (h : st ≠ 0) :
    s.shownState n st = if s.fbit (LANE_PRBS_CTRL_TX_EN n) then 5 else st := by simp [State.shownState, h]

/-- The fields of LANE_STATUS that the lane controller changes with a lane's state. -/
def laneStateFields (n : Nat) : List Fld := [LANE_STATUS_LSTATE n, LANE_STATUS_LINK_DOWN_SEEN n]

theorem laneState_step : LaneStep (· ∈ laneStateFields n) s (s.laneState n st) :=
  Within.refl.laneState (by simp [laneStateFields]) (by simp [laneStateFields])

theorem fget_laneState_of_key (h : g.key ≠ LANE_STATUS n) : (s.laneState n st).fget g = s.fget g :=
  laneState_step.keeps g fun f hf => apart_of_key (by
    simp only [laneStateFields, List.mem_cons, List.not_mem_nil, or_false] at hf
    rcases hf with rfl | rfl <;> exact h)

end

/-! ## Priority entries follow a lane's clock (10 R305) -/

section
variable {s t : State} {n : Nat}

theorem lget_laneRef (g : Fld) : (s.laneRef n).lget g = s.lget g :=
  lget_congr ((RefStep.laneRef .refl).proj State.part) ((RefStep.laneRef .refl).proj State.bus) g

/-- The state without what the coming up of a lane changes beside registers. -/
def State.sansBring (s : State) : State := { s with bus := ⟨[], [], [], []⟩, syn := synNew, mgt := mgtNew }

/-- From s to t a lane has come up by a step. -/
abbrev BringStep (s t : State) : Prop := Within State.sansBring (fun _ => True) s t

theorem BringStep.only (h : BringStep s t) :
    t = { s with regs := t.regs, hot := t.hot, bus := t.bus, syn := t.syn, mgt := t.mgt } :=
  congrArg (fun u : State => { u with regs := t.regs, hot := t.hot, bus := t.bus, syn := t.syn, mgt := t.mgt })
    h.bare_eq

theorem BringStep.laneRef (h : BringStep s t) : BringStep s (t.laneRef n) :=
  h.trans (((RefStep.laneRef .refl).widen).mono fun _ _ => trivial)

/-- The outcome of such a step. -/
theorem BringStep.exec (h : BringStep s t) (hup : s.up = true) :
    ∃ u, whenUp s t = .next u ∧
      u = { s with regs := u.regs, hot := u.hot, bus := u.bus, syn := u.syn, mgt := u.mgt } ∧
      ∀ g, u.lget g = t.lget g :=
  ⟨_, whenUp_next_settle hup (h.proj State.pending), BringStep.only (Within.settle h), fun g => lget_settle s t g⟩

end

end Sys2Proof.Machine

/-! # The rate search (04 R112) -/

namespace Sys2Proof.Machine

set_option Elab.async false

section
variable {s : State} {n : Nat}

theorem nextRate_eq (r : Nat) : nextRate r = if r = 3 then 2 else if r = 2 then 1 else 3 := by
  unfold nextRate
  split
  · rfl
  · rfl
  · rename_i h3 h2
    rw [if_neg h3, if_neg h2]

theorem tried_setTried (s : State) (n r : Nat) : (s.setTried n r).tried n = r :=
  mapGet_mapSet_same (fun _ => 3) s.links.tryRate n r

/-- The state without what a search for the rate changes beside registers. -/
def State.sansSearch (s : State) : State :=
  { s with bus := ⟨[], [], [], []⟩, links := ⟨[], [], false, [], [], [], [], []⟩ }

/-- From s to t the search for a rate has gone a step. -/
abbrev SearchStep (K : Fld → Prop) (s t : State) : Prop := Within State.sansSearch K s t

theorem SearchStep.only {K : Fld → Prop} {t : State} (h : SearchStep K s t) (hhot : t.hot = s.hot) :
    t = { s with regs := t.regs, bus := t.bus, links := t.links } := by
  have ht : t = { t with hot := s.hot } := by rw [← hhot]
  exact ht.trans (congrArg (fun u : State => { u with regs := t.regs, hot := s.hot, bus := t.bus, links := t.links })
    h.bare_eq)

theorem lset_hot (s : State) (f : Fld) (v : Nat) : (s.lset f v).hot = s.hot := rfl

theorem ldecl_hot (s : State) (f : Fld) (v : Nat) : (s.ldecl f v).hot = s.hot := rfl

theorem laneOn_parts (h : s.laneOn n = true) :
    s.hasLane n = true ∧ s.fbit (LANE_CTRL_ENABLE n) = true ∧ s.inService = true := by
  simp only [State.laneOn, Bool.and_eq_true] at h
  exact ⟨h.1.1.1, h.1.1.2, h.1.2⟩

theorem laneCtrl_ne_status : LANE_CTRL n ≠ LANE_STATUS n := by unfold LANE_CTRL LANE_STATUS; omega

theorem lanePrbsCtrl_ne_status : LANE_PRBS_CTRL n ≠ LANE_STATUS n := by unfold LANE_PRBS_CTRL LANE_STATUS; omega

/-! ## The next rate -/

/-- The next rate is tried, from no lock. -/
def State.dwelt (s : State) (n : Nat) : State :=
  (s.setTried n (nextRate (s.tried n))).ldecl (LANE_STATUS_BLOCK_LOCK n) 0

theorem dwelt_step : SearchStep (· ∈ [LANE_STATUS_BLOCK_LOCK n]) s (s.dwelt n) :=
  Within.ldecl (Within.links .refl) (List.mem_singleton_self _)

theorem tried_ldecl (s : State) (f : Fld) (v n : Nat) : (s.ldecl f v).tried n = s.tried n := rfl

theorem tried_dwelt : (s.dwelt n).tried n = nextRate (s.tried n) :=
  (tried_ldecl _ _ _ _).trans (tried_setTried s n _)

theorem exec_rateSearchDwell {n : Fin 64} (hup : s.up = true) (hseek : s.seeking n = true)
    (hctl : s.links.ctlRestart = false) : exec (.rateSearchDwell n) s = .next (s.dwelt n) := by
  have hexec : exec (.rateSearchDwell n) s =
      whenUp s (if s.seeking n.val && !s.links.ctlRestart then s.dwelt n else s) := rfl
  rw [hexec, if_pos (by simp [hseek, hctl])]
  exact dwelt_step.next_link hup (List.forall_mem_singleton.mpr (linkKey_laneStatus n))

/-! ## The rate found -/

/-- The rate with block lock is kept. -/
def State.rateKept (s : State) (n : Nat) : State :=
  ((s.ldecl (LANE_STATUS_RATE_FOUND n) (s.tried n)).laneState n 3).laneRef n

theorem rateKept_step : BringStep s (s.rateKept n) :=
  BringStep.laneRef ((Within.ldecl .refl trivial).laneState trivial trivial)

theorem lget_rateKept_rate (h : s.tried n < 4) : (s.rateKept n).lget (LANE_STATUS_RATE_FOUND n) = s.tried n := calc
  _ = ((s.ldecl (LANE_STATUS_RATE_FOUND n) (s.tried n)).laneState n 3).lget (LANE_STATUS_RATE_FOUND n) := lget_laneRef _
  _ = (s.ldecl (LANE_STATUS_RATE_FOUND n) (s.tried n)).lget (LANE_STATUS_RATE_FOUND n) :=
    lget_laneState_apart (apart_of_bits (by decide)) (apart_of_bits (by decide))
  _ = s.tried n % 2 ^ 2 := lget_ldecl_same _ _ _ rfl
  _ = s.tried n := Nat.mod_eq_of_lt h

theorem lget_rateKept_lstate :
    (s.rateKept n).lget (LANE_STATUS_LSTATE n) = if s.fbit (LANE_PRBS_CTRL_TX_EN n) then 5 else 3 := by
  have htx : (s.ldecl (LANE_STATUS_RATE_FOUND n) (s.tried n)).fbit (LANE_PRBS_CTRL_TX_EN n) =
      s.fbit (LANE_PRBS_CTRL_TX_EN n) :=
    fbit_eq_of_fget (fget_ldecl_apart _ _ _ _ rfl (apart_of_key lanePrbsCtrl_ne_status))
  rw [State.rateKept, lget_laneRef, lget_laneState_lstate, shownState_of_ne (by decide), htx]
  split <;> rfl

theorem exec_rateFound {n : Fin 64} (hseek : s.seeking n = true) (hctl : s.links.ctlRestart = false)
    (hlock : s.lget (LANE_STATUS_BLOCK_LOCK n) = 1) : exec (.rateFound n) s = whenUp s (s.rateKept n) := by
  have hexec : exec (.rateFound n) s = whenUp s (if s.seeking n.val && s.lbit (LANE_STATUS_BLOCK_LOCK n.val) &&
    !s.links.ctlRestart then s.rateKept n else s) := rfl
  rw [hexec, if_pos (by simp [hseek, hctl, lbit_of_lget hlock])]

/-! ## The search from the top -/

theorem waitState_of_search (hon : s.fbit (LANE_CTRL_ENABLE n) = true) (hsearch : s.searches n = true)
    (hfound : s.lget (LANE_STATUS_RATE_FOUND n) = 0) : s.waitState n = 1 := by
  simp [State.waitState, hon, hsearch, hfound]

/-- A searching lane forgets its rate and tries the highest. -/
def State.searchAnew (s : State) (n : Nat) : State := (s.ldecl (LANE_STATUS_RATE_FOUND n) 0).setTried n 3

theorem searchAnew_step : SearchStep (· ∈ [LANE_STATUS_RATE_FOUND n]) s (s.searchAnew n) :=
  .links (.ldecl .refl (List.mem_singleton_self _))

theorem fget_searchAnew {f : Fld} (h : f.key ≠ LANE_STATUS n) : (s.searchAnew n).fget f = s.fget f :=
  searchAnew_step.keeps f (List.forall_mem_singleton.mpr (apart_of_key h))

theorem lget_searchAnew_same : (s.searchAnew n).lget (LANE_STATUS_RATE_FOUND n) = 0 := lget_ldecl_same s _ _ rfl

theorem lget_searchAnew_apart {g : Fld} (h : g.apart (LANE_STATUS_RATE_FOUND n) = true) :
    (s.searchAnew n).lget g = s.lget g := lget_ldecl_apart s _ g 0 rfl h

/-- A searching lane that is enabled shows SEARCH and looks for its rate from the highest. -/
theorem laneStarts_of_search (hon : s.fbit (LANE_CTRL_ENABLE n) = true) (hsearch : s.searches n = true) :
    s.laneStarts n = ((s.searchAnew n).laneState n 1).laneRef n := by
  have hrate : s.fget (LANE_CTRL_RATE n) = 0 := of_decide_eq_true hsearch
  have hon' : (s.searchAnew n).fbit (LANE_CTRL_ENABLE n) = true :=
    (fbit_eq_of_fget (fget_searchAnew laneCtrl_ne_status)).trans hon
  have hsearch' : (s.searchAnew n).searches n = true :=
    decide_eq_true ((fget_searchAnew laneCtrl_ne_status).trans hrate)
  have hwait := waitState_of_search hon' hsearch' lget_searchAnew_same
  unfold State.searchAnew at hwait ⊢
  simp only [State.laneStarts, hon, hrate, if_true, hwait]

/-- The search starts again at the top. -/
def State.searchedAgain (s : State) (n : Nat) : State := (s.ldecl (LANE_STATUS_BLOCK_LOCK n) 0).laneStarts n

theorem fget_unlocked {f : Fld} (h : f.key ≠ LANE_STATUS n) :
    (s.ldecl (LANE_STATUS_BLOCK_LOCK n) 0).fget f = s.fget f := fget_ldecl_apart s _ f 0 rfl (apart_of_key h)

theorem searchedAgain_eq (hon : s.fbit (LANE_CTRL_ENABLE n) = true) (hsearch : s.searches n = true) :
    s.searchedAgain n = (((s.ldecl (LANE_STATUS_BLOCK_LOCK n) 0).searchAnew n).laneState n 1).laneRef n :=
  laneStarts_of_search ((fbit_eq_of_fget (fget_unlocked laneCtrl_ne_status)).trans hon)
    (decide_eq_true ((fget_unlocked laneCtrl_ne_status).trans (of_decide_eq_true hsearch)))

/-- The state without what a new search for the rate changes beside registers. -/
def State.sansTop (s : State) : State :=
  { s with bus := ⟨[], [], [], []⟩, links := ⟨[], [], false, [], [], [], [], []⟩, syn := synNew, mgt := mgtNew }

theorem searchedAgain_step (hon : s.fbit (LANE_CTRL_ENABLE n) = true) (hsearch : s.searches n = true) :
    Within State.sansTop (fun _ => True) s (s.searchedAgain n) := by
  rw [searchedAgain_eq hon hsearch]
  have hstate : Within State.sansTop (fun _ => True) s
      (((s.ldecl (LANE_STATUS_BLOCK_LOCK n) 0).searchAnew n).laneState n 1) :=
    .laneState (.links (.ldecl (.ldecl .refl trivial) trivial)) trivial trivial
  exact hstate.trans (((RefStep.laneRef .refl).widen).mono fun _ _ => trivial)

theorem lget_searchedAgain (hon : s.fbit (LANE_CTRL_ENABLE n) = true) (hsearch : s.searches n = true) :
    (s.searchedAgain n).lget (LANE_STATUS_RATE_FOUND n) = 0 ∧ (s.searchedAgain n).lget (LANE_STATUS_BLOCK_LOCK n) = 0 ∧
      (s.searchedAgain n).lget (LANE_STATUS_LSTATE n) = if s.fbit (LANE_PRBS_CTRL_TX_EN n) then 5 else 1 := by
  rw [searchedAgain_eq hon hsearch, lget_laneRef, lget_laneRef, lget_laneRef, lget_laneState_lstate,
    shownState_of_ne (by decide), fbit_eq_of_fget (fget_searchAnew lanePrbsCtrl_ne_status),
    fbit_eq_of_fget (fget_unlocked lanePrbsCtrl_ne_status)]
  refine ⟨?_, ?_, by split <;> rfl⟩
  · exact (lget_laneState_apart (apart_of_bits (by decide)) (apart_of_bits (by decide))).trans lget_searchAnew_same
  · exact (lget_laneState_apart (apart_of_bits (by decide)) (apart_of_bits (by decide))).trans
      ((lget_searchAnew_apart (apart_of_bits (by decide))).trans (lget_ldecl_same s _ _ rfl))

theorem tried_searchedAgain (hon : s.fbit (LANE_CTRL_ENABLE n) = true) (hsearch : s.searches n = true) :
    (s.searchedAgain n).tried n = 3 := by
  have hlinks : (s.searchedAgain n).links = ((s.ldecl (LANE_STATUS_BLOCK_LOCK n) 0).searchAnew n).links := by
    rw [searchedAgain_eq hon hsearch]
    exact ((RefStep.laneRef .refl).proj State.links).trans (laneState_step.proj State.links)
  rw [State.tried, hlinks]
  exact tried_setTried _ n 3

theorem exec_rateSearchRestart {n : Fin 64} (hon : s.laneOn n = true) (hsearch : s.searches n = true)
    (hlink : s.link (s.portOf n) = false) (hctl : s.links.ctlRestart = false) :
    exec (.rateSearchRestart n) s = whenUp s (s.searchedAgain n) := by
  have hexec : exec (.rateSearchRestart n) s = whenUp s (if s.laneOn n.val && s.searches n.val &&
    !s.link (s.portOf n.val) && !s.links.ctlRestart then s.searchedAgain n else s) := rfl
  rw [hexec, if_pos (by simp [hon, hsearch, hlink, hctl])]

end

/-- Settles O14: the next rate, the rate found, and the search from the top. LSTATE is 5 while TX_EN is 1 by log entry
81. -/
theorem rateSearch : Obligations.RateSearch := by
  refine ⟨fun s n hup hseek hctl => ?dwell, fun s n hup hseek hctl hlock htried => ?found,
    fun s n hup hon hsearch hlink hctl => ?restart⟩
  case dwell =>
    refine ⟨_, exec_rateSearchDwell hup hseek hctl, ?_, lget_ldecl_same _ _ _ rfl, dwelt_step.keepsBut,
      dwelt_step.only (ldecl_hot _ _ _)⟩
    exact tried_dwelt.trans (nextRate_eq _)
  case found =>
    obtain ⟨t, ht, honly, hread⟩ := BringStep.exec (rateKept_step (s := s) (n := n)) hup
    refine ⟨t, (exec_rateFound hseek hctl hlock).trans ht, honly, ?_, ?_⟩
    · rw [hread, lget_rateKept_rate htried]
    · rw [hread, lget_rateKept_lstate]
  case restart =>
    obtain ⟨-, hen, -⟩ := laneOn_parts hon
    have hstep := searchedAgain_step hen hsearch
    obtain ⟨hrate, hlock, hstate⟩ := lget_searchedAgain hen hsearch
    refine ⟨_, (exec_rateSearchRestart hon hsearch hlink hctl).trans (whenUp_next_settle hup (hstep.proj
      State.pending)), ?_, ?_, ?_⟩
    · have hsettled : Within State.sansTop (fun _ => True) s (settle s (s.searchedAgain n)) := hstep.settle
      generalize settle s (s.searchedAgain n) = t at hsettled
      exact congrArg (fun u : State => { u with
        regs := t.regs, hot := t.hot, bus := t.bus, links := t.links, syn := t.syn, mgt := t.mgt }) hsettled.bare_eq
    · rw [State.tried, settle_links]
      exact tried_searchedAgain hen hsearch
    · rw [lget_settle, lget_settle, lget_settle]
      exact ⟨hrate, hlock, hstate⟩

end Sys2Proof.Machine

/-! # Bring-up of a lane (04 R111, R115) -/

namespace Sys2Proof.Machine

set_option Elab.async false

section
variable {s t : State} {n : Nat}

/-! ## Signal and receive clock -/

theorem exec_signalPresent_data {n : Fin 64} (hon : s.laneOn n = true) :
    exec (.signalPresent (.data n)) s = whenUp s ((s.ldecl (LANE_STATUS_SIGNAL n) 1).laneRef n) := by
  have hexec : exec (.signalPresent (.data n)) s =
      whenUp s (if s.laneOn n.val then (s.ldecl (LANE_STATUS_SIGNAL n) 1).laneRef n else s) := rfl
  rw [hexec, if_pos hon]

theorem signalPresent_step : BringStep s ((s.ldecl (LANE_STATUS_SIGNAL n) 1).laneRef n) :=
  BringStep.laneRef (.ldecl .refl trivial)

theorem exec_signalPresent_clock {k : Fin 16} (hup : s.up = true) (hon : s.clklOn k = true) :
    exec (.signalPresent (.clock k)) s = .next (s.fon (CLKL_ALIGN_STATUS_SIGNAL k)) := by
  have hexec : exec (.signalPresent (.clock k)) s =
      whenUp s (if s.clklOn k.val then s.fon (CLKL_ALIGN_STATUS_SIGNAL k.val) else s) := rfl
  rw [hexec, if_pos hon]
  exact whenUp_next_link hup (keepsBut_fon _ (List.mem_singleton_self _) rfl (keepsBut_refl _ _))
    (List.forall_mem_singleton.mpr (linkKey_clklAlignStatus k))

theorem exec_cdrLockAcquired_clock {k : Fin 16} (hup : s.up = true) (hon : s.clklOn k = true)
    (hsig : s.fget (CLKL_ALIGN_STATUS_SIGNAL k) = 1) :
    exec (.cdrLockAcquired (.clock k)) s = .next (s.fon (CLKL_ALIGN_STATUS_RX_LOCK k)) := by
  have hexec : exec (.cdrLockAcquired (.clock k)) s =
      whenUp s (if s.clklOn k.val && s.fbit (CLKL_ALIGN_STATUS_SIGNAL k.val)
      then s.fon (CLKL_ALIGN_STATUS_RX_LOCK k.val) else s) := rfl
  rw [hexec, if_pos (by simp [hon, fbit_of_fget_one hsig])]
  exact whenUp_next_link hup (keepsBut_fon _ (List.mem_singleton_self _) rfl (keepsBut_refl _ _))
    (List.forall_mem_singleton.mpr (linkKey_clklAlignStatus k))

/-- One write to LANE_STATUS that waited for the receive clock. -/
def State.carryWord (n : Nat) (u : State) (w : Nat × Word) : State :=
  let u := if bitOf w.2.toNat 15 then u.lset (LANE_STATUS_LINK_DOWN_SEEN n) 0 else u
  if bitOf w.2.toNat 14 then u.lset (LANE_STATUS_LOS_SEEN n) 0 else u

theorem carryWord_step {K : Fld → Prop} {w : Nat × Word} (h : LaneStep K s t) :
    LaneStep K s (State.carryWord n t w) := by
  unfold State.carryWord
  extract_lets u
  have hu : LaneStep K s u := .ite h.lset h
  exact .ite hu.lset hu

theorem lget_carryWord {g : Fld} {w : Nat × Word} (hdown : g.apart (LANE_STATUS_LINK_DOWN_SEEN n) = true)
    (hlos : g.apart (LANE_STATUS_LOS_SEEN n) = true) : (State.carryWord n s w).lget g = s.lget g := by
  unfold State.carryWord
  split <;> split
  · rw [lget_lset_apart _ _ _ _ rfl hlos, lget_lset_apart _ _ _ _ rfl hdown]
  · exact lget_lset_apart _ _ _ _ rfl hdown
  · exact lget_lset_apart _ _ _ _ rfl hlos
  · rfl

/-- Carried writes change the receive domain alone. -/
theorem carryLane_step {K : Fld → Prop} : LaneStep K s (s.carryLane n) :=
  Within.foldl (g := State.carryWord n) (.bus .refl) fun _ _ _ hu => carryWord_step hu

theorem lget_carryLane {g : Fld} (hdown : g.apart (LANE_STATUS_LINK_DOWN_SEEN n) = true)
    (hlos : g.apart (LANE_STATUS_LOS_SEEN n) = true) : (s.carryLane n).lget g = s.lget g := by
  unfold State.carryLane
  extract_lets mine _ u
  have hu : u.lget g = s.lget g := lget_congr rfl rfl g
  exact List.foldlRecOn (motive := fun v => v.lget g = s.lget g) mine (State.carryWord n) hu fun v hv w _ =>
    (lget_carryWord hdown hlos).trans hv

/-- The receive clock of a lane runs, and writes that waited for it are carried over where its crossings are
released. -/
def State.clocked (s : State) (n : Nat) : State :=
  let t := s.ldecl (LANE_STATUS_CDR_LOCK n) 1
  (if t.laneInvalid n then t else t.carryLane n).laneRef n

theorem clocked_step : BringStep s (s.clocked n) := by
  have hlock : BringStep s (s.ldecl (LANE_STATUS_CDR_LOCK n) 1) := .ldecl .refl trivial
  exact BringStep.laneRef (.ite hlock (hlock.trans carryLane_step.widen))

theorem lget_clocked : (s.clocked n).lget (LANE_STATUS_CDR_LOCK n) = 1 := by
  have hlock : (s.ldecl (LANE_STATUS_CDR_LOCK n) 1).lget (LANE_STATUS_CDR_LOCK n) = 1 := lget_ldecl_same _ _ _ rfl
  unfold State.clocked
  rw [lget_laneRef]
  split
  · exact hlock
  · exact (lget_carryLane (apart_of_bits (by decide)) (apart_of_bits (by decide))).trans hlock

theorem exec_cdrLockAcquired_data {n : Fin 64} (hon : s.laneOn n = true) (hsig : s.lget (LANE_STATUS_SIGNAL n) = 1) :
    exec (.cdrLockAcquired (.data n)) s = whenUp s (s.clocked n) := by
  have hexec : exec (.cdrLockAcquired (.data n)) s =
      whenUp s (if s.laneOn n.val && s.lbit (LANE_STATUS_SIGNAL n.val) then s.clocked n else s) := rfl
  rw [hexec, if_pos (by simp [hon, lbit_of_lget hsig])]

/-! ## Block lock -/

/-- A lane has block lock, and a single-lane port detects no Local Fault any more. -/
def State.blockLocked (s : State) (n : Nat) : State :=
  let t := (s.ldecl (LANE_STATUS_BLOCK_LOCK n) 1).lset (LANE_STATUS_HI_BER n) 0
  if s.group4 n then t else t.foff (PORT_STATUS_LF n)

theorem blockLocked_step : LaneStep (· ∈ [LANE_STATUS_BLOCK_LOCK n, PORT_STATUS_LF n]) s (s.blockLocked n) := by
  unfold State.blockLocked
  extract_lets t
  have ht : LaneStep (· ∈ [LANE_STATUS_BLOCK_LOCK n, PORT_STATUS_LF n]) s t := .lset (.ldecl .refl (by simp))
  exact .ite ht (ht.foff (by simp))

theorem blockLocked_hot : (s.blockLocked n).hot = s.hot := by
  unfold State.blockLocked
  split
  · exact (lset_hot _ _ _).trans (ldecl_hot s _ _)
  · exact (fset_hot _ _ _).trans ((lset_hot _ _ _).trans (ldecl_hot s _ _))

theorem lget_blockLocked {g : Fld} (h : g.apart (LANE_STATUS_HI_BER n) = true) :
    (s.blockLocked n).lget g = (s.ldecl (LANE_STATUS_BLOCK_LOCK n) 1).lget g := by
  unfold State.blockLocked
  split
  · exact lget_lset_apart _ _ _ _ rfl h
  · exact (lget_fset _ _ _ _).trans (lget_lset_apart _ _ _ _ rfl h)

theorem lget_blockLocked_hiBer : (s.blockLocked n).lget (LANE_STATUS_HI_BER n) = 0 := by
  unfold State.blockLocked
  split
  · exact lget_lset_same _ _ _ rfl
  · exact (lget_fset _ _ _ _).trans (lget_lset_same _ _ _ rfl)

/-- The lane controller's fields of another register are as before. -/
theorem fget_blockLocked {f : Fld} (hlane : f.key ≠ LANE_STATUS n) (hport : f.key ≠ PORT_STATUS n) :
    (s.blockLocked n).fget f = s.fget f :=
  blockLocked_step.keeps f (by simpa using ⟨apart_of_key hlane, apart_of_key hport⟩)

theorem txEn_blockLocked : (s.blockLocked n).fget (LANE_PRBS_CTRL_TX_EN n) = s.fget (LANE_PRBS_CTRL_TX_EN n) :=
  fget_blockLocked lanePrbsCtrl_ne_status (by
    show LANE_PRBS_CTRL n ≠ PORT_STATUS n
    unfold LANE_PRBS_CTRL PORT_STATUS
    omega)

/-- A lane that is on stays so while the blocks of the device and its LANE_CTRL stay as they are. -/
theorem LaneStep.laneOn {K : Fld → Prop} (h : LaneStep K s t)
    (hen : t.fget (LANE_CTRL_ENABLE n) = s.fget (LANE_CTRL_ENABLE n)) : t.laneOn n = s.laneOn n := by
  simp only [State.laneOn, State.hasLane, State.inService, State.up, fbit_eq_of_fget hen, h.proj State.part,
    h.proj State.life, h.proj State.power, h.proj State.mgt]

/-- A lane that has its rate is not seeking when its block lock changes. -/
theorem seeking_blockLocked : (s.blockLocked n).seeking n = s.seeking n := by
  have hctrl : ∀ f : Fld, f.key = LANE_CTRL n → (s.blockLocked n).fget f = s.fget f := fun f hf =>
    fget_blockLocked (by rw [hf]; exact laneCtrl_ne_status) (by rw [hf]; unfold LANE_CTRL PORT_STATUS; omega)
  have hfound : (s.blockLocked n).lget (LANE_STATUS_RATE_FOUND n) = s.lget (LANE_STATUS_RATE_FOUND n) :=
    (lget_blockLocked (apart_of_bits (by decide))).trans (lget_ldecl_apart _ _ _ _ rfl (apart_of_bits (by decide)))
  rw [State.seeking, State.seeking, State.searches, State.searches, blockLocked_step.laneOn (hctrl _ rfl),
    hctrl _ rfl, hfound]

end

end Sys2Proof.Machine

/-! # Copies move in and out of queues (07 R214, R216, R223, R236) -/

namespace Sys2Proof.Machine

set_option Elab.async false

/-- A field that the moves of copies change: the state of the spill store, or of a queue. -/
def queueFld (f : Fld) : Prop :=
  f.key = BUF_PEAT_STATUS ∨ ∃ n q, f.key = BUF_Q_OCC_PEAT n q ∨ f.key = BUF_Q_DROP n q ∨ f.key = BUF_Q_DROP_CAUSE n q

theorem queueFld_full : queueFld BUF_PEAT_STATUS_FULL_SEEN := .inl rfl
theorem queueFld_pendFull : queueFld BUF_PEAT_STATUS_PEND_FULL_SEEN := .inl rfl
theorem queueFld_spilling (n q : Nat) : queueFld (BUF_Q_OCC_PEAT_SPILLING n q) := .inr ⟨n, q, .inl rfl⟩
theorem queueFld_drop (n q : Nat) : queueFld (BUF_Q_DROP_DROP n q) := .inr ⟨n, q, .inr (.inl rfl)⟩
theorem queueFld_cause (n q : Nat) : queueFld (BUF_Q_DROP_CAUSE_CAUSE n q) := .inr ⟨n, q, .inr (.inr rfl)⟩

/-- The queues' registers lie in block BUF. -/
theorem queueFld_high {f : Fld} (h : queueFld f) : BUF_POOL_CFG0 ≤ f.key := by
  rcases h with h | ⟨n, q, h | h | h⟩ <;> rw [h] <;>
    simp only [BUF_POOL_CFG0, BUF_PEAT_STATUS, BUF_Q_OCC_PEAT, BUF_Q_DROP, BUF_Q_DROP_CAUSE] <;> omega

/-- They hold none of the conditions: the queues' registers come every 64 bytes. -/
theorem condKeys_ne_queue {f : Fld} {k : Nat} (hk : k ∈ condKeys) (h : queueFld f) : k ≠ f.key := by
  simp only [condKeys, List.mem_cons, List.not_mem_nil, or_false] at hk
  rcases h with h | ⟨n, q, h | h | h⟩ <;> rw [h] <;> rcases hk with rfl | rfl | rfl | rfl <;>
    simp only [GLB_PWR_STATUS, HRT_STATUS, CAL_STATUS, GLB_STATUS, BUF_PEAT_STATUS, BUF_Q_OCC_PEAT, BUF_Q_DROP,
      BUF_Q_DROP_CAUSE] <;> omega

/-- No copy, buffer or pool: what a state is compared without where copies have moved. -/
def bufNone : BufState := ⟨[], [], [], [], [], [], [], [], [], [], false⟩

/-- The state without its buffers and queues. -/
def State.sansBuf (s : State) : State := { s with buf := bufNone }

/-- From s to t copies have moved in and out of queues. -/
abbrev QueueStep (s t : State) : Prop := Within State.sansBuf queueFld s t

namespace QueueStep
section
variable {s t : State} {n q k v : Nat} {c : DropCause} {cs : List Copy}

theorem setCredit {x : Int} (h : QueueStep s t) : QueueStep s (t.setCredit n q x) := h.buf

theorem credit (h : QueueStep s t) : QueueStep s (t.credit n) := by
  unfold State.credit
  extract_lets dt u
  have hu : QueueStep s u := h.foldl fun _ _ _ hw => .ite (setCredit hw) hw
  exact hu.buf

theorem accrue (h : QueueStep s t) : QueueStep s (t.accrue n) := .ite (credit h) h

theorem setTx {x : Option TxCopy} (h : QueueStep s t) : QueueStep s (t.setTx n x) :=
  Within.buf (t := t.accrue n) (accrue h)

theorem setDeficit (h : QueueStep s t) : QueueStep s (t.setDeficit n q v) := h.buf

theorem emptied (h : QueueStep s t) : QueueStep s (t.emptied n q) := setCredit (setDeficit h)

theorem setQueue (h : QueueStep s t) : QueueStep s (t.setQueue n q cs) := by
  unfold State.setQueue
  extract_lets u _ w
  have hw : QueueStep s w := Within.buf (t := u) (accrue h)
  exact .ite (emptied hw) hw

theorem setPool {p : PoolSt} (h : QueueStep s t) : QueueStep s (t.setPool n p) := h.buf

theorem setBuf {b : Buf} (h : QueueStep s t) : QueueStep s (t.setBuf k b) := h.buf

theorem takeRef (h : QueueStep s t) : QueueStep s (t.takeRef k) := setBuf h

theorem dropRef (h : QueueStep s t) : QueueStep s (t.dropRef k) := .ite (setPool (setBuf h)) (setBuf h)

theorem countDrop (h : QueueStep s t) : QueueStep s (t.countDrop n q c) := by
  unfold State.countDrop
  exact (h.fwrap (queueFld_drop n q)).fset (queueFld_cause n q)

theorem append {x : Copy} (h : QueueStep s t) : QueueStep s (t.append n q k x) := takeRef (setQueue h)

theorem place {i : FrameInfo} {ct : Bool} (h : QueueStep s t) : QueueStep s (t.place n q k i ct) := by
  unfold State.place
  extract_lets pool u
  have hu : QueueStep s u := append (h.fon (queueFld_spilling n q))
  exact .ite (.ite (countDrop h) (.ite (countDrop (h.fon queueFld_full))
    (.ite (countDrop (h.fon queueFld_pendFull)) hu.buf))) (append h)

theorem endSpilling (h : QueueStep s t) : QueueStep s (t.endSpilling n q) := .ite h (h.foff (queueFld_spilling n q))

theorem releaseAll (h : QueueStep s t) : QueueStep s (t.releaseAll cs) := by
  refine h.foldl fun u c _ hu => ?_
  split
  · exact dropRef hu
  · exact hu

theorem removeCopies {p : Copy → Bool} (h : QueueStep s t) : QueueStep s (t.removeCopies n q p).1 := by
  unfold State.removeCopies
  extract_lets copies keep rest gone u waits pend _ w
  have hw : QueueStep s w := Within.buf (t := u) (setQueue h)
  exact endSpilling (releaseAll hw)

theorem dropCopies {p : Copy → Bool} (h : QueueStep s t) : QueueStep s (t.dropCopies n q p c) :=
  (removeCopies h).foldl fun _ _ _ => countDrop

theorem flushQueues (h : QueueStep s t) : QueueStep s (t.flushQueues n) := h.foldl fun _ _ _ => dropCopies

theorem flushPort (h : QueueStep s t) : QueueStep s (t.flushPort n) := flushQueues (setTx h)

end
end QueueStep

/-! ## The residue is judged again (05 R161) -/

/-- The state without its residue, buffers and queues. -/
def State.sansResidue (s : State) : State := { s with fwd := ⟨[], none, [], [], [], [], [], [], []⟩, buf := bufNone }

/-- From s to t copies have moved out of the residue and in and out of queues. -/
abbrev ResidueStep (K : Fld → Prop) (s t : State) : Prop := Within State.sansResidue K s t

theorem rejudgeCopy_step {s t : State} {c : ResCopy} (h : ResidueStep queueFld s t) :
    ResidueStep queueFld s (t.rejudgeCopy c) := by
  refine .ite ?_ h
  have hfwd : ResidueStep queueFld s { t with fwd := { t.fwd with residue := t.fwd.residue.erase c } } := h.fwd
  exact hfwd.trans (QueueStep.dropRef (QueueStep.place .refl)).widen

theorem rejudge_step {s : State} : ResidueStep queueFld s s.rejudge :=
  Within.foldl .refl fun _ _ _ => rejudgeCopy_step

end Sys2Proof.Machine

/-! # The link of a port comes up (04 R108, R115, R117) -/

namespace Sys2Proof.Machine

set_option Elab.async false

section
variable {sans : State → State} {K : Fld → Prop} {s t : State} {n p : Nat}

theorem Within.getReg {k : Nat} (h : Within sans K s t) (hk : ∀ f, K f → k ≠ f.key) : t.getReg k = s.getReg k := by
  rw [← fget_word, ← fget_word]
  exact h.keeps _ fun f hf => apart_of_key (hk f hf)

/-- An update of fields outside the registers of the conditions begins no condition. -/
theorem Within.settle_eq (h : Within sans K s t) (hK : ∀ k ∈ condKeys, ∀ f, K f → k ≠ f.key)
    (hm : ∀ u : State, (sans u.bare).mgt = u.mgt := by intro _; rfl) : Sys2Proof.Machine.settle s t = t :=
  settle_of_same s t (alarmConds_of_condKeys (fun k hk => h.getReg (hK k hk)) (h.proj State.mgt hm))

/-! ## Every lane of the port is UP -/

/-- A lane is UP, without high bit error rate. -/
def State.laneUp (s : State) (n : Nat) : State := (s.laneState n 4).lset (LANE_STATUS_HI_BER n) 0

theorem laneUp_step (h : LaneStep K s t) (hst : K (LANE_STATUS_LSTATE n)) (hseen : K (LANE_STATUS_LINK_DOWN_SEEN n)) :
    LaneStep K s (t.laneUp n) := (h.laneState hst hseen).lset

theorem lget_laneUp_same (h : s.fbit (LANE_PRBS_CTRL_TX_EN n) = false) :
    (s.laneUp n).lget (LANE_STATUS_LSTATE n) = 4 := by
  have hhi : (s.laneUp n).lget (LANE_STATUS_LSTATE n) = (s.laneState n 4).lget (LANE_STATUS_LSTATE n) :=
    lget_lset_apart _ _ _ _ rfl (apart_of_bits (by decide))
  rw [hhi, lget_laneState_lstate, shownState_of_off h]

theorem lget_laneUp_ne {m : Nat} (h : n ≠ m) :
    (s.laneUp m).lget (LANE_STATUS_LSTATE n) = s.lget (LANE_STATUS_LSTATE n) := by
  have hkey : LANE_STATUS n ≠ LANE_STATUS m := by unfold LANE_STATUS; omega
  exact (lget_lset_apart _ _ _ _ rfl (apart_of_key hkey)).trans
    (lget_laneState_apart (apart_of_key hkey) (apart_of_key hkey))

theorem lanePrbsCtrl_ne_anyStatus (n m : Nat) : LANE_PRBS_CTRL n ≠ LANE_STATUS m := by
  unfold LANE_PRBS_CTRL LANE_STATUS; omega

theorem txEn_laneUp (m : Nat) : (s.laneUp m).fbit (LANE_PRBS_CTRL_TX_EN n) = s.fbit (LANE_PRBS_CTRL_TX_EN n) :=
  fbit_eq_of_fget ((fget_lset _ _ _ _).trans (fget_laneState_of_key (lanePrbsCtrl_ne_anyStatus n m)))

/-- A lane that is UP stays so while lanes come up. -/
theorem lget_lanesUp_keeps {l : List Nat} (htx : s.fbit (LANE_PRBS_CTRL_TX_EN n) = false)
    (h : s.lget (LANE_STATUS_LSTATE n) = 4) : (l.foldl State.laneUp s).lget (LANE_STATUS_LSTATE n) = 4 := by
  induction l generalizing s with
  | nil => exact h
  | cons m l ih =>
    refine ih ((txEn_laneUp m).trans htx) ?_
    by_cases hm : n = m
    · subst hm
      exact lget_laneUp_same htx
    · exact (lget_laneUp_ne hm).trans h

theorem lget_lanesUp {l : List Nat} (htx : ∀ n ∈ l, s.fbit (LANE_PRBS_CTRL_TX_EN n) = false) :
    ∀ n ∈ l, (l.foldl State.laneUp s).lget (LANE_STATUS_LSTATE n) = 4 := by
  induction l generalizing s with
  | nil => exact fun _ hn => absurd hn List.not_mem_nil
  | cons m l ih =>
    intro n hn
    rcases List.mem_cons.mp hn with rfl | hl
    · exact lget_lanesUp_keeps (s := s.laneUp n) (l := l) ((txEn_laneUp n).trans (htx n hn))
        (lget_laneUp_same (htx n hn))
    · exact ih (fun k hk => (txEn_laneUp m).trans (htx k (List.mem_cons_of_mem _ hk))) n hl

/-! ## The port -/

/-- The lanes of a port in use are lanes of the device. -/
theorem lanesOf_lt {n : Nat} {p : Fin 64} (h : n ∈ s.lanesOf p) : n < 64 := by
  unfold State.lanesOf at h
  split at h
  · split at h
    · simp only [List.mem_cons, List.not_mem_nil, or_false] at h
      omega
    · exact absurd h List.not_mem_nil
  · rw [List.mem_singleton.mp h]
    exact p.isLt

/-- The link is shown, and no fault. -/
def State.linkShown (s : State) (p : Nat) : State :=
  ((s.foff (PORT_STATUS_LF p)).foff (PORT_STATUS_RF p)).fon (PORT_STATUS_LINK p)

theorem fget_linkShown : (s.linkShown p).fget (PORT_STATUS_LINK p) = 1 ∧ (s.linkShown p).fget (PORT_STATUS_LF p) = 0 ∧
    (s.linkShown p).fget (PORT_STATUS_RF p) = 0 := by
  refine ⟨fget_fon_same _ _ rfl Nat.one_pos, ?_, ?_⟩
  · exact (fget_fon_apart _ _ _ rfl (apart_of_bits (by decide))).trans
      ((fget_foff_apart _ _ _ rfl (apart_of_bits (by decide))).trans (fget_foff_same _ _ rfl))
  · exact (fget_fon_apart _ _ _ rfl (apart_of_bits (by decide))).trans (fget_foff_same _ _ rfl)

/-- Whether the markers are locked, and auto-negotiation is done. -/
def State.modesShown (s : State) (p : Nat) (deskew an : Bool) : State :=
  (s.fput (PORT_STATUS_DESKEW_OK p) deskew).fput (PORT_STATUS_AN_DONE p) an

theorem fget_modesShown {g : Fld} {deskew an : Bool} (hd : g.apart (PORT_STATUS_DESKEW_OK p) = true)
    (ha : g.apart (PORT_STATUS_AN_DONE p) = true) : (s.modesShown p deskew an).fget g = s.fget g :=
  (fget_fset_apart _ _ _ _ rfl ha).trans (fget_fset_apart _ _ _ _ rfl hd)

/-- A port's status is no part of the receive domain. -/
theorem lget_shown {deskew an : Bool} (g : Fld) : ((s.linkShown p).modesShown p deskew an).lget g = s.lget g := by
  have hmodes : ((s.linkShown p).modesShown p deskew an).lget g = (s.linkShown p).lget g :=
    (lget_fset _ _ _ _).trans (lget_fset _ _ _ _)
  exact hmodes.trans ((lget_fon _ _ _).trans ((lget_fset _ _ _ _).trans (lget_fset _ _ _ _)))

/-- The lanes are UP and the port shows its link, without fault. -/
def State.portLinked (s : State) (p : Nat) : State :=
  (((s.lanesOf p).foldl State.laneUp s).linkShown p).modesShown p (s.group4 p)
    (decide (s.portType p = 1) && s.fbit (PORT_MODE_AN37 p))

theorem portLinked_step {p : Fin 64} : LaneStep (fun f => linkKey f.key) s (s.portLinked p) := by
  have hlanes : LaneStep (fun f => linkKey f.key) s ((s.lanesOf p).foldl State.laneUp s) :=
    Within.foldl .refl fun u n hn hu =>
      laneUp_step hu (linkKey_laneStatus ⟨n, lanesOf_lt hn⟩) (linkKey_laneStatus ⟨n, lanesOf_lt hn⟩)
  have hp := linkKey_portStatus p
  have hshown : LaneStep (fun f => linkKey f.key) s (((s.lanesOf p).foldl State.laneUp s).linkShown p) :=
    ((hlanes.foff hp).foff hp).fon hp
  exact (hshown.fput hp).fput hp

theorem lget_portLinked (htx : ∀ n ∈ s.lanesOf p, s.fbit (LANE_PRBS_CTRL_TX_EN n) = false) :
    ∀ n ∈ s.lanesOf p, (s.portLinked p).lget (LANE_STATUS_LSTATE n) = 4 := fun n hn =>
  (lget_shown _).trans (lget_lanesUp htx n hn)

theorem fget_portLinked : (s.portLinked p).fget (PORT_STATUS_LINK p) = 1 ∧
    (s.portLinked p).fget (PORT_STATUS_LF p) = 0 ∧ (s.portLinked p).fget (PORT_STATUS_RF p) = 0 := by
  unfold State.portLinked
  rw [fget_modesShown (g := PORT_STATUS_LINK p) (apart_of_bits (by decide)) (apart_of_bits (by decide)),
    fget_modesShown (g := PORT_STATUS_LF p) (apart_of_bits (by decide)) (apart_of_bits (by decide)),
    fget_modesShown (g := PORT_STATUS_RF p) (apart_of_bits (by decide)) (apart_of_bits (by decide))]
  exact fget_linkShown

/-- The state without the receive domain, the residue, buffers and queues. -/
def State.sansUp (s : State) : State := { s.sansResidue with bus := ⟨[], [], [], []⟩ }

theorem linkUp_step {p : Fin 64} :
    Within State.sansUp (fun f => linkKey f.key ∨ queueFld f) s (s.portLinked p).rejudge :=
  (portLinked_step.widen.mono fun _ h => .inl h).trans (rejudge_step.widen.mono fun _ h => .inr h)

theorem exec_linkUp {p : Fin 64} (hup : s.up = true) (hready : s.portReady p = true) :
    exec (.linkUp p) s = .next (s.portLinked p).rejudge := by
  have hexec : exec (.linkUp p) s = whenUp s (if s.portReady p.val then (s.portLinked p).rejudge else s) := rfl
  have hcond : ∀ k ∈ condKeys, ∀ f, (linkKey f.key ∨ queueFld f) → k ≠ f.key := fun k hk f hf =>
    hf.elim (condKeys_ne_link hk) (condKeys_ne_queue hk)
  rw [hexec, if_pos hready, whenUp_next_settle hup (linkUp_step.proj State.pending), linkUp_step.settle_eq hcond]

theorem fget_rejudge_low {f : Fld} (h : f.key < BUF_POOL_CFG0) : s.rejudge.fget f = s.fget f :=
  rejudge_step.keeps f fun _ hg => apart_of_key (Nat.ne_of_lt (Nat.lt_of_lt_of_le h (queueFld_high hg)))

theorem lget_rejudge (g : Fld) : s.rejudge.lget g = s.lget g :=
  lget_congr (rejudge_step.proj State.part) (rejudge_step.proj State.bus) g

theorem Within.up_only (h : Within State.sansUp K s t) :
    t = { s with regs := t.regs, hot := t.hot, bus := t.bus, fwd := t.fwd, buf := t.buf } :=
  congrArg (fun u : State => { u with regs := t.regs, hot := t.hot, bus := t.bus, fwd := t.fwd, buf := t.buf })
    h.bare_eq

theorem portReady_txEn (h : s.portReady p = true) :
    ∀ n ∈ s.lanesOf p, s.fbit (LANE_PRBS_CTRL_TX_EN n) = false := by
  simp only [State.portReady, Bool.and_eq_true, List.all_eq_true] at h
  intro n hn
  have hn := h.2 n hn
  simp only [State.laneReady, Bool.and_eq_true] at hn
  simpa using hn.2

end

/-! ## The offset of the receive clock (04 R111) -/

theorem signedOf_wrapTo {i : Int} (hlo : -32768 ≤ i) (hhi : i ≤ 32767) : signedOf 16 (wrapTo 16 i) = i := by
  unfold signedOf wrapTo
  norm_num
  split <;> omega

theorem wrapTo_lt (i : Int) : wrapTo 16 i < 2 ^ 16 := by
  unfold wrapTo
  norm_num
  omega

section
variable {s : State}

theorem exec_freqOfsUpdate {n : Fin 64} {ofs : Int} (hup : s.up = true) (hon : s.laneOn n = true)
    (hclock : s.laneClock n = true) (hlo : -32767 ≤ ofs) (hhi : ofs ≤ 32767) :
    exec (.freqOfsUpdate n ofs) s = .next (s.lset (LANE_STATUS_FREQ_OFS n) (wrapTo 16 ofs)) := by
  have hexec : exec (.freqOfsUpdate n ofs) s = whenUp s (if s.laneOn n.val && s.laneClock n.val then
    s.lset (LANE_STATUS_FREQ_OFS n.val) (wrapTo 16 (max (-32767) (min 32767 ofs))) else s) := rfl
  rw [hexec, if_pos (by simp [hon, hclock]), whenUp_up hup, Int.min_eq_right hhi, Int.max_eq_right hlo]
  exact done_plain _ _ rfl rfl rfl

theorem signedOf_freqOfs {n : Nat} {ofs : Int} (hlo : -32767 ≤ ofs) (hhi : ofs ≤ 32767) :
    signedOf 16 ((s.lset (LANE_STATUS_FREQ_OFS n) (wrapTo 16 ofs)).lget (LANE_STATUS_FREQ_OFS n)) = ofs := by
  rw [lget_lset_same _ _ _ rfl]
  exact (congrArg (signedOf 16) (Nat.mod_eq_of_lt (wrapTo_lt ofs))).trans (signedOf_wrapTo (by omega) hhi)

/-! ## Block lock of a lane that has its rate (04 R115) -/

theorem lockedState_step {n : Nat} :
    LaneStep (· ∈ [LANE_STATUS_BLOCK_LOCK n, PORT_STATUS_LF n] ++ laneStateFields n) s
      ((s.blockLocked n).laneState n 3) :=
  (blockLocked_step.mono fun _ h => List.mem_append_left _ h).trans
    (laneState_step.mono fun _ h => List.mem_append_right _ h)

theorem laneState_hot (s : State) (n st : Nat) : (s.laneState n st).hot = s.hot := by
  rw [laneState_eq, ldecl_hot]
  split
  · exact ldecl_hot _ _ _
  · rfl

theorem exec_blockLockAcquired {n : Fin 64} (hup : s.up = true) (hon : s.laneOn n = true)
    (hclock : s.laneClock n = true)
    (hseek : s.seeking n = false) (htx : s.fbit (LANE_PRBS_CTRL_TX_EN n) = false) :
    exec (.blockLockAcquired n) s = .next ((s.blockLocked n).laneState n 3) := by
  have hexec : exec (.blockLockAcquired n) s = whenUp s (if s.laneOn n.val && s.laneClock n.val then
    (if (s.blockLocked n).seeking n || (s.blockLocked n).fbit (LANE_PRBS_CTRL_TX_EN n) then s.blockLocked n
      else (s.blockLocked n).laneState n 3) else s) := rfl
  have htx' : (s.blockLocked n).fbit (LANE_PRBS_CTRL_TX_EN n) = false :=
    (fbit_eq_of_fget (txEn_blockLocked)).trans htx
  rw [hexec, if_pos (by simp [hon, hclock]), if_neg (by simp [seeking_blockLocked, hseek, htx'])]
  refine lockedState_step.next_link hup ?_
  have hlane := linkKey_laneStatus n
  have hport := linkKey_portStatus n
  simp only [laneStateFields, List.cons_append, List.nil_append, List.forall_mem_cons, List.not_mem_nil,
    false_implies, implies_true, and_true]
  exact ⟨hlane, hport, hlane, hlane⟩

end

end Sys2Proof.Machine

namespace Sys2Proof.Machine

set_option Elab.async false

/-- Settles O15: signal, receive clock and block lock of a lane, the link of its port, and the offset of its clock. -/
theorem lanesComeUp : Obligations.LanesComeUp := by
  refine ⟨fun s n hup hon => ?signal, fun s k hup hon => ?signalClock, fun s n hup hon hsig => ?clock,
    fun s k hup hon hsig => ?clockClock, fun s n hup hon hclock hseek htx => ?lock, fun s p hup hready => ?link,
    fun s n ofs hup hon hclock hlo hhi => ?offset⟩
  case signal =>
    obtain ⟨t, ht, honly, hread⟩ := BringStep.exec (signalPresent_step (s := s) (n := n)) hup
    refine ⟨t, (exec_signalPresent_data hon).trans ht, honly, ?_⟩
    rw [hread, lget_laneRef, lget_ldecl_same _ _ _ rfl]
    rfl
  case signalClock =>
    exact ⟨_, exec_signalPresent_clock hup hon, fget_fon_same _ _ rfl Nat.one_pos,
      keepsBut_fon _ (List.mem_singleton_self _) rfl (keepsBut_refl _ _), rfl⟩
  case clock =>
    obtain ⟨t, ht, honly, hread⟩ := BringStep.exec (clocked_step (s := s) (n := n)) hup
    exact ⟨t, (exec_cdrLockAcquired_data hon hsig).trans ht, honly, (hread _).trans lget_clocked⟩
  case clockClock =>
    exact ⟨_, exec_cdrLockAcquired_clock hup hon hsig, fget_fon_same _ _ rfl Nat.one_pos,
      keepsBut_fon _ (List.mem_singleton_self _) rfl (keepsBut_refl _ _), rfl⟩
  case lock =>
    have hstate := txEn_blockLocked (s := s) (n := n)
    refine ⟨_, exec_blockLockAcquired hup hon hclock hseek htx, ?_, ?_, ?_, ?_⟩
    · exact (lget_laneState_apart (apart_of_bits (by decide)) (apart_of_bits (by decide))).trans
        ((lget_blockLocked (apart_of_bits (by decide))).trans (lget_ldecl_same _ _ _ rfl))
    · exact (lget_laneState_apart (apart_of_bits (by decide)) (apart_of_bits (by decide))).trans lget_blockLocked_hiBer
    · rw [lget_laneState_lstate, shownState_of_off ((fbit_eq_of_fget hstate).trans htx)]
    · exact lockedState_step.only_unmarked ((laneState_hot _ _ _).trans blockLocked_hot)
  case link =>
    obtain ⟨hlink, hlf, hrf⟩ := fget_portLinked (s := s) (p := p)
    have hlow : ∀ f : Fld, f.key = PORT_STATUS p → f.key < BUF_POOL_CFG0 := fun f hf => by
      rw [hf]; unfold PORT_STATUS BUF_POOL_CFG0; omega
    refine ⟨_, exec_linkUp hup hready, fbit_of_fget_one ?_, ?_, ?_, ?_, ?_⟩
    · exact (fget_rejudge_low (hlow _ rfl)).trans hlink
    · exact (fget_rejudge_low (hlow _ rfl)).trans hlf
    · exact (fget_rejudge_low (hlow _ rfl)).trans hrf
    · intro n hn
      rw [lget_rejudge]
      exact lget_portLinked (portReady_txEn hready) n hn
    · exact linkUp_step.up_only
  case offset =>
    exact ⟨_, exec_freqOfsUpdate hup hon hclock hlo hhi, signedOf_freqOfs hlo hhi, rfl⟩

end Sys2Proof.Machine

/-! # Trunks come and go (04 R125, 09 R280 to R287) -/

namespace Sys2Proof.Machine

set_option Elab.async false

/-- The state without what the rise and the fall of a trunk change beside registers. -/
def State.sansTrunk (s : State) : State :=
  { s with time := ⟨0, 0, 0, 0, false, 0, [], []⟩, trunk := trunkNew, syn := synNew, mgt := mgtNew }

/-- From s to t a trunk has risen or fallen: of the registers those of block TIME and above follow. -/
abbrev TrunkStep (s t : State) : Prop := Within State.sansTrunk upperFld s t

theorem lossFields_upper : ∀ f ∈ lossFields, upperFld f := by decide

theorem NoStep.trunkStep {fs : List Fld} {s t : State} (h : NoStep fs s t) (hfs : ∀ f ∈ fs, upperFld f) :
    TrunkStep s t :=
  ⟨(congrArg (fun u : State => u.bare.sansTrunk) h.only).trans rfl, fun g hg => h.keeps g fun f hf => hg f (hfs f hf)⟩

namespace TrunkStep
section
variable {s t : State} {k : Nat} {m : TimeMode} {r : Nat × Nat} {history masterChange : Bool}

theorem of_ref {u : State} (h : TrunkStep s t) (hu : RefStep t u) : TrunkStep s u := h.trans hu.widen

theorem of_loss {u : State} (h : TrunkStep s t) (hu : NoStep lossFields t u) : TrunkStep s u :=
  h.trans (hu.trunkStep lossFields_upper)

theorem sourceLost (h : TrunkStep s t) : TrunkStep s (t.sourceLost masterChange) :=
  h.of_loss (.sourceLost (fun _ hf => hf) .refl)

theorem setTimeMode (h : TrunkStep s t) : TrunkStep s (t.setTimeMode m) :=
  h.of_loss (.setTimeMode (fun _ hf => hf) .refl)

theorem refreshPos (h : TrunkStep s t) : TrunkStep s t.refreshPos :=
  h.of_loss (.refreshPos (fun _ hf => List.mem_append_right _ (List.mem_append_right _ hf)) .refl)

theorem refreshLyd (h : TrunkStep s t) : TrunkStep s t.refreshLyd :=
  h.of_loss (.refreshLyd (fun _ hf => List.mem_append_right _ hf) .refl)

theorem servoStop (h : TrunkStep s t) : TrunkStep s t.servoStop := h.of_loss (.servoStop .refl)

theorem setLydLink {l : LydLink} (h : TrunkStep s t) : TrunkStep s (t.setLydLink k l) := h.trunk

theorem startAcquire (h : TrunkStep s t) : TrunkStep s (t.startAcquire history) := by
  unfold State.startAcquire
  extract_lets u
  have hu : TrunkStep s u := (h.fset (by decide)).fput (by decide)
  clear_value u
  exact hu.frame

theorem sourceDelivers (h : TrunkStep s t) : TrunkStep s (t.sourceDelivers history) := by
  unfold State.sourceDelivers
  split
  · exact refreshPos (startAcquire (setTimeMode h))
  · exact refreshPos (startAcquire (setTimeMode h))
  · exact h

theorem trunkLost (h : TrunkStep s t) : TrunkStep s t.trunkLost :=
  .ite (sourceLost ((h.fon (by decide)).fcount (by decide))) h

theorem judgeLink (h : TrunkStep s t) : TrunkStep s (t.judgeLink k) := by
  have hstatus : ∀ lo w, upperFld ⟨LYD_LINK_STATUS k, lo, w⟩ := fun lo w => upperFld_add (by decide)
  unfold State.judgeLink
  extract_lets l c fails u v w x
  have hv : TrunkStep s v :=
    (((h.fset (hstatus _ _)).fput (hstatus _ _)).fput (hstatus _ _)).fput (hstatus _ _)
  have hw : TrunkStep s w := .ite (hv.fon (by decide)) hv
  have hx : TrunkStep s x := .ite (hw.fon (by decide)) hw
  exact .ite (hx.fon (by decide)) hx

theorem upstreamMoved (h : TrunkStep s t) : TrunkStep s t.upstreamMoved := h.of_ref (.upstreamMoved .refl)

theorem sourceChanges (h : TrunkStep s t) : TrunkStep s (t.sourceChanges r) := by
  refine .ite h ?_
  split
  · exact .ite (sourceLost (servoStop h)) (.ite (sourceLost h) h)
  · exact .ite (sourceLost (servoStop h)) h

theorem follow (h : TrunkStep s t) : TrunkStep s (t.follow r) := by
  unfold State.follow
  extract_lets u
  have hu : TrunkStep s u :=
    .ite ((h.fon (by decide)).foff (by decide)) (((h.foff (by decide)).fon (by decide)).fset (by decide))
  exact hu.trunk

theorem clearOffset (h : TrunkStep s t) : TrunkStep s t.clearOffset := (h.setReg (by decide)).setReg (by decide)

theorem upstreamShown (h : TrunkStep s t) : TrunkStep s t.upstreamShown :=
  refreshLyd (upstreamMoved (h.foldl fun _ _ _ => judgeLink))

theorem applyBmca (h : TrunkStep s t) : TrunkStep s (t.applyBmca r) := by
  unfold State.applyBmca
  extract_lets was moved u v w x
  have hu : TrunkStep s u := .ite (h.fon (by decide)) h
  have hv : TrunkStep s v := .ite hu (hu.fon (by decide))
  have hw : TrunkStep s w := follow (sourceChanges hv)
  have hx : TrunkStep s x := .ite (sourceDelivers hw) hw
  exact upstreamShown (.ite (clearOffset hx) hx)

theorem noUpstream (h : TrunkStep s t) : TrunkStep s t.noUpstream := upstreamShown (clearOffset (h.foff (by decide)))

theorem replaceUpstream (h : TrunkStep s t) : TrunkStep s t.replaceUpstream := by
  unfold State.replaceUpstream
  extract_lets u
  have hu : TrunkStep s u := .ite h (trunkLost h)
  split
  · exact applyBmca hu
  · exact noUpstream hu

theorem upperFld_running (k : Nat) : upperFld (LYD_LINK_STATUS_RUNNING k) := upperFld_add (by decide)

theorem lydStop (h : TrunkStep s t) : TrunkStep s (t.lydStop k) := by
  unfold State.lydStop
  extract_lets _ u v
  have hu : TrunkStep s u := setLydLink h
  have hv : TrunkStep s v := judgeLink (hu.foff (upperFld_running k))
  exact .ite (replaceUpstream hv) hv

theorem lydStart (h : TrunkStep s t) : TrunkStep s (t.lydStart k) := by
  unfold State.lydStart
  exact judgeLink (.fon (setLydLink h) (upperFld_running k))

end
end TrunkStep

end Sys2Proof.Machine

/-! # Alignment of clock lanes (04 R121 to R126) -/

namespace Sys2Proof.Machine

set_option Elab.async false

theorem linkKey_lt {x : Nat} (h : linkKey x) : x < TIME_SEC_HI := Nat.lt_trans h.2 (by decide)

/-- The state without what the alignment of a clock lane changes beside registers. -/
def State.sansAlign (s : State) : State := { s.sansTrunk with links := ⟨[], [], false, [], [], [], [], []⟩ }

/-- From s to t the alignment of a clock lane has changed, with the fields listed and those that follow a trunk. -/
abbrev AlignStep (fs : List Fld) (s t : State) : Prop := Within State.sansAlign (fun f => f ∈ fs ∨ upperFld f) s t

section
variable {s t : State} {k : Nat} {fs : List Fld} {g : Fld}

theorem AlignStep.only (h : AlignStep fs s t) : t = { s with
    regs := t.regs, hot := t.hot, links := t.links, time := t.time, trunk := t.trunk, syn := t.syn, mgt := t.mgt } :=
  congrArg (fun u : State => { u with
    regs := t.regs, hot := t.hot, links := t.links, time := t.time, trunk := t.trunk, syn := t.syn, mgt := t.mgt })
    h.bare_eq

theorem AlignStep.of_trunk {u : State} (h : AlignStep fs s t) (hu : TrunkStep t u) : AlignStep fs s u :=
  h.trans (hu.widen.mono fun _ hf => .inr hf)

/-- A field of lanes, clock lanes and ports that shares no bit with those listed is as before. -/
theorem AlignStep.fget (h : AlignStep fs s t) (hg : linkKey g.key) (hfs : ∀ f ∈ fs, g.apart f = true) :
    t.fget g = s.fget g :=
  h.keeps g fun f hf => hf.elim (hfs f) (apart_of_upper (linkKey_lt hg))

theorem TrunkStep.fget (h : TrunkStep s t) (hg : linkKey g.key) : t.fget g = s.fget g :=
  h.keeps g fun _ hf => apart_of_upper (linkKey_lt hg) hf

/-! ## Trunks -/

/-- The registers of a group's trunk and of its clock lane are registers of their own. -/
theorem clkl_port_keys (k : Fin 16) : CLKL_ALIGN_STATUS k ≠ PORT_TRUNK k ∧ CLKL_ALIGN_STATUS k ≠ PORT_STATUS (4 * k) ∧
    PORT_TRUNK k ≠ PORT_STATUS (4 * k) ∧ CLKL_ALIGN_STATUS k ≠ CLKL_SLIP k ∧ CLKL_ALIGN_STATUS k ≠ CLKL_PRBS_ERRCNT k ∧
    CLKL_ALIGN_STATUS k ≠ CLKL_PRBS_CTRL k := by
  unfold CLKL_ALIGN_STATUS PORT_TRUNK PORT_STATUS CLKL_SLIP CLKL_PRBS_ERRCNT CLKL_PRBS_CTRL
  omega

theorem linkKey_portTrunk (k : Fin 16) : linkKey (PORT_TRUNK k) := by unfold linkKey PORT_TRUNK; omega

theorem linkKey_groupPort (k : Fin 16) : linkKey (PORT_STATUS (4 * k)) := by unfold linkKey PORT_STATUS; omega

/-- The flags of a group that ceases to be a trunk. -/
def State.trunkFlags (s : State) (k : Nat) : State :=
  (s.foff (PORT_TRUNK_IS_TRUNK k)).fon (PORT_STATUS_TRUNK_LOST_SEEN (4 * k))

theorem trunkFalls_of_not (h : s.isTrunk k = false) : s.trunkFalls k = s := by simp [State.trunkFalls, h]

/-- What follows the flags of a trunk that falls. -/
theorem trunkFalls_after (h : s.isTrunk k = true) : TrunkStep (s.trunkFlags k) (s.trunkFalls k) := by
  unfold State.trunkFalls
  rw [if_pos h]
  exact ((TrunkStep.of_ref .refl (.sourceDown .refl)).lydStop).upstreamMoved.refreshLyd

theorem trunkFalls_step :
    AlignStep [PORT_TRUNK_IS_TRUNK k, PORT_STATUS_TRUNK_LOST_SEEN (4 * k)] s (s.trunkFalls k) := by
  cases h : s.isTrunk k
  · rw [trunkFalls_of_not h]
    exact .refl
  · exact .of_trunk (.fon (.foff .refl (.inl (by simp))) (.inl (by simp))) (trunkFalls_after h)

theorem trunkRises_step : AlignStep [PORT_TRUNK_IS_TRUNK k] s (s.trunkRises k) := by
  unfold State.trunkRises
  extract_lets t _ u
  have ht : AlignStep [PORT_TRUNK_IS_TRUNK k] s t := .fon .refl (.inl (by simp))
  have hu : AlignStep [PORT_TRUNK_IS_TRUNK k] s u := ht.mgt
  exact hu.of_trunk (.of_ref (.lydStart .refl) (.sourceUp .refl))

/-! ## ALIGNED becomes 0 -/

/-- ALIGNED becomes 0, with its flag where a rule names the reason. -/
def State.alignCleared (s : State) (k : Nat) (seen : Bool) : State :=
  let t := s.foff (CLKL_ALIGN_STATUS_ALIGNED k)
  if seen then t.fon (CLKL_ALIGN_STATUS_ALIGN_LOST_SEEN k) else t

theorem unalign_of_aligned {seen : Bool} (h : s.fget (CLKL_ALIGN_STATUS_ALIGNED k) = 1) :
    s.unalign k seen = (s.alignCleared k seen).trunkFalls k := by
  simp only [State.unalign, fbit_of_fget_one h, if_true]
  rfl

theorem alignCleared_keeps {seen : Bool} :
    keepsBut [CLKL_ALIGN_STATUS_ALIGNED k, CLKL_ALIGN_STATUS_ALIGN_LOST_SEEN k] s (s.alignCleared k seen) := by
  have hoff := keepsBut_foff (s := s) (CLKL_ALIGN_STATUS_ALIGNED k)
    (List.mem_cons_self (l := [CLKL_ALIGN_STATUS_ALIGN_LOST_SEEN k])) rfl (keepsBut_refl _ _)
  exact keepsBut_ite (keepsBut_fon _ (by simp) rfl hoff) hoff

theorem alignCleared_step {seen : Bool} :
    AlignStep [CLKL_ALIGN_STATUS_ALIGNED k, CLKL_ALIGN_STATUS_ALIGN_LOST_SEEN k] s (s.alignCleared k seen) := by
  unfold State.alignCleared
  extract_lets t
  have ht : AlignStep [CLKL_ALIGN_STATUS_ALIGNED k, CLKL_ALIGN_STATUS_ALIGN_LOST_SEEN k] s t :=
    .foff .refl (.inl (by simp))
  exact .ite (ht.fon (.inl (by simp))) ht

theorem fget_alignCleared {seen : Bool} : (s.alignCleared k seen).fget (CLKL_ALIGN_STATUS_ALIGNED k) = 0 := by
  have hoff := fget_foff_same s (CLKL_ALIGN_STATUS_ALIGNED k) rfl
  unfold State.alignCleared
  cases seen
  · exact hoff
  · exact (fget_fon_apart _ _ _ rfl (apart_of_bits (by decide))).trans hoff

/-- The fields that the loss of an alignment changes, but for those that follow a trunk. -/
def unalignFields (k : Nat) : List Fld :=
  [CLKL_ALIGN_STATUS_ALIGNED k, CLKL_ALIGN_STATUS_ALIGN_LOST_SEEN k, PORT_TRUNK_IS_TRUNK k,
    PORT_STATUS_TRUNK_LOST_SEEN (4 * k)]

theorem unalign_step {seen : Bool} : AlignStep (unalignFields k) s (s.unalign k seen) := by
  have hcleared : AlignStep (unalignFields k) s (s.alignCleared k seen) :=
    alignCleared_step.mono fun f hf => hf.imp_left fun h => by
      simp only [unalignFields, List.mem_cons, List.not_mem_nil, or_false] at h ⊢
      tauto
  have hfalls : AlignStep (unalignFields k) (s.alignCleared k seen) ((s.alignCleared k seen).trunkFalls k) :=
    trunkFalls_step.mono fun f hf => hf.imp_left fun h => by
      simp only [unalignFields, List.mem_cons, List.not_mem_nil, or_false] at h ⊢
      tauto
  exact .ite (hcleared.trans hfalls) .refl

theorem fget_trunkFalls_clkl {k : Fin 16} (hg : g.key = CLKL_ALIGN_STATUS k) : (s.trunkFalls k).fget g = s.fget g := by
  obtain ⟨htrunk, hport, -⟩ := clkl_port_keys k
  refine trunkFalls_step.fget (by rw [hg]; exact linkKey_clklAlignStatus k) ?_
  simp only [List.forall_mem_cons, List.not_mem_nil, false_implies, implies_true, and_true]
  exact ⟨apart_of_key (by rw [hg]; exact htrunk), apart_of_key (by rw [hg]; exact hport)⟩

theorem fget_unalign_aligned {k : Fin 16} {seen : Bool} :
    (s.unalign k seen).fget (CLKL_ALIGN_STATUS_ALIGNED k) = 0 := by
  unfold State.unalign
  split
  · exact (fget_trunkFalls_clkl rfl).trans fget_alignCleared
  next h => exact fget_of_fbit_false (by simpa using h)

theorem isTrunk_alignCleared {k : Fin 16} {seen : Bool} : (s.alignCleared k seen).isTrunk k = s.isTrunk k := by
  obtain ⟨htrunk, -⟩ := clkl_port_keys k
  refine fbit_eq_of_fget (alignCleared_keeps _ ?_)
  simp only [List.forall_mem_cons, List.not_mem_nil, false_implies, implies_true, and_true]
  exact ⟨apart_of_key htrunk.symm, apart_of_key htrunk.symm⟩

end

end Sys2Proof.Machine

namespace Sys2Proof.Machine

set_option Elab.async false

section
variable {s t : State} {k : Nat} {fs : List Fld}

/-! ## An alignment is lost (04 R123, R125) -/

theorem exec_alignLost {k : Fin 16} (hup : s.up = true) (hal : s.fget (CLKL_ALIGN_STATUS_ALIGNED k) = 1) :
    exec (.alignLost k) s = .next (settle s ((s.alignCleared k true).trunkFalls k)) := by
  have hexec : exec (.alignLost k) s = whenUp s (s.unalign k.val true) := rfl
  rw [hexec, whenUp_next_settle hup (unalign_step.proj State.pending), unalign_of_aligned hal]

theorem alignLost_step (hal : s.fget (CLKL_ALIGN_STATUS_ALIGNED k) = 1) :
    AlignStep (unalignFields k) s (settle s ((s.alignCleared k true).trunkFalls k)) := by
  rw [← unalign_of_aligned hal]
  exact unalign_step.settle

theorem fget_alignLost_seen {k : Fin 16} :
    ((s.alignCleared k true).trunkFalls k).fget (CLKL_ALIGN_STATUS_ALIGN_LOST_SEEN k) = 1 :=
  (fget_trunkFalls_clkl rfl).trans (fget_fon_same _ _ rfl Nat.one_pos)

/-- A trunk that falls is no trunk any more and has its flag set. -/
theorem trunkFalls_flags {k : Fin 16} (h : s.isTrunk k = true) :
    (s.trunkFalls k).isTrunk k = false ∧ (s.trunkFalls k).fget (PORT_STATUS_TRUNK_LOST_SEEN (4 * k)) = 1 := by
  obtain ⟨-, -, hkeys, -⟩ := clkl_port_keys k
  have hafter := trunkFalls_after h
  have hfell : (s.trunkFlags k).fget (PORT_TRUNK_IS_TRUNK k) = 0 :=
    (fget_fon_apart _ _ _ rfl (apart_of_key hkeys)).trans (fget_foff_same _ _ rfl)
  exact ⟨fbit_of_fget_zero ((hafter.fget (linkKey_portTrunk k)).trans hfell),
    (hafter.fget (linkKey_groupPort k)).trans (fget_fon_same _ _ rfl Nat.one_pos)⟩

/-! ## The end of a window (04 R122, R128) -/

/-- The window's result is written. -/
def State.windowWritten (s : State) (k commas codeErr : Nat) : State :=
  ((s.fset (CLKL_ALIGN_STATUS_COMMA_CNT k) commas).fset (CLKL_ALIGN_STATUS_CODE_ERR k) (min 1023 codeErr)).fwrap
    (CLKL_ALIGN_STATUS_WIN_SEQ k)

/-- The fields of the window's result. -/
def windowFields (k : Nat) : List Fld :=
  [CLKL_ALIGN_STATUS_COMMA_CNT k, CLKL_ALIGN_STATUS_CODE_ERR k, CLKL_ALIGN_STATUS_WIN_SEQ k]

theorem windowWritten_keeps {commas codeErr : Nat} : keepsBut (windowFields k) s (s.windowWritten k commas codeErr) :=
  keepsBut_fwrap _ (by simp [windowFields]) rfl
    (keepsBut_fset _ _ (by simp [windowFields]) rfl
      (keepsBut_fset _ _ (by simp [windowFields]) rfl (keepsBut_refl _ _)))

theorem fget_windowWritten_commas {codeErr : Nat} (commas : Fin 1025) :
    (s.windowWritten k commas codeErr).fget (CLKL_ALIGN_STATUS_COMMA_CNT k) = commas.val := calc
  _ = ((s.fset (CLKL_ALIGN_STATUS_COMMA_CNT k) commas).fset (CLKL_ALIGN_STATUS_CODE_ERR k) (min 1023 codeErr)).fget
      (CLKL_ALIGN_STATUS_COMMA_CNT k) := fget_fset_apart _ _ _ _ rfl (apart_of_bits (by decide))
  _ = (s.fset (CLKL_ALIGN_STATUS_COMMA_CNT k) commas).fget (CLKL_ALIGN_STATUS_COMMA_CNT k) :=
    fget_fset_apart _ _ _ _ rfl (apart_of_bits (by decide))
  _ = commas.val % 2 ^ 11 := fget_fset_same _ _ _ rfl
  _ = commas.val := Nat.mod_eq_of_lt (Nat.lt_trans commas.isLt (by decide))

theorem fget_windowWritten_codeErr {commas codeErr : Nat} :
    (s.windowWritten k commas codeErr).fget (CLKL_ALIGN_STATUS_CODE_ERR k) = min 1023 codeErr := calc
  _ = ((s.fset (CLKL_ALIGN_STATUS_COMMA_CNT k) commas).fset (CLKL_ALIGN_STATUS_CODE_ERR k) (min 1023 codeErr)).fget
      (CLKL_ALIGN_STATUS_CODE_ERR k) := fget_fset_apart _ _ _ _ rfl (apart_of_bits (by decide))
  _ = min 1023 codeErr % 2 ^ 10 := fget_fset_same _ _ _ rfl
  _ = min 1023 codeErr := Nat.mod_eq_of_lt (Nat.lt_of_le_of_lt (Nat.min_le_left _ _) (by decide))

theorem fget_windowWritten_seq {commas codeErr : Nat} : (s.windowWritten k commas codeErr).fget
    (CLKL_ALIGN_STATUS_WIN_SEQ k) = (s.fget (CLKL_ALIGN_STATUS_WIN_SEQ k) + 1) % 16 := by
  have hold : ((s.fset (CLKL_ALIGN_STATUS_COMMA_CNT k) commas).fset (CLKL_ALIGN_STATUS_CODE_ERR k) (min 1023
      codeErr)).fget (CLKL_ALIGN_STATUS_WIN_SEQ k) = s.fget (CLKL_ALIGN_STATUS_WIN_SEQ k) :=
    (fget_fset_apart _ _ _ _ rfl (apart_of_bits (by decide))).trans
      (fget_fset_apart _ _ _ _ rfl (apart_of_bits (by decide)))
  rw [← hold]
  exact fget_fset_same _ _ _ rfl

/-- The window's result is written and the errors of a locked checker are counted. -/
def State.windowCounted (s : State) (k commas codeErr errBits : Nat) : State :=
  let t := s.windowWritten k commas codeErr
  if t.fbit (CLKL_PRBS_CTRL_LOCK k) then t.fcount (CLKL_PRBS_ERRCNT_ERRCNT k) errBits else t

theorem exec_clklWindowEnd {k : Fin 16} {commas : Fin 1025} {codeErr errBits : Nat} (hon : s.clklOn k = true) :
    exec (.clklWindowEnd k commas codeErr errBits) s =
      whenUp s (((s.windowCounted k commas codeErr errBits).judgeConfirm k).advanceSearch k) := by
  have hexec : exec (.clklWindowEnd k commas codeErr errBits) s = whenUp s (if s.clklOn k.val then
    ((s.windowCounted k commas codeErr errBits).judgeConfirm k).advanceSearch k else s) := rfl
  rw [hexec, if_pos hon]

theorem lock_windowWritten {k : Fin 16} {commas codeErr : Nat} :
    (s.windowWritten k commas codeErr).fget (CLKL_PRBS_CTRL_LOCK k) = s.fget (CLKL_PRBS_CTRL_LOCK k) := by
  obtain ⟨-, -, -, -, -, hctrl⟩ := clkl_port_keys k
  refine windowWritten_keeps _ ?_
  simp only [windowFields, List.forall_mem_cons, List.not_mem_nil, false_implies, implies_true, and_true]
  exact ⟨apart_of_key hctrl.symm, apart_of_key hctrl.symm, apart_of_key hctrl.symm⟩

theorem windowCounted_unlocked {k : Fin 16} {commas codeErr errBits : Nat} (h : s.fget (CLKL_PRBS_CTRL_LOCK k) = 0) :
    s.windowCounted k commas codeErr errBits = s.windowWritten k commas codeErr := by
  unfold State.windowCounted
  rw [if_neg (by rw [fbit_of_fget_zero (lock_windowWritten.trans h)]; decide)]

theorem windowCounted_regs {commas codeErr errBits : Nat} :
    Within id (fun f => f ∈ windowFields k ++ [CLKL_PRBS_ERRCNT_ERRCNT k]) s
      (s.windowCounted k commas codeErr errBits) := by
  unfold State.windowCounted
  extract_lets t
  have ht : Within id (fun f => f ∈ windowFields k ++ [CLKL_PRBS_ERRCNT_ERRCNT k]) s t :=
    ((Within.refl.fset (by simp [windowFields])).fset (by simp [windowFields])).fwrap (by simp [windowFields])
  exact .ite (ht.fcount (by simp)) ht

theorem windowCounted_step {commas codeErr errBits : Nat} :
    AlignStep (windowFields k ++ [CLKL_PRBS_ERRCNT_ERRCNT k]) s (s.windowCounted k commas codeErr errBits) :=
  windowCounted_regs.widen.mono fun _ hf => .inl hf

theorem windowCounted_keeps {commas codeErr errBits : Nat} : keepsBut [CLKL_PRBS_ERRCNT_ERRCNT k]
    (s.windowWritten k commas codeErr) (s.windowCounted k commas codeErr errBits) :=
  keepsBut_ite (keepsBut_fcount _ _ (List.mem_singleton_self _) rfl (keepsBut_refl _ _)) (keepsBut_refl _ _)

/-- What is counted lies in a register of its own. -/
theorem fget_windowCounted {k : Fin 16} {commas codeErr errBits : Nat} {g : Fld} (hg : g.key = CLKL_ALIGN_STATUS k) :
    (s.windowCounted k commas codeErr errBits).fget g = (s.windowWritten k commas codeErr).fget g := by
  obtain ⟨-, -, -, -, hcnt, -⟩ := clkl_port_keys k
  exact windowCounted_keeps g (List.forall_mem_singleton.mpr (apart_of_key (by rw [hg]; exact hcnt)))

theorem fget_windowCounted_errors {k : Fin 16} {commas codeErr errBits : Nat} (h : s.fget (CLKL_PRBS_CTRL_LOCK k) = 1) :
    (s.windowCounted k commas codeErr errBits).fget (CLKL_PRBS_ERRCNT_ERRCNT k) =
      min (s.fget (CLKL_PRBS_ERRCNT_ERRCNT k) + errBits) (2 ^ (CLKL_PRBS_ERRCNT_ERRCNT k).width - 1) := by
  obtain ⟨-, -, -, -, hcnt, -⟩ := clkl_port_keys k
  have hold : (s.windowWritten k commas codeErr).fget (CLKL_PRBS_ERRCNT_ERRCNT k) =
      s.fget (CLKL_PRBS_ERRCNT_ERRCNT k) := by
    refine windowWritten_keeps _ ?_
    simp only [windowFields, List.forall_mem_cons, List.not_mem_nil, false_implies, implies_true, and_true]
    exact ⟨apart_of_key hcnt.symm, apart_of_key hcnt.symm, apart_of_key hcnt.symm⟩
  unfold State.windowCounted
  rw [if_pos (fbit_of_fget_one (lock_windowWritten.trans h)), fget_fcount_same _ _ _ rfl, hold]

/-! ## The pending confirmation and the search at the end of a window -/

/-- The fields that a confirmation and a search change, but for those that follow a trunk. -/
def searchFields (k : Nat) : List Fld :=
  [CLKL_SLIP_CONFIRM k, CLKL_SLIP_POS k, CLKL_ALIGN_STATUS_ALIGNED k, CLKL_ALIGN_STATUS_SEARCH_FAIL_SEEN k,
    PORT_TRUNK_IS_TRUNK k]

theorem align_step : AlignStep (searchFields k) s (s.align k) := by
  refine .ite .refl ?_
  have hon : AlignStep (searchFields k) s (s.fon (CLKL_ALIGN_STATUS_ALIGNED k)) :=
    .fon .refl (.inl (by simp [searchFields]))
  exact hon.trans (trunkRises_step.mono fun f hf => hf.imp_left fun h => by
    rw [List.mem_singleton.mp h]
    simp [searchFields])

theorem slip_step : AlignStep (searchFields k) s (s.slip k) :=
  .ite .refl (.fset .refl (.inl (by simp [searchFields])))

theorem askConfirm_step : AlignStep (searchFields k) s (s.askConfirm k) := by
  unfold State.askConfirm
  refine .ite .refl ?_
  extract_lets t _
  have ht : AlignStep (searchFields k) s t := .fon .refl (.inl (by simp [searchFields]))
  exact ht.links

theorem judgeConfirm_step : AlignStep (searchFields k) s (s.judgeConfirm k) := by
  unfold State.judgeConfirm
  split
  · exact .refl
  · extract_lets t _ u
    have ht : AlignStep (searchFields k) s t := .foff .refl (.inl (by simp [searchFields]))
    have hu : AlignStep (searchFields k) s u := ht.links
    exact .ite (hu.trans align_step) hu
  · exact Within.links .refl

theorem dropSearch_step : AlignStep fs s (s.dropSearch k) := Within.links .refl

theorem nextTry_step {x : ClkSearch} (hx : x.clkl = k) : AlignStep (searchFields k) s (s.nextTry x) := by
  subst hx
  unfold State.nextTry
  extract_lets t _ u
  have ht : AlignStep (searchFields x.clkl) s t := dropSearch_step.trans slip_step
  have hu : AlignStep (searchFields x.clkl) s u := ht.fon (.inl (by simp [searchFields]))
  exact .ite ht.links hu.links

theorem advanceSearch_step : AlignStep (searchFields k) s (s.advanceSearch k) := by
  unfold State.advanceSearch
  split
  · exact .refl
  next x hx =>
    have hk : x.clkl = k := by simpa using List.find?_some hx
    have hput : ∀ p : SearchPhase, AlignStep (searchFields k) s { s.dropSearch k with
        links := { (s.dropSearch k).links with searches := ⟨k, x.tries, p⟩ :: (s.dropSearch k).links.searches } } :=
      fun p => dropSearch_step.links
    extract_lets put
    split
    · exact .ite (hput _) (.ite ((hput _).trans askConfirm_step) (nextTry_step hk))
    · exact .ite .refl (.ite dropSearch_step (nextTry_step hk))

theorem advanceSearch_of_none (h : ∀ x ∈ s.links.searches, x.clkl ≠ k) : s.advanceSearch k = s := by
  have hnone : s.links.searches.find? (fun x => decide (x.clkl = k)) = none :=
    List.find?_eq_none.mpr fun x hx => by simpa using h x hx
  unfold State.advanceSearch
  rw [hnone]

end

end Sys2Proof.Machine

namespace Sys2Proof.Machine

set_option Elab.async false

section
variable {s t : State} {k : Nat} {fs : List Fld}

/-! ## A confirmation that passes (04 R122) -/

/-- A pending confirmation is over. -/
def State.confirmEnded (s : State) (k : Nat) : State :=
  { s.foff (CLKL_SLIP_CONFIRM k) with links := { s.links with confirm := mapSet (fun _ => 0) s.links.confirm k 0 } }

theorem confirmEnded_step : AlignStep [CLKL_SLIP_CONFIRM k] s (s.confirmEnded k) :=
  Within.links (.foff .refl (.inl (List.mem_singleton_self _)))

theorem judgeConfirm_passed (hc : mapGet (fun _ => 0) s.links.confirm k = 1)
    (hpass : (s.confirmEnded k).windowPasses k = true) (hquiet : (s.confirmEnded k).clklQuiet k = true)
    (hon : (s.confirmEnded k).clklOn k = true) : s.judgeConfirm k = (s.confirmEnded k).align k := by
  unfold State.judgeConfirm
  rw [hc]
  exact if_pos (by rw [Bool.and_eq_true, Bool.and_eq_true]; exact ⟨⟨hpass, hquiet⟩, hon⟩)

theorem judgeConfirm_of_none (hc : mapGet (fun _ => 0) s.links.confirm k = 0) : s.judgeConfirm k = s := by
  unfold State.judgeConfirm
  rw [hc]

/-- A flag of one bit that is set reads 1. -/
theorem fget_of_fbit_true {f : Fld} (hw : f.width = 1) (h : s.fbit f = true) : s.fget f = 1 := by
  have hlt : s.fget f < 2 ^ f.width := Nat.mod_lt _ (Nat.two_pow_pos _)
  have hne : s.fget f ≠ 0 := by simpa [State.fbit] using h
  rw [hw] at hlt
  omega

theorem align_fields : AlignStep [CLKL_ALIGN_STATUS_ALIGNED k, PORT_TRUNK_IS_TRUNK k] s (s.align k) := by
  refine .ite .refl ?_
  have hon : AlignStep [CLKL_ALIGN_STATUS_ALIGNED k, PORT_TRUNK_IS_TRUNK k] s (s.fon (CLKL_ALIGN_STATUS_ALIGNED k)) :=
    .fon .refl (.inl (by simp))
  exact hon.trans (trunkRises_step.mono fun f hf => hf.imp_left (List.mem_cons_of_mem _))

theorem fget_align_aligned {k : Fin 16} : (s.align k).fget (CLKL_ALIGN_STATUS_ALIGNED k) = 1 := by
  obtain ⟨htrunk, -⟩ := clkl_port_keys k
  unfold State.align
  split
  next h => exact fget_of_fbit_true rfl h
  next =>
    exact (trunkRises_step.fget (linkKey_clklAlignStatus k) (List.forall_mem_singleton.mpr (apart_of_key htrunk))).trans
      (fget_fon_same _ _ rfl Nat.one_pos)

/-- A clock lane that is on stays so while the blocks of the device and its CLKL_CTRL stay as they are. -/
theorem AlignStep.clklOn (h : AlignStep fs s t) (hen : t.fget (CLKL_CTRL_ENABLE k) = s.fget (CLKL_CTRL_ENABLE k)) :
    t.clklOn k = s.clklOn k := by
  simp only [State.clklOn, State.hasClkl, State.inService, State.up, fbit_eq_of_fget hen, h.proj State.part,
    h.proj State.life, h.proj State.power]

/-- A clock lane on which no pattern is driven and none awaited stays so while its CLKL_PRBS_CTRL stays as it is. -/
theorem clklQuiet_congr (htx : t.fget (CLKL_PRBS_CTRL_TX_EN k) = s.fget (CLKL_PRBS_CTRL_TX_EN k))
    (hrx : t.fget (CLKL_PRBS_CTRL_RX_EN k) = s.fget (CLKL_PRBS_CTRL_RX_EN k)) : t.clklQuiet k = s.clklQuiet k := by
  simp only [State.clklQuiet, fbit_eq_of_fget htx, fbit_eq_of_fget hrx]

/-- The state at the end of a window whose pending confirmation is judged. -/
def State.windowJudged (s : State) (k commas codeErr errBits : Nat) : State :=
  (s.windowCounted k commas codeErr errBits).confirmEnded k

theorem windowJudged_step {commas codeErr errBits : Nat} : AlignStep (windowFields k ++ [CLKL_PRBS_ERRCNT_ERRCNT k] ++
    [CLKL_SLIP_CONFIRM k]) s (s.windowJudged k commas codeErr errBits) :=
  (windowCounted_step.mono fun _ hf => hf.imp_left (List.mem_append_left _)).trans
    (confirmEnded_step.mono fun _ hf => hf.imp_left (List.mem_append_right _))

/-- The controls of a clock lane are as before. -/
theorem fget_windowJudged_control {k : Fin 16} {commas codeErr errBits : Nat} {g : Fld}
    (hg : g.key = CLKL_CTRL k ∨ g.key = CLKL_PRBS_CTRL k) :
    (s.windowJudged k commas codeErr errBits).fget g = s.fget g := by
  have hlink : linkKey g.key ∧ g.key ≠ CLKL_ALIGN_STATUS k ∧ g.key ≠ CLKL_PRBS_ERRCNT k ∧ g.key ≠ CLKL_SLIP k := by
    rcases hg with h | h <;> rw [h] <;>
      unfold linkKey CLKL_ALIGN_STATUS CLKL_PRBS_ERRCNT CLKL_SLIP <;> simp only [CLKL_CTRL, CLKL_PRBS_CTRL] <;> omega
  obtain ⟨hkey, hstatus, hcnt, hslip⟩ := hlink
  refine windowJudged_step.fget hkey ?_
  simp only [windowFields, List.cons_append, List.nil_append, List.forall_mem_cons, List.not_mem_nil, false_implies,
    implies_true, and_true]
  exact ⟨apart_of_key hstatus, apart_of_key hstatus, apart_of_key hstatus, apart_of_key hcnt, apart_of_key hslip⟩

theorem fget_windowJudged_status {k : Fin 16} {commas codeErr errBits : Nat} {g : Fld}
    (hg : g.key = CLKL_ALIGN_STATUS k) :
    (s.windowJudged k commas codeErr errBits).fget g = (s.windowWritten k commas codeErr).fget g := by
  obtain ⟨-, -, -, hslip, -⟩ := clkl_port_keys k
  refine (confirmEnded_step.fget (by rw [hg]; exact linkKey_clklAlignStatus k)
    (List.forall_mem_singleton.mpr (apart_of_key (by rw [hg]; exact hslip)))).trans (fget_windowCounted hg)

/-- The end of a window that passes a pending confirmation. -/
theorem judgeConfirm_windowCounted {k : Fin 16} {commas : Fin 1025} {errBits : Nat} (hon : s.clklOn k = true)
    (hc : mapGet (fun _ => 0) s.links.confirm k = 1) (hquiet : s.clklQuiet k = true) (hcommas : 51 ≤ commas.val) :
    (s.windowCounted k commas 0 errBits).judgeConfirm k = (s.windowJudged k commas 0 errBits).align k := by
  refine judgeConfirm_passed ?_ ?_ ?_ ?_
  · rwa [windowCounted_regs.proj State.links]
  · have h1 := (fget_windowJudged_status (s := s) (commas := commas) (codeErr := 0) (errBits := errBits)
      (g := CLKL_ALIGN_STATUS_COMMA_CNT k) rfl).trans (fget_windowWritten_commas commas)
    have h2 := (fget_windowJudged_status (s := s) (commas := commas) (codeErr := 0) (errBits := errBits)
      (g := CLKL_ALIGN_STATUS_CODE_ERR k) rfl).trans fget_windowWritten_codeErr
    unfold State.windowJudged at h1 h2
    simp [State.windowPasses, h1, h2, hcommas]
  · rw [← hquiet]
    exact clklQuiet_congr (fget_windowJudged_control (.inr rfl)) (fget_windowJudged_control (.inr rfl))
  · rw [← hon]
    exact windowJudged_step.clklOn (fget_windowJudged_control (.inl rfl))

end

end Sys2Proof.Machine

namespace Sys2Proof.Machine

set_option Elab.async false

section
variable {s : State} {k : Fin 16} {commas : Fin 1025} {codeErr errBits : Nat}

/-! ## The outcomes at the end of a window -/

theorem windowWritten_only {k commas codeErr : Nat} :
    s.windowWritten k commas codeErr = { s with regs := (s.windowWritten k commas codeErr).regs } :=
  setReg_only (setReg_only (setReg_only rfl _ _) _ _) _ _

theorem windowFields_link : ∀ f ∈ windowFields k, linkKey f.key := by
  simp only [windowFields, List.forall_mem_cons, List.not_mem_nil, false_implies, implies_true, and_true]
  exact ⟨linkKey_clklAlignStatus k, linkKey_clklAlignStatus k, linkKey_clklAlignStatus k⟩

/-- With no confirmation pending and no search under way the end of a window writes and counts. -/
theorem windowEnd_quiet (hup : s.up = true) (hon : s.clklOn k = true)
    (hconfirm : mapGet (fun _ => 0) s.links.confirm k.val = 0) (hsearch : ∀ x ∈ s.links.searches, x.clkl ≠ k.val)
    (hlock : s.fget (CLKL_PRBS_CTRL_LOCK k) = 0) :
    exec (.clklWindowEnd k commas codeErr errBits) s = .next (s.windowWritten k commas codeErr) := by
  have hlinks : (s.windowWritten k commas codeErr).links = s.links := by rw [windowWritten_only]
  rw [exec_clklWindowEnd hon, windowCounted_unlocked hlock, judgeConfirm_of_none (by rwa [hlinks]),
    advanceSearch_of_none (by rwa [hlinks])]
  exact whenUp_next_link hup windowWritten_keeps windowFields_link (by rw [windowWritten_only])
    (by rw [windowWritten_only])

theorem confirmEnded_searches {k : Nat} : (s.confirmEnded k).links.searches = s.links.searches := rfl

theorem fget_confirmEnded {k : Nat} : (s.confirmEnded k).fget (CLKL_SLIP_CONFIRM k) = 0 :=
  (fget_congr (s := s.foff (CLKL_SLIP_CONFIRM k)) rfl rfl _).trans (fget_foff_same _ _ rfl)

/-- An alignment changes nothing of the links. -/
theorem align_links {k : Nat} : (s.align k).links = s.links := by
  have hrises : ∀ t : State, Within State.sansTrunk (fun _ => True) t (t.trunkRises k) := fun t => by
    unfold State.trunkRises
    extract_lets v _ u
    have hv : Within State.sansTrunk (fun _ => True) t v := .fon .refl trivial
    have hu : Within State.sansTrunk (fun _ => True) t u := hv.mgt
    exact hu.trans ((TrunkStep.of_ref (.lydStart .refl) (.sourceUp .refl)).mono fun _ _ => trivial)
  have halign : Within State.sansTrunk (fun _ => True) s (s.align k) :=
    .ite .refl (Within.trans (.fon .refl trivial) (hrises _))
  exact halign.proj State.links

theorem fget_align_status {k : Fin 16} {g : Fld} (hg : g.key = CLKL_ALIGN_STATUS k)
    (hbit : g.apart (CLKL_ALIGN_STATUS_ALIGNED k) = true) : (s.align k).fget g = s.fget g := by
  obtain ⟨htrunk, -⟩ := clkl_port_keys k
  refine align_fields.fget (by rw [hg]; exact linkKey_clklAlignStatus k) ?_
  simp only [List.forall_mem_cons, List.not_mem_nil, false_implies, implies_true, and_true]
  exact ⟨hbit, apart_of_key (by rw [hg]; exact htrunk)⟩

theorem fget_align_confirm : (s.align k).fget (CLKL_SLIP_CONFIRM k) = s.fget (CLKL_SLIP_CONFIRM k) := by
  obtain ⟨-, -, -, hslip, -⟩ := clkl_port_keys k
  have htrunk : (CLKL_SLIP k : Nat) ≠ PORT_TRUNK k := by unfold CLKL_SLIP PORT_TRUNK; omega
  refine align_fields.fget (linkKey_clklSlip k) ?_
  simp only [List.forall_mem_cons, List.not_mem_nil, false_implies, implies_true, and_true]
  exact ⟨apart_of_key hslip.symm, apart_of_key htrunk⟩

/-- With a confirmation that passes the window's end aligns the clock lane. -/
theorem windowEnd_passes (hup : s.up = true) (hon : s.clklOn k = true)
    (hconfirm : mapGet (fun _ => 0) s.links.confirm k.val = 1) (hsearch : ∀ x ∈ s.links.searches, x.clkl ≠ k.val)
    (hquiet : s.clklQuiet k = true) (hcommas : 51 ≤ commas.val) :
    exec (.clklWindowEnd k commas 0 errBits) s =
      .next (settle s ((s.windowJudged k commas 0 errBits).align k)) := by
  have hlinks : ((s.windowJudged k commas 0 errBits).align k).links.searches = s.links.searches := calc
    _ = (s.windowJudged k commas 0 errBits).links.searches := congrArg LinkState.searches align_links
    _ = (s.windowCounted k commas 0 errBits).links.searches := confirmEnded_searches
    _ = s.links.searches := congrArg LinkState.searches (windowCounted_regs.proj State.links)
  rw [exec_clklWindowEnd hon, judgeConfirm_windowCounted hon hconfirm hquiet hcommas,
    advanceSearch_of_none (by rwa [hlinks])]
  exact whenUp_next_settle hup ((align_step.proj State.pending).trans (windowJudged_step.proj State.pending))

/-- What a pending confirmation and a search at the window's end leave as it was. -/
theorem windowEnd_locked (hup : s.up = true) (hon : s.clklOn k = true) :
    ∃ t, exec (.clklWindowEnd k commas codeErr errBits) s = .next t ∧
      AlignStep (searchFields k) (s.windowCounted k commas codeErr errBits) t := by
  have hend : AlignStep (searchFields k) (s.windowCounted k commas codeErr errBits)
      (((s.windowCounted k commas codeErr errBits).judgeConfirm k).advanceSearch k) :=
    judgeConfirm_step.trans advanceSearch_step
  refine ⟨settle s _, ?_, hend.settle⟩
  rw [exec_clklWindowEnd hon]
  exact whenUp_next_settle hup ((hend.proj State.pending).trans (windowCounted_regs.proj State.pending))

/-- A field of ALIGN_STATUS below its flags, and the error counter, are none of those of a search. -/
theorem apart_searchFields {g : Fld} (hg : g.key = CLKL_ALIGN_STATUS k ∨ g.key = CLKL_PRBS_ERRCNT k)
    (hal : g.apart (CLKL_ALIGN_STATUS_ALIGNED k) = true)
    (hfail : g.apart (CLKL_ALIGN_STATUS_SEARCH_FAIL_SEEN k) = true) :
    ∀ f ∈ searchFields k, g.apart f = true := by
  have hkeys : g.key ≠ CLKL_SLIP k ∧ g.key ≠ PORT_TRUNK k := by
    rcases hg with h | h <;> rw [h] <;> simp only [CLKL_ALIGN_STATUS, CLKL_PRBS_ERRCNT, CLKL_SLIP, PORT_TRUNK] <;> omega
  obtain ⟨hslip, htrunk⟩ := hkeys
  simp only [searchFields, List.forall_mem_cons, List.not_mem_nil, false_implies, implies_true, and_true]
  exact ⟨apart_of_key hslip, apart_of_key hslip, hal, hfail, apart_of_key htrunk⟩

/-! ## A required trunk that is down (04 R126) -/

theorem bitOf_alarmBits {c : Nat × Bool} (hc : c ∈ s.alarmConds) (hset : c.2 = true) :
    bitOf s.alarmBits c.1 = true := by
  have hcond : s.condBits.testBit c.1 = true := by rw [← bitOf_eq_testBit, condBits_bit s c hc, hset]
  rw [bitOf_eq_testBit, State.alarmBits, Nat.testBit_or, hcond, Bool.or_true]

/-- The state with the group among the required trunks that are down. -/
def State.trunkMissed (s : State) (g : Nat) : State :=
  { s with mgt := { s.mgt with trunkDown := g :: s.mgt.trunkDown } }

theorem exec_trunkDownAlarm {g : Fin 16} (hup : s.up = true) (hlife : s.life = .running)
    (hreq : s.fget (PORT_TRUNK_REQUIRED g) = 1) (hnot : s.isTrunk g = false) (hnew : g.val ∉ s.mgt.trunkDown) :
    exec (.trunkDownAlarm g) s = .next (settle s (s.trunkMissed g)) := by
  have hexec : exec (.trunkDownAlarm g) s = whenUp s (if s.life = .running ∧ s.fbit (PORT_TRUNK_REQUIRED g) ∧
      !s.isTrunk g ∧ !s.mgt.trunkDown.contains g.val then s.trunkMissed g else s) := rfl
  rw [hexec, if_pos (by simp [hlife, fbit_of_fget_one hreq, hnot, hnew])]
  exact whenUp_next_settle hup rfl

theorem settle_trunkMissed {g : Nat} : (settle s (s.trunkMissed g)).mgt.trunkDown = g :: s.mgt.trunkDown :=
  settle_mgt_frame MgtState.trunkDown (fun _ _ _ => rfl) s (s.trunkMissed g)

theorem trunkMissed_alarm {g : Nat} : bitOf (settle s (s.trunkMissed g)).alarmBits 4 = true := by
  have hcond : (4, !(settle s (s.trunkMissed g)).mgt.trunkDown.isEmpty) ∈ (settle s (s.trunkMissed g)).alarmConds := by
    simp [State.alarmConds]
  exact bitOf_alarmBits hcond (by rw [settle_trunkMissed]; rfl)

theorem trunkMissed_only {g : Nat} :
    settle s (s.trunkMissed g) = { s with mgt := (settle s (s.trunkMissed g)).mgt } := by
  conv_lhs => rw [settle_only]
  conv_rhs => rw [settle_only]
  rfl

end

/-- Settles O19: the result of a window is written before its confirmation and search are judged, and what these change
lies in other fields. -/
theorem alignmentJudged : Obligations.AlignmentJudged := by
  unfold Obligations.AlignmentJudged
  refine ⟨?quiet, ?lost, ?alarm, ?trunkLost, ?passes, ?locked⟩
  case quiet =>
    intro s k commas codeErr errBits hup hon hconfirm hsearch hlock
    exact ⟨_, windowEnd_quiet hup hon hconfirm hsearch hlock, fget_windowWritten_commas commas,
      fget_windowWritten_codeErr, fget_windowWritten_seq, windowWritten_keeps, windowWritten_only⟩
  case lost =>
    intro s k hup hal hnot
    have hstay : (s.alignCleared k true).trunkFalls k = s.alignCleared k true :=
      trunkFalls_of_not (isTrunk_alignCleared.trans hnot)
    refine ⟨_, exec_alignLost hup hal, (alignLost_step hal).only, ?_, ?_, ?_⟩
    · rw [fget_settle, hstay, fget_alignCleared]
    · rw [fget_settle, fget_alignLost_seen]
    · rw [hstay]
      exact keepsBut_settle alignCleared_keeps
  case alarm =>
    intro s g hup hlife hreq hnot hnew
    refine ⟨_, exec_trunkDownAlarm hup hlife hreq hnot hnew, ?_, trunkMissed_alarm, trunkMissed_only⟩
    rw [settle_trunkMissed]
    exact List.mem_cons_self
  case trunkLost =>
    intro s k hup hal htrunk
    obtain ⟨hfell, hflag⟩ := trunkFalls_flags (isTrunk_alignCleared (seen := true) |>.trans htrunk)
    refine ⟨_, exec_alignLost hup hal, (alignLost_step hal).only, ?_, ?_, ?_, ?_⟩
    · rw [fget_settle, fget_trunkFalls_clkl rfl, fget_alignCleared]
    · rw [fget_settle, fget_alignLost_seen]
    · exact (fbit_settle _ _ _).trans hfell
    · rw [fget_settle, hflag]
  case passes =>
    intro s k commas codeErr errBits hup hon hconfirm hsearch hquiet hcommas herr
    subst herr
    refine ⟨_, windowEnd_passes hup hon hconfirm hsearch hquiet hcommas, ?_, ?_, ?_⟩
    · rw [fget_settle, fget_align_confirm]
      exact fget_confirmEnded
    · rw [fget_settle, fget_align_aligned]
    · exact (fget_settle _ _ _).trans ((fget_align_status rfl (apart_of_bits (by decide))).trans
        ((fget_windowJudged_status rfl).trans (fget_windowWritten_commas commas)))
  case locked =>
    intro s k commas codeErr errBits hup hon hlock
    obtain ⟨t, hexec, hend⟩ := windowEnd_locked (commas := commas) (codeErr := codeErr) (errBits := errBits) hup hon
    have hstatus : ∀ lo w, (lo + w ≤ 3 ∨ 3 + 1 ≤ lo) → (lo + w ≤ 6 ∨ 6 + 1 ≤ lo) →
        t.fget ⟨CLKL_ALIGN_STATUS k, lo, w⟩ = (s.windowWritten k commas codeErr).fget ⟨CLKL_ALIGN_STATUS k, lo, w⟩ :=
      fun _ _ hal hfail => (hend.fget (linkKey_clklAlignStatus k)
        (apart_searchFields (.inl rfl) (apart_of_bits hal) (apart_of_bits hfail))).trans (fget_windowCounted rfl)
    refine ⟨t, hexec, ?_, ?_, ?_⟩
    · exact (hstatus _ _ (by decide) (by decide)).trans (fget_windowWritten_commas commas)
    · exact (hstatus _ _ (by decide) (by decide)).trans fget_windowWritten_codeErr
    · have hkey : CLKL_PRBS_ERRCNT k ≠ CLKL_ALIGN_STATUS k := by unfold CLKL_PRBS_ERRCNT CLKL_ALIGN_STATUS; omega
      rw [hend.fget (linkKey_clklPrbsErrcnt k) (apart_searchFields (.inr rfl) (apart_of_key hkey) (apart_of_key hkey)),
        fget_windowCounted_errors hlock]

end Sys2Proof.Machine

/-! # Pattern checkers and error bursts (04 R128, R129) -/

namespace Sys2Proof.Machine

set_option Elab.async false

/-- A step that changes registers alone. -/
theorem Within.only_regs {K : Fld → Prop} {s t : State} (h : Within id K s t) :
    t = { s with regs := t.regs, hot := t.hot } :=
  congrArg (fun u : State => { u with regs := t.regs, hot := t.hot }) h.bare_eq

section
variable {s : State} {q : Requester} {f g : Fld}

/-! ## The lock of a checker -/

theorem fon_step (hf : f.fits = true) : Within id (· ∈ [f]) s (s.fon f) :=
  Within.refl.fon (List.mem_singleton_self _) hf

/-- A checker has lost its lock. -/
def State.lockLost (s : State) (lock seen : Fld) : State := (s.foff lock).fon seen

theorem lockLost_step (hf : f.fits = true) (hg : g.fits = true) : Within id (· ∈ [f, g]) s (s.lockLost f g) :=
  (Within.refl.foff (by simp) hf).fon (by simp) hg

theorem fget_lockLost (hf : f.fits = true) (hg : g.fits = true) (h : f.apart g = true) :
    (s.lockLost f g).fget f = 0 := (fget_fon_apart _ _ _ hg h).trans (fget_foff_same _ _ hf)

theorem exec_prbsCheckerLock_data {n : Fin 64} (hup : s.up = true) (hon : s.laneOn n = true)
    (hclock : s.laneClock n = true) (hrx : s.fget (LANE_PRBS_CTRL_RX_EN n) = 1) :
    exec (.prbsCheckerLock (.data n)) s = .next (s.fon (LANE_PRBS_CTRL_LOCK n)) := by
  have hexec : exec (.prbsCheckerLock (.data n)) s = whenUp s (if s.laneOn n.val &&
    s.fbit (LANE_PRBS_CTRL_RX_EN n.val) && s.laneClock n.val then s.fon (LANE_PRBS_CTRL_LOCK n.val) else s) := rfl
  rw [hexec, if_pos (by simp [hon, hclock, fbit_of_fget_one hrx])]
  exact (fon_step rfl).next_link hup (List.forall_mem_singleton.mpr (linkKey_lanePrbsCtrl n))

theorem exec_prbsCheckerLock_clock {k : Fin 16} (hup : s.up = true) (hon : s.clklOn k = true)
    (hlock : s.fget (CLKL_ALIGN_STATUS_RX_LOCK k) = 1) (hrx : s.fget (CLKL_PRBS_CTRL_RX_EN k) = 1) :
    exec (.prbsCheckerLock (.clock k)) s = .next (s.fon (CLKL_PRBS_CTRL_LOCK k)) := by
  have hexec : exec (.prbsCheckerLock (.clock k)) s = whenUp s (if s.clklOn k.val &&
    s.fbit (CLKL_PRBS_CTRL_RX_EN k.val) && s.fbit (CLKL_ALIGN_STATUS_RX_LOCK k.val) then
      s.fon (CLKL_PRBS_CTRL_LOCK k.val) else s) := rfl
  rw [hexec, if_pos (by simp [hon, fbit_of_fget_one hlock, fbit_of_fget_one hrx])]
  exact (fon_step rfl).next_link hup (List.forall_mem_singleton.mpr (linkKey_clklPrbsCtrl k))

theorem exec_prbsLockLost_data {n : Fin 64} (hup : s.up = true) (hlock : s.fget (LANE_PRBS_CTRL_LOCK n) = 1) :
    exec (.prbsLockLost (.data n)) s =
      .next (s.lockLost (LANE_PRBS_CTRL_LOCK n) (LANE_PRBS_CTRL_LOCK_LOST_SEEN n)) := by
  have hexec : exec (.prbsLockLost (.data n)) s = whenUp s (if s.fbit (LANE_PRBS_CTRL_LOCK n) then
    s.lockLost (LANE_PRBS_CTRL_LOCK n) (LANE_PRBS_CTRL_LOCK_LOST_SEEN n) else s) := rfl
  rw [hexec, if_pos (fbit_of_fget_one hlock)]
  refine (lockLost_step rfl rfl).next_link hup ?_
  simp only [List.forall_mem_cons, List.not_mem_nil, false_implies, implies_true, and_true]
  exact ⟨linkKey_lanePrbsCtrl n, linkKey_lanePrbsCtrl n⟩

theorem exec_prbsLockLost_clock {k : Fin 16} (hup : s.up = true) (hlock : s.fget (CLKL_PRBS_CTRL_LOCK k) = 1) :
    exec (.prbsLockLost (.clock k)) s =
      .next (s.lockLost (CLKL_PRBS_CTRL_LOCK k) (CLKL_PRBS_CTRL_LOCK_LOST_SEEN k)) := by
  have hexec : exec (.prbsLockLost (.clock k)) s = whenUp s (if s.fbit (CLKL_PRBS_CTRL_LOCK k) then
    s.lockLost (CLKL_PRBS_CTRL_LOCK k) (CLKL_PRBS_CTRL_LOCK_LOST_SEEN k) else s) := rfl
  rw [hexec, if_pos (fbit_of_fget_one hlock)]
  refine (lockLost_step rfl rfl).next_link hup ?_
  simp only [List.forall_mem_cons, List.not_mem_nil, false_implies, implies_true, and_true]
  exact ⟨linkKey_clklPrbsCtrl k, linkKey_clklPrbsCtrl k⟩

/-! ## Error counters -/

theorem ldecl_step {v : Nat} (hf : f.fits = true) : LaneStep (· ∈ [f]) s (s.ldecl f v) :=
  Within.refl.ldecl (List.mem_singleton_self _) hf

theorem exec_prbsClr_data {n : Fin 64} (hq : s.takes q = true) (hup : s.up = true) (hlane : s.hasLane n = true) :
    exec (.prbsClr q (.data n)) s = .next (s.ldecl (LANE_PRBS_ERRCNT_ERRCNT n) 0) := by
  have hexec : exec (.prbsClr q (.data n)) s = whenTaken s q (if s.hasLane n.val then
    s.ldecl (LANE_PRBS_ERRCNT_ERRCNT n.val) 0 else s) := rfl
  rw [hexec, if_pos hlane, whenTaken_of_takes hq]
  exact (ldecl_step rfl).next_link hup (List.forall_mem_singleton.mpr (linkKey_lanePrbsErrcnt n))

theorem exec_prbsClr_clock {k : Fin 16} (hq : s.takes q = true) (hup : s.up = true) (hk : s.hasClkl k = true) :
    exec (.prbsClr q (.clock k)) s = .next (s.fset (CLKL_PRBS_ERRCNT_ERRCNT k) 0) := by
  have hexec : exec (.prbsClr q (.clock k)) s = whenTaken s q (if s.hasClkl k.val then
    s.fset (CLKL_PRBS_ERRCNT_ERRCNT k.val) 0 else s) := rfl
  rw [hexec, if_pos hk, whenTaken_of_takes hq]
  exact whenUp_next_link hup (keepsBut_fset _ _ (List.mem_singleton_self _) rfl (keepsBut_refl _ _))
    (List.forall_mem_singleton.mpr (linkKey_clklPrbsErrcnt k))

/-! ## Error bursts -/

/-- A burst has left on a data lane and is counted. -/
def State.burstSent (s : State) (n : Nat) : State :=
  (s.emit (.injected n (burst (s.fget (LANE_ERR_INJECT_LEN n))))).fcount (LANE_ERR_INJECT_INJ_CNT n) 1

theorem burstSent_keeps {n : Nat} : keepsBut [LANE_ERR_INJECT_INJ_CNT n] s (s.burstSent n) :=
  keepsBut_fcount _ _ (List.mem_singleton_self _) rfl (keepsBut_of_regs rfl rfl (keepsBut_refl _ _))

theorem burstSent_only {n : Nat} :
    s.burstSent n = { s with regs := (s.burstSent n).regs, out := (s.burstSent n).out } :=
  rfl

theorem burstSent_out {n : Nat} :
    (s.burstSent n).out = .injected n (max 1 (min 64 (s.fget (LANE_ERR_INJECT_LEN n)))) :: s.out := rfl

theorem fget_burstSent {n : Nat} :
    (s.burstSent n).fget (LANE_ERR_INJECT_INJ_CNT n) = min 65535 (s.fget (LANE_ERR_INJECT_INJ_CNT n) + 1) :=
  (fget_fcount_same _ _ _ rfl).trans (Nat.min_comm _ _)

theorem exec_errInjectGo_data {n : Fin 64} (hq : s.takes q = true) (hup : s.up = true) (hon : s.laneOn n = true) :
    exec (.errInjectGo q (.data n)) s = .next (s.burstSent n) := by
  have hexec : exec (.errInjectGo q (.data n)) s =
      whenTaken s q (if s.laneOn n.val then s.burstSent n.val else s) := rfl
  rw [hexec, if_pos hon, whenTaken_of_takes hq]
  exact whenUp_next_link hup burstSent_keeps (List.forall_mem_singleton.mpr (linkKey_laneErrInject n))

theorem exec_errInjectGo_clock {k : Fin 16} (hq : s.takes q = true) (hup : s.up = true) (hon : s.clklOn k = true) :
    exec (.errInjectGo q (.clock k)) s =
      .next (s.emit (.injected (64 + k) (burst (s.fget (CLKL_PRBS_CTRL_INJ_LEN k))))) := by
  have hexec : exec (.errInjectGo q (.clock k)) s = whenTaken s q (if s.clklOn k.val then
    s.emit (.injected (64 + k.val) (burst (s.fget (CLKL_PRBS_CTRL_INJ_LEN k.val)))) else s) := rfl
  rw [hexec, if_pos hon, whenTaken_of_takes hq, whenUp_up hup]
  exact done_plain _ _ rfl rfl rfl

end

end Sys2Proof.Machine

/-! # A port stops, and TX_EN is written (04 R117, R130) -/

namespace Sys2Proof.Machine

set_option Elab.async false

/-- A field that the stop of a port changes: its flags, the state of a lane, the open window, its queues. -/
def stopFld (f : Fld) : Prop :=
  (∃ i, f.key = PORT_STATUS i ∨ f.key = LANE_STATUS i ∨ f.key = QW_STATUS i) ∨ queueFld f

theorem stopFld_port (i : Nat) {lo w : Nat} : stopFld ⟨PORT_STATUS i, lo, w⟩ := .inl ⟨i, .inl rfl⟩
theorem stopFld_lane (i : Nat) {lo w : Nat} : stopFld ⟨LANE_STATUS i, lo, w⟩ := .inl ⟨i, .inr (.inl rfl)⟩
theorem stopFld_quill (i : Nat) {lo w : Nat} : stopFld ⟨QW_STATUS i, lo, w⟩ := .inl ⟨i, .inr (.inr rfl)⟩

/-- The controls of a lane's pattern are none of them: the registers lie at offsets of their own. -/
theorem stopFld_ne_prbs {f : Fld} {n : Nat} (h : stopFld f) : LANE_PRBS_CTRL n ≠ f.key := by
  rcases h with ⟨i, h | h | h⟩ | h | ⟨m, q, h | h | h⟩ <;> rw [h] <;>
    simp only [LANE_PRBS_CTRL, PORT_STATUS, LANE_STATUS, QW_STATUS, BUF_PEAT_STATUS, BUF_Q_OCC_PEAT, BUF_Q_DROP,
      BUF_Q_DROP_CAUSE] <;> omega

/-- The state without what the stop of a port changes beside registers. -/
def State.sansStop (s : State) : State :=
  { s with bus := ⟨[], [], [], []⟩, qw := State.reset.qw, buf := bufNone, mgt := mgtNew }

/-- From s to t a port has stopped, or lanes have changed state. -/
abbrev StopStep (K : Fld → Prop) (s t : State) : Prop := Within State.sansStop K s t

namespace StopStep
section
variable {s t : State} {p port n : Nat} {w : OpenWin} {o : Option OpenWin} {finish : Bool}

theorem of_queue {u : State} (h : StopStep stopFld s t) (hu : QueueStep t u) : StopStep stopFld s u :=
  h.trans (hu.widen.mono fun _ hf => .inr hf)

theorem linkFalls (h : StopStep stopFld s t) : StopStep stopFld s (t.linkFalls p) :=
  ((h.foff (stopFld_port p)).seen (stopFld_port p)).fcount (stopFld_port p)

theorem linkDown (h : StopStep stopFld s t) : StopStep stopFld s (t.linkDown p finish) := by
  unfold State.linkDown
  extract_lets u
  have hu : StopStep stopFld s u := linkFalls h
  exact .ite (.ite (.ite (of_queue hu (.flushQueues .refl)) (of_queue hu (.flushPort .refl))) hu) h

theorem noteShut {a b c : Nat} (h : StopStep stopFld s t) : StopStep stopFld s (t.noteShut port a b c) := .ite h.qw h

theorem setOpen (h : StopStep stopFld s t) : StopStep stopFld s (t.setOpen port o) := by
  unfold State.setOpen
  extract_lets _ u
  have hu : StopStep stopFld s u := h.qw
  exact hu.fput (stopFld_quill port)

theorem shutWin (h : StopStep stopFld s t) : StopStep stopFld s (t.shutWin port w) := setOpen (noteShut h)

theorem quillEgressDown (h : StopStep stopFld s t) : StopStep stopFld s (t.quillEgressDown port) := by
  unfold State.quillEgressDown
  split
  · exact shutWin h
  · exact h

theorem portStops (h : StopStep stopFld s t) : StopStep stopFld s (t.portStops p finish) := by
  unfold State.portStops
  extract_lets u
  have hu : StopStep stopFld s u := quillEgressDown (linkDown h)
  exact hu.foldl fun _ n _ hw => .ite (hw.laneState (stopFld_lane n) (stopFld_lane n)) hw

end
end StopStep

section
variable {s : State} {q : Requester} {n : Nat} {on : Bool}

/-! ## TX_EN of a data lane -/

/-- The state a lane takes as its pattern starts or stops. -/
def State.patternState (s : State) (n : Nat) : Nat :=
  if s.laneOn n && s.lbit (LANE_STATUS_BLOCK_LOCK n) && !s.seeking n then 3 else s.waitState n

/-- A lane that is enabled is in no state DISABLED. -/
theorem patternState_ne_zero (hon : s.fbit (LANE_CTRL_ENABLE n) = true) : s.patternState n ≠ 0 := by
  unfold State.patternState State.waitState
  rw [if_neg (by simp [hon] : ¬(!s.fbit (LANE_CTRL_ENABLE n)) = true)]
  split
  · decide
  · split <;> decide

/-- TX_EN is written and nothing has followed yet. -/
def State.txWritten (s : State) (n : Nat) (on : Bool) : State := s.fput (LANE_PRBS_CTRL_TX_EN n) on

/-- The port of a lane whose pattern starts has stopped. -/
def State.txStopped (s : State) (n : Nat) : State :=
  if s.fbit (PORT_MODE_ENABLE (s.portOf n)) then (s.txWritten n true).portStops (s.portOf n) true
  else s.txWritten n true

theorem setTxEn_data {n : Fin 64} (hlane : s.hasLane n = true) : s.setTxEn (.data n) on =
    if on = s.fbit (LANE_PRBS_CTRL_TX_EN n) then s.txWritten n on
    else (if on then s.txStopped n else s.txWritten n on).laneState n ((s.txWritten n on).patternState n) := by
  have hdef : s.setTxEn (.data n) on = if !s.hasLane n.val then s else
      if on = s.fbit (LANE_PRBS_CTRL_TX_EN n) then s.txWritten n on
      else if on then (if s.fbit (PORT_MODE_ENABLE (s.portOf n)) then (s.txWritten n on).portStops (s.portOf n) true
        else s.txWritten n on).laneState n ((s.txWritten n on).patternState n)
      else (s.txWritten n on).laneState n ((s.txWritten n on).patternState n) := rfl
  rw [hdef, if_neg (by simp [hlane])]
  cases on <;> rfl

theorem fget_txWritten : (s.txWritten n on).fget (LANE_PRBS_CTRL_TX_EN n) = on.toNat := by
  refine (fget_fset_same s _ on.toNat rfl).trans (Nat.mod_eq_of_lt ?_)
  exact Bool.toNat_lt on

theorem txWritten_keeps : keepsBut [LANE_PRBS_CTRL_TX_EN n] s (s.txWritten n on) :=
  keepsBut_fset _ _ (List.mem_singleton_self _) rfl (keepsBut_refl _ _)

theorem txStopped_step : StopStep stopFld (s.txWritten n true) (s.txStopped n) :=
  .ite (StopStep.portStops .refl) .refl

theorem txWritten_step : StopStep (fun _ => True) s (s.txWritten n on) := .fput .refl trivial

theorem setTxEn_data_step {n : Fin 64} (hlane : s.hasLane n = true) :
    StopStep (fun _ => True) s (s.setTxEn (.data n) on) := by
  have hstop : StopStep (fun _ => True) s (s.txStopped n) :=
    txWritten_step.trans (txStopped_step.mono fun _ _ => trivial)
  rw [setTxEn_data hlane]
  refine .ite txWritten_step ?_
  exact (Within.laneState (.ite hstop txWritten_step) trivial trivial)

/-- TX_EN outlasts what follows its writing. -/
theorem fget_txFollowed :
    (if on then s.txStopped n else s.txWritten n on).fget (LANE_PRBS_CTRL_TX_EN n) = on.toNat := by
  cases on
  · exact fget_txWritten
  · exact (txStopped_step.keeps _ fun _ hf => apart_of_key (stopFld_ne_prbs hf)).trans fget_txWritten

theorem fbit_setTxEn_data {n : Fin 64} (hlane : s.hasLane n = true) :
    (s.setTxEn (.data n) on).fbit (LANE_PRBS_CTRL_TX_EN n) = on := by
  refine fbit_of_fget ?_
  rw [setTxEn_data hlane]
  split
  · exact fget_txWritten
  · exact (fget_laneState_of_key lanePrbsCtrl_ne_status).trans fget_txFollowed

/-- A lane that starts to send a pattern shows it. -/
theorem lget_setTxEn_data {n : Fin 64} (hlane : s.hasLane n = true) (hoff : s.fbit (LANE_PRBS_CTRL_TX_EN n) = false)
    (hen : s.fbit (LANE_CTRL_ENABLE n) = true) : (s.setTxEn (.data n) true).lget (LANE_STATUS_LSTATE n) = 5 := by
  have hkey : LANE_CTRL n ≠ LANE_PRBS_CTRL n := by unfold LANE_CTRL LANE_PRBS_CTRL; omega
  have hen' : (s.txWritten n true).fbit (LANE_CTRL_ENABLE n) = true :=
    (fbit_eq_of_fget (txWritten_keeps _ (List.forall_mem_singleton.mpr (apart_of_key hkey)))).trans hen
  have htx : (s.txStopped n).fbit (LANE_PRBS_CTRL_TX_EN n) = true := fbit_of_fget (fget_txFollowed (on := true))
  rw [setTxEn_data hlane, if_neg (by simp [hoff]), if_pos rfl, lget_laneState_lstate,
    shownState_of_ne (patternState_ne_zero hen'), htx]
  rfl

theorem exec_prbsTxEn {lane : AnyLane} (hq : s.takes q = true) (hup : s.up = true)
    (hpend : (s.setTxEn lane on).pending = s.pending) :
    exec (.prbsTxEn q lane on) s = .next (settle s (s.setTxEn lane on)) := by
  have hexec : exec (.prbsTxEn q lane on) s = whenTaken s q (s.setTxEn lane on) := rfl
  rw [hexec, whenTaken_of_takes hq, whenUp_next_settle hup hpend]

/-! ## TX_EN of a clock lane -/

/-- The fields that TX_EN of a clock lane changes, but for those that follow a trunk. -/
def clklTxFields (k : Nat) : List Fld := CLKL_PRBS_CTRL_TX_EN k :: unalignFields k

theorem setTxEn_clock {k : Fin 16} (hk : s.hasClkl k = true) : s.setTxEn (.clock k) on =
    if on then ((s.fput (CLKL_PRBS_CTRL_TX_EN k) on).dropSearch k).unalign k false
    else s.fput (CLKL_PRBS_CTRL_TX_EN k) on := by
  have hdef : s.setTxEn (.clock k) on = if !s.hasClkl k.val then s else
    if on then ((s.fput (CLKL_PRBS_CTRL_TX_EN k.val) on).dropSearch k.val).unalign k.val false
    else s.fput (CLKL_PRBS_CTRL_TX_EN k.val) on := rfl
  rw [hdef, if_neg (by simp [hk])]

theorem clklPut_step {k : Nat} : AlignStep (clklTxFields k) s (s.fput (CLKL_PRBS_CTRL_TX_EN k) on) :=
  .fput .refl (.inl (by simp [clklTxFields]))

theorem setTxEn_clock_step {k : Fin 16} (hk : s.hasClkl k = true) :
    AlignStep (clklTxFields k) s (s.setTxEn (.clock k) on) := by
  rw [setTxEn_clock hk]
  refine .ite ?_ clklPut_step
  exact (clklPut_step.trans dropSearch_step).trans
    (unalign_step.mono fun _ hf => hf.imp_left (List.mem_cons_of_mem _))

theorem fbit_setTxEn_clock {k : Fin 16} (hk : s.hasClkl k = true) :
    (s.setTxEn (.clock k) on).fbit (CLKL_PRBS_CTRL_TX_EN k) = on := by
  have hput : (s.fput (CLKL_PRBS_CTRL_TX_EN k) on).fget (CLKL_PRBS_CTRL_TX_EN k) = on.toNat :=
    (fget_fset_same s _ on.toNat rfl).trans (Nat.mod_eq_of_lt (Bool.toNat_lt on))
  refine fbit_of_fget ?_
  rw [setTxEn_clock hk]
  split
  · obtain ⟨-, -, -, -, -, hctrl⟩ := clkl_port_keys k
    have hports : CLKL_PRBS_CTRL k ≠ PORT_TRUNK k ∧ CLKL_PRBS_CTRL k ≠ PORT_STATUS (4 * k) := by
      unfold CLKL_PRBS_CTRL PORT_TRUNK PORT_STATUS; omega
    obtain ⟨htrunk, hport⟩ := hports
    refine (unalign_step.fget (linkKey_clklPrbsCtrl k) ?_).trans hput
    simp only [unalignFields, List.forall_mem_cons, List.not_mem_nil, false_implies, implies_true, and_true]
    exact ⟨apart_of_key hctrl.symm, apart_of_key hctrl.symm, apart_of_key htrunk, apart_of_key hport⟩
  · exact hput

/-! ## What the stop of a port and the loss of an alignment may change -/

/-- The state without what TX_EN of a lane changes beside registers. -/
def State.sansTx (s : State) : State :=
  { s with bus := ⟨[], [], [], []⟩, links := ⟨[], [], false, [], [], [], [], []⟩, qw := State.reset.qw, buf := bufNone,
           time := ⟨0, 0, 0, 0, false, 0, [], []⟩, trunk := trunkNew, syn := synNew, mgt := mgtNew }

theorem sansTx_only {K : Fld → Prop} {t : State} (h : Within State.sansTx K s t) : t = { s with
    regs := t.regs, hot := t.hot, bus := t.bus, links := t.links, qw := t.qw, buf := t.buf, time := t.time,
    trunk := t.trunk, syn := t.syn, mgt := t.mgt } :=
  congrArg (fun u : State => { u with
    regs := t.regs, hot := t.hot, bus := t.bus, links := t.links, qw := t.qw, buf := t.buf, time := t.time,
    trunk := t.trunk, syn := t.syn, mgt := t.mgt }) h.bare_eq

end

/-- Settles O20: locks, counters, bursts, and what follows TX_EN. LSTATE is 5 while TX_EN is 1 by log entry 81. -/
theorem testPatterns : Obligations.TestPatterns := by
  unfold Obligations.TestPatterns
  refine ⟨?lockData, ?lockClock, ?lostData, ?lostClock, ?clrData, ?clrClock, ?burstData, ?burstClock, ?txData, ?txClock⟩
  case lockData =>
    intro s n hup hon hclock hrx
    exact ⟨_, exec_prbsCheckerLock_data hup hon hclock hrx, fget_fon_same _ _ rfl Nat.one_pos, (fon_step rfl).keepsBut,
      (fon_step rfl).only_regs⟩
  case lockClock =>
    intro s k hup hon hlock hrx
    exact ⟨_, exec_prbsCheckerLock_clock hup hon hlock hrx, fget_fon_same _ _ rfl Nat.one_pos, (fon_step rfl).keepsBut,
      (fon_step rfl).only_regs⟩
  case lostData =>
    intro s n hup hlock
    exact ⟨_, exec_prbsLockLost_data hup hlock, fget_lockLost rfl rfl (apart_of_bits (by decide)),
      fget_fon_same _ _ rfl Nat.one_pos, (lockLost_step rfl rfl).keepsBut, (lockLost_step rfl rfl).only_regs⟩
  case lostClock =>
    intro s k hup hlock
    exact ⟨_, exec_prbsLockLost_clock hup hlock, fget_lockLost rfl rfl (apart_of_bits (by decide)),
      fget_fon_same _ _ rfl Nat.one_pos, (lockLost_step rfl rfl).keepsBut, (lockLost_step rfl rfl).only_regs⟩
  case clrData =>
    intro s q n hq hup hlane
    exact ⟨_, exec_prbsClr_data hq hup hlane, lget_ldecl_same _ _ _ rfl, fget_ldecl_same _ _ _ rfl,
      (ldecl_step rfl).keepsBut, (ldecl_step rfl).only_unmarked (ldecl_hot _ _ _)⟩
  case clrClock =>
    intro s q k hq hup hk
    exact ⟨_, exec_prbsClr_clock hq hup hk, fget_fset_same _ _ _ rfl,
      keepsBut_fset _ _ (List.mem_singleton_self _) rfl (keepsBut_refl _ _), setReg_only rfl _ _⟩
  case burstData =>
    intro s q n hq hup hon
    exact ⟨_, exec_errInjectGo_data hq hup hon, burstSent_out, fget_burstSent, burstSent_keeps, burstSent_only⟩
  case burstClock =>
    intro s q k hq hup hon
    exact exec_errInjectGo_clock hq hup hon
  case txData =>
    intro s q n on hq hup hlane
    have hstep := setTxEn_data_step (on := on) hlane
    have hwide : Within State.sansTx (fun _ => True) s (settle s (s.setTxEn (.data n) on)) := hstep.settle.widen
    refine ⟨_, exec_prbsTxEn hq hup (hstep.proj State.pending), sansTx_only hwide, ?_, ?_⟩
    · rw [fbit_settle, fbit_setTxEn_data hlane]
    · intro hset hoff hon
      obtain ⟨-, hen, -⟩ := laneOn_parts hon
      subst hset
      rw [lget_settle, lget_setTxEn_data hlane hoff hen]
  case txClock =>
    intro s q k on hq hup hk
    have hstep := setTxEn_clock_step (on := on) hk
    have hwide : Within State.sansTx _ s (settle s (s.setTxEn (.clock k) on)) := hstep.settle.widen
    refine ⟨_, exec_prbsTxEn hq hup (hstep.proj State.pending), sansTx_only hwide, ?_, ?_⟩
    · rw [fbit_settle, fbit_setTxEn_clock hk]
    · intro hset
      subst hset
      rw [fget_settle, setTxEn_clock hk, if_pos rfl, fget_unalign_aligned]

end Sys2Proof.Machine

/-! # What the restart of a lane may change (01 R32, 04 R116, R119)

A restart ends the frame that its port receives and the one that passes a window, stops the receive clock and takes the
port's link. It leaves more of the state as it is than a commit does (`Beside`), whose lemmas therefore do not serve. -/

namespace Sys2Proof.Machine

set_option Elab.async false

/-- The state without what the restart of a lane changes. -/
def State.sansRestart (s : State) : State :=
  { s with out := [], regs := [], hot := [], bus := ⟨[], [], [], []⟩, links := ⟨[], [], false, [], [], [], [], []⟩,
           fwd := ⟨[], none, [], [], [], [], [], [], []⟩, qw := State.reset.qw, buf := bufNone, cnt := State.reset.cnt,
           mgt := mgtNew }

/-- From s to t only what the restart of a lane changes has changed. -/
def RestartStep (s t : State) : Prop := t.sansRestart = s.sansRestart

namespace RestartStep
section
variable {s t u : State} {n k i j v bank inPort index len p point port src st verdict a : Nat} {c : BlotCause}
  {bs crossed : List Byte} {ct finish good nextBad : Bool} {cs : List Copy} {e : List Word} {f : Fld} {w : OpenWin}

theorem refl : RestartStep s s := rfl

theorem only (h : RestartStep s t) : t = { s with
    out := t.out, regs := t.regs, hot := t.hot, bus := t.bus, links := t.links, fwd := t.fwd, qw := t.qw, buf := t.buf,
    cnt := t.cnt, mgt := t.mgt } :=
  congrArg (fun u : State => { u with
    out := t.out, regs := t.regs, hot := t.hot, bus := t.bus, links := t.links, fwd := t.fwd, qw := t.qw, buf := t.buf,
    cnt := t.cnt, mgt := t.mgt }) h

theorem pending (h : RestartStep s t) : t.pending = s.pending := by
  show t.sansRestart.pending = s.sansRestart.pending
  rw [show t.sansRestart = s.sansRestart from h]

theorem settle (h : RestartStep s t) : RestartStep s (settle u t) := by
  rw [settle_only]
  exact h

/-- A step that takes no other part of the state out. -/
theorem within {sans : State → State} {K : Fld → Prop} (h : RestartStep s t) (hu : Within sans K t u)
    (hsans : ∀ x : State, (sans x.bare).sansRestart = x.sansRestart := by intro _; rfl) : RestartStep s u := by
  have heq : u.sansRestart = t.sansRestart := by rw [← hsans u, hu.bare_eq, hsans t]
  exact heq.trans h

theorem queue (h : RestartStep s t) (hu : QueueStep t u) : RestartStep s u := h.within hu

theorem frame {out regs hot bus links fwd qw buf cnt mgt} (h : RestartStep s t) :
    RestartStep s { t with out, regs, hot, bus, links, fwd, qw, buf, cnt, mgt } := h

theorem ite {c : Prop} [Decidable c] (ht : RestartStep s t) (hu : RestartStep s u) :
    RestartStep s (if c then t else u) := by split <;> assumption

theorem foldl {α : Type} {g : State → α → State} {l : List α} (h : RestartStep s t)
    (hg : ∀ u x, RestartStep s u → RestartStep s (g u x)) : RestartStep s (l.foldl g t) :=
  List.foldlRecOn l g h fun u hu x _ => hg u x hu

theorem fst_ite {α : Type} {c : Prop} [Decidable c] {x y : State × α} (hx : RestartStep s x.1)
    (hy : RestartStep s y.1) : RestartStep s (if c then x else y).1 := by split <;> assumption

theorem fst_foldl {α β : Type} {g : State × β → α → State × β} {l : List α} {x : State × β} (hx : RestartStep s x.1)
    (hg : ∀ y z, RestartStep s y.1 → RestartStep s (g y z).1) : RestartStep s (l.foldl g x).1 :=
  List.foldlRecOn (motive := fun y => RestartStep s y.1) l g hx fun y hy z _ => hg y z hy

theorem fst_eq {α : Type} {x : State × α} {z : α} (hx : RestartStep s x.1) (hz : x = (t, z)) : RestartStep s t := by
  rwa [hz] at hx

/-! ## Registers -/

theorem fset (h : RestartStep s t) : RestartStep s (t.fset f v) := h

theorem fon (h : RestartStep s t) : RestartStep s (t.fon f) := h

theorem foff (h : RestartStep s t) : RestartStep s (t.foff f) := h

theorem fwrap (h : RestartStep s t) : RestartStep s (t.fwrap f) := h

theorem fcount (h : RestartStep s t) : RestartStep s (t.fcount f n) := h

theorem seen {al : Alarm} (h : RestartStep s t) : RestartStep s (t.seen f al) := h

theorem raise {al : Alarm} (h : RestartStep s t) : RestartStep s (t.raise al) := h

theorem emit {o : Output} (h : RestartStep s t) : RestartStep s (t.emit o) := h

/-! ## Counters and capture (15 R399 to R413) -/

theorem cntAdd (h : RestartStep s t) : RestartStep s (t.cntAdd n i k) := .ite h (.ite h h)

theorem bwCount {x : BwFrame} (h : RestartStep s t) : RestartStep s (t.bwCount x) := h.foldl fun _ _ hu => .ite hu hu

theorem overwriteOldest (h : RestartStep s t) : RestartStep s t.overwriteOldest := by
  unfold State.overwriteOldest
  split
  · exact h
  · exact .frame (.ite (.fcount (.fcount h)) (.fcount h))

theorem lostRecord (h : RestartStep s t) : RestartStep s t.lostRecord := .seen (.fcount h)

theorem putRecord {r : CapRec} (h : RestartStep s t) : RestartStep s (t.putRecord r) := h

theorem writeRecord {make : Nat → List Byte} (h : RestartStep s t) : RestartStep s (t.writeRecord make) :=
  .ite (lostRecord h) (.ite (putRecord h) (.ite (putRecord (overwriteOldest h)) (lostRecord h)))

theorem capture {x : CapFrame} (h : RestartStep s t) : RestartStep s (t.capture x) := .ite (.ite (writeRecord h) h) h

theorem captureEnd {x : RxFrame} (h : RestartStep s t) : RestartStep s (t.captureEnd x bs) := .ite (capture h) h

/-! ## A frame moves to its buffer, or leaves it (05 R157 to R165, 07 R209 to R217) -/

theorem setPool {x : PoolSt} (h : RestartStep s t) : RestartStep s (t.setPool p x) := h.queue (.setPool .refl)

theorem setBuf {x : Buf} (h : RestartStep s t) : RestartStep s (t.setBuf k x) := h.queue (.setBuf .refl)

theorem alloc (h : RestartStep s t) : RestartStep s (t.alloc p nextBad).1 := by
  refine .fst_ite (fwrap h) ?_
  split
  · exact fwrap h
  · exact .fst_ite (fwrap (.raise (.fon (.seen (.fcount h))))) (setBuf (setPool h))

theorem releaseRx {x : RxFrame} (h : RestartStep s t) : RestartStep s (t.releaseRx x) := by
  unfold State.releaseRx
  split
  · exact h.queue (.dropRef .refl)
  · exact h

theorem toResidue {x : FrameInfo} (h : RestartStep s t) : RestartStep s (t.toResidue port k x) :=
  .ite (fwrap h) (.ite (seen (fwrap h)) (.frame (h.queue (.takeRef .refl))))

theorem dropResidue (h : RestartStep s t) : RestartStep s (t.dropResidue k) :=
  .foldl (.frame h) fun _ _ hu => hu.fwrap.queue (.dropRef .refl)

theorem forgetResidue (h : RestartStep s t) : RestartStep s (t.forgetResidue k) :=
  .foldl (.frame h) fun _ _ hu => hu.queue (.dropRef .refl)

theorem admitCopy {x : FrameInfo} {multi : Bool} (h : RestartStep s t) :
    RestartStep s (t.admitCopy k port x multi ct).1 := by
  refine .fst_ite (fwrap h) ?_
  split
  · exact h.queue (.place .refl)
  · exact .ite (toResidue h) (h.queue (.countDrop .refl))

theorem countBlot (h : RestartStep s t) : RestartStep s (t.countBlot src c) := .ite (fon (fwrap h)) h

theorem markBlot (h : RestartStep s t) : RestartStep s (t.markBlot port point) := by
  unfold State.markBlot
  split
  · exact h
  · exact .fwrap (h.queue (.setTx .refl))

theorem dropUnsent (h : RestartStep s t) : RestartStep s (t.dropUnsent k) :=
  h.foldl fun _ _ hu => hu.queue (.removeCopies .refl)

theorem turnBad (h : RestartStep s t) : RestartStep s (t.turnBad src k point c).1 := by
  unfold State.turnBad
  extract_lets _ u
  have hu : RestartStep s u := h.foldl fun _ _ => markBlot
  exact dropResidue (dropUnsent (.ite hu (countBlot hu)))

theorem moveBuffer (h : RestartStep s t) : RestartStep s (t.moveBuffer k len nextBad).1 := by
  refine .fst_ite h ?_
  split
  next _ hnone => exact (forgetResidue ((alloc h).fst_eq hnone)).queue (.dropRef .refl)
  next _ _ hsome =>
    have halloc := (alloc h).fst_eq hsome
    exact .foldl (.foldl (.frame halloc) fun _ _ hu => hu.queue (.setQueue .refl)) fun _ _ hu =>
      hu.queue (.dropRef .refl)

theorem admitLater {x : RxFrame} (h : RestartStep s t) : RestartStep s (t.admitLater k x).1 :=
  .fst_foldl h fun _ _ hr => .fst_ite (admitCopy hr) (admitCopy hr)

theorem markYellow (h : RestartStep s t) : RestartStep s (t.markYellow k) :=
  .frame (h.foldl fun _ _ hu => hu.queue (.setQueue .refl))

/-! ## A frame ends (05 R164, R165, 06 R166 to R172) -/

theorem finishGood {x : RxFrame} (h : RestartStep s t) : RestartStep s (t.finishGood x nextBad) := by
  unfold State.finishGood
  split
  · exact captureEnd h
  · extract_lets _
    split
    next _ hnone => exact captureEnd ((moveBuffer h).fst_eq hnone)
    next _ _ hsome => exact (captureEnd (admitLater ((moveBuffer h).fst_eq hsome))).queue (.dropRef .refl)

theorem finishBad {x : RxFrame} (h : RestartStep s t) : RestartStep s (t.finishBad x bs verdict point c) := by
  unfold State.finishBad
  split
  · exact captureEnd h
  · exact (captureEnd (.ite (cntAdd (turnBad h)) (turnBad h))).queue (.dropRef .refl)

theorem setStream {x : StreamSt} (h : RestartStep s t) : RestartStep s (t.setStream i x) := h

theorem setFilter {x : FilterSt} (h : RestartStep s t) : RestartStep s (t.setFilter i x) := h

theorem holdsDuplicate (h : RestartStep s t) : RestartStep s (t.holdsDuplicate n a) :=
  .foldl (.frame h) fun _ _ hu => releaseRx (captureEnd hu)

theorem holdsRelease (h : RestartStep s t) : RestartStep s (t.holdsRelease n a) := by
  unfold State.holdsRelease
  extract_lets _
  split
  · exact h
  · exact .ite (holdsDuplicate (setStream (finishGood (.frame (setStream h))))) h

theorem seqEnd {x : RxFrame} (h : RestartStep s t) : RestartStep s (t.seqEnd x good) := by
  unfold State.seqEnd
  split
  · exact .ite (holdsDuplicate (setStream h)) (holdsRelease h)
  · exact h

theorem filterEnd {x : RxFrame} (h : RestartStep s t) : RestartStep s (t.filterEnd x len).1 := by
  unfold State.filterEnd
  split
  · exact h
  · extract_lets _ _ _ _ _ _ _
    refine .fst_ite h (.fst_ite ?_ h)
    split
    · exact h
    · exact h
    · refine .fst_ite h ?_
      split
      · exact markYellow h
      · exact h

theorem deliver {x : RxFrame} (h : RestartStep s t) : RestartStep s (t.deliver x bs) :=
  .ite (.ite h h) (.ite h h)

theorem fillBuffer {x : RxFrame} (h : RestartStep s t) : RestartStep s (t.fillBuffer x bs good) := by
  unfold State.fillBuffer
  split
  · exact h
  · exact h

theorem endFrame {x : RxFrame} {rest : List Byte} {y : FrameEnd} (h : RestartStep s t) :
    RestartStep s (t.endFrame x rest y nextBad) := by
  unfold State.endFrame
  extract_lets _ _ u _ v _ z
  have hu : RestartStep s u := h
  have hv : RestartStep s v := .ite (cntAdd (cntAdd hu)) hu
  have hz : RestartStep s z := fillBuffer (.ite (bwCount hv) hv)
  split
  case h_1 =>
    extract_lets _ y
    have hy : RestartStep s y := fillBuffer (.ite (cntAdd hu) hu)
    split
    · exact seqEnd (finishBad (setFilter hy))
    · exact seqEnd (finishBad hy)
  case h_2 =>
    refine .ite (seqEnd (releaseRx (captureEnd (deliver hz)))) ?_
    split
    next hbad => exact seqEnd (finishBad ((filterEnd hz).fst_eq hbad))
    next hgood =>
      have hy := (filterEnd hz).fst_eq hgood
      exact .ite (.frame hy) (seqEnd (finishGood hy))

theorem truncateFrame (h : RestartStep s t) : RestartStep s (t.truncateFrame src crossed) := by
  unfold State.truncateFrame
  split
  · exact endFrame h
  · exact .ite h (.ite (cntAdd h) (.ite (cntAdd h) (cntAdd h)))

/-! ## Windows lose their ingress port (06 R198) -/

theorem shutWin (h : RestartStep s t) : RestartStep s (t.shutWin port w) := h.within (StopStep.shutWin .refl)

theorem setOpen {x : Option OpenWin} (h : RestartStep s t) : RestartStep s (t.setOpen port x) := h

theorem quillBlot {x : QFrame} (h : RestartStep s t) : RestartStep s (t.quillBlot port w x point c) := by
  have hcount : ∀ u, RestartStep s u → RestartStep s (((u.fon (QW_STATUS_CLOSED_SEEN port)).countBlot x.inPort c).fwrap
      (FWD_BLOT_OUT_CNT_OUT port)) := fun _ hu => .fwrap (countBlot (.fon hu))
  have hleft : ∀ u, RestartStep s u → RestartStep s (u.frameLeft port w x true) := fun _ hu =>
    .ite (shutWin hu) (setOpen hu)
  exact hleft _ (capture (cntAdd (cntAdd (emit (hcount t h)))))

theorem quillIngressLost {passed : List Byte} (h : RestartStep s t) :
    RestartStep s (t.quillIngressLost inPort passed) := by
  refine h.foldl fun u _ hu => ?_
  split
  · exact hu
  · extract_lets v
    have hv : RestartStep s v := by
      unfold v
      split
      · exact .ite (quillBlot hu) hu
      · exact hu
    split
    · exact .ite (shutWin hv) hv
    · exact hv

/-! ## The lane loses its clock and its port the link (04 R118, R131) -/

theorem ldecl (h : RestartStep s t) : RestartStep s (t.ldecl f v) := h

theorem checkerLoses (h : RestartStep s t) : RestartStep s (t.checkerLoses n) := .ite (fon (foff h)) h

theorem sourceGone (h : RestartStep s t) : RestartStep s (t.sourceGone n) :=
  .foldl (.frame h) fun _ _ hu => .ite hu hu

theorem clockGone (h : RestartStep s t) : RestartStep s (t.clockGone n) := by
  unfold State.clockGone
  exact sourceGone (checkerLoses (ldecl (ldecl (ldecl h))))

theorem laneFalls (h : RestartStep s t) : RestartStep s (t.laneFalls n) := by
  unfold State.laneFalls
  extract_lets _ u
  have hfalls : RestartStep s ((t.laneState n (t.waitState n)).portFalls (t.portOf n)) :=
    (h.within (laneState_step (n := n))).within (StopStep.portStops .refl)
  have hu : RestartStep s u := foff (foff (foff hfalls))
  exact .ite (fon hu) hu

theorem beginRestart (h : RestartStep s t) : RestartStep s (t.beginRestart n crossed) := by
  have hcounted : RestartStep s
      (((t.truncateFrame (t.portOf n) crossed).quillIngressLost (t.portOf n) crossed).clockGone n) :=
    clockGone (quillIngressLost (truncateFrame h))
  exact .frame (.fon (.fset (laneFalls hcounted)))

end
end RestartStep

end Sys2Proof.Machine

/-! # The restart of a lane, begun and done (04 R116, R119) -/

namespace Sys2Proof.Machine

set_option Elab.async false

section
variable {s t : State} {q : Requester} {n : Nat} {crossed : List Byte} {arrival : Option Nat}

/-! ## A restart begins -/

/-- The lane has fallen and its count of error bursts starts anew. -/
def State.restartFallen (s : State) (n : Nat) (crossed : List Byte) : State :=
  ((((s.truncateFrame (s.portOf n) crossed).quillIngressLost (s.portOf n) crossed).clockGone n).laneFalls n).fset
    (LANE_ERR_INJECT_INJ_CNT n) 0

/-- The lane is among those that restart. -/
def State.restartMarked (s : State) (n : Nat) : State :=
  let t := s.fon (LANE_CMD_RESTART n)
  { t with links := { t.links with restarting := n :: t.links.restarting.filter fun m => decide (m ≠ n) } }

theorem beginRestart_eq : s.beginRestart n crossed = (s.restartFallen n crossed).restartMarked n := rfl

theorem restartMarked_restarting : n ∈ (s.restartMarked n).links.restarting := List.mem_cons_self

theorem fget_restartMarked (g : Fld) : (s.restartMarked n).fget g = (s.fon (LANE_CMD_RESTART n)).fget g :=
  fget_congr rfl rfl g

theorem fget_restartMarked_same : (s.restartMarked n).fget (LANE_CMD_RESTART n) = 1 :=
  (fget_restartMarked _).trans (fget_fon_same _ _ rfl Nat.one_pos)

theorem fget_beginRestart_bursts : (s.beginRestart n crossed).fget (LANE_ERR_INJECT_INJ_CNT n) = 0 := by
  have hkey : LANE_ERR_INJECT n ≠ LANE_CMD n := by unfold LANE_ERR_INJECT LANE_CMD; omega
  rw [beginRestart_eq]
  exact (fget_restartMarked _).trans ((fget_fon_apart _ _ _ rfl (apart_of_key hkey)).trans (fget_fset_same _ _ _ rfl))

/-- The outcome of a command that begins a restart. -/
theorem whenUp_beginRestart (hup : s.up = true) : ∃ t, whenUp s (s.beginRestart n crossed) = .next t ∧
    t = { s with
      out := t.out, regs := t.regs, hot := t.hot, bus := t.bus, links := t.links, fwd := t.fwd,
      qw := t.qw, buf := t.buf, cnt := t.cnt, mgt := t.mgt } ∧
    n ∈ t.links.restarting ∧ t.fget (LANE_CMD_RESTART n) = 1 ∧ t.fget (LANE_ERR_INJECT_INJ_CNT n) = 0 := by
  have hstep : RestartStep s (s.beginRestart n crossed) := .beginRestart .refl
  refine ⟨_, whenUp_next_settle hup hstep.pending, hstep.settle.only, ?_, ?_, ?_⟩
  · rw [settle_links, beginRestart_eq]
    exact restartMarked_restarting
  · rw [fget_settle, beginRestart_eq, fget_restartMarked_same]
  · rw [fget_settle, fget_beginRestart_bursts]

theorem exec_laneRestart {n : Fin 64} (hon : s.laneOn n = true) (hinv : s.laneInvalid n = true)
    (hsig : s.lget (LANE_STATUS_SIGNAL n) = 1) (hctl : s.links.ctlRestart = false) (hnew : n.val ∉ s.links.restarting) :
    exec (.laneRestart n crossed) s = whenUp s (s.beginRestart n crossed) := by
  have hexec : exec (.laneRestart n crossed) s = whenUp s (if s.laneOn n.val && s.laneInvalid n.val &&
    s.lbit (LANE_STATUS_SIGNAL n.val) && !s.links.ctlRestart && !s.links.restarting.contains n.val then
      s.beginRestart n.val crossed else s) := rfl
  rw [hexec, if_pos (by simp [hon, hinv, lbit_of_lget hsig, hctl, hnew])]

theorem exec_laneCmdRestart {n : Fin 64} (hq : s.takes q = true) (hon : s.laneOn n = true)
    (hidle : s.fget (LANE_CMD_RESTART n) = 0) :
    exec (.laneCmdRestart q n crossed) s = whenUp s (s.beginRestart n crossed) := by
  have hexec : exec (.laneCmdRestart q n crossed) s = whenTaken s q (if s.laneOn n.val &&
    !s.fbit (LANE_CMD_RESTART n.val) then s.beginRestart n.val crossed else s) := rfl
  rw [hexec, if_pos (by simp [hon, fbit_of_fget_zero hidle]), whenTaken_of_takes hq]

theorem exec_laneCmdRestart_running {n : Fin 64} (hruns : s.fget (LANE_CMD_RESTART n) = 1) :
    exec (.laneCmdRestart q n crossed) s = .next s := by
  have hexec : exec (.laneCmdRestart q n crossed) s = whenTaken s q (if s.laneOn n.val &&
    !s.fbit (LANE_CMD_RESTART n.val) then s.beginRestart n.val crossed else s) := rfl
  rw [hexec, if_neg (by simp [fbit_of_fget_one hruns]), whenTaken_self]

/-! ## A restart is done -/

/-- The lane restarts no more, and its crossings are released. -/
def State.crossingsReleased (s : State) (n : Nat) : State :=
  let t := { s with links := { s.links with restarting := s.links.restarting.filter fun m => decide (m ≠ n) } }
  ((t.foff (xingLane n)).ldecl (LANE_STATUS_CROSSING_INVALID n) 0).foff (LANE_CMD_RESTART n)

/-- A released lane carries writes over, its phase is taken anew, and it waits for lock. -/
def State.laneResumes (s : State) (n : Nat) (arrival : Option Nat) : State :=
  let t := (s.carryLane n).restartTxph n arrival
  t.laneState n (t.waitState n)

/-- The state without what a lane that resumes changes beside registers. -/
def State.sansResume (s : State) : State := { s with bus := ⟨[], [], [], []⟩, qw := State.reset.qw }

/-- From s to t a lane has resumed. -/
abbrev ResumeStep (s t : State) : Prop := Within State.sansResume stopFld s t

theorem relock_step {port : Nat} (h : ResumeStep s t) : ResumeStep s (t.relock port) := by
  have hlock : ∀ err, ResumeStep s (t.steerLock port err) := fun err =>
    .ite (h.fon (stopFld_quill port)) (.ite (h.foff (stopFld_quill port)) h)
  unfold State.relock
  split
  · exact .ite (hlock _) h
  · exact h

theorem setTxph_step {v : Nat} (h : ResumeStep s t) : ResumeStep s (t.setTxph n v) := h.qw

theorem restartTxph_step (h : ResumeStep s t) : ResumeStep s (t.restartTxph n arrival) := by
  unfold State.restartTxph
  extract_lets port
  split
  · exact .ite (relock_step (setTxph_step h)) (setTxph_step h)
  · exact relock_step (setTxph_step h)

theorem laneResumes_step : ResumeStep s (s.laneResumes n arrival) := by
  have hcarried : ResumeStep s (s.carryLane n) := carryLane_step.widen
  exact (restartTxph_step hcarried).laneState (stopFld_lane n) (stopFld_lane n)

theorem lget_restartTxph {g : Fld} : (s.restartTxph n arrival).lget g = s.lget g := by
  have hrelock : ∀ (t : State) (port : Nat), (t.relock port).lget g = t.lget g := fun t port => by
    unfold State.relock State.steerLock
    split
    · split
      · split
        · exact lget_fon _ _ _
        · split
          · exact lget_fset _ _ _ _
          · rfl
      · rfl
    · rfl
  have hput : ∀ v, (s.setTxph n v).lget g = s.lget g := fun v => lget_congr rfl rfl g
  unfold State.restartTxph
  extract_lets port
  split
  · split
    · exact (hrelock _ _).trans (hput _)
    · exact hput _
  · exact (hrelock _ _).trans (hput _)

theorem lget_laneResumes_crossing : (s.laneResumes n arrival).lget (LANE_STATUS_CROSSING_INVALID n) =
    s.lget (LANE_STATUS_CROSSING_INVALID n) := calc
  _ = ((s.carryLane n).restartTxph n arrival).lget (LANE_STATUS_CROSSING_INVALID n) :=
    lget_laneState_apart (apart_of_bits (by decide)) (apart_of_bits (by decide))
  _ = (s.carryLane n).lget (LANE_STATUS_CROSSING_INVALID n) := lget_restartTxph
  _ = s.lget (LANE_STATUS_CROSSING_INVALID n) := lget_carryLane (apart_of_bits (by decide)) (apart_of_bits (by decide))

theorem lget_crossingsReleased : (s.crossingsReleased n).lget (LANE_STATUS_CROSSING_INVALID n) = 0 :=
  (lget_fset _ _ _ _).trans (lget_ldecl_same _ _ _ rfl)

theorem fget_crossingsReleased_restart : (s.crossingsReleased n).fget (LANE_CMD_RESTART n) = 0 := fget_foff_same _ _ rfl

/-- The bit of a lane's crossings lies in GLB_XING_LANE. -/
theorem xingLane_key : (xingLane n).key < 0x1000 := by
  have hlo : GLB_XING_LANE_LO < 0x1000 := by decide
  have hhi : GLB_XING_LANE_HI < 0x1000 := by decide
  unfold xingLane
  split
  · exact hlo
  · exact hhi

theorem xingLane_fits (n : Fin 64) : (xingLane n).fits = true := by
  unfold xingLane
  split <;> simp [Fld.fits] <;> omega

theorem fget_crossingsReleased_crossing {n : Fin 64} : (s.crossingsReleased n).fget (xingLane n) = 0 := by
  have hlow : (xingLane n).key < 0x1000 := xingLane_key
  have hcmd : (xingLane n).key ≠ LANE_CMD n := by unfold LANE_CMD; omega
  have hstatus : (xingLane n).key ≠ LANE_STATUS n := by unfold LANE_STATUS; omega
  exact (fget_fset_apart _ _ _ _ rfl (apart_of_key hcmd)).trans
    ((fget_ldecl_apart _ _ _ _ rfl (apart_of_key hstatus)).trans (fget_foff_same _ _ (xingLane_fits n)))

/-- What a lane that resumes changes leaves its command and its crossings as they are. -/
theorem fget_laneResumes {g : Fld} (h : g.key < 0x1000 ∨ g.key = LANE_CMD n) :
    (s.laneResumes n arrival).fget g = s.fget g := by
  refine laneResumes_step.keeps g fun f hf => apart_of_key ?_
  rcases hf with ⟨i, hf | hf | hf⟩ | hf | ⟨m, q, hf | hf | hf⟩ <;> rw [hf] <;>
    simp only [LANE_CMD, PORT_STATUS, LANE_STATUS, QW_STATUS, BUF_PEAT_STATUS, BUF_Q_OCC_PEAT, BUF_Q_DROP,
      BUF_Q_DROP_CAUSE] at h ⊢ <;> omega

theorem crossingsReleased_restarting : n ∉ (s.crossingsReleased n).links.restarting := by
  have hlinks : (s.crossingsReleased n).links.restarting = s.links.restarting.filter fun m => decide (m ≠ n) := rfl
  simp [hlinks]

/-- The state without what the end of a restart changes beside registers. -/
def State.sansRestartEnd (s : State) : State :=
  { s with bus := ⟨[], [], [], []⟩, links := ⟨[], [], false, [], [], [], [], []⟩, qw := State.reset.qw, mgt := mgtNew }

theorem restartEnd_only (h : Within State.sansRestartEnd (fun _ => True) s t) : t = { s with
    regs := t.regs, hot := t.hot, bus := t.bus, links := t.links, qw := t.qw, mgt := t.mgt } :=
  congrArg (fun u : State => { u with
    regs := t.regs, hot := t.hot, bus := t.bus, links := t.links, qw := t.qw, mgt := t.mgt }) h.bare_eq

theorem restartDone_step {n : Fin 64} :
    Within State.sansRestartEnd (fun _ => True) s ((s.crossingsReleased n).laneResumes n arrival) := by
  have hreleased : Within State.sansRestartEnd (fun _ => True) s (s.crossingsReleased n) := by
    unfold State.crossingsReleased
    extract_lets _ t
    have ht : Within State.sansRestartEnd (fun _ => True) s t := Within.refl.links
    exact ((ht.foff trivial (xingLane_fits n)).ldecl trivial).foff trivial
  exact hreleased.trans (laneResumes_step.widen.mono fun _ _ => trivial)

theorem exec_laneRestartDone {n : Fin 64} (hup : s.up = true) (hruns : n.val ∈ s.links.restarting)
    (hctl : s.links.ctlRestart = false) :
    exec (.laneRestartDone n arrival) s = .next (settle s ((s.crossingsReleased n).laneResumes n arrival)) := by
  have hexec : exec (.laneRestartDone n arrival) s = whenUp s (if s.links.restarting.contains n.val &&
    !s.links.ctlRestart then (s.crossingsReleased n.val).laneResumes n.val arrival else s) := rfl
  rw [hexec, if_pos (by simp [hruns, hctl])]
  exact whenUp_next_settle hup (restartDone_step.proj State.pending)

end

/-- Settles O17: the two beginnings of a restart, the command that is ignored, and the restart's end. -/
theorem laneRestarts : Obligations.LaneRestarts := by
  unfold Obligations.LaneRestarts
  refine ⟨?judged, ?commanded, ?ignored, ?done⟩
  case judged =>
    intro s n crossed hup hon hinv hsig hctl hnew
    rw [exec_laneRestart hon hinv hsig hctl hnew]
    exact whenUp_beginRestart hup
  case commanded =>
    intro s q n crossed hq hup hon hidle
    rw [exec_laneCmdRestart hq hon hidle]
    exact whenUp_beginRestart hup
  case ignored =>
    intro s q n crossed hruns
    exact exec_laneCmdRestart_running hruns
  case done =>
    intro s n arrival hup hruns hctl
    refine ⟨_, exec_laneRestartDone hup hruns hctl, restartEnd_only restartDone_step.settle, ?_, ?_, ?_, ?_⟩
    · rw [settle_links, laneResumes_step.proj State.links]
      exact crossingsReleased_restarting
    · exact (fbit_settle _ _ _).trans
        (fbit_of_fget_zero ((fget_laneResumes (.inl xingLane_key)).trans fget_crossingsReleased_crossing))
    · rw [fget_settle, fget_laneResumes (.inr rfl), fget_crossingsReleased_restart]
    · rw [lget_settle, lget_laneResumes_crossing, lget_crossingsReleased]

end Sys2Proof.Machine

/-! # Table commands (05 R142) -/

namespace Sys2Proof.Machine

/-! ## The registers of a requester's own -/

/-- From s to t only registers that each requester has of its own have changed: their keys lie above the bus. -/
structure OwnRegs (s t : State) : Prop where
  only : t = { s with regs := t.regs }
  low : ∀ k < 2 ^ 32, t.getReg k = s.getReg k

/-- An update that keeps every register that is there once, and the management state, begins no condition. -/
theorem done_of_low {s t : State} (hlow : ∀ k < 2 ^ 32, t.getReg k = s.getReg k) (hm : t.mgt = s.mgt)
    (hq : t.pending = s.pending) : done s t = .next t := by
  have hcond : ∀ k ∈ condKeys, k < 2 ^ 32 := by decide
  rw [done_queue hq, settle_of_same s t (alarmConds_of_condKeys (fun k hk => hlow k (hcond k hk)) hm)]

namespace OwnRegs
section
variable {s t u : State} {k v : Nat} {f : Fld}

theorem refl : OwnRegs s s := ⟨rfl, fun _ _ => rfl⟩

theorem setReg (h : OwnRegs s t) (hk : 2 ^ 32 ≤ k) : OwnRegs s (t.setReg k v) :=
  ⟨setReg_only h.only k v, fun j hj =>
    (getReg_setReg_ne _ _ _ _ (Nat.ne_of_lt (Nat.lt_of_lt_of_le hj hk))).trans (h.low j hj)⟩

theorem fset (h : OwnRegs s t) (hk : 2 ^ 32 ≤ f.key) : OwnRegs s (t.fset f v) := h.setReg hk

theorem fwd (h : OwnRegs s t) : t.fwd = s.fwd := by rw [h.only]

theorem cfg (h : OwnRegs s t) : t.cfg = s.cfg := by rw [h.only]

theorem hrt (h : OwnRegs s t) : t.hrt = s.hrt := by rw [h.only]

theorem entry {i : Nat} (h : OwnRegs s t) : t.entry k i = s.entry k i :=
  congrArg (fun x : FwdState => entryOf x.tables k i) h.fwd

theorem streamOf (h : OwnRegs s t) : t.streamOf k = s.streamOf k :=
  congrArg (fun x : FwdState => mapGet (fun _ => streamReset) x.streams k) h.fwd

theorem filterOf (h : OwnRegs s t) : t.filterOf k = s.filterOf k :=
  congrArg (fun x : FwdState => mapGet (fun _ => filterIdle) x.filters k) h.fwd

theorem mayStage {q : Requester} (h : OwnRegs s t) : t.mayStage q = s.mayStage q := by
  unfold State.mayStage
  rw [h.cfg]

theorem done (h : OwnRegs s t) : done s t = .next t := done_of_low h.low (by rw [h.only]) (by rw [h.only])

/-! Between updates of a requester's own registers the forwarding state, or the staging session, changes. -/

theorem done_fwd {x : FwdState} (h : OwnRegs s t) (hu : OwnRegs { t with fwd := x } u) :
    Machine.done s u = .next u ∧ u = { s with regs := u.regs, fwd := u.fwd } := by
  have hframe : u = { s with regs := u.regs, fwd := u.fwd } := by rw [hu.only, h.only]
  refine ⟨done_of_low (fun k hk => (hu.low k hk).trans (h.low k hk)) ?_ ?_, hframe⟩ <;> rw [hframe]

theorem done_cfg {x : CfgState} (h : OwnRegs s t) (hu : OwnRegs { t with cfg := x } u) :
    Machine.done s u = .next u ∧ u = { s with regs := u.regs, cfg := u.cfg } := by
  have hframe : u = { s with regs := u.regs, cfg := u.cfg } := by rw [hu.only, h.only]
  refine ⟨done_of_low (fun k hk => (hu.low k hk).trans (h.low k hk)) ?_ ?_, hframe⟩ <;> rw [hframe]

end
end OwnRegs

section
variable {s t : State} {q : Requester} {e : List Word} {i k op table : Nat}

/-- The registers of a requester's table commands lie above the bus. -/
theorem tblKeys_high (r i : Nat) : 2 ^ 32 ≤ FWD_TBL_CMD r ∧ 2 ^ 32 ≤ FWD_TBL_ADDR r ∧ 2 ^ 32 ≤ FWD_TBL_DATA r i := by
  unfold FWD_TBL_CMD FWD_TBL_ADDR FWD_TBL_DATA
  omega

/-- They are different registers. -/
theorem tblKeys_apart (r i : Nat) :
    FWD_TBL_ADDR r ≠ FWD_TBL_CMD r ∧ FWD_TBL_DATA r i ≠ FWD_TBL_CMD r ∧ FWD_TBL_CMD r ≠ FWD_TBL_DATA r i := by
  unfold FWD_TBL_CMD FWD_TBL_ADDR FWD_TBL_DATA
  omega

theorem ownRegs_tblCmd : OwnRegs s (s.tblCmd q op table) :=
  have hcmd := (tblKeys_high (reqIx q) 0).1
  (OwnRegs.refl.fset hcmd).fset hcmd

theorem tblCmd_keeps : keepsBut [FWD_TBL_CMD_OP (reqIx q), FWD_TBL_CMD_TABLE (reqIx q)] s (s.tblCmd q op table) :=
  keepsBut_fset _ _ (by simp) rfl (keepsBut_fset _ _ (by simp) rfl (keepsBut_refl _ s))

theorem getReg_tblCmd (h : k ≠ FWD_TBL_CMD (reqIx q)) : (s.tblCmd q op table).getReg k = s.getReg k :=
  (getReg_fset_ne _ _ _ _ h).trans (getReg_fset_ne _ _ _ _ h)

theorem tblAddr_tblCmd : (s.tblCmd q op table).tblAddr q = s.tblAddr q := by
  obtain ⟨haddr, -, -⟩ := tblKeys_apart (reqIx q) 0
  simp only [State.tblAddr, State.fget, FWD_TBL_ADDR_INDEX, getReg_tblCmd haddr]

theorem tblData_tblCmd : (s.tblCmd q op table).tblData q = s.tblData q := by
  have hdata : ∀ i, FWD_TBL_DATA (reqIx q) i ≠ FWD_TBL_CMD (reqIx q) := fun i => (tblKeys_apart _ i).2.1
  simp only [State.tblData, getReg_tblCmd (hdata _)]

theorem readsShadow_tblCmd : (s.tblCmd q op table).readsShadow q = s.readsShadow q := by
  have hword : (s.tblCmd q op table).getReg CFG_STAGE_CTRL = s.getReg CFG_STAGE_CTRL :=
    ownRegs_tblCmd.low _ (by decide)
  simp only [State.readsShadow, ownRegs_tblCmd.cfg, State.fbit, State.fget, CFG_STAGE_CTRL_READ_SHADOW, hword]

/-! ## The data registers -/

/-- The first n data registers loaded hold the first n words. -/
theorem getReg_loadWords {n : Nat} (hi : i < n) :
    ((List.range n).foldl (fun t i => t.setReg (FWD_TBL_DATA (reqIx q) i) (entryWord e i)) s).getReg
      (FWD_TBL_DATA (reqIx q) i) = entryWord e i := by
  induction n with
  | zero => omega
  | succ n ih =>
    rw [List.range_succ, List.foldl_concat]
    by_cases hn : i = n
    · subst hn
      exact (getReg_setReg_same _ _ _).trans (Nat.mod_eq_of_lt (BitVec.isLt _))
    · rw [getReg_setReg_ne _ _ _ _ (by unfold FWD_TBL_DATA; omega), ih (by omega)]

theorem getReg_loadTbl_data (hi : i < 8) : (s.loadTbl q e).getReg (FWD_TBL_DATA (reqIx q) i) = entryWord e i :=
  getReg_loadWords hi

theorem ownRegs_loadTbl (h : OwnRegs s t) : OwnRegs s (t.loadTbl q e) :=
  List.foldlRecOn _ _ h fun _ hu i _ => hu.setReg (tblKeys_high _ i).2.2

theorem ownRegs_tblDone (h : OwnRegs s t) : OwnRegs s (t.tblDone q) := h.fset (tblKeys_high _ 0).1

theorem fget_tblDone : (s.tblDone q).fget (FWD_TBL_CMD_RESULT (reqIx q)) = 0 := fget_fset_same _ _ _ rfl

/-- A command of a requester shows words in its data registers. -/
def State.tblShown (s : State) (q : Requester) (op table : Nat) (e : List Word) : State :=
  ((s.tblCmd q op table).loadTbl q e).tblDone q

theorem ownRegs_tblShown : OwnRegs s (s.tblShown q op table e) := ownRegs_tblDone (ownRegs_loadTbl ownRegs_tblCmd)

theorem getReg_tblShown (hi : i < 8) : (s.tblShown q op table e).getReg (FWD_TBL_DATA (reqIx q) i) = entryWord e i :=
  (getReg_fset_ne _ _ _ _ (tblKeys_apart _ i).2.1).trans (getReg_loadTbl_data hi)

theorem fget_tblShown : (s.tblShown q op table e).fget (FWD_TBL_CMD_RESULT (reqIx q)) = 0 := fget_tblDone

theorem entryWord_zeroEntry : entryWord zeroEntry i = 0 := by
  unfold entryWord zeroEntry
  by_cases hi : i < 8 <;> simp [-List.reduceReplicate, List.getD_eq_getElem?_getD, hi]

/-! ## The operations -/

theorem tblRead_tblCmd (h : s.readsShadow q = false) : (s.tblCmd q op table).tblRead q table =
    s.tblShown q op table (if inTable table (s.tblAddr q) then s.entry table (s.tblAddr q) else zeroEntry) := by
  unfold State.tblRead
  cases hin : inTable table (s.tblAddr q) <;>
    simp only [tblAddr_tblCmd, readsShadow_tblCmd, ownRegs_tblCmd.entry, h, hin, State.tblShown, if_true, if_false,
      Bool.false_eq_true]

theorem tblReadState_stream (h : inTable 3 (s.tblAddr q) = true) : (s.tblCmd q op 3).tblReadState q 3 =
    s.tblShown q op 3 (streamWords (s.streamOf (s.tblAddr q))) := by
  unfold State.tblReadState
  simp only [tblAddr_tblCmd, ownRegs_tblCmd.streamOf, h, and_self, if_true, State.tblShown]

theorem tblReadState_filter (h : inTable 5 (s.tblAddr q) = true) : (s.tblCmd q op 5).tblReadState q 5 =
    s.tblShown q op 5 (filterWords (s.filterOf (s.tblAddr q))) := by
  unfold State.tblReadState
  simp only [tblAddr_tblCmd, ownRegs_tblCmd.filterOf, h, and_self, if_true, State.tblShown, Nat.reduceEqDiff, false_and,
    if_false]

/-- A table and an index that name no state. -/
def namesNoState (table i : Nat) : Prop := table ≠ 3 ∧ table ≠ 5 ∨ inTable table i = false

theorem namesNoState_apart (h : namesNoState table i) :
    ¬ (table = 3 ∧ inTable 3 i = true) ∧ ¬ (table = 5 ∧ inTable 5 i = true) := by
  constructor <;> rintro ⟨rfl, hin⟩ <;> simp [namesNoState, hin] at h

theorem tblReadState_none (h : namesNoState table (s.tblAddr q)) : s.tblReadState q table = s := by
  obtain ⟨hstream, hfilter⟩ := namesNoState_apart h
  simp only [State.tblReadState, hstream, hfilter, if_false]

theorem tblClearState_none (h : namesNoState table (s.tblAddr q)) : s.tblClearState q table = s := by
  obtain ⟨hstream, hfilter⟩ := namesNoState_apart h
  simp only [State.tblClearState, hstream, hfilter, if_false, ite_self]

theorem tblClearState_unheld (h : s.hrt.holder = none) : s.tblClearState q table = s := by
  simp [State.tblClearState, h]

end

section
variable {s : State} {q : Requester} {table : Fin 16}

/-! ## The commands -/

theorem exec_fwdTblRead (hq : s.takes q = true) (hup : s.up = true) :
    exec (.fwdTblRead q table) s = done s ((s.tblCmd q 0 table).tblRead q table) :=
  (whenTaken_of_takes hq _).trans (whenUp_up hup _)

theorem exec_fwdTblWrite (hq : s.takes q = true) (hup : s.up = true) :
    exec (.fwdTblWrite q table) s = done s ((s.tblCmd q 1 table).tblWrite q table) :=
  (whenTaken_of_takes hq _).trans (whenUp_up hup _)

theorem exec_fwdTblSearch (hq : s.takes q = true) (hup : s.up = true) :
    exec (.fwdTblSearch q table) s = done s ((s.tblCmd q 2 table).tblSearch q table) :=
  (whenTaken_of_takes hq _).trans (whenUp_up hup _)

theorem exec_fwdTblReadState (hq : s.takes q = true) (hup : s.up = true) :
    exec (.fwdTblReadState q table) s = done s ((s.tblCmd q 3 table).tblReadState q table) :=
  (whenTaken_of_takes hq _).trans (whenUp_up hup _)

theorem exec_fwdTblClearState (hq : s.takes q = true) (hup : s.up = true) :
    exec (.fwdTblClearState q table) s = done s ((s.tblCmd q 4 table).tblClearState q table) :=
  (whenGated_of_takes hq _).trans (whenUp_up hup _)

/-- A write enters the shadow store of its requester's session while it has room (03 R91, R95). -/
theorem tblWrite_tblCmd (hstage : s.mayStage q = true) (hroom : recsCharge s.cfg.records + 40 ≤ shadowBytes) :
    (s.tblCmd q 1 table).tblWrite q table =
      State.tblDone { s.tblCmd q 1 table with cfg := { s.cfg with
        sess := .opened
        records := s.cfg.records ++ [.table table (s.tblAddr q) (stagedForm table (s.tblData q))] } } q := by
  have hmay : (s.tblCmd q 1 table).mayStage q = true := ownRegs_tblCmd.mayStage.trans hstage
  have hfits : ∀ a b c, recsCharge (s.tblCmd q 1 table).cfg.records + recCharge (.table a b c) ≤ shadowBytes := by
    rw [ownRegs_tblCmd.cfg]
    exact fun _ _ _ => hroom
  rw [State.tblWrite, if_pos hmay, stageRec_of_fits hmay (hfits _ _ _), ownRegs_tblCmd.cfg, tblAddr_tblCmd,
    tblData_tblCmd]

theorem tblSearch_other (h1 : table.val ≠ 1) (h3 : table.val ≠ 3) : s.tblSearch q table = s := by
  simp [State.tblSearch, h1, h3]

/-- The outcome and RESULT of a search in a hashed table. -/
theorem search_result (ht : table.val = 1 ∨ table.val = 3) :
    OwnRegs s ((s.tblCmd q 2 table).tblSearch q table) ∧
      ((s.tblCmd q 2 table).tblSearch q table).fget (FWD_TBL_CMD_RESULT (reqIx q)) =
        (if (findKey s.fwd.tables table (s.tblData q)).isSome then 0
         else if (freeWay s.fwd.tables table (s.tblData q)).isSome then 1 else 2) := by
  obtain ⟨hcmd, haddr, -⟩ := tblKeys_high (reqIx q) 0
  have hresult : ∀ (u : State) (v : Nat),
      (u.fset (FWD_TBL_CMD_RESULT (reqIx q)) v).fget (FWD_TBL_CMD_RESULT (reqIx q)) = v % 2 ^ 4 :=
    fun u v => fget_fset_same u _ v rfl
  unfold State.tblSearch
  simp only [ht, if_true, tblData_tblCmd, ownRegs_tblCmd.fwd]
  cases hkey : findKey s.fwd.tables table (s.tblData q) with
  | some i => exact ⟨(ownRegs_loadTbl (ownRegs_tblCmd.fset haddr)).fset hcmd, hresult _ 0⟩
  | none =>
    cases hway : freeWay s.fwd.tables table (s.tblData q) with
    | some i => exact ⟨(ownRegs_tblCmd.fset haddr).fset hcmd, hresult _ 1⟩
    | none => exact ⟨ownRegs_tblCmd.fset hcmd, hresult _ 2⟩

/-- The state of a stream as CLEAR_STATE leaves it (05 R142, R170). -/
def StreamSt.cleared (v : StreamSt) : StreamSt :=
  { v with genSeq := 0, passed := 0, dups := 0, ooo := 0, lost := 0, resets := 0, rogue := 0, tagless := 0 }

/-- The state of a filter as CLEAR_STATE leaves it (05 R142, R157). -/
def FilterSt.cleared (f : FilterSt) : FilterSt :=
  { f with matched := 0, passed := 0, sduFail := 0, red := 0, yellow := 0, blocked := false }

theorem tblClearState_stream (hheld : s.hrt.holder ≠ none) (h : inTable 3 (s.tblAddr q) = true) :
    (s.tblCmd q 4 3).tblClearState q 3 =
      ((s.tblCmd q 4 3).setStream (s.tblAddr q) (s.streamOf (s.tblAddr q)).cleared).tblDone q := by
  unfold State.tblClearState
  simp only [ownRegs_tblCmd.hrt, Option.isNone_iff_eq_none, hheld, tblAddr_tblCmd, ownRegs_tblCmd.streamOf, h, and_self,
    if_true, if_false, StreamSt.cleared]

theorem tblClearState_filter (hheld : s.hrt.holder ≠ none) (h : inTable 5 (s.tblAddr q) = true) :
    (s.tblCmd q 4 5).tblClearState q 5 =
      ((s.tblCmd q 4 5).setFilter (s.tblAddr q) (s.filterOf (s.tblAddr q)).cleared).tblDone q := by
  unfold State.tblClearState
  simp only [ownRegs_tblCmd.hrt, Option.isNone_iff_eq_none, hheld, tblAddr_tblCmd, ownRegs_tblCmd.filterOf, h, and_self,
    if_true, if_false, Nat.reduceEqDiff, false_and, FilterSt.cleared]

theorem streamOf_setStream_same {i : Nat} {v : StreamSt} : (s.setStream i v).streamOf i = v := mapGet_mapSet_same _ _ _ _

theorem streamOf_setStream_ne {i j : Nat} {v : StreamSt} (h : j ≠ i) : (s.setStream i v).streamOf j = s.streamOf j :=
  mapGet_mapSet_ne _ _ _ _ _ h

theorem filterOf_setFilter_same {i : Nat} {v : FilterSt} : (s.setFilter i v).filterOf i = v := mapGet_mapSet_same _ _ _ _

theorem filterOf_setFilter_ne {i j : Nat} {v : FilterSt} (h : j ≠ i) : (s.setFilter i v).filterOf j = s.filterOf j :=
  mapGet_mapSet_ne _ _ _ _ _ h

/-- While no hearth holds the token CLEAR_STATE leaves the forwarding state, whoever writes it. -/
theorem fwdTblClearState_unheld (hheld : s.hrt.holder = none) :
    ∃ t, exec (.fwdTblClearState q table) s = .next t ∧
      t = { s with regs := t.regs, hot := t.hot, cfg := t.cfg, fwd := t.fwd, mgt := t.mgt } ∧ t.fwd = s.fwd := by
  let u := if s.up then (if s.takes q then s.tblCmd q 4 table else s.gateRefused q) else s
  have hu : OnlyRegs s u := by
    unfold u State.gateRefused
    split
    · split
      · exact OnlyRegs.refl.fset.fset
      · split
        · exact OnlyRegs.refl.fon
        · exact OnlyRegs.refl
    · exact OnlyRegs.refl
  have hnone : (s.tblCmd q 4 table).tblClearState q table = s.tblCmd q 4 table :=
    tblClearState_unheld ((congrArg HrtState.holder ownRegs_tblCmd.hrt).trans hheld)
  have hexec : exec (.fwdTblClearState q table) s = done s u := by
    simp only [exec, execFwdTblClearState, State.tblOp, hnone]
    rfl
  have hframe : ∀ m, { u with mgt := m } = { s with regs := u.regs, hot := u.hot, mgt := m } := fun m => by rw [hu]
  have hsettle : settle s u = { s with regs := u.regs, hot := u.hot, mgt := (settle s u).mgt } := by
    rw [settle_mgt, ← hframe]
    exact settle_only s u
  refine ⟨settle s u, by rw [hexec, done_queue hu.pending], ?_, ?_⟩ <;> rw [hsettle]

end

section
variable {s : State} {q : Requester}

/-- A state word of a filter is 32 bits of its count. -/
theorem entryWord_filterWords (f : FilterSt) : entryWord (filterWords f) 0 = f.matched % 2 ^ 32 ∧
    entryWord (filterWords f) 1 = f.passed % 2 ^ 32 ∧ entryWord (filterWords f) 5 = f.blocked.toNat := by
  refine ⟨BitVec.toNat_ofNat _ _, BitVec.toNat_ofNat _ _, (BitVec.toNat_ofNat _ _).trans (Nat.mod_eq_of_lt ?_)⟩
  exact Nat.lt_of_le_of_lt (Bool.toNat_le _) (by decide)

end

/-- Settles O24: each operation acts on its requester's registers, and on no more than the statement says. -/
theorem tableCommands : Obligations.TableCommands := by
  unfold Obligations.TableCommands
  refine ⟨?read, ?write, ?search, ?readFilter, ?clearFilter, ?unheld, ?readStream, ?clearStream, ?searchOther, ?noState⟩
  case read =>
    intro s q table hq hup hshadow
    rw [exec_fwdTblRead hq hup, tblRead_tblCmd hshadow]
    refine ⟨_, ownRegs_tblShown.done, fun i hi => ?_, ownRegs_tblShown.fwd, ownRegs_tblShown.only⟩
    rw [getReg_tblShown hi]
    split
    · rfl
    · exact entryWord_zeroEntry
  case write =>
    intro s q table hq hup hstage hroom
    rw [exec_fwdTblWrite hq hup, tblWrite_tblCmd hstage hroom]
    have hdone := ownRegs_tblDone (q := q) (OwnRegs.refl (s := { s.tblCmd q 1 table with cfg := { s.cfg with
        sess := .opened
        records := s.cfg.records ++ [.table table (s.tblAddr q) (stagedForm table (s.tblData q))] } }))
    obtain ⟨hnext, honly⟩ := ownRegs_tblCmd.done_cfg hdone
    refine ⟨_, hnext, ?_, ?_, hdone.cfg⟩ <;> rw [honly]
  case search =>
    intro s q table hq hup ht
    obtain ⟨hown, hresult⟩ := search_result (s := s) (q := q) ht
    rw [exec_fwdTblSearch hq hup]
    exact ⟨_, hown.done, hown.fwd, hresult, hown.only⟩
  case readFilter =>
    intro s q hq hup hin
    obtain ⟨hmatched, hpassed, hblocked⟩ := entryWord_filterWords (s.filterOf (s.tblAddr q))
    refine ⟨s.tblShown q 3 5 (filterWords (s.filterOf (s.tblAddr q))), ?_, ?_, ?_, ?_, ownRegs_tblShown.only⟩
    · exact (exec_fwdTblReadState hq hup).trans ((congrArg _ (tblReadState_filter hin)).trans ownRegs_tblShown.done)
    · exact (getReg_tblShown (by decide)).trans hmatched
    · exact (getReg_tblShown (by decide)).trans hpassed
    · exact (getReg_tblShown (by decide)).trans hblocked
  case clearFilter =>
    intro s q hq hup hheld hin
    have hdone : OwnRegs ((s.tblCmd q 4 5).setFilter (s.tblAddr q) (s.filterOf (s.tblAddr q)).cleared) _ :=
      ownRegs_tblDone (q := q) .refl
    obtain ⟨hnext, honly⟩ := ownRegs_tblCmd.done_fwd hdone
    refine ⟨_, (exec_fwdTblClearState hq hup).trans ((congrArg _ (tblClearState_filter hheld hin)).trans hnext),
      ?_, ?_, honly⟩
    · exact hdone.filterOf.trans filterOf_setFilter_same
    · exact fun j hj => hdone.filterOf.trans ((filterOf_setFilter_ne hj).trans ownRegs_tblCmd.filterOf)
  case unheld => exact fun s q table => fwdTblClearState_unheld
  case readStream =>
    intro s q hq hup hin
    refine ⟨s.tblShown q 3 3 (streamWords (s.streamOf (s.tblAddr q))), ?_, fun i hi => getReg_tblShown hi, fget_tblShown,
      ownRegs_tblShown.only⟩
    exact (exec_fwdTblReadState hq hup).trans ((congrArg _ (tblReadState_stream hin)).trans ownRegs_tblShown.done)
  case clearStream =>
    intro s q hq hup hheld hin
    have hdone : OwnRegs ((s.tblCmd q 4 3).setStream (s.tblAddr q) (s.streamOf (s.tblAddr q)).cleared) _ :=
      ownRegs_tblDone (q := q) .refl
    obtain ⟨hnext, honly⟩ := ownRegs_tblCmd.done_fwd hdone
    refine ⟨_, (exec_fwdTblClearState hq hup).trans ((congrArg _ (tblClearState_stream hheld hin)).trans hnext),
      ?_, ?_, honly⟩
    · exact hdone.streamOf.trans streamOf_setStream_same
    · exact fun j hj => hdone.streamOf.trans ((streamOf_setStream_ne hj).trans ownRegs_tblCmd.streamOf)
  case searchOther =>
    intro s q table hq hup h1 h3
    rw [exec_fwdTblSearch hq hup, tblSearch_other h1 h3]
    exact ⟨_, ownRegs_tblCmd.done, tblCmd_keeps, ownRegs_tblCmd.only⟩
  case noState =>
    intro s q table i hq hup hheld hnone hi
    have haddr : ∀ op, namesNoState table ((s.tblCmd q op table).tblAddr q) := fun op => by rwa [tblAddr_tblCmd]
    simp only [List.mem_cons, List.not_mem_nil, or_false] at hi
    obtain rfl | rfl := hi
    · rw [exec_fwdTblReadState hq hup, tblReadState_none (haddr 3)]
      exact ⟨_, ownRegs_tblCmd.done, tblCmd_keeps, ownRegs_tblCmd.only⟩
    · rw [exec_fwdTblClearState hq hup, tblClearState_none (haddr 4)]
      exact ⟨_, ownRegs_tblCmd.done, tblCmd_keeps, ownRegs_tblCmd.only⟩

end Sys2Proof.Machine

/-! # The forwarding tables change (05 R151, R153): a statement with a state that refutes it -/

namespace Sys2Proof.Machine

/-- An epoch drains: the hash configuration of the previous epoch is kept until then. -/
def epochDraining : State :=
  { State.reset with fwd := { State.reset.fwd with old := some [], oldRegs := [(FWD_HASH_CFG, 0)] } }

/-- When an epoch has drained its registers are forgotten with its tables (05 R151, R153). -/
theorem oldRegs_of_epochDrained {s t : State} (hup : s.up = true) (h : exec .epochDrained s = .next t) :
    t.fwd.oldRegs = [] := by
  have hdone : exec .epochDrained s =
      done s { s.foff FWD_EPOCH_DRAINING with fwd := { s.fwd with old := none, oldRegs := [] } } := whenUp_up hup _
  rw [hdone] at h
  obtain rfl := next_inj h
  exact congrArg FwdState.oldRegs (settle_fwd _ _)

/-- Refutes O23: its clause on EPOCH_DRAINED keeps all of the forwarding state but the tables of the previous epoch, and
the registers of that epoch go with them. -/
theorem not_tablesChange : ¬ Obligations.TablesChange := by
  rintro ⟨-, -, -, -, h, -⟩
  obtain ⟨t, ht, -, hfwd, -⟩ := h epochDraining rfl
  have hregs := oldRegs_of_epochDrained rfl ht
  rw [hfwd] at hregs
  exact absurd hregs (by decide)

end Sys2Proof.Machine

/-! # Copies leave (05 R161, 07 R216, R235): a statement with a state that refutes it

The key of queue 16 of a port is that of queue 0 of the next port. -/

namespace Sys2Proof.Machine

/-- A copy in the residue for queue 16 of port 0; its frame has ended good. -/
def residueBeyond : ResCopy := ⟨0, bufKey 0 0, ownInfo 16 0⟩

/-- Port 0 has its link and port 1 none; pool 0 has a free buffer beside that of the copy. -/
def queueBeyond : State :=
  { State.reset with
    regs := [(PORT_STATUS 0, BitVec.ofNat 32 (2 ^ (PORT_STATUS_LINK 0).lo))]
    fwd := { State.reset.fwd with residue := [residueBeyond] }
    buf := { State.reset.buf with
      pools := ⟨2, 1, []⟩ :: List.replicate 3 poolEmpty
      bufs := [(bufKey 0 0, { bufFree with refs := 1, endedGood := true })] } }

/-- The flush of port 1 judges the residue again, and the copy is queued under the key of queue 0 of port 1. -/
theorem queueOf_flush_queueBeyond : ((queueBeyond.flushPort 1).rejudge.queueOf 1 0).length = 1 := by decide +kernel

/-- What the command answers has the queues of its effect. -/
theorem queueOf_of_linkFlush {s t : State} {p : Fin 64} (hup : s.up = true) (hlink : s.link p = false)
    (h : exec (.linkFlush p) s = .next t) (n q : Nat) : t.queueOf n q = (s.flushPort p).rejudge.queueOf n q := by
  have hdone : exec (.linkFlush p) s = done s (s.flushPort p).rejudge := by
    simp only [exec, execLinkFlush, hlink, whenUp_up hup, Bool.false_eq_true, if_false]
  obtain rfl := next_inj (hdone.symm.trans h)
  simp [State.queueOf]

/-- Refutes O25: the clause on LINK_FLUSH does not bound the queue of a copy in the residue. In `queueBeyond` the flush of
port 1 lets the copy for queue 16 of port 0 pass, and queue 0 of port 1 reads as holding it. -/
theorem not_copiesLeave : ¬ Obligations.CopiesLeave := by
  rintro ⟨-, -, -, h, -⟩
  have hlink : queueBeyond.link 1 = false := by decide +kernel
  obtain ⟨t, ht, -, -, hempty⟩ := h queueBeyond 1 rfl hlink
  have hnone : (queueBeyond.flushPort 1).rejudge.queueOf 1 0 = [] :=
    (queueOf_of_linkFlush (p := 1) rfl hlink ht 1 0).symm.trans (hempty 0 (by decide))
  have hlen := queueOf_flush_queueBeyond
  rw [hnone] at hlen
  exact absurd hlen (by decide)

end Sys2Proof.Machine

/-! # A good Sync ends (05 R165, 08 R249, 09 R288, 11 R338): a statement with a state that refutes it

A good Sync of the parent of the edge instance in use is a measurement. The one that completes the 64 of an acquisition
ends COLLECT, and a large offset then steps the clock, with every effect of a TIME_STEP. -/

namespace Sys2Proof.Machine

/-! ## A step of the clock marks the nib inputs -/

/-- The staging session and the nib inputs. -/
def State.inputs (s : State) : CfgState × NibState := (s.cfg, s.nib)

/-- From s to t the staging session and the nib inputs stay. -/
def SameInputs (s t : State) : Prop := t.inputs = s.inputs

namespace SameInputs
section
variable {s t u old : State} {f : Fld} {n v k : Nat} {d : Int}

theorem refl : SameInputs s s := rfl

theorem fset (h : SameInputs s t) : SameInputs s (t.fset f v) := h

theorem fon (h : SameInputs s t) : SameInputs s (t.fon f) := h

theorem setReg (h : SameInputs s t) : SameInputs s (t.setReg k v) := h

theorem frame {freeCtr regs hot qw cnt time trunk syn} (h : SameInputs s t) :
    SameInputs s { t with freeCtr, regs, hot, qw, cnt, time, trunk, syn } := h

theorem ite {c : Prop} [Decidable c] (ht : SameInputs s t) (hu : SameInputs s u) : SameInputs s (if c then t else u) := by
  split <;> assumption

theorem foldl {α : Type} {g : State → α → State} {l : List α} (h : SameInputs s t)
    (hg : ∀ u x, SameInputs s u → SameInputs s (g u x)) : SameInputs s (l.foldl g t) :=
  List.foldlRecOn l g h fun u hu x _ => hg u x hu

theorem accrue (h : SameInputs s t) : SameInputs s (t.accrue n) :=
  ((QueueStep.accrue .refl).proj State.inputs).trans h

theorem gateNow (h : SameInputs s t) : SameInputs s (t.gateNow n) := .ite (accrue h).fset.fset (accrue h).fset.fset

theorem setOpen {w : Option OpenWin} (h : SameInputs s t) : SameInputs s (t.setOpen n w) := h

theorem shutWin {w : OpenWin} (h : SameInputs s t) : SameInputs s (t.shutWin n w) :=
  setOpen (show SameInputs s (t.noteShut n w.bank w.index w.cycle) from .ite h h)

theorem closeBoundary (h : SameInputs s t) : SameInputs s (t.closeBoundary n) := by
  unfold State.closeBoundary
  split
  · exact h
  · exact .ite h.setOpen h.shutWin

theorem portsStep (h : SameInputs s t) : SameInputs s t.portsStep :=
  h.foldl fun _ _ hu => closeBoundary (.ite hu.gateNow hu)

theorem basesStep (h : SameInputs s t) : SameInputs s (t.basesStep d) :=
  h.frame.foldl fun _ _ hu => fset (.ite hu.fon hu)

theorem setTxph (h : SameInputs s t) : SameInputs s (t.setTxph n v) := h

theorem windowsStep (h : SameInputs s t) : SameInputs s (t.windowsStep old) :=
  .frame (.frame (h.foldl fun _ _ hu => .ite hu.setTxph hu))

theorem snapshotAt (h : SameInputs s t) : SameInputs s (t.snapshotAt n) := .setReg (.setReg (.fon (.fset (.frame h))))

theorem clearCounters (h : SameInputs s t) : SameInputs s t.clearCounters :=
  .foldl (.frame h) fun _ _ hu => hu.setReg.setReg

theorem cntAction (h : SameInputs s t) : SameInputs s (t.cntAction k n) := by
  unfold State.cntAction
  split
  · exact h.snapshotAt
  · exact h.fon
  · exact h.fset
  · exact h.snapshotAt.clearCounters
  · exact h

theorem cntStep (h : SameInputs s t) : SameInputs s t.cntStep := by
  unfold State.cntStep
  split
  · exact .ite (fon (cntAction h)) h
  · exact h

theorem setBw {b : BwWin} (h : SameInputs s t) : SameInputs s (t.setBw n b) := h

theorem bwStep (h : SameInputs s t) : SameInputs s t.bwStep := h.foldl fun _ _ hu => .ite hu.setBw hu

theorem moveClock (h : SameInputs s t) : SameInputs s (t.moveClock n) := .fon (.fset (.frame h))

theorem cfg (h : SameInputs s t) : t.cfg = s.cfg := congrArg Prod.fst h

theorem nibIn (h : SameInputs s t) : t.nibIn n = s.nibIn n :=
  congrArg (fun x : NibState => mapGet (fun _ => inputIdle) x.ins n) (congrArg Prod.snd h)

end
end SameInputs

section
variable {s : State} {n c : Nat} {i : Int}

/-- Every input of the part is marked by a step (11 R338). -/
theorem stepMark_nibStep (h : n < resCount s.part .event) : ((s.nibStep i).nibIn n).stepMark = true := by
  unfold State.nibStep State.mapNib
  revert h
  generalize resCount s.part .event = k
  intro h
  induction k with
  | zero => omega
  | succ k ih =>
    rw [List.range_succ, List.foldl_concat]
    unfold State.nibIn State.setNibIn
    by_cases hk : n = k
    · subst hk
      exact congrArg NibInput.stepMark (mapGet_mapSet_same _ _ _ _)
    · exact (congrArg NibInput.stepMark (mapGet_mapSet_ne _ _ _ _ _ hk)).trans (ih (by omega))

theorem cfg_nibStep : (s.nibStep i).cfg = s.cfg :=
  List.foldlRecOn (motive := fun u : State => u.cfg = s.cfg) _ _ rfl fun _ hu _ _ => hu

/-- A step of the clock while no commit is armed marks the nib inputs, and nothing it does after that clears the mark. -/
theorem stepMark_stepClock (hsess : s.cfg.sess = .idle) : ((s.stepClock c).nibIn 0).stepMark = true := by
  unfold State.stepClock
  extract_lets t u
  have hmoved : SameInputs s (t.cntStep.bwStep) := SameInputs.refl.moveClock.cntStep.bwStep
  have hmark : (u.nibIn 0).stepMark = true := stepMark_nibStep (by cases (t.cntStep.bwStep).part <;> decide)
  have hcfg : u.cfg = s.cfg := cfg_nibStep.trans hmoved.cfg
  have hstep : SameInputs u (((u.basesStep ((c : Int) - s.time.clock)).portsStep).windowsStep s) :=
    SameInputs.refl.basesStep.portsStep.windowsStep
  have hidle := congrArg CfgState.sess (hstep.cfg.trans hcfg)
  rw [State.commitStep, if_neg (by rw [hidle, hsess]; simp), hstep.nibIn]
  exact hmark

end

/-! ## A large offset at the end of COLLECT -/

section
variable {s : State}

/-- A quotient with a free rounding is at most a bound that the exact one is below. -/
theorem freeDiv_le {a k : Int} {b : Nat} (hb : 0 < b) (h : a < k * b) : s.freeDiv a b ≤ k := by
  have hdiv : a.fdiv b < k := by
    rw [Int.fdiv_eq_ediv_of_nonneg _ (Int.natCast_nonneg b)]
    exact Int.ediv_lt_of_lt_mul (by omega) h
  unfold State.freeDiv
  split <;> omega

theorem signedOf_bounds (x : Nat) : -(2 ^ 63) ≤ signedOf 64 x ∧ signedOf 64 x < 2 ^ 63 := by
  unfold signedOf
  split <;> norm_num at * <;> omega

theorem fget_lt (s : State) (f : Fld) : s.fget f < 2 ^ f.width := Nat.mod_lt _ (Nat.two_pow_pos _)

theorem stepThreshold_lt : s.stepThreshold < 2 ^ 60 := by
  have hreg : s.fget LYD_SERVO_STEP_THR_NS < 2 ^ LYD_SERVO_STEP_THR_NS.width := fget_lt _ _
  have hwidth : 2 ^ LYD_SERVO_STEP_THR_NS.width ≤ 2 ^ 32 := by decide
  unfold State.stepThreshold
  omega

/-- The offsets of 63 measurements, each 2^54 ns. -/
def farOffsets : List Int := List.replicate 63 (-(2 ^ 70))

/-- With one more of any value, the fit is far below 0 wherever it is taken. -/
theorem fitOffset_farOffsets {theta : Int} {pos : Nat} (hlo : -(2 ^ 63) ≤ theta) (hhi : theta < 2 ^ 63) (hpos : pos < 65) :
    fitOffset (theta :: farOffsets) pos < -(2 ^ 60) * (87360 : Nat) := by
  have hsum : ∀ (l : List Int) (x : Int), l.foldl (· + ·) x = x + l.foldl (· + ·) 0 := by
    intro l x
    simpa using (List.foldl_assoc (op := fun a b : Int => a + b) (l := l) (a₁ := x) (a₂ := 0))
  have hfar : farOffsets.foldl (· + ·) 0 = -(63 * 2 ^ 70) := by decide +kernel
  have hslope : (farOffsets.mapIdx fun j x => (63 - 2 * ((j + 1 : Nat) : Int)) * x).foldl (· + ·) 0 = 63 * 2 ^ 70 := by
    decide +kernel
  unfold fitOffset slopeSum
  rw [List.mapIdx_cons, List.foldl_cons, List.foldl_cons, hsum, hfar, hsum, hslope]
  have hweight : (theta + 2 ^ 70) * (2 * (pos : Int) - 63) ≤ (theta + 2 ^ 70) * 65 :=
    mul_le_mul_of_nonneg_left (by omega) (by omega)
  have hhead : 0 + (63 - 2 * ((0 : Nat) : Int)) * theta + 63 * 2 ^ 70 = 63 * (theta + 2 ^ 70) := by ring
  rw [hhead, mul_assoc]
  omega

/-- An offset of more than a ns below 0 moves the clock forward by a step. -/
theorem stepMark_servoStep {theta0 : Int} (hsess : s.cfg.sess = .idle) (h : theta0 < -(2 ^ 16)) :
    ((s.servoStep theta0).nibIn 0).stepMark = true := by
  have hneg : s.freeDiv theta0 (2 ^ 16) < 0 := Int.lt_of_le_of_lt (freeDiv_le (k := -1) (by norm_num) (by omega)) (by decide)
  have hstep : s.servoStep theta0 =
      s.useFree.stepClock ((s.time.clock + (s.freeDiv theta0 (2 ^ 16)).natAbs * unitsPerNs) % clockMod) := if_pos hneg
  rw [hstep]
  exact stepMark_stepClock hsess

/-- 64 measurements of which all but the first are far off end COLLECT with a step, whatever the first one is. -/
theorem stepMark_collectEnds {theta : Int} {interval : Nat × Nat} (hsess : s.cfg.sess = .idle) (hlo : -(2 ^ 63) ≤ theta)
    (hhi : theta < 2 ^ 63) : ((s.collectEnds (theta :: farOffsets) interval).nibIn 0).stepMark = true := by
  have hfit : s.useFree.freeDiv (fitOffset (theta :: farOffsets) (s.freeVal % 65)) 87360 ≤ -(2 ^ 60) :=
    freeDiv_le (by norm_num) (fitOffset_farOffsets hlo hhi (Nat.mod_lt _ (by decide)))
  have hthr : s.stepThreshold < 2 ^ 60 := stepThreshold_lt
  unfold State.collectEnds
  extract_lets theta0 t u v w x
  have hbefore : SameInputs s w := by
    refine .ite .refl (.frame ?_)
    exact .ite (.setReg (.setReg .refl)) (.fon (.setReg (.setReg .refl)))
  have hx : x = w.servoStep theta0 := if_pos (by omega)
  have hafter : SameInputs x (x.acqTo 4 0) := .frame (.fset .refl)
  rw [hafter.nibIn, hx]
  exact stepMark_servoStep (hbefore.cfg ▸ hsess) (by omega)

/-- So they do as the offsets of the edge instance in use. -/
theorem stepMark_edgeSteer {i : Nat} {theta : Int} (hphase : s.fget LYD_STATUS_ACQ_PHASE = 1)
    (hthetas : s.time.edgeThetas = theta :: farOffsets) (hsess : s.cfg.sess = .idle) (hlo : -(2 ^ 63) ≤ theta)
    (hhi : theta < 2 ^ 63) : ((s.edgeSteer i).nibIn 0).stepMark = true := by
  have hlen : (theta :: farOffsets).length = 64 := by rw [List.length_cons, farOffsets, List.length_replicate]
  unfold State.edgeSteer
  rw [hthetas, if_neg (by omega), if_pos hphase, List.take_of_length_le (by omega)]
  exact stepMark_collectEnds hsess hlo hhi

theorem nibIn_refreshLyd {n : Nat} : s.refreshLyd.nibIn n = s.nibIn n := by
  have hnib : s.refreshLyd.nib = s.nib := by rw [(NoStep.refl.refreshLyd fun _ hf => hf).only]
  rw [State.nibIn, hnib, State.nibIn]

theorem nibIn_of_done {old t : State} {n : Nat} (h : done old s = .next t) : t.nibIn n = s.nibIn n := by
  obtain rfl := next_inj h
  exact congrArg (fun x : NibState => mapGet (fun _ => inputIdle) x.ins n) (settle_nib old s)

/-- A measurement that completes the 64 of COLLECT after 63 that are far off steps the clock, whatever it is. -/
theorem stepMark_edgeMeasures {i : Nat} (hmode : s.timeMode = .acquiring) (hrun : s.time.syncRun = 0)
    (hphase : s.fget LYD_STATUS_ACQ_PHASE = 1) (hfar : s.time.edgeThetas = farOffsets) (hsess : s.cfg.sess = .idle) :
    ((s.edgeMeasures i).nibIn 0).stepMark = true := by
  obtain ⟨hlo, hhi⟩ := signedOf_bounds s.freeVal
  have hself : s.useFree.sourceDelivers false = s.useFree := by
    unfold State.sourceDelivers
    rw [show s.useFree.timeMode = .acquiring from hmode]
  unfold State.edgeMeasures
  rw [hself]
  extract_lets theta t n _ u
  have hn : ¬16 ≤ n := by
    unfold n
    rw [show s.useFree.time.syncRun = 0 from hrun]
    split <;> omega
  rw [if_neg (fun h => hn h.2), nibIn_refreshLyd]
  exact stepMark_edgeSteer (s := u) hphase (congrArg (theta :: ·) hfar) hsess hlo hhi

end

/-! ## The good end of the Sync that completes the 64 -/

/-- A good Sync of the time source is a measurement after all that the end of any frame does. -/
theorem exec_frameEnd_measures {s : State} {n : Fin 66} {f : RxFrame} {rest : List Byte} {reads : InkReads} {i : Nat}
    (hup : s.up = true) (hrx : s.rxOf n = some f) (hsource : s.edgeSource = some i) (hsync : s.isSync f = true)
    (hgood : endJudge (f.window ++ rest) .whole = none) :
    exec (.frameEnd n rest .whole reads) s =
      done s ((((s.endFrame f rest .whole reads.nextBad).inkCorr reads.corrected).rejudge).edgeMeasures i) := by
  simp only [exec, execFrameEnd]
  rw [whenUp_up hup, hrx]
  simp only [hsource, hsync, hgood, Option.isNone_none, Bool.and_self, if_true]

/-- A Sync from port 0, a whole frame of 64 bytes. -/
def syncBytes : List Byte :=
  withFcs (([0x01, 0x1B, 0x19, 0, 0, 0, 2, 0, 0, 0, 0, 1, 0x88, 0xF7, 0, 2, 0, 44] : List Byte) ++ List.replicate 42 0)

/-- It ends at the hearths and takes no buffer. -/
def syncFrame : RxFrame := ⟨{ ownInfo 8 1 with src := 0 }, syncBytes, 12, none, [], [], false, false, false, 0⟩

/-- Hearth A holds the token; instance 0, with its parent on port 0, is the time source and COLLECT has 63 offsets. -/
def collecting : State :=
  let s := (((State.reset.fset TIME_CTRL_SRC 2).fset (TIME_INST_CFG_ENABLE 0) 1).fset (TIME_INST_PORTS_LO_PORTS 0) 1).fset
    (TIME_INST_STATUS_PARENT_VALID 0) 1
  let t := (s.fset TIME_STATE_STATE 1).fset LYD_STATUS_ACQ_PHASE 1
  { t with
    hrt := { t.hrt with holder := some .a }
    fwd := { t.fwd with rx := [syncFrame] }
    time := { t.time with edgeThetas := farOffsets } }

/-- `collecting` when the Sync has ended and before it is a measurement. -/
def syncEnded : State := ((collecting.endFrame syncFrame [] .whole false).inkCorr 0).rejudge

/-- The Sync is the 64th measurement and steps the clock. -/
theorem stepMark_of_syncEnds {t : State} (h : exec (.frameEnd 0 [] .whole ⟨false, 0⟩) collecting = .next t) :
    (t.nibIn 0).stepMark = true := by
  have hdone : exec (.frameEnd 0 [] .whole ⟨false, 0⟩) collecting = done collecting (syncEnded.edgeMeasures 0) :=
    exec_frameEnd_measures (f := syncFrame) rfl (by decide +kernel) (by decide +kernel) (by decide +kernel) (by decide +kernel)
  have hmark : ((syncEnded.edgeMeasures 0).nibIn 0).stepMark = true :=
    stepMark_edgeMeasures (by decide +kernel) (by decide +kernel) (by decide +kernel) (by decide +kernel) (by decide +kernel)
  rwa [nibIn_of_done (hdone.symm.trans h)]

/-- Refutes O22: its clause on a good frame keeps the nib inputs. In `collecting` the frame is a Sync of the time source and
the measurement it gives steps the clock, which marks every input (11 R338). -/
theorem not_framesEnd : ¬ Obligations.FramesEnd := by
  rintro ⟨-, -, h⟩
  obtain ⟨t, ht, honly, -⟩ := h collecting 0 syncFrame [] false 0 rfl (by decide +kernel) rfl (by decide) (by decide +kernel)
    (by decide +kernel) (by decide +kernel) (by decide +kernel)
  have hnib : t.nib = collecting.nib := by rw [honly]
  have hmark : (t.nibIn 0).stepMark = true := stepMark_of_syncEnds ht
  rw [State.nibIn, hnib] at hmark
  exact absurd hmark (by decide +kernel)

end Sys2Proof.Machine

/-! # Quill windows and guard bands (06 R192): a statement with a state that refutes it

The bands of two windows of one port may overlap. -/

namespace Sys2Proof.Machine

/-- Where two guard bands of a port run, the end of one leaves the other standing (06 R192). -/
theorem mem_guards_of_guardBandEnd {s t : State} {p : Fin 64} (hup : s.up = true) (htwo : 1 < s.qw.guards.count p.val)
    (h : exec (.guardBandEnd p) s = .next t) : p.val ∈ t.qw.guards := by
  have hdone : exec (.guardBandEnd p) s = done s { s with qw := { s.qw with guards := s.qw.guards.erase p.val } } :=
    whenUp_up hup _
  obtain rfl := next_inj (hdone.symm.trans h)
  have hleft : 0 < (s.qw.guards.erase p.val).count p.val := by rw [List.count_erase_self]; omega
  simpa using List.count_pos_iff.mp hleft

/-- The band of a window of port 0 has begun before that of the window before it ended. -/
def bandsOverlap : State := { State.reset with qw := { State.reset.qw with guards := [0, 0] } }

/-- Refutes O28: its clause on GUARD_BAND_END leaves the port no guard band, and in `bandsOverlap` one of the two still
stands. -/
theorem not_windowsOpenAndClose : ¬ Obligations.WindowsOpenAndClose := by
  rintro ⟨-, -, -, -, -, -, h⟩
  obtain ⟨t, ht, hguards, -⟩ := h bandsOverlap 0 rfl
  have hstands : (0 : Fin 64).val ∈ t.qw.guards := mem_guards_of_guardBandEnd rfl (by decide) ht
  exact ((hguards 0).mp hstands).1 rfl

end Sys2Proof.Machine

/-! # Quill frames pass (06 R193, R197, R201): a statement with a state that refutes it

After a swap a window of the new bank may be open while the last frame of the old bank still passes. A blot of that frame
closes the window it came through, which is not the open one. -/

namespace Sys2Proof.Machine

theorem openOf_setOpen (s : State) (n : Nat) (w : Option OpenWin) : (s.setOpen n w).openOf n = w :=
  mapGet_mapSet_same _ _ _ _

/-- When a frame of the old bank has left, the open window waits for its first frame (06 R201). -/
theorem openOf_frameLeft_of_old {s : State} {n : Nat} {w : OpenWin} {f : QFrame} (hold : ownFrame w f = false)
    (shut : Bool) : (s.frameLeft n w f shut).openOf n = some { w with frame := none } := by
  rw [State.frameLeft, hold, Bool.false_and, if_neg Bool.false_ne_true]
  exact openOf_setOpen _ _ _

/-- The overrun of a frame of the old bank leaves the window of the new bank open. -/
theorem openOf_of_quillOverrun_old {s t : State} {p : Fin 64} {sent : List Byte} {w : OpenWin} {f : QFrame}
    (hup : s.up = true) (hopen : s.openOf p = some w) (hframe : w.frame = some f) (hold : ownFrame w f = false)
    (h : exec (.quillOverrun p sent) s = .next t) : t.openOf p = some { w with frame := none } := by
  let g : QFrame := { f with bytes := f.bytes ++ sent }
  have hdone : exec (.quillOverrun p sent) s = done s (s.quillBlot p w g g.bytes.length .quill) := by
    simp only [exec, execQuillOverrun, hopen, hframe]
    exact whenUp_up hup _
  obtain rfl := next_inj (hdone.symm.trans h)
  have hblot : (s.quillBlot p w g g.bytes.length .quill).openOf p = some { w with frame := none } :=
    openOf_frameLeft_of_old (f := g) hold true
  simpa [State.openOf] using hblot

/-- The last frame of bank 0 of port 0: its first 16 bytes have come. -/
def oldBankFrame : QFrame := ⟨List.replicate 16 0, 0, false, 0, 0, 0, 1⟩

/-- A window of bank 1 has opened while that frame passes. -/
def newBankWin : OpenWin := ⟨1, 0, 1, 1, [], false, some oldBankFrame⟩

/-- `newBankWin` is open at port 0. -/
def swapPassing : State := { State.reset with qw := { State.reset.qw with opens := [(0, some newBankWin)] } }

/-- Refutes O29: its clause on QUILL_OVERRUN closes the open window whichever window the frame belongs to. In
`swapPassing` the frame is the last one of the old bank, and the window of the new bank stays open. -/
theorem not_quillFramesPass : ¬ Obligations.QuillFramesPass := by
  rintro ⟨-, -, -, -, h⟩
  obtain ⟨t, ht, -, -, hclosed, -⟩ := h swapPassing 0 [] newBankWin oldBankFrame rfl rfl rfl
  have hopen := openOf_of_quillOverrun_old rfl rfl rfl (by decide) ht
  exact absurd (hclosed.symm.trans hopen) (Option.some_ne_none _).symm

end Sys2Proof.Machine

/-! # Steering and the window table (00 R7, 06 R188): a statement with a state that refutes it

STEER_LOCK is set by hardware, so its bit is noted for the cycle, and the note is no register bit. -/

namespace Sys2Proof.Machine

/-- Where every lane of a port stands after a step of its steering (06 R188), the arrival phases of the source measured. -/
def State.steerMoved (s : State) (n : Nat) (arrivals : List Nat) : State :=
  let t := s.setArrivals (s.fget (QW_PORT_CFG_PHASE_SRC n)) arrivals
  if s.heldGroup 1 then t
  else ((s.lanesOf n).mapIdx fun m lane => (m, lane)).foldl (fun u e => u.steerLane n e.2 (arrivals.getD e.1 0)) t

/-- TXPH_STEER of a port whose source has its clock: the lanes move, and STEERING and STEER_LOCK follow. -/
theorem exec_txphSteer_moves {s : State} {p : Fin 64} {arrivals : List Nat} (hup : s.up = true)
    (hport : s.hasPort p = true) (hsrc : s.fbit (QW_PORT_CFG_SRC_EN p) = true) (hclock : s.sourceClock p = true) :
    ∃ moving : Bool, exec (.txphSteer p arrivals) s =
      done s (((s.steerMoved p arrivals).fput (QW_STATUS_STEERING p) moving).steerLock p
        ((s.steerMoved p arrivals).steerError p arrivals)) := by
  refine ⟨decide (s.steerError p arrivals ≠ 0) && !s.heldGroup 1, ?_⟩
  simp only [exec, execTxphSteer, hport, hsrc, hclock, Bool.not_true, Bool.or_false, Bool.false_eq_true, if_false]
  exact whenUp_up hup _

/-- Within 4 ps of the target STEER_LOCK is set by hardware, and its bit is noted (00 R7, 06 R188). -/
theorem hotBits_steerLock {s : State} {n err : Nat} (herr : err ≤ 4) :
    ((s.steerLock n err).hotBits (QW_STATUS n)).testBit 2 = true := by
  have hnoted : (s.steerLock n err).hotBits (QW_STATUS n) = s.hotBits (QW_STATUS n) ||| 4 := by
    rw [State.steerLock, if_pos herr]
    exact congrArg BitVec.toNat (mapGet_mapSet_same _ _ _ _)
  rw [hnoted, Nat.testBit_or]
  exact Bool.or_true _

/-- A step of the steering that reaches the target notes STEER_LOCK as set by hardware. -/
theorem hotBits_of_txphSteer {s t : State} {p : Fin 64} {arrivals : List Nat} (hup : s.up = true)
    (hport : s.hasPort p = true) (hsrc : s.fbit (QW_PORT_CFG_SRC_EN p) = true) (hclock : s.sourceClock p = true)
    (herr : (s.steerMoved p arrivals).steerError p arrivals ≤ 4) (h : exec (.txphSteer p arrivals) s = .next t) :
    (t.hotBits (QW_STATUS p)).testBit 2 = true := by
  obtain ⟨moving, hdone⟩ := exec_txphSteer_moves (arrivals := arrivals) hup hport hsrc hclock
  obtain rfl := next_inj (hdone.symm.trans h)
  have hlock := hotBits_steerLock (s := (s.steerMoved p arrivals).fput (QW_STATUS_STEERING p) moving) (n := p.val) herr
  simpa [State.hotBits] using hlock

/-- Port 0 is steered from port 1, whose lane has its receive clock. -/
def steered : State :=
  ((State.reset.fset (QW_PORT_CFG_SRC_EN 0) 1).fset (QW_PORT_CFG_PHASE_SRC 0) 1).lset (LANE_STATUS_CDR_LOCK 1) 1

/-- Refutes O30: its clause on TXPH_STEER with a source clock keeps the bits that hardware set in the cycle. In `steered`
an arrival phase of 3.20 ns is that of the target, and STEER_LOCK is set. -/
theorem not_windowTable : ¬ Obligations.WindowTable := by
  rintro ⟨-, -, -, -, -, -, h, -⟩
  obtain ⟨t, ht, honly, -⟩ := h steered _ 0 [3200] rfl (by decide +kernel) (by decide +kernel) (by decide +kernel) rfl rfl
  have hnoted := hotBits_of_txphSteer rfl (by decide +kernel) (by decide +kernel) (by decide +kernel) (by decide +kernel) ht
  have hhot : t.hot = steered.hot := by rw [honly]
  rw [State.hotBits, hhot] at hnoted
  exact absurd hnoted (by decide +kernel)

end Sys2Proof.Machine

/-! # QUOTA of a queue (07 R217, R220) -/

namespace Sys2Proof.Machine

set_option Elab.async false

section
variable {s t : State} {n q pool : Nat} {c : ResCopy}

/-- Admission asks for the link, the dynamic threshold and the quota (07 R217). -/
theorem judge_eq_none_iff : s.judge n q pool = none ↔
    s.link n = true ∧ thresholdAdmits (s.exponent q) (occPool (s.queueOf n q) pool) (s.poolFree pool) = true ∧
      occAll (s.queueOf n q) + poolUnits pool ≤ s.fget (BUF_QUOTA_QUOTA n q) := by
  simp only [State.judge]
  split
  next hdown => simp_all
  next hup =>
    split
    next hfull => simp_all
    next hroom =>
      split
      next hover => simp only [reduceCtorEq, false_iff, not_and]; omega
      next hfits => exact ⟨fun _ => ⟨by simpa using hup, by simpa using hroom, by omega⟩, fun _ => rfl⟩

/-- A copy takes at least one unit of 128 B (07 R216). -/
theorem poolUnits_pos : 0 < poolUnits pool := by
  unfold poolUnits poolBuffer
  split <;> decide

theorem judge_of_quota_zero (hquota : s.fget (BUF_QUOTA_QUOTA n q) = 0) : s.judge n q pool ≠ none := by
  intro h
  obtain ⟨-, -, hfits⟩ := judge_eq_none_iff.mp h
  have hunits := poolUnits_pos (pool := pool)
  omega

theorem rejudgeCopy_of_judge_ne (h : t.judge c.port c.info.queue (bufPool c.buf) ≠ none) : t.rejudgeCopy c = t :=
  if_neg fun hpass => h hpass.2

theorem requeueResidue_of_one {p : Nat} (hres : s.fwd.residue = [c]) (hp : c.port = p) :
    s.requeueResidue p = s.rejudgeCopy c := by
  simp [State.requeueResidue, hres, hp]

/-- The copy in the residue of a queue with QUOTA 0 stays where it is (07 R217, R220). -/
theorem exec_residueQueue_of_quota_zero {p : Fin 64} (hres : s.fwd.residue = [c]) (hp : c.port = p)
    (hquota : s.fget (BUF_QUOTA_QUOTA p c.info.queue) = 0) : exec (.residueQueue p) s = .next s := by
  have hexec : exec (.residueQueue p) s = whenUp s (s.requeueResidue p) := rfl
  have hrefused : s.judge c.port c.info.queue (bufPool c.buf) ≠ none := judge_of_quota_zero (by rwa [hp])
  rw [hexec, requeueResidue_of_one hres hp, rejudgeCopy_of_judge_ne hrefused]
  simp [whenUp]

end

/-- The factory default of QUOTA, which reset holds before the configuration is loaded (log entry 4). -/
theorem fget_quota_reset (n : Fin 64) (q : Fin 10) : State.reset.fget (BUF_QUOTA_QUOTA n q) = 0x7FFFFFF := by
  revert n q
  decide +kernel

/-- Settles O52: the three checks of admission, the factory default, and the residue. -/
theorem quotaBoundsQueue : Obligations.QuotaBoundsQueue := by
  unfold Obligations.QuotaBoundsQueue
  refine ⟨fun s n q pool h => ?_, fun s n q pool => judge_of_quota_zero, fget_quota_reset,
    fun s p c => exec_residueQueue_of_quota_zero⟩
  obtain ⟨-, -, hfits⟩ := judge_eq_none_iff.mp h
  exact hfits

end Sys2Proof.Machine

/-! # Copies move in their queues and no register follows (07 R214, R216, R231) -/

namespace Sys2Proof.Machine

set_option Elab.async false

/-- The state without its pools, buffers and queues; the list of peat bank writes and the restart stay. -/
def State.sansCopies (s : State) : State :=
  { s with buf := { bufNone with peatPend := s.buf.peatPend, peatRestart := s.buf.peatRestart } }

/-- From s to t only pools, buffers and queues have changed: less than in a `QueueStep`, which lets the queues'
registers and the list of peat bank writes change too. -/
def CopyStep (s t : State) : Prop := t.sansCopies = s.sansCopies

namespace CopyStep
section
variable {s t : State} {n q k : Nat} {cs : List Copy}

theorem refl : CopyStep s s := rfl

/-- What is no pool, buffer or queue is as before. -/
theorem proj {β : Type} (h : CopyStep s t) (p : State → β) (hp : ∀ u, p u.sansCopies = p u := by intro _; rfl) :
    p t = p s := by
  rw [← hp t, ← hp s, show t.sansCopies = s.sansCopies from h]

theorem only (h : CopyStep s t) : t = { s with buf := t.buf } := congrArg (fun u : State => { u with buf := t.buf }) h

theorem fget (h : CopyStep s t) (g : Fld) : t.fget g = s.fget g :=
  fget_congr (h.proj State.part) (h.proj State.regs) g

theorem within {sans : State → State} {K : Fld → Prop} (h : CopyStep s t)
    (hsans : ∀ u : State, sans u.sansCopies.bare = sans u.bare := by intro _; rfl) : Within sans K s t :=
  ⟨h.proj (fun u => sans u.bare) hsans, fun g _ => h.fget g⟩

theorem ite {c : Prop} [Decidable c] {u : State} (ht : CopyStep s t) (hu : CopyStep s u) :
    CopyStep s (if c then t else u) := by
  split <;> assumption

theorem foldl {α : Type} {f : State → α → State} {l : List α} (h : CopyStep s t)
    (hf : ∀ u a, CopyStep s u → CopyStep s (f u a)) : CopyStep s (l.foldl f t) :=
  List.foldlRecOn l f h fun u hu a _ => hf u a hu

theorem setCredit {x : Int} (h : CopyStep s t) : CopyStep s (t.setCredit n q x) := h

theorem credit (h : CopyStep s t) : CopyStep s (t.credit n) := by
  unfold State.credit
  extract_lets dt u
  have hu : CopyStep s u := h.foldl fun _ _ hw => .ite hw.setCredit hw
  exact hu

theorem accrue (h : CopyStep s t) : CopyStep s (t.accrue n) := .ite h.credit h

theorem emptied (h : CopyStep s t) : CopyStep s (t.emptied n q) := h

theorem setQueue (h : CopyStep s t) : CopyStep s (t.setQueue n q cs) := .ite (emptied h.accrue) h.accrue

theorem setPool {p : PoolSt} (h : CopyStep s t) : CopyStep s (t.setPool n p) := h

theorem setBuf {b : Buf} (h : CopyStep s t) : CopyStep s (t.setBuf k b) := h

theorem takeRef (h : CopyStep s t) : CopyStep s (t.takeRef k) := h

theorem dropRef (h : CopyStep s t) : CopyStep s (t.dropRef k) := .ite h h

theorem append {c : Copy} (h : CopyStep s t) : CopyStep s (t.append n q k c) := h.setQueue.takeRef

end
end CopyStep

section
variable {s t : State} {n q k : Nat} {cs : List Copy}

@[simp] theorem queueOf_setQueue : (s.setQueue n q cs).queueOf n q = cs := by
  have hset : ∀ b, mapGet (fun _ => []) (mapSet (fun _ => []) b (queueKey n q) cs) (queueKey n q) = cs := fun b =>
    mapGet_mapSet_same _ b _ cs
  unfold State.setQueue
  split
  · exact hset _
  · exact hset _

@[simp] theorem queueOf_dropRef {m : Nat} : (s.dropRef k).queueOf n m = s.queueOf n m := by
  simp only [State.dropRef]
  split <;> rfl

theorem buf_inkCorr : (s.inkCorr k).buf = s.buf := by
  unfold State.inkCorr
  split
  · rfl
  · rw [fon_buf, fcount_buf]

theorem buf_endSpilling : (s.endSpilling n q).buf = s.buf := by
  unfold State.endSpilling
  split
  · rfl
  · exact fset_buf _ _ _

theorem queueOf_congr (h : t.buf = s.buf) : t.queueOf n q = s.queueOf n q := by
  unfold State.queueOf
  rw [h]

theorem rejudge_of_nil (h : s.fwd.residue = []) : s.rejudge = s := by rw [State.rejudge, h]; rfl

/-! ## What the residue leaves unchanged when it is judged again (05 R161) -/

/-- Of the registers below those of the queues only BUF_PEAT_STATUS changes while copies move. -/
theorem queueFld_ne {f : Fld} (hk : k < BUF_QUOTA 0 0) (hpeat : k ≠ BUF_PEAT_STATUS) (h : queueFld f) : k ≠ f.key := by
  have hlow : k < 0x610000 := hk
  rcases h with h | ⟨n, q, h | h | h⟩ <;> rw [h]
  · exact hpeat
  all_goals simp only [BUF_Q_OCC_PEAT, BUF_Q_DROP, BUF_Q_DROP_CAUSE]; omega

theorem fget_rejudge {g : Fld} (hk : g.key < BUF_QUOTA 0 0 := by decide)
    (hpeat : g.key ≠ BUF_PEAT_STATUS := by decide) : s.rejudge.fget g = s.fget g :=
  rejudge_step.keeps g fun _ hf => apart_of_key (queueFld_ne hk hpeat hf)

/-- From s to t copies have moved out of the residue into their queues: READY and the restart of the peat bank stay, and
peat bank writes have joined the end of their list. -/
structure Requeued (s t : State) : Prop where
  ready : t.fget BUF_PEAT_STATUS_READY = s.fget BUF_PEAT_STATUS_READY
  restart : t.buf.peatRestart = s.buf.peatRestart
  pend : s.buf.peatPend <+: t.buf.peatPend

namespace Requeued
variable {u : State} {f : Fld} {v : Nat}

theorem refl : Requeued s s := ⟨rfl, rfl, List.prefix_refl _⟩

theorem copies (h : Requeued s t) (hu : CopyStep t u) : Requeued s u :=
  ⟨(hu.fget _).trans h.ready, (hu.proj fun x => x.buf.peatRestart).trans h.restart,
    (hu.proj fun x => x.buf.peatPend) ▸ h.pend⟩

theorem ite {c : Prop} [Decidable c] (ht : Requeued s t) (hu : Requeued s u) : Requeued s (if c then t else u) := by
  split <;> assumption

theorem fset (h : Requeued s t) (hapart : BUF_PEAT_STATUS_READY.apart f = true) (hf : f.fits = true := by rfl) :
    Requeued s (t.fset f v) :=
  ⟨(fget_fset_apart t f _ v hf hapart).trans h.ready, h.restart, h.pend⟩

theorem fon (h : Requeued s t) (hapart : BUF_PEAT_STATUS_READY.apart f = true) (hf : f.fits = true := by rfl) :
    Requeued s (t.fon f) :=
  ⟨(fget_fon_apart t f _ hf hapart).trans h.ready, h.restart, h.pend⟩

theorem countDrop {c : DropCause} (h : Requeued s t) : Requeued s (t.countDrop n q c) := by
  have hdrop : BUF_PEAT_STATUS ≠ BUF_Q_DROP n q := by unfold BUF_PEAT_STATUS BUF_Q_DROP; omega
  have hcause : BUF_PEAT_STATUS ≠ BUF_Q_DROP_CAUSE n q := by unfold BUF_PEAT_STATUS BUF_Q_DROP_CAUSE; omega
  exact (h.fset (f := BUF_Q_DROP_DROP n q) (apart_of_key hdrop)).fset (apart_of_key hcause)

/-- A copy that spills joins the list of peat bank writes at its end (07 R223, R225). -/
theorem place {i : FrameInfo} {ct : Bool} (h : Requeued s t) : Requeued s (t.place n q k i ct) := by
  have hspilling : BUF_PEAT_STATUS ≠ BUF_Q_OCC_PEAT n q := by unfold BUF_PEAT_STATUS BUF_Q_OCC_PEAT; omega
  have hfull : BUF_PEAT_STATUS_READY.apart BUF_PEAT_STATUS_FULL_SEEN = true := by decide
  have hpendFull : BUF_PEAT_STATUS_READY.apart BUF_PEAT_STATUS_PEND_FULL_SEEN = true := by decide
  unfold State.place
  extract_lets pool u
  have hu : Requeued s u :=
    (h.fon (f := BUF_Q_OCC_PEAT_SPILLING n q) (apart_of_key hspilling)).copies (.append .refl)
  have hjoined : Requeued s { u with buf := { u.buf with peatPend := u.buf.peatPend ++ [queueKey n q] } } :=
    ⟨(fget_congr rfl rfl _).trans hu.ready, hu.restart, hu.pend.trans (List.prefix_append _ _)⟩
  exact .ite (.ite h.countDrop (.ite (h.fon hfull).countDrop (.ite (h.fon hpendFull).countDrop hjoined)))
    (h.copies (.append .refl))

theorem rejudgeCopy {c : ResCopy} (h : Requeued s t) : Requeued s (t.rejudgeCopy c) := by
  have hleft : Requeued s { t with fwd := { t.fwd with residue := t.fwd.residue.erase c } } :=
    ⟨(fget_congr rfl rfl _).trans h.ready, h.restart, h.pend⟩
  exact .ite (hleft.place.copies (.dropRef .refl)) h

theorem rejudge : Requeued s s.rejudge :=
  List.foldlRecOn s.fwd.residue State.rejudgeCopy refl fun _ hu _ _ => rejudgeCopy hu

end Requeued

end

end Sys2Proof.Machine

/-! # Pools and the peat bank (07 R213, R223 to R227) -/

namespace Sys2Proof.Machine

set_option Elab.async false

section
variable {s t : State} {n q k : Nat}

/-! ## Updates that may set fields of BUF_ECC (07 R213) -/

/-- A field that copies moving in queues or a read of the inkwell or the peat bank change. -/
def eccFld (f : Fld) : Prop := f.key = BUF_ECC ∨ queueFld f

theorem condKeys_ne_ecc {f : Fld} (hk : k ∈ condKeys) (h : eccFld f) : k ≠ f.key := by
  have hecc : ∀ k ∈ condKeys, k ≠ BUF_ECC := by decide
  rcases h with h | h
  · rw [h]; exact hecc k hk
  · exact condKeys_ne_queue hk h

theorem queueFld_ecc {f g : Fld} (hg : g.key = BUF_ECC) (h : queueFld f) : g.apart f = true :=
  apart_of_key (by rw [hg]; exact queueFld_ne (by decide) (by decide) h)

theorem ResidueStep.only {K : Fld → Prop} (h : ResidueStep K s t) :
    t = { s with regs := t.regs, hot := t.hot, fwd := t.fwd, buf := t.buf } :=
  congrArg (fun u : State => { u with regs := t.regs, hot := t.hot, fwd := t.fwd, buf := t.buf }) h.bare_eq

/-! ## A pool is rebuilt (07 R213) -/

/-- The pool is whole again; the residue has not been judged yet. -/
def State.poolRenewed (s : State) (p : Nat) : State := (s.setPool p (s.rebuilt p)).foff (BUF_POOL_FREE_REBUILD p)

theorem poolRenewed_rejudge_step {p : Fin 4} :
    ResidueStep (fun f => f = BUF_POOL_FREE_REBUILD p ∨ queueFld f) s (s.poolRenewed p).rejudge :=
  ((CopyStep.within (CopyStep.setPool .refl)).foff (.inl rfl)).trans (rejudge_step.mono fun _ => .inr)

theorem condKeys_ne_rebuild {p : Fin 4} {f : Fld} (hk : k ∈ condKeys) (h : f = BUF_POOL_FREE_REBUILD p ∨ queueFld f) :
    k ≠ f.key := by
  have hlow : ∀ k ∈ condKeys, k < 0x600010 ∨ 0x600020 ≤ k := by decide
  rcases h with rfl | h
  · have hk := hlow k hk
    simp only [BUF_POOL_FREE_REBUILD, BUF_POOL_FREE]
    omega
  · exact condKeys_ne_queue hk h

theorem exec_poolRebuildDone {p : Fin 4} (hup : s.up = true) (hrebuild : s.fget (BUF_POOL_FREE_REBUILD p) = 1) :
    exec (.poolRebuildDone p) s = .next (s.poolRenewed p).rejudge := by
  have hstep := poolRenewed_rejudge_step (s := s) (p := p)
  have hexec : exec (.poolRebuildDone p) s =
    whenUp s (if s.fbit (BUF_POOL_FREE_REBUILD p) then (s.poolRenewed p).rejudge else s) := rfl
  rw [hexec, if_pos (fbit_of_fget_one hrebuild), whenUp_next_settle hup (hstep.proj State.pending),
    hstep.settle_eq fun _ hk _ => condKeys_ne_rebuild hk]

theorem fget_rebuild_renewed {p : Fin 4} : (s.poolRenewed p).rejudge.fget (BUF_POOL_FREE_REBUILD p) = 0 := by
  have hlow : BUF_POOL_FREE p < BUF_QUOTA 0 0 := by unfold BUF_POOL_FREE BUF_QUOTA; omega
  have hpeat : BUF_POOL_FREE p ≠ BUF_PEAT_STATUS := by unfold BUF_POOL_FREE BUF_PEAT_STATUS; omega
  exact (fget_rejudge hlow hpeat).trans (fget_foff_same _ _ rfl)

/-! ## A peat bank write ends (07 R213, R223) -/

/-- The oldest peat bank write has left the list. -/
def State.writeTaken (s : State) (rest : List Nat) : State := { s with buf := { s.buf with peatPend := rest } }

theorem exec_spillWriteDone {key : Nat} {rest : List Nat} {read : InkRead} (hpend : s.buf.peatPend = key :: rest)
    (hfirst : firstPending (s.queueOf (key / 16) (key % 16)) = some k) (hrx : (s.bufOf k).receiving = false)
    (hread : read ≠ .badHeader) : exec (.spillWriteDone read) s =
      whenUp s ((s.writeTaken rest).writeEnds (key / 16) (key % 16) k read).rejudge := by
  simp only [exec, execSpillWriteDone, hpend, hfirst, hrx, Bool.false_eq_true, if_false]
  cases read with
  | badHeader => exact absurd rfl hread
  | good => rfl
  | badData => rfl

/-- The copy is in the peat bank and its buffer released; the reads have not been counted yet. -/
def State.spillMoved (s : State) (n q k : Nat) : State :=
  (s.setQueue n q (mapPending (fun _ c => some { c with held := .peat (s.bufOf k).bytes }) (s.queueOf n q))).dropRef k

theorem writeEnds_good {corrected : Nat} :
    s.writeEnds n q k (.good corrected) = (s.spillMoved n q k).inkCorr corrected := rfl

theorem spillMoved_step : CopyStep s (s.spillMoved n q k) := .dropRef (.setQueue .refl)

theorem Within.inkCorr {sans : State → State} {K : Fld → Prop} {corrected : Nat} (h : Within sans K s t)
    (hcorr : K BUF_ECC_INK_CORR) (hseen : K BUF_ECC_CORR_SEEN) : Within sans K s (t.inkCorr corrected) :=
  .ite h ((h.fcount hcorr).fon hseen)

theorem fget_inkCorr {corrected : Nat} : (s.inkCorr corrected).fget BUF_ECC_INK_CORR =
    min (s.fget BUF_ECC_INK_CORR + corrected) (2 ^ BUF_ECC_INK_CORR.width - 1) := by
  unfold State.inkCorr
  split
  next hnone =>
    have hlt := fget_lt s BUF_ECC_INK_CORR
    omega
  next => exact (fget_fon_apart _ _ _ rfl (by decide)).trans (fget_fcount_same s _ _ rfl)

/-- The whole effect of a write whose read was good. -/
def State.spillWritten (s : State) (n q k corrected : Nat) (rest : List Nat) : State :=
  (s.writeTaken rest).writeEnds n q k (.good corrected)

variable {corrected : Nat} {rest : List Nat}

theorem spillWritten_step {K : Fld → Prop} (hcorr : K BUF_ECC_INK_CORR) (hseen : K BUF_ECC_CORR_SEEN) :
    Within State.sansBuf K s (s.spillWritten n q k corrected rest) := by
  have htaken : Within State.sansBuf K s (s.writeTaken rest) := Within.refl.buf
  exact (htaken.trans spillMoved_step.within).inkCorr hcorr hseen

theorem spillWritten_rejudge_step : ResidueStep eccFld s (s.spillWritten n q k corrected rest).rejudge :=
  (spillWritten_step (.inl rfl) (.inl rfl)).widen.trans (rejudge_step.mono fun _ => .inr)

theorem fwd_spillWritten : (s.spillWritten n q k corrected rest).fwd = s.fwd :=
  (spillWritten_step (K := eccFld) (.inl rfl) (.inl rfl)).proj State.fwd

theorem peatPend_spillWritten : (s.spillWritten n q k corrected rest).buf.peatPend = rest := by
  rw [State.spillWritten, writeEnds_good, buf_inkCorr, spillMoved_step.proj fun u => u.buf.peatPend]
  rfl

theorem queueOf_spillWritten : (s.spillWritten n q k corrected rest).queueOf n q =
    mapPending (fun _ c => some { c with held := .peat (s.bufOf k).bytes }) (s.queueOf n q) := by
  rw [State.spillWritten, writeEnds_good, queueOf_congr buf_inkCorr, State.spillMoved, queueOf_dropRef,
    queueOf_setQueue]
  rfl

theorem fget_spillWritten : (s.spillWritten n q k corrected rest).rejudge.fget BUF_ECC_INK_CORR =
    min (s.fget BUF_ECC_INK_CORR + corrected) (2 ^ BUF_ECC_INK_CORR.width - 1) := by
  rw [fget_rejudge, State.spillWritten, writeEnds_good, fget_inkCorr, spillMoved_step.fget]
  rfl

/-! ## A copy comes back from the peat bank (07 R224) -/

theorem exec_spillReadbackDone_good {p : Fin 64} {j : Fin 10} {bs : List Byte} (hup : s.up = true)
    (hfirst : firstPeat (s.queueOf p j) = some bs) (hroom : s.readBack p + bs.length ≤ 32768) :
    exec (.spillReadbackDone p j true) s =
      .next (s.setQueue p j (mapPeat (fun b c => some { c with held := .ready b }) (s.queueOf p j))) := by
  have hstep := CopyStep.setQueue (n := p) (q := j)
    (cs := mapPeat (fun b c => some { c with held := .ready b }) (s.queueOf p j)) (.refl (s := s))
  simp only [exec, execSpillReadbackDone, hfirst, if_true, if_neg (Nat.not_lt.mpr hroom)]
  rw [whenUp_next_settle hup (hstep.proj State.pending),
    settle_of_same s _ (alarmConds_congr (hstep.proj State.part) (hstep.proj State.regs) (hstep.proj State.mgt))]

/-! ## Uncorrectable errors (07 R213, R226, 16 R428) -/

/-- The state without its buffers, queues and alarms. -/
def State.sansAlarm (s : State) : State := { s with buf := bufNone, mgt := mgtNew }

/-- The state without what follows an uncorrectable error beside registers. -/
def State.sansEcc (s : State) : State :=
  { s with fwd := ⟨[], none, [], [], [], [], [], [], []⟩, buf := bufNone, mgt := mgtNew }

theorem sansEcc_only_cnt {K : Fld → Prop} (h : Within State.sansEcc K s t) :
    t = { s with regs := t.regs, hot := t.hot, fwd := t.fwd, buf := t.buf, cnt := t.cnt, mgt := t.mgt } :=
  congrArg (fun u : State => { u with
    regs := t.regs, hot := t.hot, fwd := t.fwd, buf := t.buf, cnt := t.cnt, mgt := t.mgt }) h.bare_eq

theorem sansEcc_only {K : Fld → Prop} (h : Within State.sansEcc K s t) :
    t = { s with regs := t.regs, hot := t.hot, fwd := t.fwd, buf := t.buf, mgt := t.mgt } :=
  congrArg (fun u : State => { u with
    regs := t.regs, hot := t.hot, fwd := t.fwd, buf := t.buf, mgt := t.mgt }) h.bare_eq

/-- A flag of BUF_ECC with its alarm stays while copies move. -/
theorem ecc_seen_stays {u : State} {f : Fld} (h : ResidueStep queueFld (u.seen f .memory) t) (hkey : f.key = BUF_ECC)
    (hfits : f.fits = true := by decide) (hwidth : 0 < f.width := by decide) :
    (settle s t).fget f = 1 ∧ bitOf (settle s t).mgt.latched 10 = true := by
  constructor
  · rw [fget_settle, h.keeps f fun _ => queueFld_ecc hkey]
    exact (fget_raise _ _ f).trans (fget_fon_same _ _ hfits hwidth)
  · rw [settle_latched, h.proj State.mgt]
    exact raise_bit _ .memory

/-- The queue without its oldest copy in the peat bank. -/
def State.peatCopyGone (s : State) (n q : Nat) : State := s.setQueue n q (mapPeat (fun _ _ => none) (s.queueOf n q))

theorem peatCopyGone_step : CopyStep s (s.peatCopyGone n q) := .setQueue .refl

/-- The copy whose read-back failed is out of its queue and counted (07 R226, R236). -/
def State.readbackLost (s : State) (n q : Nat) : State :=
  ((s.peatCopyGone n q).countDrop n q .peatEcc).fcount BUF_ECC_PEAT_UNCORR 1

theorem buf_readbackLost : (s.readbackLost n q).buf = (s.peatCopyGone n q).buf := by
  simp only [State.readbackLost, State.countDrop, fcount_buf, fset_buf, fwrap_buf]

/-- What follows once the error's flag is set. -/
def State.readbackFails (s : State) (n q : Nat) : State :=
  ((s.readbackLost n q).seen BUF_ECC_PEAT_UNCORR_SEEN .memory).endSpilling n q

theorem exec_spillReadbackDone_bad {p : Fin 64} {j : Fin 10} {bs : List Byte}
    (hfirst : firstPeat (s.queueOf p j) = some bs) :
    exec (.spillReadbackDone p j false) s = whenUp s (s.readbackFails p j).rejudge := by
  simp only [exec, execSpillReadbackDone, hfirst, Bool.false_eq_true, if_false]
  rfl

theorem endSpilling_rejudge_step : ResidueStep queueFld s (s.endSpilling n q).rejudge :=
  (QueueStep.endSpilling .refl).widen.trans rejudge_step

theorem readbackLost_step : Within State.sansAlarm eccFld s (s.readbackLost n q) :=
  (peatCopyGone_step.within.trans ((QueueStep.countDrop .refl).widen.mono fun _ => .inr)).fcount (.inl rfl)

theorem readbackFails_step : Within State.sansAlarm eccFld s (s.readbackFails n q) :=
  (readbackLost_step.seen (.inl rfl)).trans ((QueueStep.endSpilling .refl).widen.mono fun _ => .inr)

theorem readbackFails_rejudge_step : Within State.sansEcc eccFld s (s.readbackFails n q).rejudge :=
  readbackFails_step.widen.trans (rejudge_step.widen.mono fun _ => .inr)

theorem fwd_readbackFails : (s.readbackFails n q).fwd = s.fwd := readbackFails_step.proj State.fwd

theorem queueOf_readbackFails : (s.readbackFails n q).queueOf n q = mapPeat (fun _ _ => none) (s.queueOf n q) := by
  have hbuf : (s.readbackFails n q).buf = (s.peatCopyGone n q).buf := by
    rw [State.readbackFails, buf_endSpilling, seen_buf, buf_readbackLost]
  rw [queueOf_congr hbuf, State.peatCopyGone, queueOf_setQueue]

theorem countDrop_drop {c : DropCause} :
    (s.countDrop n q c).fget (BUF_Q_DROP_DROP n q) = (s.fget (BUF_Q_DROP_DROP n q) + 1) % 2 ^ 32 := by
  have hkey : BUF_Q_DROP n q ≠ BUF_Q_DROP_CAUSE n q := by unfold BUF_Q_DROP BUF_Q_DROP_CAUSE; omega
  exact (fget_fset_key _ _ _ _ hkey).trans (fget_fset_same s _ _ rfl)

theorem fget_endSpilling {g : Fld} (hkey : g.key ≠ BUF_Q_OCC_PEAT n q) : (s.endSpilling n q).fget g = s.fget g := by
  unfold State.endSpilling
  split
  · rfl
  · exact fget_fset_key _ _ _ _ hkey

theorem fget_readbackFails_drop :
    (s.readbackFails n q).fget (BUF_Q_DROP_DROP n q) = (s.fget (BUF_Q_DROP_DROP n q) + 1) % 2 ^ 32 := by
  have hocc : BUF_Q_DROP n q ≠ BUF_Q_OCC_PEAT n q := by unfold BUF_Q_DROP BUF_Q_OCC_PEAT; omega
  have hecc : BUF_Q_DROP n q ≠ BUF_ECC := by unfold BUF_Q_DROP BUF_ECC; omega
  rw [State.readbackFails, fget_endSpilling hocc, State.seen, fget_raise, fget_fon_apart _ _ _ rfl (apart_of_key hecc),
    State.readbackLost, State.fcount, fget_fset_key _ _ _ _ hecc, countDrop_drop, peatCopyGone_step.fget]

/-- The copy whose buffer could not be read is out of its queue; the error is counted with its flag (07 R213). -/
def State.spillUnread (s : State) (n q : Nat) : State :=
  (s.setQueue n q (mapPending (fun _ _ => none) (s.queueOf n q))).inkUncorr

theorem writeEnds_badData {off : Nat} : s.writeEnds n q k (.badData off) =
    (((s.spillUnread n q).countDrop n q .inkEcc).dropRef k).endSpilling n q := rfl

theorem writeEnds_badData_step {off : Nat} :
    ResidueStep queueFld (s.spillUnread n q) (s.writeEnds n q k (.badData off)).rejudge := by
  rw [writeEnds_badData]
  exact (QueueStep.dropRef (QueueStep.countDrop .refl)).widen.trans endSpilling_rejudge_step

theorem spillUnread_step : Within State.sansEcc eccFld s ((s.writeTaken rest).spillUnread n q) := by
  have htaken : Within State.sansEcc eccFld s (s.writeTaken rest) := Within.refl.buf
  exact ((htaken.trans (CopyStep.within (.setQueue .refl))).fcount (.inl rfl)).seen (.inl rfl)

theorem unread_rejudge_step {off : Nat} :
    Within State.sansEcc eccFld s ((s.writeTaken rest).writeEnds n q k (.badData off)).rejudge :=
  spillUnread_step.trans (writeEnds_badData_step.widen.mono fun _ => .inr)

/-! ## A restart of the peat-bank controller begins (07 R227, 14 R377, R395) -/

/-- The state without what a restart of the peat-bank controller changes beside registers. -/
def State.sansPeatStart (s : State) : State :=
  { s with vbat := vbatNew, out := [], freeCtr := 0, fwd := ⟨[], none, [], [], [], [], [], [], []⟩, buf := bufNone,
           cnt := State.reset.cnt, upd := updNew, mgt := mgtNew }

/-- From s to t a restart of the peat-bank controller has begun. -/
abbrev PeatStart (s t : State) : Prop := Within State.sansPeatStart (fun _ => True) s t

theorem PeatStart.only (h : PeatStart s t) : t = { s with
    vbat := t.vbat, out := t.out, freeCtr := t.freeCtr, regs := t.regs, hot := t.hot, fwd := t.fwd, buf := t.buf,
    cnt := t.cnt, upd := t.upd, mgt := t.mgt } :=
  congrArg (fun u : State => { u with
    vbat := t.vbat, out := t.out, freeCtr := t.freeCtr, regs := t.regs, hot := t.hot, fwd := t.fwd, buf := t.buf,
    cnt := t.cnt, upd := t.upd, mgt := t.mgt }) h.bare_eq

theorem PeatStart.queue {u : State} (h : PeatStart s t) (hu : QueueStep t u) : PeatStart s u :=
  h.trans (hu.widen.mono fun _ _ => trivial)

theorem cutReady_step (h : PeatStart s t) : PeatStart s (t.cutReady n) := by
  unfold State.cutReady
  split
  · exact h
  · split
    · refine PeatStart.queue (t := (t.emit _).useFree) ?_ (.setTx .refl)
      exact h.frame
    · exact h

theorem losePeat_step : PeatStart s s.losePeat := by
  have hcut : PeatStart s ((List.range 64).foldl State.cutReady s) :=
    Within.foldl .refl fun _ _ _ => cutReady_step
  have hdropped : PeatStart s (s.buf.queues.foldl (fun u e =>
      u.dropCopies (e.1 / 16) (e.1 % 16) (fun c => c.inPeat) .peatLost) ((List.range 64).foldl State.cutReady s)) :=
    hcut.foldl fun _ _ _ hu => PeatStart.queue hu (.dropCopies .refl)
  exact .ite (hdropped.seen trivial) hdropped

/-- The spilled copies are lost, and the registers show the restart. -/
def State.peatHalted (s : State) : State := (s.losePeat.foff BUF_PEAT_STATUS_READY).fon BUF_PEAT_CMD_RESTART

theorem fget_withBuf (b : BufState) (g : Fld) : ({ s with buf := b } : State).fget g = s.fget g := fget_congr rfl rfl g

/-- The restart runs. -/
def State.peatStopped (s : State) : State :=
  { s.peatHalted with buf := { s.peatHalted.buf with peatRestart := true } }

/-- The ring in the peat bank stops (15 R411). -/
def State.ringStopped (s : State) : State :=
  if s.fbit CNT_CAP_STATUS_RUN_PLACE then
    let u := s.fon CNT_CAP_STATUS_RING_RESET_SEEN
    { u with cnt := { u.cnt with ring := [] } }
  else s

theorem fget_peatStopped (g : Fld) : s.peatStopped.fget g = s.peatHalted.fget g :=
  fget_withBuf _ g

theorem peatRestart_peatStopped : s.peatStopped.buf.peatRestart = true := rfl

theorem peatStopped_step : PeatStart s s.peatStopped := by
  have hhalted : PeatStart s s.peatHalted := (losePeat_step.foff trivial).fon trivial
  exact hhalted.buf

/-- The state without its counters and its capture ring. -/
def State.sansCnt (s : State) : State := { s with cnt := State.reset.cnt }

theorem ringStopped_step : Within State.sansCnt (· = CNT_CAP_STATUS_RING_RESET_SEEN) s s.ringStopped := by
  have hflag : Within State.sansCnt (· = CNT_CAP_STATUS_RING_RESET_SEEN) s (s.fon CNT_CAP_STATUS_RING_RESET_SEEN) :=
    .fon .refl rfl
  exact .ite (Within.cnt hflag) .refl

theorem Within.upd {sans : State → State} {K : Fld → Prop} {x : UpdState} (h : Within sans K s t)
    (hupd : ∀ u x, sans { u with upd := x } = sans u := by intro _ _; rfl) : Within sans K s { t with upd := x } :=
  h.frame (hupd t.bare x)

theorem Within.setFw {sans : State → State} {K : Fld → Prop} {p : Nat} {x : FwPart} (h : Within sans K s t)
    (hupd : ∀ u x, sans { u with upd := x } = sans u := by intro _ _; rfl) : Within sans K s (t.setFw p x) := h.upd hupd

theorem Within.rejectTrial {sans : State → State} {K : Fld → Prop} {p reason : Nat} (h : Within sans K s t)
    (hupd : ∀ u x, sans { u with upd := x } = sans u := by intro _ _; rfl) :
    Within sans K s (t.rejectTrial p reason) := by
  unfold State.rejectTrial
  split
  · exact h
  · exact Within.upd (h.setFw hupd) hupd

/-- The state without the parts of the firmware, the attempts in VBAT and the alarms. -/
def State.sansParts (s : State) : State := { s with vbat := vbatNew, upd := updNew, mgt := mgtNew }

theorem setAttempts_step {K : Fld → Prop} {p : Nat} (h : Within State.sansParts K s t) :
    Within State.sansParts K s (t.setAttempts p n) :=
  .ite h.frame h.setFw

/-- A start of a part that falls back sets FALLBACK_SEEN (14 R393, R395). -/
theorem beginStart_step {p : Nat} :
    Within State.sansParts (· = UPD_EVENTS_FALLBACK_SEEN) s (s.beginStart p) := by
  unfold State.beginStart
  extract_lets _ u
  have hu : Within State.sansParts (· = UPD_EVENTS_FALLBACK_SEEN) s u := Within.refl.setFw
  split
  · exact .ite (setAttempts_step hu).setFw (hu.rejectTrial.seen rfl).setFw
  · exact hu.setFw

theorem startPeatCtl_eq : s.startPeatCtl = s.peatStopped.rejudge.ringStopped.beginStart 3 := rfl

theorem startPeatCtl_step : PeatStart s s.startPeatCtl := by
  have hjudged : PeatStart s s.peatStopped.rejudge :=
    peatStopped_step.trans (rejudge_step.widen.mono fun _ _ => trivial)
  have hstopped : PeatStart s s.peatStopped.rejudge.ringStopped :=
    hjudged.trans (ringStopped_step.widen.mono fun _ _ => trivial)
  exact hstopped.trans (beginStart_step.widen.mono fun _ _ => trivial)

/-- What the restart shows of the peat bank stays once it has begun. -/
theorem fget_startPeatCtl {g : Fld} (hring : g.key ≠ CNT_CAP_STATUS := by decide)
    (hevents : g.key ≠ UPD_EVENTS := by decide) : s.startPeatCtl.fget g = s.peatStopped.rejudge.fget g := by
  have hstep : s.startPeatCtl.fget g = s.peatStopped.rejudge.ringStopped.fget g :=
    beginStart_step.keeps g fun _ hf => apart_of_key (by rw [hf]; exact hevents)
  exact hstep.trans (ringStopped_step.keeps g fun _ hf => apart_of_key (by rw [hf]; exact hring))

theorem fget_startPeatCtl_restart : s.startPeatCtl.fget BUF_PEAT_CMD_RESTART = 1 := by
  rw [fget_startPeatCtl, fget_rejudge, fget_peatStopped, State.peatHalted, fget_fon_same _ _ rfl Nat.one_pos]

theorem fget_startPeatCtl_ready : s.startPeatCtl.fget BUF_PEAT_STATUS_READY = 0 := by
  rw [fget_startPeatCtl, Requeued.rejudge.ready, fget_peatStopped, State.peatHalted,
    fget_fon_apart _ _ _ rfl (by decide), fget_foff_same _ _ rfl]

theorem peatRestart_startPeatCtl : s.startPeatCtl.buf.peatRestart = true := by
  rw [startPeatCtl_eq, beginStart_step.proj State.buf, ringStopped_step.proj State.buf, Requeued.rejudge.restart,
    peatRestart_peatStopped]

theorem exec_peatRestart {r : Requester} (htakes : s.takes r = true) (hup : s.up = true)
    (hidle : s.buf.peatRestart = false) : exec (.peatRestart r) s = .next (settle s s.startPeatCtl) := by
  have hexec : exec (.peatRestart r) s = whenTaken s r (if s.buf.peatRestart then s else s.startPeatCtl) := rfl
  rw [hexec, whenTaken_of_takes htakes, hidle]
  exact whenUp_next_settle hup (startPeatCtl_step.proj State.pending)

/-! ## The restart is done (07 R227, 14 R385) -/

/-- A field that the verification of the peat-bank controller changes. -/
def ctlFld (f : Fld) : Prop := f = UPD_EVENTS_FUSE_SEEN ∨ f = BUF_PEAT_STATUS_READY

/-- The state without what a restart of the peat-bank controller changes at its end beside registers. -/
def State.sansCtl (s : State) : State := { s with buf := bufNone, upd := updNew, mgt := mgtNew }

/-- From s to t the peat-bank controller has been verified and runs, or has failed to start. -/
abbrev CtlStep (s t : State) : Prop := Within State.sansCtl ctlFld s t

theorem fuseAdvance_step (h : CtlStep s t) : CtlStep s t.fuseAdvance := by
  have hfuse : ∀ x, CtlStep s { t with upd := x } := fun _ => h.frame
  exact .ite ((hfuse _).fon (.inl rfl)) h

theorem runBank_step {p b : Nat} (h : CtlStep s t) : CtlStep s (t.runBank p b) :=
  fuseAdvance_step (h.setFw.mgt)

theorem startFails_step {p reason : Nat} (h : CtlStep s t) : CtlStep s (t.startFails p reason) := h.setFw.mgt

theorem startGood_step {p b : Nat} {bad : Bool} (h : CtlStep s t) : CtlStep s (t.startGood p b bad) :=
  .ite (startFails_step h) (.ite (runBank_step h) (startFails_step h))

theorem verified_step {p : Nat} {bad0 bad1 : Bool} : CtlStep s (s.verified p bad0 bad1) := by
  unfold State.verified
  split
  · exact .refl
  · exact .ite (.ite (runBank_step .refl) (startGood_step Within.refl.rejectTrial)) (startGood_step .refl)

theorem ctlVerified_peat_step {bad0 bad1 : Bool} : CtlStep s (s.ctlVerified 3 bad0 bad1) :=
  .ite .refl (.ite verified_step (verified_step.foff (.inr rfl)))

/-- The restart of the peat bank has ended; READY waits for a controller that runs. -/
def State.peatReset (s : State) : State :=
  let t := s.ctlVerified 3 false false
  let t := { t with buf := { t.buf with peatRestart := false } }
  (t.foff BUF_PEAT_CMD_RESTART).foff GLB_XING_DOMAIN_PEAT_INVALID

theorem peatRestart_peatReset : s.peatReset.buf.peatRestart = false := by
  simp only [State.peatReset, foff_buf]

/-- The whole effect of the end of a restart. -/
def State.peatBack (s : State) : State :=
  if (s.peatReset.fw 3).running.isSome then s.peatReset.fon BUF_PEAT_STATUS_READY else s.peatReset

theorem peatBack_step : Within State.sansCtl (fun _ => True) s s.peatBack := by
  have hverified : Within State.sansCtl (fun _ => True) s (s.ctlVerified 3 false false) :=
    ctlVerified_peat_step.mono fun _ _ => trivial
  have hreset : Within State.sansCtl (fun _ => True) s s.peatReset :=
    (hverified.buf.foff (f := BUF_PEAT_CMD_RESTART) trivial).foff trivial
  exact .ite (hreset.fon trivial) hreset

theorem exec_peatRestartDone (hup : s.up = true) (hruns : s.buf.peatRestart = true) :
    exec .peatRestartDone s = .next (settle s s.peatBack) := by
  have hexec : exec .peatRestartDone s = whenUp s (if s.buf.peatRestart then s.peatBack else s) := rfl
  rw [hexec, if_pos hruns]
  exact whenUp_next_settle hup (peatBack_step.proj State.pending)

theorem sansCtl_only {K : Fld → Prop} (h : Within State.sansCtl K s t) :
    t = { s with
      regs := t.regs, hot := t.hot, bus := t.bus, qw := t.qw, buf := t.buf, upd := t.upd, mgt := t.mgt } :=
  congrArg (fun u : State => { u with
    regs := t.regs, hot := t.hot, bus := t.bus, qw := t.qw, buf := t.buf, upd := t.upd, mgt := t.mgt }) h.bare_eq

theorem fget_peatBack {g : Fld} (h : g.key ≠ BUF_PEAT_STATUS) : s.peatBack.fget g = s.peatReset.fget g := by
  unfold State.peatBack
  split
  · exact fget_fon_apart _ _ _ rfl (apart_of_key h)
  · rfl

theorem buf_peatBack : s.peatBack.buf = s.peatReset.buf := by
  unfold State.peatBack
  split
  · exact fon_buf _ _
  · rfl

theorem fw_peatBack {p : Nat} : s.peatBack.fw p = s.peatReset.fw p := by
  unfold State.peatBack State.fw
  split
  · rw [fon_upd]
  · rfl

theorem fget_peatBack_ready (h : (s.peatBack.fw 3).running ≠ none) : s.peatBack.fget BUF_PEAT_STATUS_READY = 1 := by
  rw [fw_peatBack] at h
  rw [State.peatBack, if_pos (Option.isSome_iff_ne_none.mpr h)]
  exact fget_fon_same _ _ rfl Nat.one_pos

theorem fget_peatBack_restart : s.peatBack.fget BUF_PEAT_CMD_RESTART = 0 := by
  rw [fget_peatBack (by decide)]
  exact (fget_foff_apart _ GLB_XING_DOMAIN_PEAT_INVALID _ rfl (by decide)).trans (fget_foff_same _ _ rfl)

theorem fget_peatBack_invalid : s.peatBack.fget GLB_XING_DOMAIN_PEAT_INVALID = 0 := by
  rw [fget_peatBack (by decide)]
  exact fget_foff_same _ _ rfl

/-! ## The commands (07 R213, R223, R224, R226, R227) -/

theorem fwd_poolRenewed {p : Nat} : (s.poolRenewed p).fwd = s.fwd := by
  rw [State.poolRenewed, State.foff, fset_fwd]
  rfl

theorem queues_poolRenewed {p : Nat} : (s.poolRenewed p).buf.queues = s.buf.queues := by
  rw [State.poolRenewed, State.foff, fset_buf]
  rfl

theorem keepsBut_poolRenewed {p : Fin 4} : keepsBut [BUF_POOL_FREE_REBUILD p] s (s.poolRenewed p) :=
  ((CopyStep.within (sans := State.sansBuf) (CopyStep.setPool .refl)).foff (List.mem_singleton_self _)).keepsBut

/-- A rebuilt pool serves again (07 R213). -/
theorem poolRebuilt {p : Fin 4} (hup : s.up = true) (hrebuild : s.fget (BUF_POOL_FREE_REBUILD p) = 1) :
    ∃ t, exec (.poolRebuildDone p) s = .next t ∧ t.fget (BUF_POOL_FREE_REBUILD p) = 0 ∧
      (s.fwd.residue = [] → keepsBut [BUF_POOL_FREE_REBUILD p] s t ∧ t.buf.queues = s.buf.queues) ∧
      t = { s with regs := t.regs, hot := t.hot, fwd := t.fwd, buf := t.buf } := by
  refine ⟨_, exec_poolRebuildDone hup hrebuild, fget_rebuild_renewed, fun hres => ?_,
    ResidueStep.only poolRenewed_rejudge_step⟩
  rw [rejudge_of_nil (by rwa [fwd_poolRenewed])]
  exact ⟨keepsBut_poolRenewed, queues_poolRenewed⟩

/-- A copy moves to the peat bank in its place in the queue (07 R223). -/
theorem spillMovesToPeat {key : Nat} (hup : s.up = true) (hpend : s.buf.peatPend = key :: rest)
    (hfirst : firstPending (s.queueOf (key / 16) (key % 16)) = some k) (hrx : (s.bufOf k).receiving = false) :
    ∃ t, exec (.spillWriteDone (.good corrected)) s = .next t ∧ t.buf.peatPend.take rest.length = rest ∧
      (s.fwd.residue = [] → t.buf.peatPend = rest ∧ keepsBut [BUF_ECC_INK_CORR, BUF_ECC_CORR_SEEN] s t ∧
        t.queueOf (key / 16) (key % 16) =
          mapPending (fun _ c => some { c with held := .peat (s.bufOf k).bytes }) (s.queueOf (key / 16) (key % 16))) ∧
      t.fget BUF_ECC_INK_CORR = min (s.fget BUF_ECC_INK_CORR + corrected) (2 ^ BUF_ECC_INK_CORR.width - 1) ∧
      t = { s with regs := t.regs, hot := t.hot, fwd := t.fwd, buf := t.buf } := by
  have hstep := spillWritten_rejudge_step (s := s) (n := key / 16) (q := key % 16) (k := k) (corrected := corrected)
    (rest := rest)
  have hexec : exec (.spillWriteDone (.good corrected)) s =
      whenUp s (s.spillWritten (key / 16) (key % 16) k corrected rest).rejudge :=
    exec_spillWriteDone hpend hfirst hrx (by simp)
  rw [whenUp_next_settle hup (hstep.proj State.pending), hstep.settle_eq fun _ hk _ => condKeys_ne_ecc hk] at hexec
  refine ⟨_, hexec, ?_, fun hres => ?_, fget_spillWritten, hstep.only⟩
  · have hjoined := (Requeued.rejudge (s := s.spillWritten (key / 16) (key % 16) k corrected rest)).pend
    rw [peatPend_spillWritten] at hjoined
    exact (List.prefix_iff_eq_take.mp hjoined).symm
  · rw [rejudge_of_nil (by rwa [fwd_spillWritten])]
    exact ⟨peatPend_spillWritten, (spillWritten_step (by simp) (by simp)).keepsBut, queueOf_spillWritten⟩

/-- A copy that fails its ECC check in the peat bank is dropped and counted (07 R226). -/
theorem readbackDropped {p : Fin 64} {j : Fin 10} {bs : List Byte} (hup : s.up = true)
    (hfirst : firstPeat (s.queueOf p j) = some bs) :
    ∃ t, exec (.spillReadbackDone p j false) s = .next t ∧
      t = { s with regs := t.regs, hot := t.hot, fwd := t.fwd, buf := t.buf, mgt := t.mgt } ∧
      t.fget BUF_ECC_PEAT_UNCORR_SEEN = 1 ∧ bitOf t.mgt.latched 10 = true ∧
      (s.fwd.residue = [] → t.queueOf p j = mapPeat (fun _ _ => none) (s.queueOf p j) ∧
        t.fget (BUF_Q_DROP_DROP p j) = (s.fget (BUF_Q_DROP_DROP p j) + 1) % 2 ^ 32) := by
  have hstep := readbackFails_rejudge_step (s := s) (n := p) (q := j)
  have hflagged : ResidueStep queueFld ((s.readbackLost p j).seen BUF_ECC_PEAT_UNCORR_SEEN .memory)
      (s.readbackFails p j).rejudge := endSpilling_rejudge_step
  obtain ⟨hflag, halarm⟩ := ecc_seen_stays (s := s) hflagged rfl
  have hexec := exec_spillReadbackDone_bad hfirst
  rw [whenUp_next_settle hup (hstep.proj State.pending)] at hexec
  refine ⟨_, hexec, sansEcc_only hstep.settle, hflag, halarm, fun hres => ?_⟩
  rw [rejudge_of_nil (by rwa [fwd_readbackFails]), queueOf_congr (settle_buf _ _), fget_settle]
  exact ⟨queueOf_readbackFails, fget_readbackFails_drop⟩

theorem peatRestartBegins {r : Requester} (htakes : s.takes r = true) (hup : s.up = true)
    (hidle : s.buf.peatRestart = false) :
    ∃ t, exec (.peatRestart r) s = .next t ∧
      t = { s with
        vbat := t.vbat, out := t.out, freeCtr := t.freeCtr, regs := t.regs, hot := t.hot, fwd := t.fwd, buf := t.buf,
        cnt := t.cnt, upd := t.upd, mgt := t.mgt } ∧
      t.buf.peatRestart = true ∧ t.fget BUF_PEAT_CMD_RESTART = 1 ∧ t.fget BUF_PEAT_STATUS_READY = 0 := by
  refine ⟨_, exec_peatRestart htakes hup hidle, PeatStart.only startPeatCtl_step.settle, ?_, ?_, ?_⟩
  · rw [settle_buf, peatRestart_startPeatCtl]
  · rw [fget_settle, fget_startPeatCtl_restart]
  · rw [fget_settle, fget_startPeatCtl_ready]

theorem peatRestartEnds (hup : s.up = true) (hruns : s.buf.peatRestart = true) :
    ∃ t, exec .peatRestartDone s = .next t ∧
      t = { s with regs := t.regs, hot := t.hot, bus := t.bus, qw := t.qw, buf := t.buf, upd := t.upd, mgt := t.mgt } ∧
      t.buf.peatRestart = false ∧ t.fget BUF_PEAT_CMD_RESTART = 0 ∧
      t.fget GLB_XING_DOMAIN_PEAT_INVALID = 0 ∧ ((t.fw 3).running ≠ none → t.fget BUF_PEAT_STATUS_READY = 1) := by
  refine ⟨_, exec_peatRestartDone hup hruns, sansCtl_only peatBack_step.settle, ?_, ?_, ?_, ?_⟩
  · rw [settle_buf, buf_peatBack, peatRestart_peatReset]
  · rw [fget_settle, fget_peatBack_restart]
  · rw [fget_settle, fget_peatBack_invalid]
  · rw [fget_settle, State.fw, settle_upd]
    exact fget_peatBack_ready

/-- A spilled copy whose buffer cannot be read sets the flag and the alarm of the inkwell (07 R213). -/
theorem spillDropped {key off : Nat} (hup : s.up = true) (hpend : s.buf.peatPend = key :: rest)
    (hfirst : firstPending (s.queueOf (key / 16) (key % 16)) = some k) (hrx : (s.bufOf k).receiving = false) :
    ∃ t, exec (.spillWriteDone (.badData off)) s = .next t ∧
      t.fget BUF_ECC_INK_UNCORR_SEEN = 1 ∧ bitOf t.mgt.latched 10 = true ∧ t.time = s.time ∧
      t = { s with regs := t.regs, hot := t.hot, fwd := t.fwd, buf := t.buf, cnt := t.cnt, mgt := t.mgt } := by
  have hstep := unread_rejudge_step (s := s) (n := key / 16) (q := key % 16) (k := k) (rest := rest) (off := off)
  obtain ⟨hflag, halarm⟩ := ecc_seen_stays (s := s) (writeEnds_badData_step (s := s.writeTaken rest) (n := key / 16)
    (q := key % 16) (k := k) (off := off)) rfl
  have hexec := exec_spillWriteDone (read := .badData off) hpend hfirst hrx (by simp)
  rw [whenUp_next_settle hup (hstep.proj State.pending)] at hexec
  exact ⟨_, hexec, hflag, halarm, (settle_time _ _).trans (hstep.proj State.time), sansEcc_only_cnt hstep.settle⟩

end

/-- Settles O26: a rebuilt pool, the ends of a peat bank write and of a read-back, and the restart of the peat bank.
READY and the list of peat bank writes are followed through the residue by `Requeued`. -/
theorem peatBankServes : Obligations.PeatBankServes := by
  unfold Obligations.PeatBankServes
  refine ⟨fun s p => poolRebuilt, fun s key k corrected rest => spillMovesToPeat, fun s p q bs hup hfirst hroom => ?_,
    fun s p q bs => readbackDropped, fun s r => peatRestartBegins, fun s => peatRestartEnds,
    fun s key k off rest => spillDropped⟩
  exact ⟨_, exec_spillReadbackDone_good hup hfirst hroom, queueOf_setQueue, (CopyStep.setQueue .refl).only⟩

end Sys2Proof.Machine

/-! # The front of the queue (08 R242; log entry 1) -/

namespace Sys2Proof.Machine

/-- On an empty queue a step idles. -/
theorem step_of_empty {s : State} (h : s.pending = []) : step s = .next (idle s) := by simp only [step, h]

/-- Settles O55: the two queues of `step`, and the two cases of `idle`. -/
theorem stepRunsFront : Obligations.StepRunsFront := by
  refine ⟨fun s c rest hqueue => ?_, fun s hempty hruns => ?_, fun s hempty hstill => ?_⟩
  · simp only [step, hqueue]
  · rw [step_of_empty hempty, idle, if_pos hruns]
  · rw [step_of_empty hempty, idle, if_neg (by simp [hstill]), State.cyclePasses]

end Sys2Proof.Machine

/-! # Rate, slew and steps of the clock (08 R245 to R248) -/

namespace Sys2Proof.Machine

set_option Elab.async false

/-! ## The rate (08 R246) -/

/-- The words of RATE, and the flag of a limited value. -/
def rateFields : List Fld := [⟨TIME_RATE, 0, 32⟩, ⟨TIME_RATE_HI, 0, 32⟩, TIME_STATE_RATE_CLAMP_SEEN]

theorem condKeys_ne_rateFields : ∀ k ∈ condKeys, ∀ f ∈ rateFields, k ≠ f.key := by decide

theorem clampRate_bounds (r : Int) : -2 ^ 38 ≤ clampRate r ∧ clampRate r ≤ 2 ^ 38 := by
  unfold clampRate rateLimit
  omega

theorem clampRate_eq_self_iff {r : Int} : clampRate r = r ↔ -2 ^ 38 ≤ r ∧ r ≤ 2 ^ 38 := by
  unfold clampRate rateLimit
  omega

theorem wrapTo_rate_lt (r : Int) : wrapTo 48 r < 2 ^ 48 := by
  unfold wrapTo
  norm_num
  omega

theorem signedOf_wrapTo_rate {r : Int} (hlo : -2 ^ 38 ≤ r) (hhi : r ≤ 2 ^ 38) : signedOf 48 (wrapTo 48 r) = r := by
  unfold signedOf wrapTo
  norm_num at *
  split <;> omega

section
variable {s : State} {v : Nat}

/-- The words of a wide register hold its 64 bits. -/
theorem wide2_setWide2 {lo hi : Nat} (hne : lo ≠ hi) (hv : v < 2 ^ 64) : (s.setWide2 lo hi v).wide2 lo hi = v := by
  unfold State.wide2 State.setWide2
  rw [getReg_setReg_same, getReg_setReg_ne _ _ _ _ hne, getReg_setReg_same]
  omega

theorem rate_setRate {r : Int} (hlo : -2 ^ 38 ≤ r) (hhi : r ≤ 2 ^ 38) :
    (s.setWide2 TIME_RATE TIME_RATE_HI (wrapTo 48 r)).rate = r := by
  have hlt := wrapTo_rate_lt r
  rw [State.rate, wide2_setWide2 (by decide) (by omega), signedOf_wrapTo_rate hlo hhi]

theorem rate_fon_clampSeen : (s.fon TIME_STATE_RATE_CLAMP_SEEN).rate = s.rate :=
  rate_of_keepsBut (keepsBut_fon _ (List.mem_singleton_self _) rfl (keepsBut_refl _ _)) (by decide)

theorem rate_writeRate : (s.writeRate v).rate = clampRate (signedOf 48 v) := by
  obtain ⟨hlo, hhi⟩ := clampRate_bounds (signedOf 48 v)
  unfold State.writeRate
  extract_lets r t
  have ht : t.rate = clampRate r := rate_setRate hlo hhi
  split
  · exact ht
  · exact rate_fon_clampSeen.trans ht

theorem within_setWide2 {lo hi : Nat} {K : Fld → Prop} (hlo : K ⟨lo, 0, 32⟩) (hhi : K ⟨hi, 0, 32⟩) :
    Within id K s (s.setWide2 lo hi v) := (Within.refl.setReg hlo).setReg hhi

theorem within_writeRate : Within id (· ∈ rateFields) s (s.writeRate v) := by
  have ht (n : Nat) : Within id (· ∈ rateFields) s (s.setWide2 TIME_RATE TIME_RATE_HI n) :=
    within_setWide2 (by simp [rateFields]) (by simp [rateFields])
  exact .ite (ht _) ((ht _).fon (by simp [rateFields]))

/-- The flag of a limited value is set where the value written lies outside the range of RATE. -/
theorem fbit_writeRate_clampSeen : (s.writeRate v).fbit TIME_STATE_RATE_CLAMP_SEEN =
    (s.fbit TIME_STATE_RATE_CLAMP_SEEN || decide (signedOf 48 v < -2 ^ 38) || decide (2 ^ 38 < signedOf 48 v)) := by
  unfold State.writeRate
  extract_lets r t
  have ht : t.fbit TIME_STATE_RATE_CLAMP_SEEN = s.fbit TIME_STATE_RATE_CLAMP_SEEN :=
    fbit_of_keepsBut (fs := [⟨TIME_RATE, 0, 32⟩, ⟨TIME_RATE_HI, 0, 32⟩])
      (within_setWide2 (by simp) (by simp)).keepsBut (by decide)
  by_cases hr : clampRate r = r
  · obtain ⟨hlo, hhi⟩ := clampRate_eq_self_iff.mp hr
    rw [if_pos hr, ht, decide_eq_false (by omega), decide_eq_false (by omega), Bool.or_false, Bool.or_false]
  · have hout : signedOf 48 v < -2 ^ 38 ∨ 2 ^ 38 < signedOf 48 v := by
      have := mt clampRate_eq_self_iff.mpr hr
      omega
    rw [if_neg hr, fbit_fon_same _ _ rfl Nat.one_pos]
    rcases hout with h | h
    · rw [decide_eq_true h, Bool.or_true, Bool.true_or]
    · rw [decide_eq_true h, Bool.or_true]

end

/-- The command is a requester's write to the rate, the slew remainder or the clock: those that the gate guards. -/
def gatedWrite (q : Requester) (i : Instr) : Prop :=
  (∃ low, i = .timeRateWrite q low) ∨ (∃ amount, i = .timeSlew q amount) ∨ (∃ mode, i = .timeStep q mode)

section
variable {s t : State} {q : Requester} {low amount : Word} {mode : Fin 4}

theorem Within.next_regs {fs : List Fld} (h : Within id (· ∈ fs) s t) (hk : ∀ k ∈ condKeys, ∀ f ∈ fs, k ≠ f.key)
    (hup : s.up = true) : whenUp s t = .next t :=
  (whenUp_next_settle hup (h.proj State.pending)).trans (congrArg _ (h.settle_eq hk))

theorem rateWrite_of_gate (hgate : s.timeGate q = true) {n : Nat} :
    s.rateWrite q n = s.writeRate (s.shadowOf q TIME_RATE_HI % 2 ^ 16 * 2 ^ 32 + n) := if_pos hgate

theorem timeRateWrite_moves (hup : s.up = true) (hgate : s.timeGate q = true) :
    ∃ t r, exec (.timeRateWrite q low) s = .next t ∧
      r = signedOf 48 (s.shadowOf q TIME_RATE_HI % 2 ^ 16 * 2 ^ 32 + low.toNat) ∧
      t.rate = max (-2 ^ 38) (min (2 ^ 38) r) ∧
      t.fbit TIME_STATE_RATE_CLAMP_SEEN =
        (s.fbit TIME_STATE_RATE_CLAMP_SEEN || decide (r < -2 ^ 38) || decide (2 ^ 38 < r)) ∧
      t.time = s.time ∧ t = { s with regs := t.regs, hot := t.hot } := by
  have hexec : exec (.timeRateWrite q low) s = whenUp s (s.rateWrite q low.toNat) := rfl
  have hwithin := within_writeRate (s := s) (v := s.shadowOf q TIME_RATE_HI % 2 ^ 16 * 2 ^ 32 + low.toNat)
  rw [hexec, rateWrite_of_gate hgate]
  exact ⟨_, _, hwithin.next_regs condKeys_ne_rateFields hup, rfl, rate_writeRate, fbit_writeRate_clampSeen,
    hwithin.proj State.time, hwithin.only_regs⟩

/-! ## The slew remainder (08 R248) -/

theorem signedOf_toNat (x : Word) : signedOf 32 x.toNat = x.toInt := by
  rw [BitVec.toInt_eq_toNat_cond]
  unfold signedOf
  split <;> split <;> omega

/-- The state with another slew remainder. -/
def State.withSlew (s : State) (v : Int) : State := { s with time := { s.time with slew := v } }

/-- The slew remainder that an amount leads to, saturated. -/
def State.slewSum (s : State) (amount : Int) : Int := max slewMin (min slewMax (s.time.slew + amount * 2 ^ 32))

theorem within_addSlew {a : Int} :
    Within id (· ∈ [TIME_STATE_RATE_CLAMP_SEEN]) (s.withSlew (s.slewSum a)) (s.addSlew a) :=
  .ite .refl (fon_step rfl)

theorem timeSlew_moves (hup : s.up = true) (hgate : s.timeGate q = true) :
    ∃ t, exec (.timeSlew q amount) s = .next t ∧
      t.time.slew = max (-(2 ^ 31) * 2 ^ 32) (min ((2 ^ 31 - 1) * 2 ^ 32) (s.time.slew + amount.toInt * 2 ^ 32)) ∧
      t.time = { s.time with slew := t.time.slew } ∧
      keepsBut [TIME_STATE_RATE_CLAMP_SEEN] s t ∧ t = { s with regs := t.regs, hot := t.hot, time := t.time } := by
  have hexec : exec (.timeSlew q amount) s = whenUp s (s.slewWrite q amount.toNat) := rfl
  have hwithin := within_addSlew (s := s) (a := amount.toInt)
  have htime : (s.addSlew amount.toInt).time = { s.time with slew := s.slewSum amount.toInt } := hwithin.proj State.time
  have hkeeps : keepsBut [TIME_STATE_RATE_CLAMP_SEEN] s (s.addSlew amount.toInt) := hwithin.keepsBut
  rw [hexec, State.slewWrite, if_pos hgate, signedOf_toNat, whenUp_next_settle hup (hwithin.proj State.pending),
    settle_of_keepsBut hkeeps (by decide) (hwithin.proj State.mgt)]
  refine ⟨_, rfl, congrArg TimeState.slew htime, by rw [htime], hkeeps, ?_⟩
  exact hwithin.only_regs.trans (by rw [htime]; rfl)

/-! ## Steps that are refused (08 R247) -/

theorem timeStep_refused (hup : s.up = true) (hgate : s.timeGate q = true)
    (hns : 1000000000 ≤ s.fget TIME_STEP_NS_NS) :
    ∃ t, exec (.timeStep q mode) s = .next t ∧ t.fget TIME_STEP_ERR_SEEN = 1 ∧ t.time = s.time ∧
      keepsBut [TIME_STEP_MODE, TIME_STEP_ERR_SEEN] s t ∧ t = { s with regs := t.regs, hot := t.hot } := by
  have hexec : exec (.timeStep q mode) s = whenUp s (s.timeStep q mode) := rfl
  have hns' : nsPerSec ≤ (s.fset TIME_STEP_MODE mode).fget TIME_STEP_NS_NS := by
    rwa [fget_fset_apart _ _ _ _ rfl (by decide)]
  have hnone : (s.fset TIME_STEP_MODE mode).stepTarget mode = none := if_pos hns'
  have hstep : s.timeStep q mode = (s.fset TIME_STEP_MODE mode).fon TIME_STEP_ERR_SEEN := by
    simp only [State.timeStep, hgate, if_true, hnone]
  have hwithin : Within id (· ∈ [TIME_STEP_MODE, TIME_STEP_ERR_SEEN]) s
      ((s.fset TIME_STEP_MODE mode).fon TIME_STEP_ERR_SEEN) := (Within.refl.fset (by simp)).fon (by simp)
  rw [hexec, hstep]
  exact ⟨_, hwithin.next_regs (by decide) hup, fget_fon_same _ _ rfl Nat.one_pos, hwithin.proj State.time,
    hwithin.keepsBut, hwithin.only_regs⟩

/-! ## Writes that the gate refuses (08 R245) -/

theorem timeGate_of_not_holder {h : Hearth} (hq : hearthOf q = some h) (hne : s.hrt.holder ≠ some h) :
    s.timeGate q = false := by
  simp [State.timeGate, State.isHolder, hq, Ne.symm hne]

theorem gateRefused_of_hearth {h : Hearth} (hq : hearthOf q = some h) :
    s.gateRefused q = s.fon HRT_EVENTS_GATE_VIOL_SEEN := by
  simp [State.gateRefused, hq]

/-- The three have one outcome where the gate refuses them. -/
theorem exec_gateRefused {i : Instr} (hgate : s.timeGate q = false) (hi : gatedWrite q i) :
    exec i s = whenUp s (s.gateRefused q) := by
  have hclosed : ¬ s.timeGate q = true := by simp [hgate]
  rcases hi with ⟨low, rfl⟩ | ⟨amount, rfl⟩ | ⟨mode, rfl⟩
  · exact congrArg (whenUp s) (if_neg hclosed)
  · exact congrArg (whenUp s) (if_neg hclosed)
  · exact congrArg (whenUp s) (if_neg hclosed)

theorem gateRefused_shown {h : Hearth} {i : Instr} (hup : s.up = true) (hq : hearthOf q = some h)
    (hne : s.hrt.holder ≠ some h) (hi : gatedWrite q i) :
    ∃ t, exec i s = .next t ∧ t.fget HRT_EVENTS_GATE_VIOL_SEEN = 1 ∧ keepsBut [HRT_EVENTS_GATE_VIOL_SEEN] s t ∧
      t = { s with regs := t.regs, hot := t.hot } := by
  have hwithin := fon_step (s := s) (f := HRT_EVENTS_GATE_VIOL_SEEN) rfl
  rw [exec_gateRefused (timeGate_of_not_holder hq hne) hi, gateRefused_of_hearth hq]
  exact ⟨_, hwithin.next_regs (by decide) hup, fget_fon_same _ _ rfl Nat.one_pos, hwithin.keepsBut, hwithin.only_regs⟩

end

/-! ## What follows a step of the clock (06 R198, 07 R234, 10 R320, 11 R338, 15 R402, R407) -/

/-- The state without what follows a step of the clock beside registers. -/
def State.sansStep (s : State) : State :=
  { s with freeCtr := 0, bus := ⟨[], [], [], []⟩, qw := State.reset.qw, buf := bufNone, cnt := State.reset.cnt,
           syn := synNew, nib := ⟨[]⟩, mgt := mgtNew }

/-- From s to t the ports, the outputs, the nib inputs and the counters have followed a step of the clock; the clock and
the staging session stay. Any register may have changed. -/
abbrev StepFollowed (s t : State) : Prop := Within State.sansStep (fun _ => True) s t

namespace StepFollowed
section
variable {s t old : State} {n k : Nat} {d : Int} {f : NibInput → NibInput}

theorem gateNow (h : StepFollowed s t) : StepFollowed s (t.gateNow n) := by
  have ha : StepFollowed s (t.accrue n) :=
    h.trans (((QueueStep.accrue .refl).mono fun _ _ => trivial).widen)
  exact .ite ((ha.fset trivial).fset trivial) ((ha.fset trivial).fset trivial)

theorem closeBoundary (h : StepFollowed s t) : StepFollowed s (t.closeBoundary n) := by
  have hstop {u : State} (hu : StopStep stopFld t u) : StepFollowed s u := h.trans ((hu.mono fun _ _ => trivial).widen)
  unfold State.closeBoundary
  split
  · exact h
  · exact .ite (hstop (.setOpen .refl)) (hstop (.shutWin .refl))

theorem portsStep (h : StepFollowed s t) : StepFollowed s t.portsStep :=
  h.foldl fun _ _ _ hu => closeBoundary (.ite (gateNow hu) hu)

theorem refreshAlign (h : StepFollowed s t) : StepFollowed s (t.refreshAlign n) :=
  (Within.ite (h.fon trivial) h).fput trivial

theorem basesStep (h : StepFollowed s t) : StepFollowed s (t.basesStep d) :=
  h.syn.foldl fun _ _ _ => refreshAlign

theorem phasesStep (h : StepFollowed s t) : StepFollowed s (t.phasesStep d) := by
  unfold State.phasesStep
  extract_lets u
  have hu : StepFollowed s u := h.foldl fun _ _ _ hw => .ite hw.qw hw
  exact hu.frame

theorem windowsStep (h : StepFollowed s t) : StepFollowed s (t.windowsStep old) := (phasesStep h).qw

theorem snapshotAt (h : StepFollowed s t) : StepFollowed s (t.snapshotAt n) :=
  (((h.cnt.fwrap trivial).fon trivial).setReg trivial).setReg trivial

theorem clearCounters (h : StepFollowed s t) : StepFollowed s t.clearCounters :=
  h.cnt.foldl fun _ _ _ hu => (hu.setReg trivial).setReg trivial

theorem cntAction (h : StepFollowed s t) : StepFollowed s (t.cntAction k n) := by
  unfold State.cntAction
  split
  · exact snapshotAt h
  · exact h.fon trivial
  · exact h.foff trivial
  · exact clearCounters (snapshotAt h)
  · exact h

theorem cntStep (h : StepFollowed s t) : StepFollowed s t.cntStep := by
  unfold State.cntStep
  split
  · exact .ite ((cntAction (h.cnt.fset trivial)).fon trivial) h
  · exact h

theorem bwStep (h : StepFollowed s t) : StepFollowed s t.bwStep := h.foldl fun _ _ _ hu => .ite hu.cnt hu

theorem mapNib (h : StepFollowed s t) : StepFollowed s (t.mapNib f) := h.foldl fun _ _ _ hu => hu.frame

theorem nibStep (h : StepFollowed s t) : StepFollowed s (t.nibStep d) := mapNib h

end
end StepFollowed

/-! ## Steps that are taken (08 R247) -/

section
variable {s t : State} {q : Requester} {mode : Fin 4} {c : Nat}

/-- The state whose clock and copies have been moved, and whose slew remainder is discarded. -/
def State.clockMoved (s : State) (c : Nat) : State :=
  { s with time := { s.time with clock := c, sliceCopy := c, laneCopy := c, slew := 0 } }

theorem within_moveClock : Within id (fun _ => True) (s.clockMoved c) (s.moveClock c) :=
  (Within.refl.fwrap trivial).fon trivial

/-- While no commit is armed, a step of the clock moves the time core and what follows it, and no more. -/
theorem stepFollowed_stepClock (harming : s.cfg.sess ≠ .arming) (harmed : s.cfg.sess ≠ .armed) :
    StepFollowed (s.clockMoved c) (s.stepClock c) := by
  unfold State.stepClock
  extract_lets t u
  have ht : StepFollowed (s.clockMoved c) t := within_moveClock.widen
  have hu : StepFollowed (s.clockMoved c) u := .nibStep (.bwStep (.cntStep ht))
  have hmoved : StepFollowed (s.clockMoved c) (((u.basesStep ((c : Int) - s.time.clock)).portsStep).windowsStep s) :=
    .windowsStep (.portsStep (.basesStep hu))
  have hsess := hmoved.proj fun x => x.cfg.sess
  rw [State.commitStep, if_neg (by rw [hsess]; simp [State.clockMoved, harming, harmed])]
  exact hmoved

/-- The instant of a step's mode, where the operand is good. -/
def State.stepInstant (s : State) (mode : Fin 4) : Nat :=
  if mode = 1 then s.time.clock - s.stepOperand * unitsPerNs
  else if mode = 2 then s.stepOperand * unitsPerNs
  else (s.time.clock + s.stepOperand * unitsPerNs) % clockMod

theorem stepTarget_taken (hns : s.fget TIME_STEP_NS_NS < 1000000000)
    (hback : mode = 1 → s.stepOperand * 2 ^ 48 ≤ s.time.clock) : s.stepTarget mode = some (s.stepInstant mode) := by
  have hone : (mode : Nat) = 1 ↔ mode = 1 := (Fin.ext_iff (b := 1)).symm
  have htwo : (mode : Nat) = 2 ↔ mode = 2 := (Fin.ext_iff (b := 2)).symm
  have hgood : ¬ nsPerSec ≤ s.fget TIME_STEP_NS_NS := Nat.not_le.mpr hns
  have hroom : mode = 1 → ¬ s.time.clock < s.stepOperand * unitsPerNs := fun h => Nat.not_lt.mpr (hback h)
  simp only [State.stepTarget, State.stepInstant, if_neg hgood, hone, htwo]
  split
  next hmode => exact if_neg (hroom hmode)
  next => exact (apply_ite some _ _ _).symm

theorem stepOperand_fset_mode {v : Nat} : (s.fset TIME_STEP_MODE v).stepOperand = s.stepOperand := by
  unfold State.stepOperand
  rw [fget_fset_apart _ _ _ _ rfl (by decide), fget_fset_apart _ _ _ _ rfl (by decide),
    fget_fset_apart _ _ _ _ rfl (by decide)]

theorem timeStep_taken (hgate : s.timeGate q = true) (hns : s.fget TIME_STEP_NS_NS < 1000000000)
    (hback : mode = 1 → s.stepOperand * 2 ^ 48 ≤ s.time.clock) :
    s.timeStep q mode = (s.fset TIME_STEP_MODE mode).stepClock (s.stepInstant mode) := by
  have htarget : (s.fset TIME_STEP_MODE mode).stepTarget mode = some ((s.fset TIME_STEP_MODE mode).stepInstant mode) :=
    stepTarget_taken (by rwa [fget_fset_apart _ _ _ _ rfl (by decide)]) (by rwa [stepOperand_fset_mode, fset_time])
  have hinstant : (s.fset TIME_STEP_MODE mode).stepInstant mode = s.stepInstant mode := by
    simp only [State.stepInstant, stepOperand_fset_mode, fset_time]
  simp only [State.timeStep, hgate, if_true, htarget, hinstant]

theorem stepFollowed_timeStep (hgate : s.timeGate q = true) (hns : s.fget TIME_STEP_NS_NS < 1000000000)
    (hback : mode = 1 → s.stepOperand * 2 ^ 48 ≤ s.time.clock) (harming : s.cfg.sess ≠ .arming)
    (harmed : s.cfg.sess ≠ .armed) : StepFollowed (s.clockMoved (s.stepInstant mode)) (s.timeStep q mode) := by
  have hmode : StepFollowed (s.clockMoved (s.stepInstant mode))
      ((s.fset TIME_STEP_MODE mode).clockMoved (s.stepInstant mode)) := Within.refl.fset (f := TIME_STEP_MODE) trivial
  rw [timeStep_taken hgate hns hback]
  exact hmode.trans (stepFollowed_stepClock harming harmed)

/-- In the form in which the statement puts a frame. -/
theorem StepFollowed.only (h : StepFollowed (s.clockMoved c) t) : t = { s with
    out := t.out, freeCtr := t.freeCtr, regs := t.regs, hot := t.hot, life := t.life, bus := t.bus, cfg := t.cfg,
    links := t.links, fwd := t.fwd, qw := t.qw, buf := t.buf, cnt := t.cnt, time := t.time, trunk := t.trunk,
    syn := t.syn, nib := t.nib, mgt := t.mgt } :=
  congrArg (fun u : State => { u with
    out := t.out, freeCtr := t.freeCtr, regs := t.regs, hot := t.hot, life := t.life, bus := t.bus, cfg := t.cfg,
    links := t.links, fwd := t.fwd, qw := t.qw, buf := t.buf, cnt := t.cnt, time := t.time, trunk := t.trunk,
    syn := t.syn, nib := t.nib, mgt := t.mgt }) h.bare_eq

theorem timeStep_moves (hup : s.up = true) (hgate : s.timeGate q = true) (hns : s.fget TIME_STEP_NS_NS < 1000000000)
    (hback : mode = 1 → s.stepOperand * 2 ^ 48 ≤ s.time.clock) (harming : s.cfg.sess ≠ .arming)
    (harmed : s.cfg.sess ≠ .armed) :
    ∃ t, exec (.timeStep q mode) s = .next t ∧
      t = { s with
        out := t.out, freeCtr := t.freeCtr, regs := t.regs, hot := t.hot, life := t.life, bus := t.bus, cfg := t.cfg,
        links := t.links, fwd := t.fwd, qw := t.qw, buf := t.buf, cnt := t.cnt, time := t.time, trunk := t.trunk,
        syn := t.syn, nib := t.nib, mgt := t.mgt } ∧
      t.time.slew = 0 ∧ t.time.clock = s.stepInstant mode ∧
      t.time.sliceCopy = t.time.clock ∧ t.time.laneCopy = t.time.clock := by
  have hexec : exec (.timeStep q mode) s = whenUp s (s.timeStep q mode) := rfl
  have hfollowed := (stepFollowed_timeStep hgate hns hback harming harmed).settle (u := s)
  have htime := hfollowed.proj State.time
  rw [hexec, whenUp_next_settle hup ((stepFollowed_timeStep hgate hns hback harming harmed).proj State.pending)]
  exact ⟨_, rfl, StepFollowed.only hfollowed, congrArg TimeState.slew htime, congrArg TimeState.clock htime,
    by rw [htime]; rfl, by rw [htime]; rfl⟩

end

/-- Settles O31: the rate, the slew remainder, the step refused and taken, and the writes that the gate refuses. -/
theorem timeMoves : Obligations.TimeMoves :=
  ⟨fun _ _ _ => timeRateWrite_moves, fun _ _ _ => timeSlew_moves, fun _ _ _ => timeStep_refused,
    fun _ _ _ => timeStep_moves, fun _ _ _ _ => gateRefused_shown⟩

end Sys2Proof.Machine

/-! # Evaluations of the trunk source (09 R284, 10 R321): a statement with a state that refutes it

An evaluation ends with the gating of the pulse outputs judged anew. -/

namespace Sys2Proof.Machine

/-- A grandmaster whose pulse output 0 does not run, though no gating case holds it any more. -/
def outputDue : State :=
  let s := (State.reset.fset LYD_NODE_GM_CAPABLE 1).fset LYD_STATUS_GM_SELF 1
  let t := ((s.fset (SYN_PO_CFG_ENABLE 0) 1).fset (SYN_OSYN_CFG_ENABLE 0) 1).fset (SYN_OSYN_STATUS_LOCK 0) 1
  { t with time := { t.time with clock := 1 } }

/-- Its own dataset is the result, and in force already. -/
theorem bmca_outputDue :
    outputDue.upstreamFails = false ∧ outputDue.bmcaResult = some (16, 0) ∧ outputDue.bmcaNow = some (16, 0) := by
  decide +kernel

theorem syn_of_done {old s t : State} (h : done old s = .next t) : t.syn = s.syn := by
  obtain rfl := next_inj h
  exact settle_syn old s

/-- The state after an evaluation (09 R280, R283, R284). -/
def State.bmcaEvaluated (s : State) : State := ((List.range 16).foldl (fun u k => u.judgeLink k) s).evaluate.refreshLyd

theorem exec_bmcaEvaluate {s : State} (hup : s.up = true) : exec .bmcaEvaluate s = done s s.bmcaEvaluated := by
  have hexec : exec .bmcaEvaluate s = whenUp s s.bmcaEvaluated := rfl
  rw [hexec, whenUp_up hup]

/-- The evaluation lets pulse output 0 run from its next target edge. -/
theorem poStart_bmcaEvaluated_outputDue : outputDue.bmcaEvaluated.syn.poStart ≠ outputDue.syn.poStart := by
  decide +kernel

/-- Refutes O34: where the result is the one in force, or counts a win, the statement keeps the synthesizers. In
`outputDue` the evaluation lets a pulse output run that no case gates any more, and notes its start (10 R321). -/
theorem not_trunkTimeFollowed : ¬ Obligations.TrunkTimeFollowed := by
  rintro ⟨-, -, -, -, h, -⟩
  obtain ⟨hfails, hresult, hnow⟩ := bmca_outputDue
  obtain ⟨t, ht, honly, -⟩ := h outputDue (16, 0) (16, 0) rfl hfails hresult hnow (.inl rfl)
  have hkept : t.syn = outputDue.syn := by rw [honly]
  have hdone : t.syn = outputDue.bmcaEvaluated.syn := syn_of_done ((exec_bmcaEvaluate rfl).symm.trans ht)
  exact poStart_bmcaEvaluated_outputDue (congrArg SynState.poStart (hdone.symm.trans hkept))

end Sys2Proof.Machine

/-! # What follows a superframe on a trunk link (09 R280 to R290, 10 R305 to R311)

A superframe that is judged may move the upstream, and with it the reference, the servo and the state of the time core.
The counts and measurements of the links stay, of which `RefStep` and `TrunkStep` say nothing, and so does what the
links have heard. -/

namespace Sys2Proof.Machine

set_option Elab.async false

/-- The key of a count or a measurement of a trunk link: of the registers of links all but LYD_LINK_STATUS. -/
abbrev measuredKey (x : Nat) : Prop := LYD_LINK_CFG 0 ≤ x ∧ x < LYD_LINK_CFG 16 ∧ x % 0x100 ≠ 4

/-- A field that holds no count or measurement of a trunk link. -/
abbrev unmeasuredFld (f : Fld) : Prop := ¬measuredKey f.key

theorem measuredKey_link (k : Fin 16) : measuredKey (LYD_LINK_CNT k) ∧ measuredKey (LYD_LINK_RTT_LO k) ∧
    measuredKey (LYD_LINK_RTT_HI k) ∧ measuredKey (LYD_LINK_PHASE k) := by
  unfold measuredKey LYD_LINK_CFG LYD_LINK_CNT LYD_LINK_RTT_LO LYD_LINK_RTT_HI LYD_LINK_PHASE
  omega

theorem unmeasuredFld_linkStatus (k lo w : Nat) : unmeasuredFld ⟨LYD_LINK_STATUS k, lo, w⟩ := by
  show ¬measuredKey (0x781004 + 0x100 * k)
  omega

theorem unmeasuredFld_poStatus (n lo w : Nat) : unmeasuredFld ⟨SYN_PO_STATUS n, lo, w⟩ :=
  fun ⟨_, h, _⟩ => absurd h (Nat.not_lt_of_le (Nat.le_add_right_of_le (by decide)))

theorem unmeasuredFld_isSource : ∀ n ∈ List.range 8, unmeasuredFld (TIME_INST_STATUS_IS_SOURCE n) := by decide

/-! ## What a link has heard -/

section
variable {s t : State} {k : Nat} {l : LydLink}

theorem lydLink_congr (h : t.trunk.links = s.trunk.links) : t.lydLink k = s.lydLink k := by
  unfold State.lydLink
  rw [h]

theorem lydLink_setLydLink_same : (s.setLydLink k l).lydLink k = l := mapGet_mapSet_same _ _ _ _

end

/-! ## From one state to another -/

/-- The state without what follows a superframe beside registers; what the links have heard stays in it. -/
def State.sansFollow (s : State) : State :=
  { s with time := ⟨0, 0, 0, 0, false, 0, [], []⟩, trunk := { trunkNew with links := s.trunk.links },
           syn := synNew, mgt := mgtNew }

/-- From s to t the upstream, and what follows it, may have moved; no count or measurement of a link has. -/
abbrev FollowStep (s t : State) : Prop := Within State.sansFollow unmeasuredFld s t

namespace FollowStep
section
variable {s t : State} {k i n : Nat} {g : Fld} {h₀ : Hearth} {v : Synth} {m : TimeMode} {a b : RefState} {r : Nat × Nat}
  {history masterChange : Bool} {theta : Int} {p : Partner}

theorem fget (h : FollowStep s t) (hg : measuredKey g.key) : t.fget g = s.fget g :=
  h.keeps g fun _ hf => apart_of_key fun e => hf (e ▸ hg)

theorem getReg (h : FollowStep s t) (hk : measuredKey k) : t.getReg k = s.getReg k :=
  (fget_word t k).symm.trans ((h.fget (g := ⟨k, 0, 32⟩) hk).trans (fget_word s k))

theorem lydLink (h : FollowStep s t) : t.lydLink k = s.lydLink k := lydLink_congr (h.proj fun u => u.trunk.links)

/-! ### The state of the time core -/

theorem refreshPo (h : FollowStep s t) : FollowStep s (t.refreshPo n) := by
  have hstatus := unmeasuredFld_poStatus n
  unfold State.refreshPo
  split
  · extract_lets g u w
    have hu : FollowStep s u := .ite (h.fon (hstatus _ _)) h
    have hw : FollowStep s w := .ite hu.syn hu
    exact (hw.fput (hstatus _ _)).fput (hstatus _ _)
  · exact (((h.foff (hstatus _ _)).foff (hstatus _ _)).foff (hstatus _ _)).syn

theorem refreshPos (h : FollowStep s t) : FollowStep s t.refreshPos := h.foldl fun _ _ _ => refreshPo

theorem refreshSource (h : FollowStep s t) : FollowStep s t.refreshSource := by
  unfold State.refreshSource
  extract_lets e u v
  have hu : FollowStep s u := h.foldl fun _ n hn hw => hw.fput (unmeasuredFld_isSource n hn)
  exact (hu.fset (by decide)).fset (by decide)

theorem held {x : GmSet} (h : FollowStep s t) : FollowStep s { t with trunk := { t.trunk with held := x } } := h.frame

theorem refreshLyd (h : FollowStep s t) : FollowStep s t.refreshLyd := by
  unfold State.refreshLyd
  extract_lets g hop u _ v f w
  have hu : FollowStep s u := (h.fset (by decide)).fput (by decide)
  have hv : FollowStep s v := held hu
  have hw : FollowStep s w := by
    unfold w
    clear_value f
    split
    · exact ((hv.fset (by decide)).fset (by decide)).fset (by decide)
    · exact hv
  exact refreshPos (refreshSource hw)

theorem setTimeMode (h : FollowStep s t) : FollowStep s (t.setTimeMode m) := by
  refine .ite h ?_
  extract_lets u _ v
  have hu : FollowStep s u := (h.fset (by decide)).fon (by decide)
  have hv : FollowStep s v := .ite hu.time hu
  exact .ite hv.raise hv

theorem acquireEnds (h : FollowStep s t) : FollowStep s t.acquireEnds := by
  unfold State.acquireEnds
  extract_lets u
  have hu : FollowStep s u := (h.fset (by decide)).foff (by decide)
  exact hu.frame

theorem toHoldover (h : FollowStep s t) : FollowStep s t.toHoldover := by
  unfold State.toHoldover
  extract_lets e g u
  have hu : FollowStep s u := acquireEnds (setTimeMode h).syn
  exact hu.frame

theorem sourceLost (h : FollowStep s t) : FollowStep s (t.sourceLost masterChange) := by
  have hhold : FollowStep s t.toHoldover.refreshPos := refreshPos (toHoldover h)
  have hfree : FollowStep s (t.setTimeMode .free).acquireEnds := acquireEnds (setTimeMode h)
  unfold State.sourceLost
  split
  · exact h
  · exact .ite hhold hfree.frame
  · exact hhold
  · exact h

theorem servoStop (h : FollowStep s t) : FollowStep s t.servoStop := h.time

theorem startAcquire (h : FollowStep s t) : FollowStep s (t.startAcquire history) := by
  unfold State.startAcquire
  extract_lets u
  have hu : FollowStep s u := (h.fset (by decide)).fput (by decide)
  exact hu.frame

theorem sourceDelivers (h : FollowStep s t) : FollowStep s (t.sourceDelivers history) := by
  unfold State.sourceDelivers
  split
  · exact refreshPos (startAcquire (setTimeMode h))
  · exact refreshPos (startAcquire (setTimeMode h))
  · exact h

theorem trunkLost (h : FollowStep s t) : FollowStep s t.trunkLost :=
  .ite (sourceLost ((h.fon (by decide)).fcount (by decide))) h

/-! ### The reference -/

theorem setSynth (h : FollowStep s t) : FollowStep s (t.setSynth h₀ v) := by
  unfold State.setSynth
  split <;> exact h.syn

theorem setSpineMode (h : FollowStep s t) : FollowStep s (t.setSpineMode n) := by
  unfold State.setSpineMode
  extract_lets _ u v
  have hu : FollowStep s u := .ite h.syn (h.fset (by decide))
  have hv : FollowStep s v := hu.foff (by decide)
  exact hv.syn

theorem followRef (h : FollowStep s t) : FollowStep s (t.followRef i) := by
  unfold State.followRef
  extract_lets _ u _ v w
  have hu : FollowStep s u := by
    unfold u State.loadLoop
    split
    · exact setSynth h
    · exact h
  have hv : FollowStep s v := hu.syn
  have hw : FollowStep s w := setSpineMode hv
  exact hw.fset (by decide)

theorem selectRef (h : FollowStep s t) : FollowStep s (t.selectRef i) := by
  refine .ite h (followRef ?_)
  exact (((h.fcount (by decide)).fon (by decide)).fset (by decide)).fon (by decide)

theorem deselect (h : FollowStep s t) : FollowStep s t.deselect := (h.foff (by decide)).syn

theorem enterHold (h : FollowStep s t) : FollowStep s t.enterHold := by
  refine .ite (deselect h) ?_
  have hword (w : Nat) : FollowStep s (t.deselect.setHolderWord w) := by
    unfold State.setHolderWord
    split
    · exact setSynth (deselect h)
    · exact deselect h
  exact ((setSpineMode (hword _)).seen (by decide)).syn

theorem noReference (h : FollowStep s t) : FollowStep s t.noReference :=
  .ite (enterHold h) (.ite (deselect h) (setSpineMode (deselect h)))

theorem selectBest (h : FollowStep s t) : FollowStep s t.selectBest := by
  unfold State.selectBest
  split
  · exact selectRef h
  · exact enterHold h

theorem runSelection (h : FollowStep s t) : FollowStep s t.runSelection := by
  refine .ite (enterHold h) (.ite (noReference h) ?_)
  split
  · split
    · exact selectRef h
    · exact h
  · refine .ite (selectBest h) ?_
    split
    · exact selectBest h
    · exact selectBest h
    · exact .ite (.ite h (selectBest h)) h
    · split
      · exact .ite (selectRef h) h
      · exact h

theorem moveFlags (h : FollowStep s t) : FollowStep s (t.moveFlags a b) := by
  unfold State.moveFlags
  extract_lets u
  have hu : FollowStep s u := .ite (h.seen (by decide)) h
  exact .ite (hu.seen (by decide)) hu

theorem followChanged (h : FollowStep s t) : FollowStep s t.followChanged := by
  unfold State.followChanged
  split
  · exact .ite (followRef h) h
  · exact h

theorem upstreamMoved (h : FollowStep s t) : FollowStep s t.upstreamMoved := by
  unfold State.upstreamMoved
  split
  · exact h
  · extract_lets u v
    have hu : FollowStep s u := (moveFlags h).syn
    have hv : FollowStep s v := .ite hu.syn (runSelection hu)
    exact .ite hv.syn (followChanged hv)

/-! ### The upstream -/

theorem judgeLink (h : FollowStep s t) : FollowStep s (t.judgeLink k) := by
  have hstatus := unmeasuredFld_linkStatus k
  unfold State.judgeLink
  extract_lets l c fails u v w x
  have hv : FollowStep s v :=
    (((h.fset (hstatus _ _)).fput (hstatus _ _)).fput (hstatus _ _)).fput (hstatus _ _)
  have hw : FollowStep s w := .ite (hv.fon (by decide)) hv
  have hx : FollowStep s x := .ite (hw.fon (by decide)) hw
  exact .ite (hx.fon (by decide)) hx

theorem sourceChanges (h : FollowStep s t) : FollowStep s (t.sourceChanges r) := by
  refine .ite h ?_
  split
  · exact .ite (sourceLost (servoStop h)) (.ite (sourceLost h) h)
  · exact .ite (sourceLost (servoStop h)) h

theorem follow (h : FollowStep s t) : FollowStep s (t.follow r) := by
  unfold State.follow
  extract_lets u
  have hu : FollowStep s u :=
    .ite ((h.fon (by decide)).foff (by decide)) (((h.foff (by decide)).fon (by decide)).fset (by decide))
  exact hu.frame

theorem clearOffset (h : FollowStep s t) : FollowStep s t.clearOffset := (h.setReg (by decide)).setReg (by decide)

theorem upstreamShown (h : FollowStep s t) : FollowStep s t.upstreamShown :=
  refreshLyd (upstreamMoved (h.foldl fun _ _ _ => judgeLink))

theorem applyBmca (h : FollowStep s t) : FollowStep s (t.applyBmca r) := by
  unfold State.applyBmca
  extract_lets was moved u v w x
  have hu : FollowStep s u := .ite (h.fon (by decide)) h
  have hv : FollowStep s v := .ite hu (hu.fon (by decide))
  have hw : FollowStep s w := follow (sourceChanges hv)
  have hx : FollowStep s x := .ite (sourceDelivers hw) hw
  exact upstreamShown (.ite (clearOffset hx) hx)

theorem replaceUpstream (h : FollowStep s t) : FollowStep s t.replaceUpstream := by
  unfold State.replaceUpstream
  extract_lets u
  have hu : FollowStep s u := .ite h (trunkLost h)
  split
  · exact applyBmca hu
  · exact upstreamShown (clearOffset (hu.foff (by decide)))

theorem upstreamHeard (h : FollowStep s t) : FollowStep s (t.upstreamHeard k p) := .ite (refreshLyd h.frame) h

theorem feedServo (h : FollowStep s t) : FollowStep s (t.feedServo theta) := by
  unfold State.feedServo
  extract_lets u n _ v
  have hu : FollowStep s u := sourceDelivers h
  have hv : FollowStep s v := hu.frame
  exact .ite (refreshLyd (trunkLost (hv.seen (by decide)))) hv

end
end FollowStep

end Sys2Proof.Machine

/-! # Superframes (09 R269 to R275, R280, R291) -/

namespace Sys2Proof.Machine

set_option Elab.async false

/-! ## The record and its symbols (09 R269, R270) -/

@[simp] theorem length_beBytes (c n : Nat) : (beBytes c n).length = c := by simp [beBytes]

@[simp] theorem length_timeBytes (t : Nat) : (timeBytes t).length = 12 := by simp [timeBytes]

theorem length_sfRecord {s : State} {k tx : Nat} : (s.sfRecord k tx).length = 72 := by
  unfold State.sfRecord
  extract_lets l e _ g body
  have hbody : body.length = 68 := by
    unfold body
    clear_value l e g
    simp only [List.length_append, length_beBytes, length_timeBytes, List.length_cons, List.length_nil]
  rw [List.length_append, hbody, length_beBytes]

/-- Each block adds one symbol to the payload bytes it takes. -/
theorem length_sfBlocks (n : Nat) (bs : List Byte) : (sfBlocks n bs).length = n + min (15 * n) bs.length := by
  induction n generalizing bs with
  | zero => simp [sfBlocks]
  | succ n ih =>
    simp only [sfBlocks, List.length_append, List.length_cons, List.length_map, List.length_take, ih, List.length_drop]
    omega

theorem length_superframe {r : List Byte} (h : r.length = 72) : (superframe r).length = 4125 := by
  simp only [superframe, List.length_cons, List.length_append, List.length_map, List.length_take, List.length_drop,
    List.length_replicate, length_sfBlocks, h]
  norm_num

/-! ## A superframe is sent -/

section
variable {s : State} {k : Fin 16} {tx : Nat}

theorem countGmSeq_eq (s : State) (k : Nat) :
    ∃ seq count, s.countGmSeq k = { s with trunk := { s.trunk with gmSeq := seq, gmCount := count } } := by
  unfold State.countGmSeq
  split
  · split <;> exact ⟨_, _, rfl⟩
  · exact ⟨_, _, rfl⟩

/-- The next superframe of clock lane k has the next SF_SEQ. -/
def State.seqAdvanced (s : State) (k : Nat) : State :=
  s.setLydLink k { s.lydLink k with sendSeq := ((s.lydLink k).sendSeq + 1) % 2 ^ 16 }

/-- The state after a superframe, as an output, has been sent. -/
def State.sfSent (s : State) (k : Nat) (o : Output) : State := ((s.useFree.emit o).countGmSeq k).seqAdvanced k

theorem sfSent_only (s : State) (k : Nat) (o : Output) :
    s.sfSent k o = { s with out := o :: s.out, freeCtr := s.freeCtr + 1, trunk := (s.sfSent k o).trunk } := by
  obtain ⟨seq, count, h⟩ := countGmSeq_eq (s.useFree.emit o) k
  unfold State.sfSent
  rw [h]
  rfl

theorem sendSeq_sfSent (s : State) (k : Nat) (o : Output) :
    ((s.sfSent k o).lydLink k).sendSeq = ((s.lydLink k).sendSeq + 1) % 2 ^ 16 := by
  obtain ⟨seq, count, h⟩ := countGmSeq_eq (s.useFree.emit o) k
  have hlink : ((s.useFree.emit o).countGmSeq k).lydLink k = s.lydLink k := lydLink_congr (by rw [h]; rfl)
  unfold State.sfSent State.seqAdvanced
  rw [lydLink_setLydLink_same, hlink]

theorem exec_superframeSend (hup : s.up = true) (hsends : s.clklSends k = true) :
    exec (.superframeSend k tx) s = .next (s.sfSent k (.superframe k (superframe (s.sfRecord k (s.txPlane k tx))))) := by
  have hexec : exec (.superframeSend k tx) s = whenUp s
      (if s.clklSends k then s.sfSent k (.superframe k (superframe (s.sfRecord k (s.txPlane k tx)))) else s) := rfl
  rw [hexec, if_pos hsends, whenUp_up hup, sfSent_only]
  exact done_plain _ _ rfl rfl rfl

theorem superframeSend_sends {r : List Byte} (hup : s.up = true) (hsends : s.clklSends k = true)
    (hr : r = s.sfRecord k (s.txPlane k tx)) :
    ∃ t, exec (.superframeSend k tx) s = .next t ∧ t.out = .superframe k (superframe r) :: s.out ∧
      r.length = 72 ∧ (superframe r).length = 4125 ∧ (t.lydLink k).sendSeq = ((s.lydLink k).sendSeq + 1) % 2 ^ 16 ∧
      t.regs = s.regs ∧ t = { s with out := t.out, freeCtr := t.freeCtr, trunk := t.trunk } := by
  have hlen : r.length = 72 := hr ▸ length_sfRecord
  have honly := sfSent_only s k (.superframe k (superframe r))
  have hsent : exec (.superframeSend k tx) s = .next (s.sfSent k (.superframe k (superframe r))) :=
    hr ▸ exec_superframeSend hup hsends
  refine ⟨_, hsent, ?_, hlen, length_superframe hlen, sendSeq_sfSent _ _ _, ?_, ?_⟩ <;> rw [honly]

end

/-! ## What a superframe received may change -/

/-- The state without what a superframe received may change beside registers. -/
def State.sansSample (s : State) : State := { s.sansTrunk with freeCtr := 0 }

/-- From s to t a superframe has been judged; any register may have changed. -/
abbrev SampleStep (s t : State) : Prop := Within State.sansSample (fun _ => True) s t

section
variable {s t : State} {k : Fin 16} {r : List Byte} {rx bit : Nat} {edges : List (Nat × Int)} {phase trip : Int}

theorem SampleStep.only (h : SampleStep s t) : t = { s with
    freeCtr := t.freeCtr, regs := t.regs, hot := t.hot, links := t.links, time := t.time, trunk := t.trunk, syn := t.syn,
    mgt := t.mgt } :=
  congrArg (fun u : State => { u with
    freeCtr := t.freeCtr, regs := t.regs, hot := t.hot, links := t.links, time := t.time, trunk := t.trunk, syn := t.syn,
    mgt := t.mgt }) h.bare_eq

theorem SampleStep.setLydLink {k : Nat} {l : LydLink} (h : SampleStep s t) : SampleStep s (t.setLydLink k l) := h.trunk

theorem SampleStep.setWide2 {lo hi v : Nat} (h : SampleStep s t) : SampleStep s (t.setWide2 lo hi v) :=
  (h.setReg trivial).setReg trivial

theorem FollowStep.sampleStep (h : FollowStep s t) : SampleStep s t := (h.widen).mono fun _ _ => trivial

/-- What is judged is the next state, but for the alarm conditions that begin. -/
theorem SampleStep.next (h : SampleStep s t) (hup : s.up = true) : whenUp s t = .next (settle s t) :=
  whenUp_next_settle hup (h.proj State.pending)

theorem lydLink_settle {k : Nat} : (settle s t).lydLink k = t.lydLink k :=
  lydLink_congr (congrArg TrunkState.links (settle_trunk s t))

theorem wide2_settle {lo hi : Nat} : (settle s t).wide2 lo hi = t.wide2 lo hi := by
  unfold State.wide2
  rw [getReg_settle, getReg_settle]

theorem not_stopped (hrun : s.fget (LYD_LINK_STATUS_RUNNING k) = 1) : ¬(!s.fbit (LYD_LINK_STATUS_RUNNING k)) = true := by
  simp [fbit_of_fget_one hrun]

theorem exec_superframeReceive_none (hrun : s.fget (LYD_LINK_STATUS_RUNNING k) = 1) :
    exec (.superframeReceive k none rx ⟨bit, edges⟩) s = whenUp s (s.missSuperframe k) :=
  congrArg (whenUp s) (if_neg (not_stopped hrun))

theorem exec_superframeReceive_some (hrun : s.fget (LYD_LINK_STATUS_RUNNING k) = 1) :
    exec (.superframeReceive k (some r) rx ⟨bit, edges⟩) s = whenUp s (
      if beAt r 68 4 = recordCheck r ∧ beAt r 0 1 = 1 then
        s.useFree.useFree.goodSuperframe k r (s.useFree.rxPlane k rx bit (s.fitPhase edges)) (s.fitPhase edges)
      else (s.fwrap (LYD_LINK_CNT_SF_BAD k)).missSuperframe k) :=
  congrArg (whenUp s) (if_neg (not_stopped hrun))

/-! ## A superframe is missing or bad (09 R273) -/

/-- Clock lane k has yielded no sample in a superframe's time. -/
def State.missNoted (s : State) (k : Nat) : State :=
  (s.fwrap (LYD_LINK_CNT_SF_MISSING k)).setLydLink k { s.lydLink k with missing := min 8 ((s.lydLink k).missing + 1) }

theorem missNoted_step {k : Nat} : SampleStep s (s.missNoted k) := .setLydLink (Within.refl.fwrap trivial)

theorem missSuperframe_follows {k : Nat} : FollowStep (s.missNoted k) (s.missSuperframe k) := by
  unfold State.missSuperframe
  extract_lets l t u
  have hu : FollowStep (s.missNoted k) u := FollowStep.judgeLink .refl
  exact .ite (FollowStep.refreshLyd (FollowStep.replaceUpstream hu)) hu

theorem fget_missSuperframe_missing : (s.missSuperframe k).fget (LYD_LINK_CNT_SF_MISSING k) =
    (s.fget (LYD_LINK_CNT_SF_MISSING k) + 1) % 2 ^ 16 :=
  (missSuperframe_follows.fget (measuredKey_link k).1).trans (fget_fset_same s _ _ rfl)

theorem fget_missSuperframe_bad : (s.missSuperframe k).fget (LYD_LINK_CNT_SF_BAD k) = s.fget (LYD_LINK_CNT_SF_BAD k) :=
  (missSuperframe_follows.fget (measuredKey_link k).1).trans
    (fget_fset_apart s (LYD_LINK_CNT_SF_MISSING k) _ _ rfl (apart_of_bits (by decide)))

theorem missing_missSuperframe {k : Nat} :
    ((s.missSuperframe k).lydLink k).missing = min 8 ((s.lydLink k).missing + 1) := by
  rw [missSuperframe_follows.lydLink, State.missNoted, lydLink_setLydLink_same]

theorem superframeReceive_missing (hup : s.up = true) (hrun : s.fget (LYD_LINK_STATUS_RUNNING k) = 1) :
    ∃ t, exec (.superframeReceive k none rx ⟨bit, edges⟩) s = .next t ∧
      t = { s with
        freeCtr := t.freeCtr, regs := t.regs, hot := t.hot, links := t.links, time := t.time,
        trunk := t.trunk, syn := t.syn, mgt := t.mgt } ∧
      t.fget (LYD_LINK_CNT_SF_MISSING k) = (s.fget (LYD_LINK_CNT_SF_MISSING k) + 1) % 2 ^ 16 ∧
      (t.lydLink k).missing = min 8 ((s.lydLink k).missing + 1) := by
  have hstep : SampleStep s (s.missSuperframe k) := missNoted_step.trans missSuperframe_follows.sampleStep
  rw [exec_superframeReceive_none hrun]
  refine ⟨_, SampleStep.next hstep hup, SampleStep.only hstep.settle, ?_, ?_⟩
  · rw [fget_settle, fget_missSuperframe_missing]
  · rw [lydLink_settle, missing_missSuperframe]

theorem superframeReceive_bad (hup : s.up = true) (hrun : s.fget (LYD_LINK_STATUS_RUNNING k) = 1)
    (hcheck : beAt r 68 4 ≠ recordCheck r) :
    ∃ t, exec (.superframeReceive k (some r) rx ⟨bit, edges⟩) s = .next t ∧
      t = { s with
        freeCtr := t.freeCtr, regs := t.regs, hot := t.hot, links := t.links, time := t.time,
        trunk := t.trunk, syn := t.syn, mgt := t.mgt } ∧
      t.fget (LYD_LINK_CNT_SF_BAD k) = (s.fget (LYD_LINK_CNT_SF_BAD k) + 1) % 2 ^ 16 ∧
      t.fget (LYD_LINK_CNT_SF_MISSING k) = (s.fget (LYD_LINK_CNT_SF_MISSING k) + 1) % 2 ^ 16 := by
  have hcount : SampleStep s (s.fwrap (LYD_LINK_CNT_SF_BAD k)) := Within.refl.fwrap trivial
  have hstep : SampleStep s ((s.fwrap (LYD_LINK_CNT_SF_BAD k)).missSuperframe k) :=
    hcount.trans (missNoted_step.trans missSuperframe_follows.sampleStep)
  have hbad : (s.fwrap (LYD_LINK_CNT_SF_BAD k)).fget (LYD_LINK_CNT_SF_BAD k) =
      (s.fget (LYD_LINK_CNT_SF_BAD k) + 1) % 2 ^ 16 := fget_fset_same s _ _ rfl
  have hmissing : (s.fwrap (LYD_LINK_CNT_SF_BAD k)).fget (LYD_LINK_CNT_SF_MISSING k) =
      s.fget (LYD_LINK_CNT_SF_MISSING k) := fget_fset_apart s _ _ _ rfl (apart_of_bits (by decide))
  rw [exec_superframeReceive_some hrun, if_neg fun h => hcheck h.1]
  refine ⟨_, SampleStep.next hstep hup, SampleStep.only hstep.settle, ?_, ?_⟩
  · rw [fget_settle, fget_missSuperframe_bad, hbad]
  · rw [fget_settle, fget_missSuperframe_missing, hmissing]

/-! ## A sample is taken (09 R273, R275, R295) -/

theorem phaseInBit_lt (p : Int) : phaseInBit p < 2 ^ 16 := by
  show (33 * p % 128000 / 33).toNat < 2 ^ 16
  omega

theorem wrapTo_trip {n : Nat} (h : (n : Int) ≤ 1000000 * 2 ^ 16) : wrapTo 48 n = n := by
  unfold wrapTo
  norm_num at h ⊢
  omega

/-- The registers of a link's measurements are registers of their own. -/
theorem rttKeys_apart (k : Fin 16) : LYD_LINK_RTT_LO k ≠ LYD_LINK_RTT_HI k ∧
    ∀ x ∈ [LYD_LINK_DELAY_LO k, LYD_LINK_DELAY_HI k, LYD_LINK_OFFSET_LO k, LYD_LINK_OFFSET_HI k, LYD_LINK_PHASE k],
      LYD_LINK_RTT_LO k ≠ x ∧ LYD_LINK_RTT_HI k ≠ x := by
  decide +revert

/-- The measurements of a sample are shown: round trip, delay, offset and phase (09 R295). -/
def State.sampleShown (s : State) (k trip delay offset phase : Nat) : State :=
  let t := s.setWide2 (LYD_LINK_RTT_LO k) (LYD_LINK_RTT_HI k) trip
  let t := t.setWide2 (LYD_LINK_DELAY_LO k) (LYD_LINK_DELAY_HI k) delay
  let t := t.setWide2 (LYD_LINK_OFFSET_LO k) (LYD_LINK_OFFSET_HI k) offset
  t.fset (LYD_LINK_PHASE_PHASE k) phase

theorem getReg_setWide2_ne {x lo hi v : Nat} (hlo : x ≠ lo) (hhi : x ≠ hi) : (s.setWide2 lo hi v).getReg x = s.getReg x :=
  (getReg_setReg_ne _ _ _ _ hhi).trans (getReg_setReg_ne _ _ _ _ hlo)

theorem sampleShown_step {k n delay offset v : Nat} : SampleStep s (s.sampleShown k n delay offset v) :=
  (SampleStep.setWide2 (SampleStep.setWide2 (SampleStep.setWide2 .refl))).fset trivial

theorem lydLink_sampleShown {j k n delay offset v : Nat} :
    (s.sampleShown k n delay offset v).lydLink j = s.lydLink j := lydLink_congr rfl

theorem wide2_sampleShown {n delay offset v : Nat} (hn : n < 2 ^ 64) :
    (s.sampleShown k n delay offset v).wide2 (LYD_LINK_RTT_LO k) (LYD_LINK_RTT_HI k) = n := by
  obtain ⟨hlohi, hkeys⟩ := rttKeys_apart k
  have hshown := wide2_setWide2 (s := s) hlohi hn
  unfold State.sampleShown
  extract_lets t u w
  have hkept : ∀ x, (∀ y ∈ [LYD_LINK_DELAY_LO k, LYD_LINK_DELAY_HI k, LYD_LINK_OFFSET_LO k, LYD_LINK_OFFSET_HI k,
      LYD_LINK_PHASE k], x ≠ y) → (w.fset (LYD_LINK_PHASE_PHASE k) v).getReg x = t.getReg x := fun x hx => by
    simp only [List.forall_mem_cons] at hx
    obtain ⟨hdlo, hdhi, holo, hohi, hphase, -⟩ := hx
    calc (w.fset (LYD_LINK_PHASE_PHASE k) v).getReg x
        = w.getReg x := getReg_fset_ne _ _ _ _ hphase
      _ = u.getReg x := getReg_setWide2_ne holo hohi
      _ = t.getReg x := getReg_setWide2_ne hdlo hdhi
  rw [State.wide2, hkept _ fun y hy => (hkeys y hy).1, hkept _ fun y hy => (hkeys y hy).2]
  exact hshown

theorem fget_sampleShown {k n delay offset v : Nat} (hv : v < 2 ^ 16) :
    (s.sampleShown k n delay offset v).fget (LYD_LINK_PHASE_PHASE k) = v :=
  (fget_fset_same _ _ _ rfl).trans (Nat.mod_eq_of_lt hv)

/-- The link of a sample is judged, and the servo fed, after the sample's measurements are shown. -/
theorem takeSample_follows {k : Nat} : ∃ delay offset, FollowStep
    ((s.useFree.setLydLink k { s.lydLink k with missing := 0, rInRange := true }).sampleShown k (wrapTo 48 trip) delay
      offset (phaseInBit phase))
    (s.takeSample k r rx phase trip) := by
  have hstatus := unmeasuredFld_linkStatus k
  unfold State.takeSample
  extract_lets _ p d theta t₀ t₁ t₂ t₃ t₄ t₅ t₆
  refine ⟨wrapTo 48 d, wrapTo 64 (satSigned 64 theta), ?_⟩
  have h₅ : FollowStep t₄ t₅ := (Within.refl.fset (hstatus _ _)).fset (hstatus _ _)
  have h₆ : FollowStep t₄ t₆ := FollowStep.upstreamHeard (FollowStep.judgeLink h₅)
  exact .ite (FollowStep.refreshLyd (.ite (FollowStep.feedServo h₆) h₆.frame)) h₆

/-- A superframe that answers one of this node, in time and with nothing that discards it, gives a sample. -/
theorem goodSuperframe_eq {rx trip : Nat} (hanswers : bitOf (beAt r 1 1) 5 = true) (hcal : bitOf (beAt r 1 1) 3 = false)
    (htakeover : bitOf (beAt r 1 1) 4 = false) (hkept : s.discards = false) (hsent : recordTime r 24 ≤ rx)
    (hintime : rx - recordTime r 24 ≤ 2000000 * 2 ^ 16)
    (htrip : (trip : Int) = ((rx : Int) - recordTime r 24) - ((recordTime r 12 : Int) - recordTime r 36))
    (hrange : trip ≤ 1000000 * 2 ^ 16) :
    s.goodSuperframe k r rx phase = (s.hear k r rx).takeSample k r rx phase trip := by
  unfold State.goodSuperframe
  extract_lets t flags t1 trip'
  rw [if_neg (by simp [flags, hanswers]), if_neg (by unfold t1; omega), if_neg (by unfold trip' t1; omega),
    if_neg (by simp [flags, hcal, htakeover, hkept]), htrip]

theorem superframeReceive_sample {plane trip : Nat} (hup : s.up = true)
    (hrun : s.fget (LYD_LINK_STATUS_RUNNING k) = 1) (hcheck : beAt r 68 4 = recordCheck r) (hversion : beAt r 0 1 = 1)
    (hanswers : bitOf (beAt r 1 1) 5 = true) (hcal : bitOf (beAt r 1 1) 3 = false)
    (htakeover : bitOf (beAt r 1 1) 4 = false) (hkept : s.discards = false)
    (hplane : plane = s.useFree.rxPlane k rx bit (s.fitPhase edges)) (hsent : recordTime r 24 ≤ plane)
    (hintime : plane - recordTime r 24 ≤ 2000000 * 2 ^ 16)
    (htrip : (trip : Int) = ((plane : Int) - recordTime r 24) - ((recordTime r 12 : Int) - recordTime r 36))
    (hrange : trip ≤ 1000000 * 2 ^ 16) :
    ∃ t, exec (.superframeReceive k (some r) rx ⟨bit, edges⟩) s = .next t ∧
      t = { s with
        freeCtr := t.freeCtr, regs := t.regs, hot := t.hot, links := t.links, time := t.time,
        trunk := t.trunk, syn := t.syn, mgt := t.mgt } ∧
      t.wide2 (LYD_LINK_RTT_LO k) (LYD_LINK_RTT_HI k) = trip ∧
      t.fget (LYD_LINK_PHASE_PHASE k) = phaseInBit (s.fitPhase edges) ∧
      (t.lydLink k).partner = some (parsePartner r) ∧ (t.lydLink k).missing = 0 := by
  obtain ⟨-, hlo, hhi, hphasekey⟩ := measuredKey_link k
  have hheard : SampleStep s (s.useFree.useFree.hear k r plane) := .setLydLink Within.refl.frame
  obtain ⟨delay, offset, hfollow⟩ := takeSample_follows (s := s.useFree.useFree.hear k r plane) (k := k) (r := r)
    (rx := plane) (phase := s.fitPhase edges) (trip := trip)
  have hstep : SampleStep s ((s.useFree.useFree.hear k r plane).takeSample k r plane (s.fitPhase edges) trip) :=
    (SampleStep.setLydLink hheard.frame).trans (sampleShown_step.trans hfollow.sampleStep)
  rw [exec_superframeReceive_some hrun, if_pos ⟨hcheck, hversion⟩, ← hplane,
    goodSuperframe_eq (s := s.useFree.useFree) hanswers hcal htakeover hkept hsent hintime htrip hrange]
  refine ⟨_, SampleStep.next hstep hup, SampleStep.only hstep.settle, ?_, ?_, ?_, ?_⟩
  · rw [wide2_settle, State.wide2, hfollow.getReg hlo, hfollow.getReg hhi, wrapTo_trip (by exact_mod_cast hrange)]
    exact wide2_sampleShown (by omega)
  · rw [fget_settle, hfollow.fget hphasekey, fget_sampleShown (phaseInBit_lt _)]
  · rw [lydLink_settle, hfollow.lydLink, lydLink_sampleShown, lydLink_setLydLink_same, State.hear, lydLink_setLydLink_same]
  · rw [lydLink_settle, hfollow.lydLink, lydLink_sampleShown, lydLink_setLydLink_same]

end

/-- Settles O33: the superframe sent, missing and bad, and the sample of a good one that answers. -/
theorem superframesPass : Obligations.SuperframesPass := by
  refine ⟨fun _ _ _ _ => superframeSend_sends, fun _ _ _ _ _ => superframeReceive_missing,
    fun _ _ _ _ _ _ => superframeReceive_bad, ?_⟩
  intro s k r rx bit edges plane trip hup hrun hcheck hversion hanswers hcal htakeover hheld2 hheld5 hcoasting hrunning
  have hkept : s.discards = false := by simp [State.discards, hheld2, hheld5, hcoasting, hrunning]
  exact superframeReceive_sample hup hrun hcheck hversion hanswers hcal htakeover hkept

end Sys2Proof.Machine

/-! # Pulse outputs restart (10 R320, R321): a statement with a state that refutes it

An output that has been aligned runs only where no case of R321 gates it. That its output synthesizer has lost its
reference is one of these cases (10 R303), and the statement does not exclude it. -/

namespace Sys2Proof.Machine

/-- An output that aligns, of an output synthesizer that shows lock though it has lost its reference. -/
def alignedUnreferenced : State :=
  let s := (State.reset.fset (SYN_PO_CFG_ENABLE 0) 1).fset (SYN_PO_STATUS_ALIGNING 0) 1
  let t := (s.fset (SYN_OSYN_CFG_ENABLE 0) 1).fset (SYN_OSYN_STATUS_LOCK 0) 1
  { t with syn := { t.syn with refLost := [0] } }

/-- The alignment of a pulse output has ended (10 R320). -/
def State.alignEnded (s : State) (n : Nat) : State :=
  let t := s.foff (SYN_PO_STATUS_ALIGNING n)
  State.refreshPo { t with syn := { t.syn with poAligned := t.syn.poAligned.set n true } } n

theorem exec_poAlignRestart {s : State} {n : Fin 8} (hup : s.up = true)
    (haligning : s.fbit (SYN_PO_STATUS_ALIGNING n) = true) :
    exec (.poAlignRestart n) s = done s (s.alignEnded n) := by
  have hexec : exec (.poAlignRestart n) s =
      whenUp s (if s.fbit (SYN_PO_STATUS_ALIGNING n) then s.alignEnded n else s) := rfl
  rw [hexec, if_pos haligning, whenUp_up hup]

theorem fget_of_done {old s t : State} (h : done old s = .next t) (g : Fld) : t.fget g = s.fget g := by
  obtain rfl := next_inj h
  exact fget_settle old s g

/-- The lost reference gates the output after its alignment too. -/
theorem fget_running_alignedUnreferenced : (alignedUnreferenced.alignEnded 0).fget (SYN_PO_STATUS_RUNNING 0) = 0 := by
  decide +kernel

/-- Refutes O40: the restart of an aligned output makes it run where its output synthesizer is enabled and locked. In
`alignedUnreferenced` that synthesizer has also lost its reference, so the output stays gated (10 R303, R321). -/
theorem not_outputsAndBands : ¬ Obligations.OutputsAndBands := by
  rintro ⟨-, hrestart, -⟩
  have haligning : alignedUnreferenced.fget (SYN_PO_STATUS_ALIGNING 0) = 1 := by decide +kernel
  have hlock : alignedUnreferenced.fbit (SYN_OSYN_STATUS_LOCK (alignedUnreferenced.poOsyn 0)) = true := by
    decide +kernel
  obtain ⟨t, ht, -, -, hruns, -⟩ := hrestart alignedUnreferenced 0 rfl (by decide +kernel) haligning rfl
  have hone : t.fget (SYN_PO_STATUS_RUNNING 0) = 1 := hruns (by decide +kernel) hlock (by decide +kernel)
  have hdone : done alignedUnreferenced (alignedUnreferenced.alignEnded 0) = .next t :=
    (exec_poAlignRestart (n := 0) rfl (by decide +kernel)).symm.trans ht
  have hzero := (fget_of_done hdone _).trans fget_running_alignedUnreferenced
  exact absurd (hone.symm.trans hzero) Nat.one_ne_zero

end Sys2Proof.Machine

/-! # Output synthesizers start, lock and lose lock (10 R300, R303, R317, R321) -/

namespace Sys2Proof.Machine

set_option Elab.async false

/-- The state without its synthesizers. -/
def State.sansSyn (s : State) : State := { s with syn := synNew }

theorem sansSyn_only {K : Fld → Prop} {s t : State} (h : Within State.sansSyn K s t) :
    t = { s with regs := t.regs, hot := t.hot, syn := t.syn } :=
  congrArg (fun u : State => { u with regs := t.regs, hot := t.hot, syn := t.syn }) h.bare_eq

/-- The fields that show what an output synthesizer has chosen for its next lock. -/
def bandFields (j : Nat) : List Fld :=
  [SYN_OSYN_STATUS_DIV j, SYN_OSYN_STATUS_BAND j, SYN_OSYN_STATUS_FACTORY_BAND j, SYN_EVENTS_BAND_FALLBACK_SEEN] ++
    gatingFields

/-- The fields that a start of an output synthesizer writes. -/
def startFields (j : Nat) : List Fld := SYN_OSYN_STATUS_LOCK j :: bandFields j

theorem gatingFields_sub_startFields (j : Nat) : gatingFields ⊆ startFields j :=
  fun _ hf => List.mem_cons_of_mem _ (List.mem_append_right _ hf)

theorem lock_apart_bandFields (j : Fin 4) : ∀ f ∈ bandFields j, (SYN_OSYN_STATUS_LOCK j).apart f = true := by
  decide +revert

theorem lock_apart_gatingFields (j : Fin 4) : ∀ f ∈ gatingFields, (SYN_OSYN_STATUS_LOCK j).apart f = true := by
  decide +revert

theorem lockLost_apart_startFields (j : Fin 4) : ∀ f ∈ startFields j, SYN_EVENTS_LOCK_LOST_SEEN.apart f = true := by
  decide +revert

theorem lock_apart_lockLost (j : Fin 4) : (SYN_OSYN_STATUS_LOCK j).apart SYN_EVENTS_LOCK_LOST_SEEN = true := by
  decide +revert

theorem condKeys_ne_innerLock (x : Fin 6) : ∀ k ∈ condKeys, ∀ f ∈ [SYN_SPINE_STATUS_INNER_LOCK x], k ≠ f.key := by
  decide +revert

theorem condKeys_ne_startFields (j : Fin 4) : ∀ k ∈ condKeys, ∀ f ∈ startFields j, k ≠ f.key := by
  decide +revert

/-! ## Pulse outputs follow (10 R321) -/

/-- The state without what pulse outputs note of their start and their alignment. -/
def State.sansOutputs (s : State) : State := { s with syn := { s.syn with poStart := [], poAligned := [] } }

section
variable {s t : State} {n : Nat}

theorem setPoStart_step {x : Int} (h : Within State.sansOutputs (· ∈ gatingFields) s t) :
    Within State.sansOutputs (· ∈ gatingFields) s (t.setPoStart n x) := h.frame

theorem setPoAligned_step {x : List Bool} (h : Within State.sansOutputs (· ∈ gatingFields) s t) :
    Within State.sansOutputs (· ∈ gatingFields) s { t with syn := { t.syn with poAligned := x } } := h.frame

theorem refreshPo_step (h : Within State.sansOutputs (· ∈ gatingFields) s t) (hn : n < 8) :
    Within State.sansOutputs (· ∈ gatingFields) s (t.refreshPo n) := by
  have hstatus : ∀ f ∈ [SYN_PO_STATUS_GATED_SEEN n, SYN_PO_STATUS_GATED n, SYN_PO_STATUS_RUNNING n,
      SYN_PO_STATUS_ALIGNING n], f ∈ gatingFields :=
    fun f hf => List.mem_flatMap.mpr ⟨n, List.mem_range.mpr hn, hf⟩
  unfold State.refreshPo
  split
  · extract_lets g u w
    have hu : Within State.sansOutputs (· ∈ gatingFields) s u := .ite (h.fon (hstatus _ (by simp))) h
    have hw : Within State.sansOutputs (· ∈ gatingFields) s w := .ite (setPoStart_step hu) hu
    exact (hw.fput (hstatus _ (by simp))).fput (hstatus _ (by simp))
  · extract_lets v
    have hv : Within State.sansOutputs (· ∈ gatingFields) s v :=
      ((h.foff (hstatus _ (by simp))).foff (hstatus _ (by simp))).foff (hstatus _ (by simp))
    exact setPoAligned_step hv

theorem refreshPos_step : Within State.sansOutputs (· ∈ gatingFields) s s.refreshPos :=
  Within.refl.foldl fun _ _ hn hu => refreshPo_step hu (List.mem_range.mp hn)

end

theorem fget_seen_apart (s : State) (f g : Fld) (a : Alarm) (hf : f.fits = true) (h : g.apart f = true) :
    (s.seen f a).fget g = s.fget g := (fget_raise _ _ _).trans (fget_fon_apart s f g hf h)

/-! ## The start of an output synthesizer (10 R300, R303) -/

section
variable {s t : State} {x : Fin 6} {j : Fin 4}

/-- An output synthesizer has no lock and, as far as is known, its reference. -/
def State.osynUnlocked (s : State) (j : Nat) : State :=
  { s.foff (SYN_OSYN_STATUS_LOCK j) with syn := { s.syn with refLost := s.syn.refLost.filter fun k => decide (k ≠ j) } }

theorem osynUnlocked_step {j : Nat} : Within State.sansSyn (· = SYN_OSYN_STATUS_LOCK j) s (s.osynUnlocked j) :=
  Within.syn (Within.refl.foff rfl)

theorem startOsyn_chooses {j : Nat} : Within State.sansSyn (· ∈ bandFields j) (s.osynUnlocked j) (s.startOsyn j) := by
  unfold State.startOsyn
  extract_lets _ _ t u
  have hu : Within State.sansSyn (· ∈ bandFields j) t u := by
    unfold u
    split
    · exact .refl
    · extract_lets v
      have hv : Within State.sansSyn (· ∈ bandFields j) t v :=
        ((Within.refl.fset (by simp [bandFields])).fset (by simp [bandFields])).fput (by simp [bandFields])
      exact .ite (hv.fon (by simp [bandFields])) hv
  exact hu.trans (refreshPos_step.widen.mono fun _ hf => List.mem_append_right _ hf)

theorem startOsyn_step {j : Nat} : Within State.sansSyn (· ∈ startFields j) s (s.startOsyn j) :=
  (osynUnlocked_step.mono fun _ hf => List.mem_cons.mpr (.inl hf)).trans
    (startOsyn_chooses.mono fun _ hf => List.mem_cons_of_mem _ hf)

theorem fget_startOsyn_lock : (s.startOsyn j).fget (SYN_OSYN_STATUS_LOCK j) = 0 :=
  (startOsyn_chooses.keeps _ (lock_apart_bandFields j)).trans (fget_foff_same s _ rfl)

/-! ## Lock (10 R302, R303) -/

/-- An output synthesizer has locked: one that had lost its reference starts first. -/
def State.osynLocked (s : State) (j : Nat) : State :=
  ((if s.syn.refLost.contains j then s.startOsyn j else s).fon (SYN_OSYN_STATUS_LOCK j)).refreshPos

theorem exec_synthLock_osyn (hup : s.up = true) (hx : x.val = j + 2) (hon : s.fbit (SYN_OSYN_CFG_ENABLE j) = true) :
    exec (.synthLock x) s = done s (s.osynLocked j) := by
  have hj : x.val - 2 = j := by omega
  simp only [exec, execSynthLock, whenUp_up hup, hj, hon, if_true, State.osynLocked]
  rw [if_neg (by omega)]

theorem osynLocked_step : Within State.sansSyn (· ∈ startFields j) s (s.osynLocked j) := by
  have hon := Within.ite (c := s.syn.refLost.contains j.val = true) (startOsyn_step (s := s) (j := j)) .refl
  exact (hon.fon List.mem_cons_self).trans (refreshPos_step.widen.mono (gatingFields_sub_startFields j))

theorem fget_osynLocked : (s.osynLocked j).fget (SYN_OSYN_STATUS_LOCK j) = 1 :=
  (refreshPos_step.keeps _ (lock_apart_gatingFields j)).trans
    (fget_fon_same _ _ rfl Nat.one_pos)

theorem osynLocks (hup : s.up = true) (hx : x.val = j + 2) (hon : s.fbit (SYN_OSYN_CFG_ENABLE j) = true) :
    ∃ t, exec (.synthLock x) s = .next t ∧ t.fget (SYN_OSYN_STATUS_LOCK j) = 1 ∧
      t = { s with regs := t.regs, hot := t.hot, syn := t.syn } := by
  refine ⟨s.osynLocked j, ?_, fget_osynLocked, sansSyn_only osynLocked_step⟩
  rw [exec_synthLock_osyn hup hx hon, done_queue (osynLocked_step.proj State.pending),
    osynLocked_step.settle_eq (condKeys_ne_startFields j)]

/-- The inner loop of a spine synthesizer locks (10 R302). -/
theorem spineLocks (hup : s.up = true) (hx : x.val < 2) (hpowered : s.fbit (SYN_SPINE_STATUS_POWERED x) = true) :
    ∃ t, exec (.synthLock x) s = .next t ∧ t.fget (SYN_SPINE_STATUS_INNER_LOCK x) = 1 ∧
      keepsBut [SYN_SPINE_STATUS_INNER_LOCK x] s t ∧ t = { s with regs := t.regs, hot := t.hot } := by
  have hstep : Within id (· ∈ [SYN_SPINE_STATUS_INNER_LOCK x]) s (s.fon (SYN_SPINE_STATUS_INNER_LOCK x)) :=
    Within.refl.fon (List.mem_singleton_self _)
  have hexec : exec (.synthLock x) s = whenUp s (s.fon (SYN_SPINE_STATUS_INNER_LOCK x)) := by
    simp only [exec, execSynthLock, hx, hpowered, if_true]
  exact ⟨_, hexec.trans (hstep.next_regs (condKeys_ne_innerLock x) hup), fget_fon_same _ _ rfl Nat.one_pos,
    hstep.keepsBut, hstep.only_regs⟩

/-! ## Loss of lock and of the reference (10 R300, R303) -/

/-- The flag of a lost lock, with its alarm, stays while other fields of the synthesizers and outputs change. -/
theorem lockLost_stays {sans : State → State} {K : Fld → Prop} {u : State}
    (h : Within sans K (u.seen SYN_EVENTS_LOCK_LOST_SEEN .reference) t)
    (hK : ∀ f, K f → SYN_EVENTS_LOCK_LOST_SEEN.apart f = true)
    (hm : ∀ u : State, (sans u.bare).mgt = u.mgt := by intro _; rfl) :
    t.fget SYN_EVENTS_LOCK_LOST_SEEN = 1 ∧ bitOf t.mgt.latched 6 = true := by
  constructor
  · exact (h.keeps _ hK).trans ((fget_raise _ _ _).trans (fget_fon_same u _ rfl Nat.one_pos))
  · rw [h.proj State.mgt hm]
    exact raise_bit _ .reference

theorem exec_synthLockLoss_osyn (hx : x.val = j + 2) (hlock : s.fbit (SYN_OSYN_STATUS_LOCK j) = true) :
    exec (.synthLockLoss x) s = whenUp s ((s.seen SYN_EVENTS_LOCK_LOST_SEEN .reference).startOsyn j) := by
  have hj : x.val - 2 = j := by omega
  simp only [exec, execSynthLockLoss, State.osynLost, hj, hlock, if_true]
  rw [if_neg (by omega)]

theorem sansRefs_only {K : Fld → Prop} (h : Within State.sansRefs K s t) :
    t = { s with regs := t.regs, hot := t.hot, syn := t.syn, mgt := t.mgt } :=
  congrArg (fun u : State => { u with regs := t.regs, hot := t.hot, syn := t.syn, mgt := t.mgt }) h.bare_eq

theorem osynLosesLock (hup : s.up = true) (hx : x.val = j + 2) (hlock : s.fbit (SYN_OSYN_STATUS_LOCK j) = true) :
    ∃ t, exec (.synthLockLoss x) s = .next t ∧ t.fget (SYN_OSYN_STATUS_LOCK j) = 0 ∧
      t.fget SYN_EVENTS_LOCK_LOST_SEEN = 1 ∧ bitOf t.mgt.latched 6 = true ∧
      t = { s with regs := t.regs, hot := t.hot, syn := t.syn, mgt := t.mgt } := by
  have hstart := startOsyn_step (s := s.seen SYN_EVENTS_LOCK_LOST_SEEN .reference) (j := j)
  have hstep : Within State.sansRefs (fun _ => True) s ((s.seen SYN_EVENTS_LOCK_LOST_SEEN .reference).startOsyn j) :=
    (Within.refl.seen trivial).trans (hstart.widen.mono fun _ _ => trivial)
  obtain ⟨hseen, halarm⟩ := lockLost_stays hstart (lockLost_apart_startFields j)
  refine ⟨_, (exec_synthLockLoss_osyn hx hlock).trans (whenUp_next_settle hup (hstep.proj State.pending)), ?_, ?_, ?_,
    sansRefs_only hstep.settle⟩
  · rw [fget_settle, fget_startOsyn_lock]
  · rw [fget_settle, hseen]
  · rw [settle_latched, halarm]

/-- An output synthesizer without its reference has no lock until the reference is back. -/
def State.osynUnreferenced (s : State) (j : Nat) : State :=
  let t := (s.foff (SYN_OSYN_STATUS_LOCK j)).seen SYN_EVENTS_LOCK_LOST_SEEN .reference
  State.refreshPos { t with syn := { t.syn with refLost := j :: t.syn.refLost } }

theorem exec_osynRefLoss (hon : s.fbit (SYN_OSYN_CFG_ENABLE j) = true) (hnew : j.val ∉ s.syn.refLost) :
    exec (.osynRefLoss j) s = whenUp s (s.osynUnreferenced j) := by
  have hcond : (s.fbit (SYN_OSYN_CFG_ENABLE j) && !s.syn.refLost.contains j.val) = true := by simp [hon, hnew]
  have hexec : exec (.osynRefLoss j) s = whenUp s
      (if s.fbit (SYN_OSYN_CFG_ENABLE j) && !s.syn.refLost.contains j.val then s.osynUnreferenced j else s) := rfl
  rw [hexec, if_pos hcond]

theorem osynUnreferenced_step : Within State.sansSyn (· ∈ gatingFields)
    ((s.foff (SYN_OSYN_STATUS_LOCK j)).seen SYN_EVENTS_LOCK_LOST_SEEN .reference) (s.osynUnreferenced j) :=
  (Within.syn .refl).trans refreshPos_step.widen

theorem osynLosesReference (hup : s.up = true) (hon : s.fbit (SYN_OSYN_CFG_ENABLE j) = true)
    (hnew : j.val ∉ s.syn.refLost) :
    ∃ t, exec (.osynRefLoss j) s = .next t ∧ j.val ∈ t.syn.refLost ∧ t.fget (SYN_OSYN_STATUS_LOCK j) = 0 ∧
      t.fget SYN_EVENTS_LOCK_LOST_SEEN = 1 ∧ bitOf t.mgt.latched 6 = true ∧
      t = { s with regs := t.regs, hot := t.hot, syn := t.syn, mgt := t.mgt } := by
  have hgated := osynUnreferenced_step (s := s) (j := j)
  have hstep : Within State.sansRefs (fun _ => True) s (s.osynUnreferenced j) :=
    ((Within.refl.foff trivial).seen trivial).trans (hgated.widen.mono fun _ _ => trivial)
  obtain ⟨hseen, halarm⟩ := lockLost_stays hgated fun f hf =>
    lockLost_apart_startFields j f (gatingFields_sub_startFields j hf)
  refine ⟨_, (exec_osynRefLoss hon hnew).trans (whenUp_next_settle hup (hstep.proj State.pending)), ?_, ?_, ?_, ?_,
    sansRefs_only hstep.settle⟩
  · rw [settle_syn, State.osynUnreferenced, refreshPos_step.proj fun u => u.syn.refLost]
    exact List.mem_cons_self
  · rw [fget_settle, hgated.keeps _ (lock_apart_gatingFields j)]
    exact (fget_seen_apart _ _ _ _ rfl (lock_apart_lockLost j)).trans (fget_foff_same s _ rfl)
  · rw [fget_settle, hseen]
  · rw [settle_latched, halarm]

end

end Sys2Proof.Machine

/-! # The outer loop and the ember (10 R296, R302, R310 to R313) -/

namespace Sys2Proof.Machine

set_option Elab.async false

/-- The fields that a pull writes at its end. -/
def pullFields : List Fld := [SYN_SEL_STATUS_MODE, SYN_SEL_STATUS_LOCK]

/-- The fields that a comparison of the outer loop writes. -/
def lockFields : List Fld := [SYN_SEL_STATUS_LOCK, SYN_EVENTS_LOCK_LOST_SEEN]

/-- The fields that a second of learning writes. -/
def learnFields : List Fld := [SYN_EMB_STATUS_LEARN_S, SYN_EMB_STATUS_UNLEARNED]

theorem condKeys_ne_pullFields : ∀ k ∈ condKeys, ∀ f ∈ pullFields, k ≠ f.key := by decide

theorem condKeys_ne_learnFields : ∀ k ∈ condKeys, ∀ f ∈ learnFields, k ≠ f.key := by decide

section
variable {s t : State} {i m : Nat} {h : Hearth} {phase dir : Int}

theorem Within.next_syn {fs : List Fld} (hw : Within State.sansSyn (· ∈ fs) s t)
    (hk : ∀ k ∈ condKeys, ∀ f ∈ fs, k ≠ f.key) (hup : s.up = true) : whenUp s t = .next t :=
  (whenUp_next_settle hup (hw.proj State.pending)).trans (congrArg _ (hw.settle_eq hk))

/-! ## The mode of the spine (10 R297) -/

theorem setSpineMode_of_runs (hmode : s.spineMode ≠ 4) : s.setSpineMode m =
    { (s.fset SYN_SEL_STATUS_MODE m).foff SYN_SEL_STATUS_LOCK with
      syn := { s.syn with inRun := 0, outRun := 0 } } := by
  simp only [State.setSpineMode, hmode, if_false]
  rfl

/-- The spine tracks, without lock. -/
def State.tracks (s : State) : State := (s.fset SYN_SEL_STATUS_MODE 1).foff SYN_SEL_STATUS_LOCK

/-- A pull has reached its target (10 R310). -/
def State.pullEnded (s : State) : State := { s.tracks with syn := { s.syn with pull := 0, inRun := 0, outRun := 0 } }

theorem endPull_of_pulls (hmode : s.spineMode = 2) : s.endPull = s.pullEnded := by
  have hruns : State.spineMode { s with syn := { s.syn with pull := 0 } } ≠ 4 :=
    fun hcoast => absurd (hmode.symm.trans hcoast) (by decide)
  exact setSpineMode_of_runs hruns

theorem pullEnded_step : Within State.sansSyn (· ∈ pullFields) s s.pullEnded := by
  have htracks : Within State.sansSyn (· ∈ pullFields) s s.tracks :=
    (Within.refl.fset (by simp [pullFields])).foff (by simp [pullFields])
  exact htracks.syn

theorem fget_pullEnded (g : Fld) : s.pullEnded.fget g = s.tracks.fget g := fget_congr rfl rfl g

theorem spineMode_pullEnded : s.pullEnded.spineMode = 1 := by
  rw [State.spineMode, fget_pullEnded, State.tracks, fget_foff_apart _ _ _ rfl (by decide), fget_fset_same _ _ _ rfl]
  rfl

theorem lock_pullEnded : s.pullEnded.fget SYN_SEL_STATUS_LOCK = 0 := by
  rw [fget_pullEnded, State.tracks, fget_foff_same _ _ rfl]

theorem hot_pullEnded : s.pullEnded.hot = s.hot := by
  have htracks : s.tracks.hot = s.hot := by rw [State.tracks, foff_hot, fset_hot]
  exact htracks

theorem exec_pullDone (hmode : s.spineMode = 2) (hfree : s.loopHeld = false)
    (hnear : s.syn.pull.natAbs ≤ s.selected.elim 0 s.pullStep) : exec .pullDone s = whenUp s s.pullEnded := by
  rw [← endPull_of_pulls hmode]
  simp only [exec, execPullDone, hmode, hfree, hnear, Bool.not_false, and_self, if_true]

theorem pullEnds (hup : s.up = true) (hmode : s.spineMode = 2) (hfree : s.loopHeld = false)
    (hnear : s.syn.pull.natAbs ≤ s.selected.elim 0 s.pullStep) :
    ∃ t, exec .pullDone s = .next t ∧ t.spineMode = 1 ∧ t.syn.pull = 0 ∧ t.fget SYN_SEL_STATUS_LOCK = 0 ∧
      keepsBut pullFields s t ∧ t = { s with regs := t.regs, syn := t.syn } :=
  ⟨s.pullEnded, (exec_pullDone hmode hfree hnear).trans (pullEnded_step.next_syn condKeys_ne_pullFields hup),
    spineMode_pullEnded, rfl, lock_pullEnded, pullEnded_step.keepsBut,
    (sansSyn_only pullEnded_step).trans (by rw [hot_pullEnded])⟩

/-! ## A comparison moves the holder's synthesizer (10 R296, R310) -/

/-- The state with both spine synthesizers replaced. -/
def State.withSynths (s : State) (a b : Synth) : State := { s with syn := { s.syn with a := a, b := b } }

theorem setSynth_eq {v : Synth} : ∃ a b, s.setSynth h v = s.withSynths a b := by
  cases h
  · exact ⟨v, s.syn.b, rfl⟩
  · exact ⟨s.syn.a, v, rfl⟩

theorem loopStep_eq : ∃ a b, s.loopStep i phase dir = s.withSynths a b := by
  unfold State.loopStep
  split
  · exact ⟨s.syn.a, s.syn.b, rfl⟩
  · exact setSynth_eq

theorem synthOf_setSynth {v : Synth} : (s.setSynth h v).synthOf h = v := by cases h <;> rfl

theorem synthOf_congr (hsyn : t.syn = s.syn) : t.synthOf h = s.synthOf h := by
  simp only [State.synthOf, hsyn]

/-- In TRACKING the phase moves by at most the pull slope, and the aligner by at most 1 ps. -/
theorem loopStep_tracking (hheld : s.hrt.holder = some h) : ∃ (r p d : Int), p.natAbs ≤ s.slopeWord ∧ -1 ≤ d ∧ d ≤ 1 ∧
    s.loopStep i phase 0 = s.setSynth h
      ⟨(((nominalWord : Int) + r + p).emod (2 ^ 48 : Nat)).toNat, r, ((s.synthOf h).aligner + d).emod 1000⟩ := by
  simp only [State.loopStep, hheld, if_true]
  exact ⟨_, _, _, by omega, by omega, by omega, rfl⟩

theorem sansSyn_withSynths {K : Fld → Prop} {a b : Synth} : Within State.sansSyn K s (s.withSynths a b) :=
  Within.refl.syn

/-! ## The lock of the outer loop (10 R302) -/

/-- The state with the runs of comparisons inside the lock window and outside four of them. -/
def State.withRuns (s : State) (inRun outRun : Nat) : State :=
  { s with syn := { s.syn with inRun := inRun, outRun := outRun } }

/-- The outer loop has lost its lock. -/
def State.unlocked (s : State) : State :=
  (s.foff SYN_SEL_STATUS_LOCK).seen SYN_EVENTS_LOCK_LOST_SEEN .reference

/-- A comparison notes its runs; LOCK may follow. -/
theorem outerLock_cases : ∃ a b, s.outerLock phase = s.withRuns a b ∨ s.outerLock phase = (s.withRuns a b).unlocked ∨
    s.outerLock phase = (s.withRuns a b).fon SYN_SEL_STATUS_LOCK := by
  unfold State.outerLock
  extract_lets inn out t
  refine ⟨min inn s.lockCnt, min out 4, ?_⟩
  split
  · split
    · exact .inr (.inl rfl)
    · exact .inl rfl
  · split
    · exact .inr (.inr rfl)
    · exact .inl rfl

theorem sansRefs_outerLock : Within State.sansRefs (· ∈ lockFields) s
    (s.outerLock phase) := by
  obtain ⟨a, b, hcases⟩ := outerLock_cases (s := s) (phase := phase)
  have hruns : Within State.sansRefs (· ∈ lockFields) s (s.withRuns a b) :=
    Within.refl.syn
  rcases hcases with h | h | h <;> rw [h]
  · exact hruns
  · exact (hruns.foff (by simp [lockFields])).seen (by simp [lockFields])
  · exact hruns.fon (by simp [lockFields])

theorem synthOf_outerLock : (s.outerLock phase).synthOf h = s.synthOf h := by
  obtain ⟨a, b, hcases⟩ := outerLock_cases (s := s) (phase := phase)
  have hruns : (s.withRuns a b).synthOf h = s.synthOf h := by cases h <;> rfl
  rcases hcases with h | h | h <;> rw [h]
  · exact hruns
  · exact (synthOf_congr (seen_syn _ _ _)).trans hruns
  · exact (synthOf_congr (fon_syn _ _)).trans hruns

/-- The fourth comparison in a row outside four lock windows ends the lock. -/
theorem outerLock_lost (hlock : s.fbit SYN_SEL_STATUS_LOCK = true) (hfar : 4 * s.lockWin < phase.natAbs)
    (hrun : 3 ≤ s.syn.outRun) : ∃ a b, s.outerLock phase = (s.withRuns a b).unlocked := by
  unfold State.outerLock
  extract_lets inn out t
  have hout : 4 ≤ out := by
    unfold out
    rw [if_pos hfar]
    omega
  exact ⟨min inn s.lockCnt, min out 4, by rw [if_pos hlock, if_pos hout]; rfl⟩

theorem exec_outerLoopCompare_held (hheld : s.loopHeld = true) : exec (.outerLoopCompare phase) s = .next s := by
  simp only [exec, execOuterLoopCompare, hheld, if_true]
  split <;> exact whenUp_self s

theorem exec_outerLoopCompare_tracking (hfree : s.loopHeld = false) (hsel : s.selected = some i)
    (hmode : s.spineMode = 1) :
    exec (.outerLoopCompare phase) s = whenUp s ((s.loopStep i phase 0).outerLock phase) := by
  simp only [exec, execOuterLoopCompare, hfree, hsel, hmode, if_true, Bool.false_eq_true, if_false]

/-- A pull has come nearer to its target, and the synthesizers may have moved. -/
def State.pulled (s : State) (a b : Synth) (n : Nat) : State :=
  { s with syn := { s.syn with a := a, b := b, pull := towardZero s.syn.pull n } }

theorem exec_outerLoopCompare_pulling (hfree : s.loopHeld = false) (hsel : s.selected = some i)
    (hmode : s.spineMode = 2) (hfar : s.pullStep i < s.syn.pull.natAbs) : 
    ∃ a b, exec (.outerLoopCompare phase) s = whenUp s (s.pulled a b (s.pullStep i)) := by
  obtain ⟨a, b, hstep⟩ := loopStep_eq (s := s) (i := i) (phase := phase) (dir := s.syn.pull.sign)
  have hpull : (s.withSynths a b).syn.pull = s.syn.pull := rfl
  have hslope : (s.withSynths a b).pullStep i = s.pullStep i := rfl
  have hrest : towardZero s.syn.pull (s.pullStep i) ≠ 0 := by
    unfold towardZero
    split <;> omega
  refine ⟨a, b, ?_⟩
  simp only [exec, execOuterLoopCompare, hfree, hsel, hmode, hstep, hpull, hslope, hrest, if_true, if_false,
    Bool.false_eq_true, OfNat.ofNat_ne_one]
  rfl

theorem outerLockLost (hup : s.up = true) (hfree : s.loopHeld = false) (hsel : s.selected = some i)
    (hmode : s.spineMode = 1) (hlock : s.fbit SYN_SEL_STATUS_LOCK = true) (hfar : 4 * s.lockWin < phase.natAbs)
    (hrun : 3 ≤ s.syn.outRun) :
    ∃ t, exec (.outerLoopCompare phase) s = .next t ∧ t.fget SYN_SEL_STATUS_LOCK = 0 ∧
      t.fget SYN_EVENTS_LOCK_LOST_SEEN = 1 ∧ bitOf t.mgt.latched 6 = true ∧
      keepsBut lockFields s t ∧
      t = { s with regs := t.regs, hot := t.hot, syn := t.syn, mgt := t.mgt } := by
  obtain ⟨x, y, hstep⟩ := loopStep_eq (s := s) (i := i) (phase := phase) (dir := 0)
  obtain ⟨a, b, hlost⟩ := outerLock_lost (s := s.withSynths x y) hlock hfar hrun
  have hwithin : Within State.sansRefs (· ∈ lockFields) s
      ((s.withSynths x y).withRuns a b).unlocked := by
    have hruns : Within State.sansRefs (· ∈ lockFields) s
        ((s.withSynths x y).withRuns a b) := Within.syn (Within.syn .refl)
    exact (hruns.foff (by simp [lockFields])).seen (by simp [lockFields])
  have hexec := exec_outerLoopCompare_tracking (phase := phase) hfree hsel hmode
  rw [hstep, hlost, whenUp_next_settle hup (hwithin.proj State.pending)] at hexec
  refine ⟨_, hexec, ?_, ?_, ?_, hwithin.settle.keepsBut, sansRefs_only hwithin.settle⟩
  · rw [fget_settle]
    exact (fget_seen_apart _ _ _ _ rfl (by decide)).trans (fget_foff_same _ _ rfl)
  · rw [fget_settle]
    exact (fget_raise _ _ _).trans (fget_fon_same _ _ rfl Nat.one_pos)
  · rw [settle_latched]
    exact raise_bit _ .reference

theorem outerLoopSteers (hup : s.up = true) (hfree : s.loopHeld = false) (hsel : s.selected = some i)
    (hmode : s.spineMode = 1) (hheld : s.hrt.holder = some h) :
    ∃ t p d, exec (.outerLoopCompare phase) s = .next t ∧
      t = { s with regs := t.regs, hot := t.hot, syn := t.syn, mgt := t.mgt } ∧
      p.natAbs ≤ s.slopeWord ∧ -1 ≤ d ∧ d ≤ 1 ∧
      t.synthOf h = ⟨(((nominalWord : Int) + (t.synthOf h).integrator + p).emod (2 ^ 48 : Nat)).toNat,
        (t.synthOf h).integrator, ((s.synthOf h).aligner + d).emod 1000⟩ := by
  obtain ⟨r, p, d, hp, hdlo, hdhi, hstep⟩ := loopStep_tracking (i := i) (phase := phase) hheld
  have hexec := exec_outerLoopCompare_tracking (phase := phase) hfree hsel hmode
  rw [hstep] at hexec
  obtain ⟨a, b, hsynths⟩ := setSynth_eq (s := s) (h := h)
    (v := ⟨(((nominalWord : Int) + r + p).emod (2 ^ 48 : Nat)).toNat, r, ((s.synthOf h).aligner + d).emod 1000⟩)
  have hwithin : Within State.sansRefs (fun _ => True) s ((s.withSynths a b).outerLock phase) :=
    (sansSyn_withSynths.widen).trans (sansRefs_outerLock.mono fun _ _ => trivial)
  rw [← hsynths] at hwithin
  rw [whenUp_next_settle hup (hwithin.proj State.pending)] at hexec
  refine ⟨_, p, d, hexec, sansRefs_only hwithin.settle, hp, hdlo, hdhi, ?_⟩
  rw [synthOf_congr (settle_syn _ _), synthOf_outerLock, synthOf_setSynth]

theorem outerLoopPulls (hup : s.up = true) (hfree : s.loopHeld = false) (hsel : s.selected = some i)
    (hmode : s.spineMode = 2) (hfar : s.pullStep i < s.syn.pull.natAbs) :
    ∃ t, exec (.outerLoopCompare phase) s = .next t ∧ t.syn.pull = towardZero s.syn.pull (s.pullStep i) ∧
      t = { s with syn := t.syn } := by
  obtain ⟨a, b, hexec⟩ := exec_outerLoopCompare_pulling (phase := phase) hfree hsel hmode hfar
  rw [whenUp_up hup, done_plain s (s.pulled a b _) rfl rfl rfl] at hexec
  exact ⟨_, hexec, rfl, rfl⟩

/-! ## The ember learns (10 R312, R313) -/

/-- The model of the ember is fitted once more. -/
def State.fitted (s : State) : State := { s with syn := { s.syn with fit := s.syn.fit + 1 } }

/-- A second of learning has passed. -/
def State.learned (s : State) : State :=
  let n := min 86400 (s.fget SYN_EMB_STATUS_LEARN_S + 1)
  let t := s.fitted.fset SYN_EMB_STATUS_LEARN_S n
  if n = 86400 then t.foff SYN_EMB_STATUS_UNLEARNED else t

theorem learned_step : Within State.sansSyn (· ∈ learnFields) s s.learned := by
  unfold State.learned
  extract_lets n t
  have ht : Within State.sansSyn (· ∈ learnFields) s t :=
    Within.fset (t := s.fitted) (Within.syn .refl) (by simp [learnFields])
  exact .ite (ht.foff (by simp [learnFields])) ht

theorem hot_learned : s.learned.hot = s.hot := by
  unfold State.learned
  extract_lets n t
  have ht : t.hot = s.hot := fset_hot s.fitted _ _
  split
  · exact (foff_hot t _).trans ht
  · exact ht

theorem fget_learned : s.learned.fget SYN_EMB_STATUS_LEARN_S = min 86400 (s.fget SYN_EMB_STATUS_LEARN_S + 1) := by
  unfold State.learned
  extract_lets n t
  have ht : t.fget SYN_EMB_STATUS_LEARN_S = n := by
    refine (fget_fset_same s.fitted SYN_EMB_STATUS_LEARN_S n rfl).trans (Nat.mod_eq_of_lt ?_)
    exact Nat.lt_of_le_of_lt (Nat.min_le_left _ _) (by decide)
  split
  · exact (fget_foff_apart t SYN_EMB_STATUS_UNLEARNED SYN_EMB_STATUS_LEARN_S rfl (by decide)).trans ht
  · exact ht

theorem fget_learned_day (hday : 86399 ≤ s.fget SYN_EMB_STATUS_LEARN_S) :
    s.learned.fget SYN_EMB_STATUS_UNLEARNED = 0 := by
  have hn : min 86400 (s.fget SYN_EMB_STATUS_LEARN_S + 1) = 86400 := by omega
  simp only [State.learned, hn, if_true]
  exact fget_foff_same _ SYN_EMB_STATUS_UNLEARNED rfl

theorem exec_emberLearnSecond (hsel : s.selected = some i) (hmode : s.spineMode = 1)
    (hlock : s.fbit SYN_SEL_STATUS_LOCK = true) (hqual : s.refState i = .qualified)
    (hidle : s.fbit CAL_STATUS_RUNNING = false) : exec .emberLearnSecond s = whenUp s s.learned := by
  simp only [exec, execEmberLearnSecond, hsel, hmode, hlock, hqual, hidle, Bool.not_false, and_self, if_true]
  rfl

theorem emberLearns (hup : s.up = true) (hsel : s.selected = some i) (hmode : s.spineMode = 1)
    (hlock : s.fbit SYN_SEL_STATUS_LOCK = true) (hqual : s.refState i = .qualified)
    (hidle : s.fbit CAL_STATUS_RUNNING = false) :
    ∃ t, exec .emberLearnSecond s = .next t ∧
      t.fget SYN_EMB_STATUS_LEARN_S = min 86400 (s.fget SYN_EMB_STATUS_LEARN_S + 1) ∧
      (86399 ≤ s.fget SYN_EMB_STATUS_LEARN_S → t.fget SYN_EMB_STATUS_UNLEARNED = 0) ∧
      keepsBut learnFields s t ∧ t = { s with regs := t.regs, syn := t.syn } := by
  have hexec := (exec_emberLearnSecond hsel hmode hlock hqual hidle).trans
    (learned_step.next_syn condKeys_ne_learnFields hup)
  refine ⟨_, hexec, fget_learned, fget_learned_day, learned_step.keepsBut, ?_⟩
  exact (sansSyn_only learned_step).trans (by rw [hot_learned])

end

end Sys2Proof.Machine

/-! # Selection applies what a calibration held back (10 R308 to R311, 12 R346)

`RefStep` and `FollowStep` let every register of the synthesizers change. What follows a calibration's end leaves the
flag of a lost lock, and this walk says which fields it writes. -/

namespace Sys2Proof.Machine

set_option Elab.async false

/-- The fields that a selection and the move of a reference write. -/
def selectFields : List Fld :=
  [SYN_SEL_STATUS_ENTRY, SYN_SEL_STATUS_ENTRY_VALID, SYN_SEL_STATUS_SOURCE, SYN_SEL_STATUS_LOCK, SYN_SEL_STATUS_MODE,
    SYN_EVENTS_SWITCH_CNT, SYN_EVENTS_SWITCH_SEEN, SYN_EVENTS_HOLD_ENTER_SEEN, SYN_EVENTS_DISQ_SEEN,
    SYN_EVENTS_SUSPECT_SEEN]

/-- From s to t selection has run, or a reference has moved. -/
abbrev SelectStep (s t : State) : Prop := Within State.sansRefs (· ∈ selectFields) s t

namespace SelectStep
section
variable {s t : State} {i m src w : Nat} {h₀ : Hearth} {a b : RefState} {v : Synth}

theorem setSynth (h : SelectStep s t) : SelectStep s (t.setSynth h₀ v) := by
  unfold State.setSynth
  split <;> exact h.syn

theorem setHolderWord (h : SelectStep s t) : SelectStep s (t.setHolderWord w) := by
  unfold State.setHolderWord
  split
  · exact setSynth h
  · exact h

theorem loadLoop (h : SelectStep s t) : SelectStep s t.loadLoop := by
  unfold State.loadLoop
  split
  · exact setSynth h
  · exact h

theorem setSpineMode (h : SelectStep s t) : SelectStep s (t.setSpineMode m) := by
  unfold State.setSpineMode
  extract_lets _ u v
  have hu : SelectStep s u := .ite h.syn (h.fset (by simp [selectFields]))
  have hv : SelectStep s v := hu.foff (by simp [selectFields])
  exact hv.syn

theorem followRef (h : SelectStep s t) : SelectStep s (t.followRef i) := by
  unfold State.followRef
  extract_lets _ u _ v w
  have hv : SelectStep s v := Within.syn (t := u) (loadLoop h)
  have hw : SelectStep s w := setSpineMode hv
  exact hw.fset (by simp [selectFields])

theorem selectRef (h : SelectStep s t) : SelectStep s (t.selectRef i) := by
  unfold State.selectRef
  refine .ite h ?_
  extract_lets u
  have hu : SelectStep s u := (h.fcount (by simp [selectFields])).fon (by simp [selectFields])
  exact followRef ((hu.fset (by simp [selectFields])).fon (by simp [selectFields]))

theorem deselect (h : SelectStep s t) : SelectStep s t.deselect := (h.foff (by simp [selectFields])).syn

theorem enterHold (h : SelectStep s t) : SelectStep s t.enterHold := by
  unfold State.enterHold
  refine .ite (deselect h) ?_
  extract_lets w u
  have hu : SelectStep s u := (setSpineMode (setHolderWord (deselect h))).seen (by simp [selectFields])
  exact hu.syn

theorem noReference (h : SelectStep s t) : SelectStep s t.noReference :=
  .ite (enterHold h) (.ite (deselect h) (setSpineMode (deselect h)))

theorem selectBest (h : SelectStep s t) : SelectStep s t.selectBest := by
  unfold State.selectBest
  split
  · exact selectRef h
  · exact enterHold h

theorem runSelection (h : SelectStep s t) : SelectStep s t.runSelection := by
  refine .ite (enterHold h) (.ite (noReference h) ?_)
  split
  · split
    · exact selectRef h
    · exact h
  · refine .ite (selectBest h) ?_
    split
    · exact selectBest h
    · exact selectBest h
    · exact .ite (.ite h (selectBest h)) h
    · split
      · exact .ite (selectRef h) h
      · exact h

theorem putRefState (h : SelectStep s t) : SelectStep s (t.putRefState src a) := by
  have hflags {o n : RefState} {u : State} (hu : SelectStep s u) : SelectStep s (u.moveFlags o n) := by
    unfold State.moveFlags
    extract_lets v
    have hv : SelectStep s v := .ite (hu.seen (by simp [selectFields])) hu
    exact .ite (hv.seen (by simp [selectFields])) hv
  unfold State.putRefState
  extract_lets m u
  have hu : SelectStep s u := h.syn
  have hw : SelectStep s (if u.named src then u.moveFlags m.st a else u) := .ite (hflags hu) hu
  exact hw.syn

theorem followChanged (h : SelectStep s t) : SelectStep s t.followChanged := by
  unfold State.followChanged
  split
  · exact .ite (followRef h) h
  · exact h

theorem applyDeferred (h : SelectStep s t) : SelectStep s t.applyDeferred := by
  unfold State.applyDeferred
  extract_lets moves due _ u v w
  have hu : SelectStep s u := h.syn
  have hv : SelectStep s v := hu.foldl fun _ _ _ hx => .ite hx (putRefState hx)
  have hw : SelectStep s w := .ite (followChanged (runSelection hv)) hv
  refine .ite ?_ hw
  split
  · exact selectRef hw
  · exact hw

end
end SelectStep

end Sys2Proof.Machine

/-! # A hearth leaves service with the lock of its synthesizer (10 R302, 13 R358 to R367) -/

namespace Sys2Proof.Machine

set_option Elab.async false

/-- The fields that show why the holder left service: they stay while the token becomes free. -/
def causeShown : List Fld := [SYN_EVENTS_LOCK_LOST_SEEN, HRT_CAUSE_CAUSE 0, HRT_CAUSE_CAUSE 1]

/-- A field that shares no bit with those. -/
abbrev besideCause (f : Fld) : Prop := ∀ g ∈ causeShown, g.apart f = true

theorem besideCause_selectFields : ∀ f ∈ selectFields, besideCause f := by decide
theorem besideCause_poStale : ∀ n ∈ List.range 8, besideCause (SYN_PO_STATUS_STALE n) := by decide
theorem besideCause_osynStale : ∀ j ∈ List.range 4, besideCause (SYN_OSYN_STATUS_STALE j) := by decide
theorem besideCause_windowOpen : ∀ p ∈ List.range 64, besideCause (QW_STATUS_OPEN p) := by decide
theorem besideCause_outCnt (h : Hearth) : besideCause (HRT_CAUSE_OUT_CNT (hearthIx h)) := by cases h <;> decide
theorem besideCause_spine (h : Hearth) : besideCause ⟨SYN_SPINE_STATUS (hearthIx h), 0, 32⟩ := by cases h <;> decide
theorem cause_mem (h : Hearth) : HRT_CAUSE_CAUSE (hearthIx h) ∈ causeShown := by cases h <;> simp [causeShown, hearthIx]

/-- The state without what a takeover may change beside the hearths. -/
def State.sansTakeover (s : State) : State :=
  { s with cfg := cfgNew, links := State.reset.links, qw := State.reset.qw, cnt := State.reset.cnt, trunk := trunkNew,
           syn := synNew, nib := State.reset.nib, cal := State.reset.cal, mgt := mgtNew }

/-- From s to t what a takeover suspends and marks has changed; the hearths stay. -/
abbrev MarkStep (s t : State) : Prop := Within State.sansTakeover besideCause s t

/-- The state without what a hearth changes that leaves service. -/
def State.sansLeave (s : State) : State := { s.sansTakeover with hrt := hrtNew }

/-- From s to t a hearth has left service. -/
abbrev LeaveStep (s t : State) : Prop := Within State.sansLeave besideCause s t

namespace MarkStep
section
variable {s t : State} {p n code : Nat} {h₀ : Hearth} {coasts stale : Bool}

theorem leaves (h : MarkStep s t) : LeaveStep s t := h.widen

/-! ## What a takeover suspends (06 R199, 12 R347, 15 R407) -/

theorem setOpen {x : Option OpenWin} (h : MarkStep s t) (hp : p ∈ List.range 64) : MarkStep s (t.setOpen p x) :=
  (Within.qw h).fput (besideCause_windowOpen p hp)

theorem closeBoundary (h : MarkStep s t) (hp : p ∈ List.range 64) : MarkStep s (t.closeBoundary p) := by
  unfold State.closeBoundary
  split
  · exact h
  · refine .ite (setOpen h hp) (setOpen ?_ hp)
    exact .ite h.qw h

theorem suspendWindows (h : MarkStep s t) : MarkStep s t.suspendWindows := by
  have hclosed : MarkStep s t.closeAllBoundary := h.foldl fun _ _ hp hu => closeBoundary hu hp
  exact hclosed.qw

theorem calTakeover (h : MarkStep s t) : MarkStep s t.calTakeover :=
  .ite (((h.foff (by decide)).fset (by decide)).seen (by decide)) h

theorem bwCoast (h : MarkStep s t) : MarkStep s t.bwCoast := h.foldl fun _ _ _ hu => .ite hu.cnt hu

theorem nibMark (h : MarkStep s t) : MarkStep s (t.nibMark coasts stale) := h.foldl fun _ _ _ hu => hu.frame

theorem takeoverMarks (h : MarkStep s t) : MarkStep s t.takeoverMarks := by
  unfold State.takeoverMarks
  extract_lets _ u
  have hu : MarkStep s u := .ite h h.trunk
  have hon : MarkStep s (u.fon HRT_STATUS_TAKEOVER) := hu.fon (by decide)
  have hsearch : MarkStep s (u.fon HRT_STATUS_TAKEOVER).suspendWindows.dropSearches := (suspendWindows hon).links
  exact nibMark (bwCoast (calTakeover hsearch))

/-! ## What is released where no hearth takes the token (12 R346, 13 R367) -/

theorem calMarks (h : MarkStep s t) : MarkStep s t.calMarks := by
  unfold State.calMarks
  extract_lets out u v
  have hu : MarkStep s u := h.foldl fun _ n hn hw => hw.fput (besideCause_poStale n hn)
  have hv : MarkStep s v := hu.foldl fun _ j hj hw => hw.fput (besideCause_osynStale j hj)
  exact (hv.fput (by decide)).fput (by decide)

theorem applyDeferred (h : MarkStep s t) : MarkStep s t.applyDeferred :=
  h.trans ((SelectStep.applyDeferred .refl).widen.mono besideCause_selectFields)

theorem calTakeoverEnd (h : MarkStep s t) : MarkStep s t.calTakeoverEnd := by
  refine .ite h (applyDeferred (calMarks ?_))
  exact h.frame

theorem writeTakeover (h : MarkStep s t) : MarkStep s (t.writeTakeover code) := by
  unfold State.writeTakeover
  split
  · exact h
  · exact ((((h.fset (by decide)).fset (by decide)).fset (by decide)).fset (by decide)).fset (by decide)

/-! ## Sessions, coasting and the synthesizer (03 R94, 10 R297, 13 R363) -/

theorem hearthSession (h : MarkStep s t) : MarkStep s (t.hearthSession h₀) := by
  refine .ite ?_ h
  have hended : MarkStep s t.endSession := (h.foff (f := CFG_STAGE_CTRL_READ_SHADOW) (by decide)).frame
  exact hended.seen (by decide)

theorem orphanSession (h : MarkStep s t) : MarkStep s (t.orphanSession h₀) := .ite h.frame h

theorem coast (h : MarkStep s t) : MarkStep s t.coast := by
  refine .ite h ?_
  extract_lets _ _ u
  have hu : MarkStep s u := (h.fset (by decide)).foff (by decide)
  exact hu.syn

theorem stopSpine (h : MarkStep s t) : MarkStep s (t.stopSpine h₀) := h.setReg (besideCause_spine h₀)

end
end MarkStep

/-! ## The token becomes free (13 R363, R367) -/

/-- From s to t the token has become free: a hearth in CINDER stays there, and a device without a holder has none. -/
structure Freeing (h : Hearth) (s t : State) : Prop where
  step : LeaveStep s t
  holder : s.hrt.holder = none → t.hrt.holder = none
  cinder : (s.hearth h).st = .cinder → (t.hearth h).st = .cinder

section
variable {s t u : State} {h : Hearth} {a b : HearthUnit}

theorem Freeing.trans (ht : Freeing h s t) (hu : Freeing h t u) : Freeing h s u :=
  ⟨ht.step.trans hu.step, fun hs => hu.holder (ht.holder hs), fun hs => hu.cinder (ht.cinder hs)⟩

theorem hearth_congr (hhrt : t.hrt = s.hrt) : t.hearth h = s.hearth h := by
  simp only [State.hearth, hhrt]

theorem Within.freeing (hm : MarkStep s t) : Freeing h s t := by
  have hhrt : t.hrt = s.hrt := hm.proj State.hrt
  exact ⟨MarkStep.leaves hm, fun hs => by rw [hhrt, hs], fun hs => by rw [hearth_congr hhrt, hs]⟩

theorem released_cinder {v : HearthUnit} (hst : v.st = .cinder) : v.released.st = .cinder := by
  simp [HearthUnit.released, hst]

/-- Both hearths are released, and what a takeover under way holds is noted. -/
def State.letGo (s : State) : State :=
  let t := s.endHandover
  let k := t.hrt.takeover.map fun k => { k with stage := .free }
  { t with hrt := { t.hrt with a := t.hrt.a.released, b := t.hrt.b.released, resync := none, takeover := k } }

theorem letGo_freeing : Freeing h s s.letGo := by
  have hoff : LeaveStep s (s.foff HRT_CMD_HANDOVER) := Within.refl.foff (by decide)
  refine ⟨hoff.frame, fun hs => hs, fun hs => ?_⟩
  cases h <;> exact released_cinder hs

theorem noHolder_freeing : Freeing h s s.noHolder := by
  unfold State.noHolder
  extract_lets t u v k _ w
  have ht : MarkStep s t := (Within.refl.fon (by decide)).fon (by decide)
  have hu : MarkStep s u := .ite ((MarkStep.writeTakeover ht).fon (by decide)) ht
  have hoff : MarkStep s ((u.foff HRT_STATUS_TAKEOVER).foff HRT_STATUS_LONG_TAKEOVER) :=
    (hu.foff (by decide)).foff (by decide)
  have hgone : w = ((u.foff HRT_STATUS_TAKEOVER).foff HRT_STATUS_LONG_TAKEOVER).letGo := rfl
  have hend : MarkStep w w.calTakeoverEnd := MarkStep.calTakeoverEnd .refl
  exact hoff.freeing.trans (hgone ▸ letGo_freeing.trans (hgone ▸ hend.freeing))

/-- The token has no holder, and a takeover begins, or meets the one under way. -/
def State.tokenLost (s : State) (k : Takeover) : State :=
  { s with hrt := { s.hrt with holder := none, takeover := some k, resync := none, diagnosis := false } }

theorem hearth_tokenLost {k : Takeover} : (s.tokenLost k).hearth h = s.hearth h := by cases h <;> rfl

/-- A hearth gives up its session and its synthesizer, and the spine coasts. -/
def State.spineGivenUp (s : State) (h : Hearth) : State := ((s.hearthSession h).orphanSession h).coast.stopSpine h

theorem spineGivenUp_step : MarkStep s (s.spineGivenUp h) :=
  MarkStep.stopSpine (MarkStep.coast (MarkStep.orphanSession (MarkStep.hearthSession .refl)))

theorem freeToken_eq (hheld : s.hrt.holder = some h) : ∃ k inStep, s.freeToken 2 =
    if inStep = true then ((s.spineGivenUp h).tokenLost k).takeoverMarks
    else ((s.spineGivenUp h).tokenLost k).takeoverMarks.noHolder := by
  simp only [State.freeToken, hheld, decide_true, Bool.true_or, if_true]
  exact ⟨s.takeoverRecord h 2, _, rfl⟩

/-- The holder gives the token up without a snapshot: its synthesizer has lost its lock. -/
theorem freeToken_frees (hheld : s.hrt.holder = some h) : LeaveStep s (s.freeToken 2) ∧
    (s.freeToken 2).hrt.holder = none ∧ ((s.hearth h).st = .cinder → ((s.freeToken 2).hearth h).st = .cinder) := by
  obtain ⟨k, inStep, hfree⟩ := freeToken_eq hheld
  have hlost : LeaveStep s ((s.spineGivenUp h).tokenLost k) := Within.frame (MarkStep.leaves spineGivenUp_step)
  have hhearth : ((s.spineGivenUp h).tokenLost k).hearth h = s.hearth h :=
    hearth_tokenLost.trans (hearth_congr (spineGivenUp_step.proj State.hrt))
  have hmarks : MarkStep ((s.spineGivenUp h).tokenLost k) ((s.spineGivenUp h).tokenLost k).takeoverMarks :=
    MarkStep.takeoverMarks .refl
  have hend : Freeing h ((s.spineGivenUp h).tokenLost k) (s.freeToken 2) := by
    rw [hfree]
    split
    · exact hmarks.freeing
    · exact hmarks.freeing.trans noHolder_freeing
  exact ⟨hlost.trans hend.step, hend.holder rfl, fun hst => hend.cinder (by rw [hhearth, hst])⟩

/-! ## The hearth leaves service (13 R358) -/

/-- The cause of a hearth that loses the lock of its synthesizer is recorded. -/
def State.lossRecorded (s : State) (h : Hearth) : State := (s.meetHandover h).recordCause h (s.lowestCause h 2)

/-- The state without the handover under way. -/
def State.sansHandover (s : State) : State := { s with hrt := { s.hrt with handover := .none } }

theorem endHandover_step {K : Fld → Prop} (hK : K HRT_CMD_HANDOVER) (ht : Within State.sansHandover K s t) :
    Within State.sansHandover K s t.endHandover := by
  have hoff : Within State.sansHandover K s (t.foff HRT_CMD_HANDOVER) := ht.foff hK
  exact hoff.frame

theorem meetHandover_step :
    Within State.sansHandover (SYN_EVENTS_LOCK_LOST_SEEN.apart · = true) s (s.meetHandover h) := by
  have hrefused {r : Nat} : Within State.sansHandover (SYN_EVENTS_LOCK_LOST_SEEN.apart · = true) s
      (s.refuseHandover r) := endHandover_step (by decide) ((Within.refl.fset (by decide)).fon (by decide))
  have hended : Within State.sansHandover (SYN_EVENTS_LOCK_LOST_SEEN.apart · = true) s s.endHandover :=
    endHandover_step (by decide) .refl
  unfold State.meetHandover
  split
  · exact .refl
  · exact hrefused
  · exact .ite hended .refl
  · exact hended

theorem lossRecorded_step :
    Within State.sansHandover (SYN_EVENTS_LOCK_LOST_SEEN.apart · = true) s (s.lossRecorded h) :=
  (meetHandover_step.fset (by cases h <;> decide)).fset (by cases h <;> decide)

theorem lowestCause_le : s.lowestCause h 2 ≤ 2 := by
  unfold State.lowestCause
  split <;> omega

theorem fget_lossRecorded : (s.lossRecorded h).fget (HRT_CAUSE_CAUSE (hearthIx h)) = s.lowestCause h 2 := by
  have hle := lowestCause_le (s := s) (h := h)
  unfold State.lossRecorded State.recordCause
  rw [fget_fset_apart _ _ _ _ rfl (by cases h <;> decide), fget_fset_same _ _ _ rfl]
  show s.lowestCause h 2 % 16 = _
  omega

/-- A hearth that has lost the lock of its synthesizer. -/
def HearthUnit.lost (v : HearthUnit) (now : Nat) : HearthUnit :=
  { v with
    st := .cinder, inStep := false, testing := false, restarting := false, autoDue := true, causeHolds := false
    outAt := some now }

/-- The hearth is a cinder, and what its firmware edited is lost. -/
def State.cindered (s : State) (h : Hearth) : State :=
  let t := ((((s.lossRecorded h).fcount (HRT_CAUSE_OUT_CNT (hearthIx h)) 1).leaveFlags h false).healthEvent)
  (t.setHearth h ((s.hearth h).lost s.now)).hearthSession h

theorem leaveService_eq (hheld : s.hrt.holder = some h) (hst : (s.hearth h).st = .active) :
    s.leaveService h 2 = (s.cindered h).freeToken 2 := by
  simp only [State.leaveService, hst, hheld, reduceCtorEq, decide_false, Bool.false_and, if_true, if_false,
    Bool.false_eq_true, Nat.reduceLeDiff, Nat.reduceEqDiff, Bool.or_self, Bool.not_false]
  rfl

theorem setHearth_step {v : HearthUnit} (ht : LeaveStep s t) : LeaveStep s (t.setHearth h v) := by
  unfold State.setHearth
  split <;> exact ht.frame

theorem hearth_setHearth {v : HearthUnit} : (s.setHearth h v).hearth h = v := by cases h <;> rfl

theorem holder_setHearth {v : HearthUnit} : (s.setHearth h v).hrt.holder = s.hrt.holder := by cases h <;> rfl

/-- The flags of an entry into CINDER, the count of it and the health report change no hearth. -/
theorem cinderFlags_step :
    MarkStep s (((s.fcount (HRT_CAUSE_OUT_CNT (hearthIx h)) 1).leaveFlags h false).healthEvent) := by
  have hcount : MarkStep s (s.fcount (HRT_CAUSE_OUT_CNT (hearthIx h)) 1) := Within.refl.fcount (besideCause_outCnt h)
  have hflag : MarkStep s ((s.fcount (HRT_CAUSE_OUT_CNT (hearthIx h)) 1).fon HRT_EVENTS_CINDER_SEEN) :=
    hcount.fon (by decide)
  exact Within.mgt (Within.ite hflag.raise hflag)

theorem cindered_leaves : LeaveStep (s.lossRecorded h) (s.cindered h) ∧ (s.cindered h).hrt.holder = s.hrt.holder ∧
    ((s.cindered h).hearth h).st = .cinder := by
  unfold State.cindered
  extract_lets t
  have ht : MarkStep (s.lossRecorded h) t := cinderFlags_step
  have hsession : MarkStep (t.setHearth h ((s.hearth h).lost s.now))
      ((t.setHearth h ((s.hearth h).lost s.now)).hearthSession h) := MarkStep.hearthSession .refl
  have hhrt := hsession.proj State.hrt
  refine ⟨(setHearth_step (MarkStep.leaves ht)).trans (MarkStep.leaves hsession), ?_, ?_⟩
  · rw [hhrt, holder_setHearth, ht.proj State.hrt, lossRecorded_step.proj fun u => u.hrt.holder]
  · rw [hearth_congr hhrt, hearth_setHearth]
    rfl

/-- The holder that is ACTIVE leaves service with the lock of its synthesizer: it is a cinder, and the token is free. -/
theorem leaveService_lost (hheld : s.hrt.holder = some h) (hst : (s.hearth h).st = .active) :
    Within State.sansLeave (SYN_EVENTS_LOCK_LOST_SEEN.apart · = true) s (s.leaveService h 2) ∧
      (s.leaveService h 2).hrt.holder = none ∧ ((s.leaveService h 2).hearth h).st = .cinder ∧
      (s.leaveService h 2).fget (HRT_CAUSE_CAUSE (hearthIx h)) = s.lowestCause h 2 := by
  obtain ⟨hcindered, hholder, hcinder⟩ := cindered_leaves (s := s) (h := h)
  obtain ⟨hfreed, hnone, hstays⟩ := freeToken_frees (s := s.cindered h) (hholder.trans hheld)
  have hstep : LeaveStep (s.lossRecorded h) (s.leaveService h 2) := leaveService_eq hheld hst ▸ hcindered.trans hfreed
  refine ⟨lossRecorded_step.widen.trans (hstep.mono fun f hf => hf _ (by simp [causeShown])), ?_, ?_, ?_⟩
  · rw [leaveService_eq hheld hst, hnone]
  · rw [leaveService_eq hheld hst, hstays hcinder]
  · rw [hstep.keeps _ fun f hf => hf _ (cause_mem h), fget_lossRecorded]

/-! ## A spine synthesizer loses its lock (10 R302, 13 R358, R359) -/

/-- The inner loop of a spine synthesizer has lost its lock. -/
def State.innerUnlocked (s : State) (x : Nat) : State :=
  (s.foff (SYN_SPINE_STATUS_INNER_LOCK x)).seen SYN_EVENTS_LOCK_LOST_SEEN .reference

theorem exec_synthLockLoss_spine {x : Fin 6} (hx : x.val = hearthIx h)
    (hlock : s.fbit (SYN_SPINE_STATUS_INNER_LOCK x) = true) : exec (.synthLockLoss x) s = whenUp s
      (if s.hrt.holder = some h then (s.innerUnlocked x).leaveService h 2 else (s.innerUnlocked x).lateCause h 2) := by
  have hspine : x.val < 2 := by cases h <;> simp [hx, hearthIx]
  have hhearth : (if x.val = 0 then Hearth.a else .b) = h := by cases h <;> simp [hx, hearthIx]
  simp only [exec, execSynthLockLoss, hspine, hlock, hhearth, if_true]
  rfl

/-- The fields that a cause recorded late writes. -/
def lateFields (h : Hearth) : List Fld := [HRT_CAUSE_CAUSE (hearthIx h), HRT_TAKEOVER_CAUSE]

/-- The state without the record of a takeover. -/
def State.sansRecord (s : State) : State := { s with hrt := { s.hrt with takeover := none } }

/-- The state without what the loss of a lock changes where the token stays. -/
def State.sansLateLoss (s : State) : State := { s with hrt := hrtNew, mgt := mgtNew }

theorem sansLateLoss_only {K : Fld → Prop} (ht : Within State.sansLateLoss K s t) :
    t = { s with regs := t.regs, hot := t.hot, hrt := t.hrt, mgt := t.mgt } :=
  congrArg (fun u : State => { u with regs := t.regs, hot := t.hot, hrt := t.hrt, mgt := t.mgt }) ht.bare_eq

theorem lateCause_step {cause : Nat} : Within State.sansRecord (· ∈ lateFields h) s (s.lateCause h cause) := by
  unfold State.lateCause
  refine .ite ?_ .refl
  extract_lets old low t
  have ht : Within State.sansRecord (· ∈ lateFields h) s t := Within.refl.fset List.mem_cons_self
  split
  · split
    · extract_lets u
      have hu : Within State.sansRecord (· ∈ lateFields h) s u := ht.frame
      exact .ite (hu.fset (by simp [lateFields])) hu
    · exact ht
  · exact ht

/-- The fields that the loss of a lock writes. -/
def unlockFields (x : Nat) : List Fld := [SYN_SPINE_STATUS_INNER_LOCK x, SYN_EVENTS_LOCK_LOST_SEEN]

theorem unlockFields_apart_lateFields (x : Fin 6) (h : Hearth) :
    ∀ g ∈ unlockFields x, ∀ f ∈ lateFields h, g.apart f = true := by
  cases h <;> decide +revert

theorem cause_apart_unlockFields (x : Fin 6) (h : Hearth) :
    ∀ f ∈ unlockFields x, (HRT_CAUSE_CAUSE (hearthIx h)).apart f = true := by
  cases h <;> decide +revert

theorem innerLock_apart_lockLost (x : Fin 6) :
    (SYN_SPINE_STATUS_INNER_LOCK x).apart SYN_EVENTS_LOCK_LOST_SEEN = true := by decide +revert

/-- The state without its alarms. -/
def State.sansMgt (s : State) : State := { s with mgt := mgtNew }

theorem innerUnlocked_step {x : Nat} : Within State.sansMgt (· ∈ unlockFields x) s (s.innerUnlocked x) :=
  (Within.refl.foff List.mem_cons_self).seen (by simp)

theorem lowestCause_innerUnlocked {x : Fin 6} : (s.innerUnlocked x).lowestCause h 2 = s.lowestCause h 2 := by
  have hcause := innerUnlocked_step.keeps (s := s) _ (cause_apart_unlockFields x h)
  simp only [State.lowestCause, hearth_congr (innerUnlocked_step.proj State.hrt), innerUnlocked_step.proj State.now,
    hcause]

theorem spineLosesLock {x : Fin 6} (hup : s.up = true) (hx : x.val = hearthIx h)
    (hlock : s.fbit (SYN_SPINE_STATUS_INNER_LOCK x) = true) (hnot : s.hrt.holder ≠ some h) :
    ∃ t, exec (.synthLockLoss x) s = .next t ∧ t.fget (SYN_SPINE_STATUS_INNER_LOCK x) = 0 ∧
      t.fget SYN_EVENTS_LOCK_LOST_SEEN = 1 ∧ bitOf t.mgt.latched 6 = true ∧ t.hrt.holder = s.hrt.holder ∧
      t = { s with regs := t.regs, hot := t.hot, hrt := t.hrt, mgt := t.mgt } := by
  have hlate : Within State.sansRecord (· ∈ lateFields h) (s.innerUnlocked x) ((s.innerUnlocked x).lateCause h 2) :=
    lateCause_step
  obtain ⟨hseen, halarm⟩ := lockLost_stays hlate (unlockFields_apart_lateFields x h _ (by simp [unlockFields]))
  have hstep : Within State.sansLateLoss (fun _ => True) s ((s.innerUnlocked x).lateCause h 2) :=
    (innerUnlocked_step.widen.mono fun _ _ => trivial).trans (hlate.widen.mono fun _ _ => trivial)
  have hexec := exec_synthLockLoss_spine hx hlock
  rw [if_neg hnot, whenUp_next_settle hup (hstep.proj State.pending)] at hexec
  refine ⟨_, hexec, ?_, ?_, ?_, ?_, sansLateLoss_only hstep.settle⟩
  · rw [fget_settle, hlate.keeps _ (unlockFields_apart_lateFields x h _ (by simp [unlockFields])), State.innerUnlocked,
      fget_seen_apart _ _ _ _ rfl (innerLock_apart_lockLost x), fget_foff_same _ _ rfl]
  · rw [fget_settle, hseen]
  · rw [settle_latched, halarm]
  · rw [settle_hrt, hlate.proj fun u => u.hrt.holder, innerUnlocked_step.proj State.hrt]

theorem sansLeave_only {K : Fld → Prop} (ht : Within State.sansLeave K s t) : t = { s with
    regs := t.regs, hot := t.hot, cfg := t.cfg, links := t.links, qw := t.qw, cnt := t.cnt, trunk := t.trunk,
    syn := t.syn, hrt := t.hrt, nib := t.nib, cal := t.cal, upd := t.upd, mgt := t.mgt } :=
  congrArg (fun u : State => { u with
    regs := t.regs, hot := t.hot, cfg := t.cfg, links := t.links, qw := t.qw, cnt := t.cnt, trunk := t.trunk,
    syn := t.syn, hrt := t.hrt, nib := t.nib, cal := t.cal, upd := t.upd, mgt := t.mgt }) ht.bare_eq

theorem holderLosesLock {x : Fin 6} (hup : s.up = true) (hx : x.val = hearthIx h)
    (hlock : s.fbit (SYN_SPINE_STATUS_INNER_LOCK x) = true) (hheld : s.hrt.holder = some h)
    (hst : (s.hearth h).st = .active) :
    ∃ t, exec (.synthLockLoss x) s = .next t ∧ (t.hearth h).st = .cinder ∧ t.hrt.holder = none ∧
      t.fget (HRT_CAUSE_CAUSE (hearthIx h)) = s.lowestCause h 2 ∧ t.fget SYN_EVENTS_LOCK_LOST_SEEN = 1 ∧
      t = { s with
        regs := t.regs, hot := t.hot, cfg := t.cfg, links := t.links, qw := t.qw, cnt := t.cnt, trunk := t.trunk,
        syn := t.syn, hrt := t.hrt, nib := t.nib, cal := t.cal, upd := t.upd, mgt := t.mgt } := by
  have hhrt : (s.innerUnlocked x).hrt = s.hrt := innerUnlocked_step.proj State.hrt
  obtain ⟨hleft, hnone, hcinder, hcause⟩ := leaveService_lost (s := s.innerUnlocked x) (h := h) (by rw [hhrt, hheld])
    (by rw [hearth_congr hhrt, hst])
  have hstep : Within State.sansLeave (fun _ => True) s ((s.innerUnlocked x).leaveService h 2) :=
    (innerUnlocked_step.widen.mono fun _ _ => trivial).trans (hleft.mono fun _ _ => trivial)
  have hexec := exec_synthLockLoss_spine hx hlock
  rw [if_pos hheld, whenUp_next_settle hup (hstep.proj State.pending)] at hexec
  refine ⟨_, hexec, ?_, ?_, ?_, ?_, sansLeave_only hstep.settle⟩
  · rw [hearth_congr (settle_hrt _ _), hcinder]
  · rw [settle_hrt, hnone]
  · rw [fget_settle, hcause, lowestCause_innerUnlocked]
  · rw [fget_settle, hleft.keeps _ fun _ hf => hf]
    exact (fget_raise _ _ _).trans (fget_fon_same _ _ rfl Nat.one_pos)

end

/-- Settles O39: lock and loss of lock of the synthesizers, the outer loop and its pull, and the ember's learning. The
holder that loses its lock is followed through the token's release by `LeaveStep` and `Freeing`. -/
theorem synthesizersLock : Obligations.SynthesizersLock := by
  refine ⟨fun _ _ => spineLocks, fun s x hup hx hon => ?_, fun _ _ _ => osynLosesLock, fun _ _ => osynLosesReference,
    fun _ => pullEnds, fun _ _ => exec_outerLoopCompare_held, fun _ _ _ => outerLockLost, fun _ _ => emberLearns,
    fun _ _ _ _ => outerLoopSteers, fun _ _ _ => outerLoopPulls, fun _ _ _ => spineLosesLock,
    fun _ _ _ => holderLosesLock⟩
  exact osynLocks (j := ⟨x.val - 2, by omega⟩) hup (Nat.sub_add_cancel hx).symm hon

end Sys2Proof.Machine
